-- ==== Sys2Proof/Word.lean ====
section
/-!
DEFINITION. Word.lean: the word types of the FV-7204 (R5, R7, R14).
A register is 32 bits wide, a native word (descriptor word, completion record, flit) 128 bits.
-/

namespace Sys2Proof

/-- A byte of module DRAM, MRAM, a packet or a frame. -/
abbrev Byte := BitVec 8

/-- A set-up or doorbell register (R7, R228). -/
abbrev Word := BitVec 32

/-- A native 128-bit word (R5, R14). -/
abbrev Flit := BitVec 128

/-- A map held as a list of (key, value) pairs in one canonical form: keys strictly rising, and no
entry equal to what an unlisted key reads as. -/
abbrev Sparse (α : Type) := List (Nat × α)

end Sys2Proof
end

