-- ==== Sys2Proof/Syntax.lean ====
section
/-!
DEFINITION. Syntax.lean: the commands of the block, one constructor per row of the spec's table,
and the shapes of their operands.
-/

namespace Sys2Proof

/-- The two windows through which host software reaches registers (R7, R228). -/
inductive Window
  | setup | doorbell
  deriving DecidableEq, Repr, Inhabited

/-- A bus access: the reading or writing master identity (R368), the window, the byte offset in it,
the access size in bytes, and, for a write, the value. -/
structure Access where
  ident : Nat
  win : Window
  off : Nat
  size : Nat
  read : Bool
  value : Word
  deriving DecidableEq, Repr, Inhabited

/-- The configuration registers of a context that R223 governs. -/
inductive CtxReg
  | ringBase | cplBase | cfg | dline | coal
  deriving DecidableEq, Repr, Inhabited

/-- The fields of the calendar (R473). -/
inductive CalField
  | sec | min | hour | dow | date | mon | year
  deriving DecidableEq, Repr, Inhabited

/-- A mortar packet as it stands at an endpoint: its header fields (R62) and its payload flits. -/
structure Packet where
  dst : Nat
  src : Nat
  cls : Nat
  vc : Bool
  dl : Bool
  typ : Nat
  sof : Bool
  eof : Bool
  spec : Bool
  stream : Nat
  frame : Nat
  addr : Nat
  payload : List Flit
  deriving DecidableEq, Repr, Inhabited

/-- An uncorrectable error met in a brick read: tile, 16-byte word index in the tile's bricks, and
the bits read wrong (R58). -/
structure BrickError where
  tile : Nat
  word : Nat
  flips : Nat
  deriving DecidableEq, Repr, Inhabited

/-- The rings that follow R53. -/
inductive RingName
  | yieldCells | fusionOut | camStats | gnss | henExport | ethRx (port : Fin 9) | fleet
  deriving DecidableEq, Repr, Inhabited

/-- A reading of the feeder drum lift (R33, R38): the table-lookup slot that converts it, the lift on the
table's scale, and the measured and the nominal chain speed in one unit. -/
structure DrumRead where
  slot : Nat
  lift : Int
  chain : Nat
  nominal : Nat
  deriving DecidableEq, Repr, Inhabited

/-- A machine pose as the propagation holds it (R161): latitude and longitude of the machine origin in
10^-11 degree, height in mm, heading in 10^-9 degree. -/
structure Pose where
  lat : Int
  lon : Int
  height : Int
  heading : Nat
  deriving DecidableEq, Repr, Inhabited

/-- What the inertial sensor gives for a millisecond (R156, R158): two yaw rates, the pitch and roll rates in
µrad/s, and the pitch and roll that its accelerations show, in µrad. -/
structure Inertial where
  yaw1 : Int
  yaw2 : Int
  pitchRate : Int
  rollRate : Int
  pitch : Int
  roll : Int
  deriving DecidableEq, Repr, Inhabited

/-- A track that a completed step reports (R168, R174). -/
structure TrackOut where
  slot : Nat
  kind : Nat
  conf : Nat
  x : Int
  y : Int
  extX : Nat
  extY : Nat
  speed : Int
  deriving DecidableEq, Repr, Inhabited

/-- What the fusion program yields at a completed step: guidance lanes with VALID bits (R165), tracks,
the tank camera's outputs (R40): broken share and other-material share in Q15, kernel mass in µg; and the
recurrent state it writes (R164). -/
structure StepOut where
  lanes : List Int
  valid : Nat
  tracks : List TrackOut
  tank : Option (Nat × Nat × Nat)
  state : List Byte
  deriving DecidableEq, Repr, Inhabited

/-- A channel's measurement at an epoch (R203, R214): the satellite and its elevation in 0.01 degree;
pseudorange in mm and broadcast group delay in nm; carrier phase, Doppler, C/N0, lock time, the flag bits
[67:64]; whether its satellite's ephemeris is complete, and whether navigation is synchronised. -/
structure GnsMeas where
  chan : Nat
  prn : Nat
  elev : Nat
  range : Nat
  delay : Int
  phase : Int
  doppler : Int
  cn0 : Nat
  lock : Nat
  flags : Nat
  gal : Bool
  usable : Bool
  sync : Bool
  deriving DecidableEq, Repr, Inhabited

/-- What the solver yields at an epoch (R205, R214): LAT and LON in 10^-7 degree, height, accuracy, GPS time,
HDOP, velocity north, east and down in mm/s, the Galileo-GPS offset, and the heading in 0.01 degree. -/
structure GnsSol where
  lat : Int
  lon : Int
  height : Int
  hacc : Nat
  gpsNs : Nat
  hdop : Nat
  velN : Int
  velE : Int
  velD : Int
  galOff : Int
  heading : Nat
  deriving DecidableEq, Repr, Inhabited


/-- An access of the legacy core to the HM-330 map (R465 to R472). The fields of the HM-330 blocks
that Huine's own register map lays out are named by what they command (log entry 19): RAM and code
flash by address; a valve's setpoint in mA, period in 5 ns steps, dither (period in PWM periods, amplitude in
mA) and PI gains; switch level and diagnosis; the status of a valve or a switch; CAN bit timing (CAN_NBT word),
message memory and transmit requests; a safety input; a calendar register or its flag; the mailbox window;
any other address of the map or outside it. -/
inductive LegacyOp
  | ramRead (a : Fin 131072)
  | ramWrite (a : Fin 131072) (b : Byte)
  | codeRead (a : Fin 524288)
  | valve (n : Fin 16) (ma period ditherN ditherMa kp ki : Nat)
  | valveStatus (n : Fin 16)
  | switchStatus (n : Fin 24)
  | canMemRead (n : Fin 4) (i : Fin 960)
  | switch (n : Fin 24) (on diag : Bool)
  | canTiming (n : Fin 4) (nbt : Word)
  | canMemory (n : Fin 4) (i : Fin 960) (v : Word)
  | canRequest (n : Fin 4) (mask : Byte)
  | safety (i : Fin 8)
  | calRead (i : Fin 8)
  | calWrite (f : CalField) (v : Word)
  | calFlag (v : Word)
  | mailbox (off : Nat) (read : Bool) (v : Word)
  | other (addr : Word)
  deriving DecidableEq, Repr, Inhabited

/-- An 802.1AS message as the port takes it (R487, R488): whether it is a Sync, whether the port is
asCapable, whether the best-master algorithm makes this module grandmaster, the slave port, the
grandmaster's clockClass, its sync interval in ns, and the measured offset in ns. -/
structure PtpMessage where
  sync : Bool
  capable : Bool
  grand : Bool
  port : Nat
  cls : Nat
  intervalNs : Nat
  ofs : Int
  deriving DecidableEq, Repr, Inhabited

/-- How far the machine leans about one axis (R158): the rate in µrad/s, and the angle that the accelerations
show in µrad. -/
structure Tilt where
  rate : Int
  angle : Int
  deriving DecidableEq, Repr, Inhabited

/-- The speculative frame that starts (R133): its sample, and the uncorrectable errors that its brick reads
meet. -/
structure FrameStart where
  n : Nat
  ecc : List BrickError
  deriving DecidableEq, Repr, Inhabited

/-- What a DMA copy meets: an uncorrectable error of its DRAM buffer, and those of its brick reads (R58, R240). -/
structure DmaErrors where
  dram : Bool
  bricks : List BrickError
  deriving DecidableEq, Repr, Inhabited

/-- A point of the 5 ns grid at which an edge can fall (R209): the GPS second it stands for, and that second as
the solution places it at the antenna, minus the point, in ps. -/
structure PpsPoint where
  second : Nat
  est : Int
  deriving DecidableEq, Repr, Inhabited

/-- A supply level in mV, with the instant of module time since which it lasts (R296). -/
structure SupplySince where
  mv : Nat
  okAt : Nat
  deriving DecidableEq, Repr, Inhabited

/-- A supply level in mV, and for how many µs it has been in its band (R396). -/
structure SupplyHeld where
  mv : Nat
  heldUs : Nat
  deriving DecidableEq, Repr, Inhabited

/-- A challenge as a path delivers it (R497): the address that it comes from, and its bytes. -/
structure Challenge where
  src : Nat
  payload : List Byte
  deriving DecidableEq, Repr, Inhabited

/-- The commands of the block: one constructor per row of the spec's table, in the table's order.
`t` is the instant of the happening in picoseconds on the model's timeline (log entry 1). An operand of type
`Unit` stands where the state determines the row's value, so that the operand says nothing (log entry 4). -/
inductive Instr
  /-- REGISTER_WRITE (R8): A set-up register write that has no row of its own takes effect on its fields according to their type codes. -/
  | registerWrite (t : Nat) (a : Access)
  /-- GLB_LOCK_SET (R274): Writing 1 to GLB_LOCK[b].LOCK locks block b until reset of its holding domain. -/
  | glbLockSet (t : Nat) (b : Fin 21)
  /-- PIEZO_IMPACT (R34): The piezo envelope rises through the threshold and opens an impact window, or marks impacts unresolved inside an open window. -/
  | piezoImpact (t : Nat) (ch : Fin 16)
  /-- PIEZO_WINDOW_CLOSE (R34): An impact window ends and a tile classifies a single impact as grain, chaff or unresolved. -/
  | piezoWindowClose (t : Nat) (ch : Fin 16) (grain : Nat) (chaff : Nat)
  /-- LOSS_INTERVAL (R39): Every 100 ms the module computes each sensor group's loss rate and updates the published moving means. -/
  | lossInterval (t : Nat)
  /-- PIEZO_BIAS_FAULT (R35): A piezo bias out of range for 10 ms faults the channel, sets FAULT and raises event 97. -/
  | piezoBiasFault (t : Nat) (ch : Fin 16) (began : Nat)
  /-- MASS_FLOW_INTERVAL (R36): Every 10 ms the module computes the wet grain flow of each enabled mass-flow channel and marks suspect samples. -/
  | massFlowInterval (t : Nat) (u : List (List Int)) (v : List Nat)
  /-- MASS_FLOW_ZERO_UPDATE (R36): Once per second, while its conditions hold, the mass-flow zero point u0 is updated from the mean of the last 5 s. -/
  | massFlowZeroUpdate (t : Nat)
  /-- MOISTURE_INTERVAL (R33): Every 100 ms the moisture samples are averaged and converted through the table-lookup slot. -/
  | moistureInterval (t : Nat) (conv : List (Nat × List Int))
  /-- FORECAST_FRAME_PUBLISH (R42): Each 100 ms the module publishes forecast frame k with 96 feedrate and confidence steps. -/
  | forecastFramePublish (t : Nat) (feed : List Nat) (conf : List Nat) (covered : Nat) (meas : List DrumRead)
  /-- FORECAST_STALE (R45): When the newest complete frame is over 500 ms old, STALE is set, event 96 raised and the readouts hold with confidence 0. -/
  | forecastStale (t : Nat)
  /-- FUS_FCST_GAINRST (R46): Writing 1 to GAINRST returns the forecast model gain to 1.0. -/
  | fusFcstGainrst (t : Nat) (v : Word)
  /-- FUS_CROP_WRITE (R46): A write to FUS_CROP sets crop fields and returns the forecast gain to 1.0. -/
  | fusCropWrite (t : Nat) (v : Word)
  /-- YIELD_CELL_CLOSE (R47): At each whole second under the work condition, or when the work condition starts or ends, a yield cell's cutting interval closes. -/
  | yieldCellClose (t : Nat) (height : Int)
  /-- YIELD_CELL_WRITE (R52): After its mass and moisture delays a yield cell is computed and written to the cell ring or its internal buffer. -/
  | yieldCellWrite (t : Nat)
  /-- FUS_YIELD_ENABLE (R53): Writing EN from 0 to 1 samples the ring base and size and sets both pointers to 0. -/
  | fusYieldEnable (t : Nat) (v : Word)
  /-- RING_RPTR_WRITE (R53): A write to a module-written ring's RPTR is accepted only within the consumed range, and otherwise sets RINGERR. -/
  | ringRptrWrite (t : Nat) (ring : RingName) (v : Word)
  /-- MORTAR_PACKET_ARRIVE (R62): A mortar packet arrives whole at its destination endpoint and is delivered to the unit it addresses. -/
  | mortarPacketArrive (t : Nat) (p : Packet)
  /-- MOR_RT_STAGE_WRITE (R74): A write to MOR_RT_STAGE0 or STAGE1 stores the staged entry, or sets REJ while PEND = 1. -/
  | morRtStageWrite (t : Nat) (second : Bool) (v : Word)
  /-- MOR_RT_COMMIT (R72): COMMIT checks the staged route entry for admission and sets PEND or REFUSED. -/
  | morRtCommit (t : Nat)
  /-- MOR_RT_CANCEL (R74): CANCEL drops a pending staged route entry. -/
  | morRtCancel (t : Nat)
  /-- ROUTE_BOUNDARY_SWITCH (R73): At the first boundary after PEND the staged route entry becomes active and end-of-stream packets go to dropped destinations. -/
  | routeBoundarySwitch (t : Nat) (r : Fin 4096) (frame : Nat)
  /-- ROUTE_RESERVATION_RELEASE (R73): The old route's reservation is released when its last end-of-stream packet leaves the source. -/
  | routeReservationRelease (t : Nat) (r : Fin 4096)
  /-- DIGEST_SWEEP_START (R80): At every whole 100 ms a digest sweep begins and the tiles recompute their unit digests. -/
  | digestSweepStart (t : Nat)
  /-- DIGEST_SWEEP_PUBLISH (R80): The hub combines the tree and publishes the new root digest in MOR_ROOT, advancing SEQ. -/
  | digestSweepPublish (t : Nat) (ecc : List BrickError) (upsets : List (Nat × Nat × Nat))
  /-- SWEEP_OVERRUN (R82): A sweep unpublished 100 ms after its start raises event 51, sets STALE and is abandoned. -/
  | sweepOverrun (t : Nat)
  /-- MOR_ACT_ARM (R84): ARM checks the staged set and activation time and arms activation or refuses with a REASON. -/
  | morActArm (t : Nat)
  /-- MOR_ACT_DISARM (R85): DISARM clears ARMED up to 1 ms before T_act and leaves the set staged. -/
  | morActDisarm (t : Nat)
  /-- ACTIVATION (R86): At T_act every unit takes epoch E, slots and routes switch to the staged configuration, DONE is set and event 49 raised. -/
  | activation (t : Nat)
  /-- CEN_SEL_WRITE (R101): A write to CEN_SEL selects a slot and clears the record-window shadow. -/
  | cenSelWrite (t : Nat) (v : Word)
  /-- CEN_ENABLE (R116): ENABLE admits an OFF slot under the utilisation and timing checks, or refuses it with a REASON and event 68. -/
  | cenEnable (t : Nat)
  /-- CEN_DISABLE (R125): DISABLE makes a slot OFF after one output phase carrying SAFE_OUT. -/
  | cenDisable (t : Nat)
  /-- CEN_REARM (R124): REARM re-admits a FAULTED slot, zeroes its law state and schedules its first sample. -/
  | cenRearm (t : Nat)
  /-- CEN_SWAP (R111): SWAP requests a coefficient bank exchange and sets SWPEND, or sets BANKREJ. -/
  | cenSwap (t : Nat)
  /-- CEN_REC_WRITE (R100): A write through the record window updates the slot record where R100 permits, or sets CFGREJ. -/
  | cenRecWrite (t : Nat) (i : Fin 512) (v : Word)
  /-- CEN_REC_READ (R101): A read of bits [31:0] of a record word latches the whole word into the shadow; other parts read from the shadow. -/
  | cenRecRead (t : Nat) (i : Fin 512)
  /-- CEN_BANK_WRITE (R112): A write to CEN_BANK_IN writes the inactive bank, or sets BANKREJ while SWPEND = 1. -/
  | cenBankWrite (t : Nat) (i : Fin 256) (v : Word)
  /-- LOOP_SAMPLE_INSTANT (R119): At a slot's sample instant pending banks exchange, inputs are latched and the evaluation is queued with its guard. -/
  | loopSampleInstant (t : Nat) (slot : Fin 8192) (ecc : List BrickError)
  /-- EVALUATION_START (R115): The engine starts the ready evaluation of lowest class and earliest guard and copies the committed state into a working copy. -/
  | evaluationStart (t : Nat) (tile : Fin 128) (ecc : List BrickError)
  /-- EVALUATION_COMPLETE (R114): An evaluation or correction pass finishes E tile cycles after its start. -/
  | evaluationComplete (t : Nat) (slot : Fin 8192)
  /-- LOOP_GUARD (R119): At the output-phase guard the sample is accepted or overruns and the output register is loaded. -/
  | loopGuard (t : Nat) (slot : Fin 8192)
  /-- LOOP_OUTPUT_PHASE (R119): At T + OPH the output flit leaves on every enabled output route and becomes visible to local inputs. -/
  | loopOutputPhase (t : Nat) (slot : Fin 8192)
  /-- SPEC_FRAME_START (R131): A released speculative frame starts once frame n − 1 and any member frame it reads are complete, taking its predicted inputs. -/
  | specFrameStart (t : Nat) (slot : Fin 8192) (n : FrameStart)
  /-- SPEC_FRAME_COMPLETE (R142): A speculative frame completes and sends a SPEC packet to reading members on other tiles. -/
  | specFrameComplete (t : Nat) (slot : Fin 8192) (n : Nat)
  /-- CONFIRM_RESULT (R134): The confirm unit compares latched and predicted inputs and confirms or rejects the outstanding frame. -/
  | confirmResult (t : Nat) (slot : Fin 8192)
  /-- SPEC_PACKET_RECEIVE (R142): A SPEC packet delivers a predicted value to a reading member's predicted-input registers. -/
  | specPacketReceive (t : Nat) (p : Packet)
  /-- DROP_PACKET_RECEIVE (R138): A DROP packet drops every frame on the receiving tile that holds the dropped frame's tag. -/
  | dropPacketReceive (t : Nat) (p : Packet)
  /-- TIMEBASE_REFERENCE_EDGE (R152): A GNSS or 802.1AS reference edge is checked for qualification and locking. -/
  | timebaseReferenceEdge (t : Nat) (as : Bool) (ref : Nat)
  /-- TIMEBASE_HOLDOVER (R154): No reference edge for 2.5 s moves LOCKED to HOLDOVER and raises event 99. -/
  | timebaseHoldover (t : Nat)
  /-- TIMEBASE_SLEW_END (R152): The error being slewed out at 50 ppm reaches zero and SLEW clears. -/
  | timebaseSlewEnd (t : Nat)
  /-- FUS_TB_SRC_WRITE (R155): A write to FUS_TB_CFG.SRC takes effect at once as a loss of the reference in use. -/
  | fusTbSrcWrite (t : Nat) (v : Word)
  /-- FUS_TB_NOW_READ (R175): A read of FUS_TB_NOW_LO returns module time and latches HI. -/
  | fusTbNowRead (t : Nat) (hi : Bool)
  /-- CAMERA_TRIGGER (R157): Trigger generator n fires camera port n at its period and phase. -/
  | cameraTrigger (t : Nat) (n : Fin 16)
  /-- FUS_TRG_WRITE (R157): A write to a trigger generator's configuration applies, or sets REJ while EN = 1. -/
  | fusTrgWrite (t : Nat) (n : Fin 16) (phase : Bool) (v : Word)
  /-- EGO_MOTION_SAMPLE (R158): Every millisecond the ego-motion tile computes speed, yaw, pitch and roll and sends its flit. -/
  | egoMotionSample (t : Nat) (enc : List Int) (encBad : Byte) (yaw1 : Int) (yaw2 : Int) (pitch : Tilt) (roll : Tilt) (imuValid : Bool) (imuAll : Bool)
  /-- SLIP_UPDATE (R160): Each second, under good GNSS and speed, the slip estimate is updated. -/
  | slipUpdate (t : Nat) (slip : Unit)
  /-- POSE_PROPAGATE (R161): At 1 kHz the module propagates machine pose from ego-motion. -/
  | posePropagate (t : Nat) (pose : Unit)
  /-- POSE_RECORD (R161): Every 10 ms with POSE = 1 a pose record goes to the fusion output ring. -/
  | poseRecord (t : Nat)
  /-- FUS_NET_ENABLE (R162): Writing EN to 1 enables a fusion network, or sets REJ when its checks fail. -/
  | fusNetEnable (t : Nat) (k : Fin 16) (v : Word)
  /-- FUS_NET_RST (R167): Writing RST requests a recurrent-state reset at the next step. -/
  | fusNetRst (t : Nat) (k : Fin 16) (v : Word)
  /-- FUSION_STEP_START (R163): A step starts when all frames have arrived or the assembly limit passes, with missing ports absent and GAP set. -/
  | fusionStepStart (t : Nat) (k : Fin 16) (bad : List (Nat × BrickError)) (ecc : List BrickError)
  /-- FUSION_STEP_COMPLETE (R164): A step completed before its deadline publishes its outputs and exchanges the recurrent state buffers. -/
  | fusionStepComplete (t : Nat) (k : Fin 16) (out : StepOut)
  /-- FUSION_STEP_ABANDON (R163): A step incomplete at its deadline is abandoned, counted and raises event 102 once per episode. -/
  | fusionStepAbandon (t : Nat) (k : Fin 16)
  /-- CAL_REFINE (R170): Every 10 s with REFINE = 1 the bounded calibration parameters are refined within their bounds. -/
  | calRefine (t : Nat) (est : List (Nat × Int))
  /-- FUS_CAL_PUBLISH (R171): PUBLISH copies every base value into in-use and resets every network under cause 3. -/
  | fusCalPublish (t : Nat) (v : Word)
  /-- CAM_WIDE_WRITE (R182): A write to WIDE selects the pipeline configuration, or sets WIDEREJ while any port is enabled. -/
  | camWideWrite (t : Nat) (v : Word)
  /-- CAM_PORT_ENABLE (R183): Writing EN from 0 to 1 enables a camera port, or refuses it with REFUSED and event 119. -/
  | camPortEnable (t : Nat) (n : Fin 16) (v : Word)
  /-- CAM_SETTING_WRITE (R193): A write to a port setting while EN = 1 takes effect at the next Frame Start, or sets CFGREJ for fixed fields. -/
  | camSettingWrite (t : Nat) (n : Fin 16) (i : Fin 13) (v : Word)
  /-- CAM_I2C_START (R180): A write to CAM_PORT_I2C starts one I2C transfer through the tunnel, or sets CFGREJ while busy. -/
  | camI2cStart (t : Nat) (n : Fin 16) (v : Word)
  /-- CAM_I2C_DONE (R180): An I2C transfer ends, clearing I2CBUSY and leaving RDATA or setting I2CNACK. -/
  | camI2cDone (t : Nat) (n : Fin 16) (ack : Bool) (byte : Byte)
  /-- CAM_LINK_LOST (R181): An A-PHY link loss damages an open frame, raises event 112 and starts retraining. -/
  | camLinkLost (t : Nat) (n : Fin 16)
  /-- CAM_LINK_RESTORED (R181): The A-PHY link returns, LINK reads 1 and event 113 is raised. -/
  | camLinkRestored (t : Nat) (n : Fin 16)
  /-- CSI_FRAME_START (R185): A Frame Start within the window of a trigger opens frame F. -/
  | csiFrameStart (t : Nat) (n : Fin 16)
  /-- CSI_LONG_PACKET (R187): A long packet of the image stream is unpacked and processed through the pipeline stages. -/
  | csiLongPacket (t : Nat) (n : Fin 16) (vc : Nat) (dt : Nat) (badHeader : Bool) (badCrc : Bool) (oneFlip : Bool) (sites : List Nat)
  /-- TAP_LINE_SEND (R190): A tap hands a line's packets to the mortar as credits allow, or drops the frame remainder when its buffer is full. -/
  | tapLineSend (t : Nat) (n : Fin 16) (tapB : Bool)
  /-- CSI_FRAME_END (R185): A Frame End closes the open frame. -/
  | csiFrameEnd (t : Nat) (n : Fin 16)
  /-- CAM_FRAME_DEADLINE (R192): A frame whose last data flit is not handed over by T + DL is dropped with cause 2. -/
  | camFrameDeadline (t : Nat) (n : Fin 16)
  /-- CAM_STATS_READY (R194): A frame's histogram and zone statistics are ready within 1 ms of its Frame End. -/
  | camStatsReady (t : Nat) (n : Fin 16)
  /-- GNSS_EPOCH (R203): At each measurement epoch every channel is measured and measurement and solution records are written. -/
  | gnssEpoch (t : Nat) (meas : List GnsMeas) (search : List (Nat × Nat × Nat × Nat)) (sol : GnsSol)
  /-- GNSS_TIME_INVALID (R206): No solution with FIX 1 or better for 2 s makes time invalid and raises event 129. -/
  | gnssTimeInvalid (t : Nat)
  /-- GNSS_NAV_UNIT (R207): A complete navigation message unit is checked and written as a navigation record. -/
  | gnssNavUnit (t : Nat) (chan : Fin 96) (bits : List Flit) (inverted : Bool) (startNs : Nat)
  /-- GNSS_PPS_EDGE (R209): While time is valid an edge at each GPS second goes to the timebase and PPS_OUT. -/
  | gnssPpsEdge (t : Nat) (edge : PpsPoint)
  /-- GNSS_QERR_REPORT (R210): The QERR of an edge is reported in a TYPE 4 record, GNS_PPS_QERR and to the timebase. -/
  | gnssQerrReport (t : Nat)
  /-- PPS_FREERUN_PULSE (R211): With time not valid and FREERUN = 1, PPS_OUT pulses at each whole second of module time plus offset. -/
  | ppsFreerunPulse (t : Nat)
  /-- GNS_INJ_COMMIT (R212): COMMIT submits an injected RTK solution, accepted for the newest epoch or refused with INJREJ. -/
  | gnsInjCommit (t : Nat) (v : Word)
  /-- GNS_CFG_WRITE (R215): A GNS_CFG write applies from the next epoch, or sets CFGREJ for RATE, L5_EN or GAL_EN while EN = 1. -/
  | gnsCfgWrite (t : Nat) (r : Fin 4) (v : Word) (gone : Unit)
  /-- GNSS_ANTENNA_FAULT (R216): An antenna bias current out of range sets ANTOPEN or ANTSHORT and raises event 134. -/
  | gnssAntennaFault (t : Nat) (ua : Nat)
  /-- CTX_ENABLE (R221): ENABLE brings an OFF context into service, or refuses it with REASON. -/
  | ctxEnable (t : Nat) (c : Fin 4096)
  /-- CTX_DISABLE (R222): DISABLE moves an ACTIVE or HALTED context into DRAINING and cancels unstarted operations. -/
  | ctxDisable (t : Nat) (c : Fin 4096)
  /-- CONTEXT_DRAINED (R222): When INFLIGHT reaches 0 a draining context becomes OFF, releases its line and raises event 38. -/
  | contextDrained (t : Nat) (c : Fin 4096)
  /-- CTX_CONFIG_WRITE (R223): A write to a context's ring or configuration registers applies while OFF, or sets CFGREJ. -/
  | ctxConfigWrite (t : Nat) (c : Fin 4096) (r : CtxReg) (v : Word)
  /-- DB_SQ_TAIL (R229): A doorbell write to DB_SQ_TAIL makes descriptors available, or sets DBERR and raises event 32. -/
  | dbSqTail (t : Nat) (c : Fin 4096) (v : Word) (stores : List (Nat × Byte))
  /-- DB_CQ_HEAD (R229): A write to DB_CQ_HEAD returns completion slots and may release the interrupt line. -/
  | dbCqHead (t : Nat) (c : Fin 4096) (v : Word)
  /-- DESCRIPTOR_READ (R225): The module reads the descriptor at SQ_HEAD when an in-flight entry and a completion slot are free. -/
  | descriptorRead (t : Nat) (c : Fin 4096) (ecc : Bool)
  /-- NOP (R237): NOP completes at once with DONE. -/
  | nop (t : Nat) (c : Fin 4096) (tag : Nat)
  /-- CANCEL (R235): CANCEL cancels an unstarted operation of its context by TAG. -/
  | cancel (t : Nat) (c : Fin 4096) (tag : Nat)
  /-- CFG_WRITE (R238): CFG_WRITE writes a unit image of the active or a staged configuration. -/
  | cfgWrite (t : Nat) (c : Fin 4096) (tag : Nat) (ecc : Bool)
  /-- CFG_READ (R238): CFG_READ copies a unit image of the active or a staged configuration to BUF. -/
  | cfgRead (t : Nat) (c : Fin 4096) (tag : Nat) (ecc : Bool)
  /-- ROUTE_COMMIT (R237): ROUTE_COMMIT stages and commits a route entry or adds it to a staged set. -/
  | routeCommit (t : Nat) (c : Fin 4096) (tag : Nat)
  /-- STAGE_DISCARD (R238): STAGE_DISCARD drops an unarmed staged set of the named epoch. -/
  | stageDiscard (t : Nat) (c : Fin 4096) (tag : Nat)
  /-- LOOP_ENABLE (R237): LOOP_ENABLE admits a slot under R116 for the submitting context. -/
  | loopEnable (t : Nat) (c : Fin 4096) (tag : Nat)
  /-- LOOP_DISABLE (R237): LOOP_DISABLE makes a slot OFF. -/
  | loopDisable (t : Nat) (c : Fin 4096) (tag : Nat)
  /-- LOOP_REARM (R237): LOOP_REARM re-arms a FAULTED slot. -/
  | loopRearm (t : Nat) (c : Fin 4096) (tag : Nat)
  /-- LOOP_SWAP (R237): LOOP_SWAP requests a bank exchange and completes at the exchange. -/
  | loopSwap (t : Nat) (c : Fin 4096) (tag : Nat)
  /-- LOOP_BANK_WRITE (R237): LOOP_BANK_WRITE writes words of a slot's inactive bank from BUF. -/
  | loopBankWrite (t : Nat) (c : Fin 4096) (tag : Nat) (ecc : Bool)
  /-- LOOP_READ (R237): LOOP_READ copies a slot record to BUF with the working copies as zero. -/
  | loopRead (t : Nat) (c : Fin 4096) (tag : Nat) (ecc : Bool)
  /-- OPERATION_COMPLETE (R239): An operation that took time finishes and its completion record is written. -/
  | operationComplete (t : Nat) (c : Fin 4096) (tag : Nat)
  /-- IRQ_COALESCE_TIMER (R242): An unconsumed record standing for TIME_US asserts the context's interrupt line. -/
  | irqCoalesceTimer (t : Nat) (c : Fin 4096)
  /-- OPERATION_DEADLINE (R253): At its deadline an unstarted class 3 to 7 operation completes with REFUSED_CAPACITY. -/
  | operationDeadline (t : Nat) (c : Fin 4096) (tag : Nat)
  /-- TALLY_BOUNDARY (R245): At each tally boundary every block latches its counters, SEQ advances and event 39 is raised. -/
  | tallyBoundary (t : Nat)
  /-- GLB_RESYNC_REQUEST (R247): REQ takes a consistent summary of a context at one instant, or sets REJ. -/
  | glbResyncRequest (t : Nat) (v : Word)
  /-- RESYNC_SUMMARY_WRITTEN (R247): The 4 KiB summary is written, event 36 is raised and DONE is set. -/
  | resyncSummaryWritten (t : Nat)
  /-- QUOTA_SET (R269): QUOTA_SET sets a context's quota of one kind. -/
  | quotaSet (t : Nat) (c : Fin 4096) (tag : Nat)
  /-- RECLAIM (R266): RECLAIM schedules the release of the context's holdings at the next qualifying tally boundary. -/
  | reclaim (t : Nat) (c : Fin 4096) (tag : Nat)
  /-- RECLAIM_RELEASE (R266): At the tally boundary a pending RECLAIM releases holdings oldest first and completes. -/
  | reclaimRelease (t : Nat) (c : Fin 4096) (tag : Nat)
  /-- ACQUIRE (R270): ACQUIRE grants a resource, refuses it, or registers a wait. -/
  | acquire (t : Nat) (c : Fin 4096) (tag : Nat) (ecc : Bool)
  /-- RELEASE (R269): RELEASE ends a holding of the context. -/
  | release (t : Nat) (c : Fin 4096) (tag : Nat)
  /-- DMA_COPY (R269): DMA_COPY copies data between DRAM and a held brick segment on a held channel. -/
  | dmaCopy (t : Nat) (c : Fin 4096) (tag : Nat) (ecc : DmaErrors)
  /-- WAIT_GRANT (R270): A freed resource is granted to the first waiter in class and registration order. -/
  | waitGrant (t : Nat) (c : Fin 4096) (tag : Nat)
  /-- QOS_QUOTA_WRITE (R263): A write to QOS_Q_VAL sets the selected quota, or is refused or rejected. -/
  | qosQuotaWrite (t : Nat) (v : Word)
  /-- QOS_DRAM_WRITE (R259): A DRAM reservation write applies, or is refused with event 43 when the sum would exceed 136. -/
  | qosDramWrite (t : Nat) (k : Fin 8) (v : Word)
  /-- OX_PWM_PERIOD (R282): At each PWM period start the channel applies its command, dither, limits and sends its measurement flit. -/
  | oxPwmPeriod (t : Nat) (n : Fin 48) (cur : Nat) (vb : Nat)
  /-- OX_COMMAND_FLIT (R283): A command flit delivers a duty to the channel for the next applicable period. -/
  | oxCommandFlit (t : Nat) (p : Packet)
  /-- OX_COMMAND_TIMEOUT (R286): TMO periods without a command switch the channel off, set TIMEOUT and raise event 139. -/
  | oxCommandTimeout (t : Nat) (n : Fin 48)
  /-- OX_DUTY_LIMIT_EVAL (R288): Every 10 ms the mean duty is compared with DLIM and the limit applied or lifted. -/
  | oxDutyLimitEval (t : Nat) (n : Fin 48)
  /-- OX_PAIR_WRITE (R289): A PAIR write pairs two disabled channels, or is refused with event 145. -/
  | oxPairWrite (t : Nat) (n : Fin 48) (v : Word)
  /-- OX_PIG_WRITE (R293): A PIG write reserves pull-in tokens, or is refused with event 144. -/
  | oxPigWrite (t : Nat) (n : Fin 48) (v : Word)
  /-- OX_PULLIN_GRANT (R294): A waiting pull-in receives its tokens, begins at the next period start and records its delay. -/
  | oxPullinGrant (t : Nat) (n : Fin 48)
  /-- OX_PULLIN_END (R291): A pull-in ends at its time limit, end current or energy limit and PWM on the supply follows. -/
  | oxPullinEnd (t : Nat) (n : Fin 48) (cur : Nat) (mj : Nat)
  /-- OX_TOKEN_RETURN (R292): A boost token returns exactly 2 ms after its pull-in began. -/
  | oxTokenReturn (t : Nat)
  /-- OX_RAIL_LOW (R295): The boost rail below 40 V stops grants, sets LOW and raises event 142. -/
  | oxRailLow (t : Nat) (vb : Nat)
  /-- OX_RAIL_RECOVER (R295): The boost rail reaching 44 V resumes grants. -/
  | oxRailRecover (t : Nat) (vb : Nat)
  /-- OX_RAIL_CLAMP (R290): The rail above 58 V activates the clamp, sets CLAMP and raises event 143. -/
  | oxRailClamp (t : Nat) (vb : Nat)
  /-- OX_SUPPLY_LOW (R296): The load supply below 9 V switches every channel off, sets SUPLOW and raises event 146. -/
  | oxSupplyLow (t : Nat) (mv : Nat)
  /-- OX_SUPPLY_RESTORED (R296): The supply at 10 V for 2 ms lets commanded channels drive again with a pull-in request. -/
  | oxSupplyRestored (t : Nat) (mv : SupplySince)
  /-- OX_SHORT (R299): An over-current switches the channel off within 2 µs, faults it and raises event 136. -/
  | oxShort (t : Nat) (n : Fin 48) (ma : Nat)
  /-- OX_OPEN (R299): Duty at least 0.10 for 20 ms with current below 20 mA reports OPEN and raises event 137. -/
  | oxOpen (t : Nat) (n : Fin 48)
  /-- OX_OVERTEMP (R299): A switch junction above 165 °C switches the channel off, faults it and raises event 138. -/
  | oxOvertemp (t : Nat) (n : Fin 48) (celsius : Int)
  /-- OX_CH_STAT_CLEAR (R300): Writing 1 to a fault bit clears it and lets the channel drive again, or re-sets it if the condition holds. -/
  | oxChStatClear (t : Nat) (n : Fin 48) (v : Word) (shortHolds : Bool) (openHolds : Unit) (junction : Int)
  /-- OX_FAULT_CLEAR (R302): OX_FAULT_CLEAR clears a channel's fault bits. -/
  | oxFaultClear (t : Nat) (c : Fin 4096) (tag : Nat) (shortHolds : Bool) (openHolds : Unit) (junction : Int)
  /-- OX_STATUS_READ (R302): OX_STATUS_READ copies every channel's status to BUF. -/
  | oxStatusRead (t : Nat) (c : Fin 4096) (tag : Nat)
  /-- MUL_COMMAND_FLIT (R306): A command flit sets a Mule channel ON or OFF from its lane value. -/
  | mulCommandFlit (t : Nat) (p : Packet)
  /-- MUL_CH_CMD_WRITE (R306): A write to MUL_CH_CMD.ON commands a register-sourced channel. -/
  | mulChCmdWrite (t : Nat) (n : Fin 64) (v : Word)
  /-- MUL_UVLO (R310): The supply below 4.5 V for 100 µs switches every channel off, sets UVLO and raises event 165. -/
  | mulUvlo (t : Nat) (mv : Nat)
  /-- MUL_UVLO_RELEASE (R310): The supply at 6.0 V for 2 ms switches ON-commanded channels back on and raises event 166. -/
  | mulUvloRelease (t : Nat) (mv : Nat)
  /-- MUL_LIMIT_START (R311): Load current reaching ILIM makes the switch limit linearly and sets ILIM. -/
  | mulLimitStart (t : Nat) (n : Fin 64) (ma : Nat)
  /-- MUL_LIMIT_LONG (R311): Limiting without a break for 10 ms raises event 161. -/
  | mulLimitLong (t : Nat) (n : Fin 64)
  /-- MUL_THERMAL_SHUTDOWN (R311): A junction at 175 °C switches the channel off, sets TSD and raises event 160. -/
  | mulThermalShutdown (t : Nat) (n : Fin 64) (celsius : Int)
  /-- MUL_RETRY (R312): After cooling and 100 ms a channel with retries left switches on again, or stays off with event 164. -/
  | mulRetry (t : Nat) (n : Fin 64) (celsius : Int)
  /-- MUL_RETRY_COUNT_CLEAR (R312): One second on without limiting clears RETRIES. -/
  | mulRetryCountClear (t : Nat) (n : Fin 64)
  /-- MUL_OFFSTATE_CHECK (R313): Every 10 ms the off-state output voltage is checked for open load or short to supply. -/
  | mulOffstateCheck (t : Nat) (n : Fin 64) (mv : Nat)
  /-- MUL_CH_STAT_CLEAR (R315): Writing 1 to TSD, OPEN or SHORTBAT clears the fault and RETRIES, or re-sets TSD if still hot. -/
  | mulChStatClear (t : Nat) (n : Fin 64) (v : Word) (junction : Int)
  /-- MUL_FAULT_CLEAR (R317): MUL_FAULT_CLEAR clears a channel's fault bits. -/
  | mulFaultClear (t : Nat) (c : Fin 4096) (tag : Nat) (junction : Int)
  /-- MUL_STATUS_READ (R317): MUL_STATUS_READ copies every channel's status to BUF. -/
  | mulStatusRead (t : Nat) (c : Fin 4096) (tag : Nat)
  /-- SAFETY_CONTACT_CHANGE (R323): A safety contact's new level is accepted at its third consecutive sample. -/
  | safetyContactChange (t : Nat) (i : Fin 16) (contactB : Bool) (closed : Bool)
  /-- SAFETY_DISCREPANCY (R324): The discrepancy time expiring without agreement sets DISCF, raises event 3 and imposes safe stop with cause 2. -/
  | safetyDiscrepancy (t : Nat) (i : Fin 16)
  /-- SAFETY_CROSS_CIRCUIT (R325): Three consecutive wrong test-pulse patterns set XF, raise event 4 and impose safe stop with cause 3. -/
  | safetyCrossCircuit (t : Nat) (i : Fin 16)
  /-- GOO_STOP (R336): STOP imposes safe stop with cause 7. -/
  | gooStop (t : Nat)
  /-- GOO_RELEASE (R337): RELEASE ends safe stop and local trips whose conditions are met. -/
  | gooRelease (t : Nat)
  /-- GOO_OUTPUT_REQUEST (R329): A write to GOO_OUT_REQ energises an output whose permit holds, or refuses it with event 13. -/
  | gooOutputRequest (t : Nat) (v : Word)
  /-- SAFETY_OUTPUT_TEST (R330): Every 100 ms an energised output is pulsed off and its read-back checked. -/
  | safetyOutputTest (t : Nat) (o : Fin 8) (mv : Nat)
  /-- SAFETY_OUTPUT_READBACK (R330): A read-back failure sets TESTF, and when high while off opens the disconnect and imposes safe stop with cause 4. -/
  | safetyOutputReadback (t : Nat) (o : Fin 8) (mv : Nat) (supply : Nat)
  /-- CONTACTOR_FEEDBACK_CHECK (R331): Feedback disagreeing with the output after FBTIME sets FBF, raises event 6 and imposes safe stop with cause 5. -/
  | contactorFeedbackCheck (t : Nat) (fb : Fin 4) (level : Bool)
  /-- SEALED_SWITCH_CHANGE (R332): A switch difference from SWBOOT lasting 30 ms imposes safe stop with cause 6 and raises event 7. -/
  | sealedSwitchChange (t : Nat) (sw : Byte)
  /-- GOOSE_DIAG_FAILURE (R334): A self-diagnosis failure opens the disconnect, asserts the cut lines and sets FAILSAFE with cause 8. -/
  | gooseDiagFailure (t : Nat) (k : Fin 4)
  /-- GOOSE_SPEED_UPDATE (R335): Every 10 ms the Goose updates ground speed from its two frequency inputs. -/
  | gooseSpeedUpdate (t : Nat) (low : List Nat) (high : List Nat)
  /-- SPEED_DISCREPANCY (R335): Speeds differing by over 20 % for 1 s set SPDDISC and raise event 12. -/
  | speedDiscrepancy (t : Nat)
  /-- GOOSE_STILL (R335): Both speeds below 139 mm/s for 500 ms set STILL. -/
  | gooseStill (t : Nat)
  /-- GOOSE_STATUS_FLIT (R338): Every 1 ms with EN = 1 a status flit of speed, STILL, HDRENG and safe stop is sent. -/
  | gooseStatusFlit (t : Nat)
  /-- CAN_OFFBUS_SET (R345): Writing OFFBUS = 1 takes the controller off the bus at the end of any frame in progress. -/
  | canOffbusSet (t : Nat) (c : Fin 12) (v : Word)
  /-- CAN_BUS_JOIN (R345): After OFFBUS is written to 0 the controller joins the bus following 11 recessive bits. -/
  | canBusJoin (t : Nat) (c : Fin 12)
  /-- CAN_FRAME_RECEIVED (R349): A valid received frame is filtered and stored in a dedicated buffer or the FIFO, or rejected. -/
  | canFrameReceived (t : Nat) (c : Fin 12) (head : Flit) (data : List Byte) (sofUs : Nat) (rate : Fin 4) (rec : Nat)
  /-- CAN_FIFO_ACK_WRITE (R351): A write to CAN_FIFO_ACK.RP returns FIFO elements, or sets CFGREJ when out of range. -/
  | canFifoAckWrite (t : Nat) (c : Fin 12) (v : Word)
  /-- CAN_TXREQ_WRITE (R353): Writing a TXREQ bit requests transmission of a transmit buffer. -/
  | canTxreqWrite (t : Nat) (c : Fin 12) (v : Word)
  /-- CAN_TXCAN_WRITE (R354): Writing a TXCAN bit withdraws a buffer's request unless its frame is on the bus. -/
  | canTxcanWrite (t : Nat) (c : Fin 12) (v : Word)
  /-- CAN_TX_START (R353): At bus idle the controller starts the pending frame of lowest identifier rank. -/
  | canTxStart (t : Nat) (c : Fin 12) (fits : Bool)
  /-- CAN_FRAME_SENT (R354): A frame sent successfully sets TXDONE or completes its CAN_TX descriptor. -/
  | canFrameSent (t : Nat) (c : Fin 12) (tec : Nat)
  /-- CAN_TX_FAILURE (R354): A lost arbitration or error retries the frame, or fails a one-shot frame with event code 1. -/
  | canTxFailure (t : Nat) (c : Fin 12) (arb : Bool) (tec : Nat)
  /-- CAN_TXRT_FLIT (R355): A flit on a bound route writes a transmit buffer's data and sets its TXREQ. -/
  | canTxrtFlit (t : Nat) (p : Packet)
  /-- CAN_ERROR_STATE_CHANGE (R357): A change of BSTATE raises the controller's first event and at bus-off aborts queued frames. -/
  | canErrorStateChange (t : Nat) (c : Fin 12) (b : Fin 3) (tec : Nat) (rec : Nat)
  /-- CAN_BUSOFF_RECOVERED (R357): With BOREC = 1 bus-off recovery completes after 128 occurrences of 11 recessive bits. -/
  | canBusoffRecovered (t : Nat) (c : Fin 12)
  /-- CAN_ABD_START (R359): Writing LISTEN, ABD and OFFBUS = 0 together starts bit-rate detection. -/
  | canAbdStart (t : Nat) (c : Fin 12) (v : Word)
  /-- CAN_ABD_CANDIDATE_TIMEOUT (R359): A detection candidate held 200 ms without success moves to the next rate, or fails after two passes. -/
  | canAbdCandidateTimeout (t : Nat) (c : Fin 12) (error : Bool)
  /-- CAN_TT_TRIGGER (R361): A trigger-list element acts at its cycle time in a time-triggered basic cycle. -/
  | canTtTrigger (t : Nat) (c : Fin 2) (i : Fin 32) (busy : Bool)
  /-- CAN_TT_REFERENCE (R363): At the end of each basic cycle every potential master starts a reference message. -/
  | canTtReference (t : Nat) (c : Fin 2) (won : Bool)
  /-- CAN_WAKE_PATTERN (R402): A wake-up pattern on CAN controller 0 or 1 in STANDBY latches a wake source. -/
  | canWakePattern (t : Nat) (c : Fin 2)
  /-- CAN_TX (R364): CAN_TX queues a frame for transmission on a controller. -/
  | canTx (t : Nat) (c : Fin 4096) (tag : Nat) (ecc : Bool)
  /-- CAN_FIFO_DRAIN (R364): CAN_FIFO_DRAIN copies FIFO elements to BUF and advances RP. -/
  | canFifoDrain (t : Nat) (c : Fin 4096) (tag : Nat)
  /-- MBX_SEND (R372): A write to MBX_TXD[3] sends a message, or sets FULLERR with event 203 when four are pending. -/
  | mbxSend (t : Nat) (ch : Fin 64) (sideB : Bool) (ident : Fin 16) (v : Word)
  /-- MBX_ACK (R373): A write to MBX_ACK removes the oldest incoming message and writes the sender's acknowledge record. -/
  | mbxAck (t : Nat) (ch : Fin 64) (sideB : Bool) (ident : Fin 16) (v : Word)
  /-- MBX_BOTHPEND (R377): Both directions pending for OBS_MS sets BOTHPEND and raises event 201. -/
  | mbxBothpend (t : Nat) (ch : Fin 64)
  /-- HEN_RECORD_WRITE (R388): A queued record write takes a token and is written to MRAM, recording its DELAY. -/
  | henRecordWrite (t : Nat)
  /-- HEN_OPEN_REFRESH (R386): Once per second the open record is rewritten to MRAM with its REPEAT. -/
  | henOpenRefresh (t : Nat)
  /-- HEN_TOKEN_RETURN (R388): A write-port token returns exactly 10 ms after it was taken. -/
  | henTokenReturn (t : Nat)
  /-- HEN_HOURS_WRITE (R384): Every 36 s of operation the hours count advances and is written to MRAM. -/
  | henHoursWrite (t : Nat)
  /-- HEN_SCAN_COMPLETE (R385): The start scan of all slots completes, counting bad slots and raising event 219 if any failed. -/
  | henScanComplete (t : Nat) (bad : List Nat)
  /-- HEN_CUR_SEQ_WRITE (R389): A write to HEN_CUR_SEQ loads the window with the record at or above that SEQ. -/
  | henCurSeqWrite (t : Nat) (v : Word) (crcBad : Bool)
  /-- HEN_NEXT (R389): Writing NEXT loads the record following the one shown. -/
  | henNext (t : Nat) (crcBad : Bool)
  /-- HEN_WRITE (R393): HEN_WRITE makes a host record. -/
  | henWrite (t : Nat) (c : Fin 4096) (tag : Nat)
  /-- HEN_READ (R393): HEN_READ copies records in SEQ order to BUF. -/
  | henRead (t : Nat) (c : Fin 4096) (tag : Nat) (ecc : Bool)
  /-- HEN_CLEAR (R390): HEN_CLEAR removes stored records below UPTO at or below SEVMAX and makes a Notice record. -/
  | henClear (t : Nat) (c : Fin 4096) (tag : Nat)
  /-- SUPPLY_BAND_CHANGE (R396): The filtered supply crosses a band threshold and the module enters the new band with its event. -/
  | supplyBandChange (t : Nat) (mv : SupplyHeld)
  /-- CRANK_TIMEOUT (R397): A CRANK episode exceeding 200 ms starts the power-fail sequence. -/
  | crankTimeout (t : Nat)
  /-- SUPPLY_COLLAPSE (R397): The supply below 6.0 V for 50 µs starts the power-fail sequence. -/
  | supplyCollapse (t : Nat) (mv : Nat)
  /-- RAIL_FAULT (R401): A domain rail out of tolerance for 10 µs sets FAULT, raises event 22 and starts the power-fail sequence. -/
  | railFault (t : Nat) (d : Fin 13)
  /-- JUNCTION_LIMIT (R531): A die junction at 125 °C raises event 24 and starts the power-fail sequence with cause 5. -/
  | junctionLimit (t : Nat) (d : Fin 13)
  /-- IGN_CHANGE (R402): The ignition input changes level, acting as a wake source or starting the ignition-off delay. -/
  | ignChange (t : Nat) (level : Bool)
  /-- POWER_UP_START (R400): A start accepted in STANDBY brings the domains up in order and enters BOOT. -/
  | powerUpStart (t : Nat) (supplyMs : Nat)
  /-- AO_SWITCH_TO_BACKUP (R405): VAO below VBAT or 2.7 V switches the always-on domain to the backup cell. -/
  | aoSwitchToBackup (t : Nat) (vao : Nat) (vbat : Nat)
  /-- AO_RETURN_TO_MAIN (R405): VAO held above its threshold for 2 ms returns the always-on domain to main. -/
  | aoReturnToMain (t : Nat) (vao : Nat) (vbat : Nat) (heldUs : Nat)
  /-- CANARY_FLIP (R407): The always-on domain voltage falling below 1.6 V flips the retention canary. -/
  | canaryFlip (t : Nat) (mv : Nat)
  /-- VBAT_MEASURE (R409): The backup cell is measured under load and LOWBAT set with event 227 below 2.5 V. -/
  | vbatMeasure (t : Nat) (mv : Nat)
  /-- XO32_STOP (R410): No 32.768 kHz edge for 4 ms sets OSCSTOP and UNTRUST. -/
  | xo32Stop (t : Nat)
  /-- ROO_TICK0_READ (R412): A read of ROO_TICK0 copies the count into the reader's shadow and freezes it. -/
  | rooTick0Read (t : Nat) (ident : Fin 16)
  /-- ROO_TICK2_READ (R412): A read of ROO_TICK2 returns shadow bits [47:32] and ends the freeze. -/
  | rooTick2Read (t : Nat) (ident : Fin 16)
  /-- ROO_LOAD (R413): Writing LOAD sets LOADPEND for a load of ROO_SET at the next tick edge. -/
  | rooLoad (t : Nat)
  /-- ROO_LOAD_APPLY (R413): At the tick edge ROO_SET is loaded into the count, UNTRUST clears and event 228 is raised. -/
  | rooLoadApply (t : Nat)
  /-- ROO_ALARM (R415): The count reaching ROO_ALM with ALMEN = 1 fires the alarm and sets ALMF. -/
  | rooAlarm (t : Nat)
  /-- CALENDAR_SECOND (R473): Every 32,768 trimmed ticks the calendar advances its fields with carries. -/
  | calendarSecond (t : Nat)
  /-- CALENDAR_WRITE (R476): A calendar field write sets the field, clears the divider for SEC and raises event 247 for invalid values. -/
  | calendarWrite (t : Nat) (f : CalField) (v : Word)
  /-- OSC_JUDGE_WINDOW (R422): An oscillator judgement window ends and the oscillator is judged stable or failed. -/
  | oscJudgeWindow (t : Nat) (o : Fin 4) (count : Nat)
  /-- CLK_FREQ_WRITE (R429): A FREQ write starts a domain relock, or is refused with event 31. -/
  | clkFreqWrite (t : Nat) (d : Fin 17) (v : Word)
  /-- PLL_LOCK (R428): A relocking PLL reports lock and window checking begins. -/
  | pllLock (t : Nat) (d : Fin 17)
  /-- RELOCK_WINDOW (R428): An 8 µs check window ends; two passes switch the domain back to its PLL with event 29. -/
  | relockWindow (t : Nat) (d : Fin 17) (ok : Bool)
  /-- RELOCK_TIMEOUT (R428): No lock in 500 µs or eight failed windows leave the domain parked, set LOCKFAIL and raise event 30. -/
  | relockTimeout (t : Nat) (d : Fin 17)
  /-- RELOCK_RETRY (R428): Every 100 ms a failed relock is retried from PLL reprogramming. -/
  | relockRetry (t : Nat) (d : Fin 17)
  /-- PLL_LOCK_LOSS (R428): A PLL losing lock parks its domain and starts a relock. -/
  | pllLockLoss (t : Nat) (d : Fin 17)
  /-- BLOCK_SLEEP (R431): A block idle for IDLE cycles enters SLEEP. -/
  | blockSleep (t : Nat) (b : Fin 21)
  /-- CLK_OBS_WRITE (R434): A CLK_OBS_CFG write selects the CLKOBS source and divisor, or sets REJ above 100 MHz. -/
  | clkObsWrite (t : Nat) (v : Word)
  /-- MODE_REQUEST (R439): A write to GLB_MODE_REQ.TARGET is accepted and sets PEND, or refused with a REASON. -/
  | modeRequest (t : Nat) (v : Word)
  /-- MODE_CHANGE_EFFECT (R440): At the next whole millisecond the new mode takes effect and event 41 is raised. -/
  | modeChangeEffect (t : Nat)
  /-- IGNITION_OFF_TIMEOUT (R441): IGN low for IGNOFF_S seconds begins an orderly entry to STANDBY. -/
  | ignitionOffTimeout (t : Nat)
  /-- BOOT_ENTRY (R442): At BOOT entry the boot ROM samples straps, reads BOOTCNT and chooses the boot set or RECOVERY. -/
  | bootEntry (t : Nat) (rcvLow : Bool) (svcLow : Bool)
  /-- BOOT_STEP_COMPLETE (R443): A load step of the start-up sequence completes and sets its LOADED bit, the last setting READY. -/
  | bootStepComplete (t : Nat) (step : Fin 12) (ok : Bool)
  /-- BOOT_GOOD (R445): Writing GOOD while READY and the watchdog runs sets BOOTCNT to 0 and GOODSEEN. -/
  | bootGood (t : Nat) (v : Word)
  /-- BOOT_WATCHDOG_EXPIRY (R445): The boot watchdog expiring without GOOD fails the boot. -/
  | bootWatchdogExpiry (t : Nat)
  /-- RECOVERY_TFTP_REQUEST (R447): A TFTP request to the recovery ROM is accepted as a write of fv7204.pltu or answered with an error. -/
  | recoveryTftpRequest (t : Nat) (write : Bool) (file : List Byte) (octet : Bool) (blksize : Option Nat) (size : Option Nat)
  /-- RECOVERY_TFTP_DATA (R447): A TFTP data block of the container is received and acknowledged. -/
  | recoveryTftpData (t : Nat) (blk : Nat) (data : List Byte)
  /-- RECOVERY_CAN_START (R448): A CAN START frame gives the container length and is answered. -/
  | recoveryCanStart (t : Nat) (data : List Byte)
  /-- RECOVERY_CAN_DATA (R448): A CAN DATA frame delivers six bytes in sequence and is answered. -/
  | recoveryCanData (t : Nat) (data : List Byte)
  /-- RECOVERY_CAN_END (R448): A CAN END frame ends the download and is answered after the check and write. -/
  | recoveryCanEnd (t : Nat) (data : List Byte)
  /-- RECOVERY_DOWNLOAD_DONE (R449): A downloaded container is checked and written to slot A and NOR, setting BOOTCNT to 0. -/
  | recoveryDownloadDone (t : Nat) (sigOk : Bool) (written : Bool)
  /-- RECOVERY_EXIT (R449): With a download written and RCV_N high the ROM enters BOOT through a hub reset. -/
  | recoveryExit (t : Nat) (rcvHigh : Bool)
  /-- UPDATE_STAGE (R452): STAGE starts reading and checking a Pletu container into the inactive slot. -/
  | updateStage (t : Nat) (v : Word) (sigOk : Bool)
  /-- UPDATE_STAGE_DONE (R452): A stage ends, setting STAGED with event 236 or REFUSED with event 239. -/
  | updateStageDone (t : Nat) (sigOk : Bool)
  /-- UPDATE_ARM (R454): ARM arms the staged set for activation at T_upd, or is refused. -/
  | updateArm (t : Nat) (v : Word)
  /-- UPDATE_DISARM (R454): DISARM clears an armed activation up to 1 s before T_upd. -/
  | updateDisarm (t : Nat) (v : Word)
  /-- UPDATE_DISCARD (R454): DISCARD drops a staged set that is not armed. -/
  | updateDiscard (t : Nat) (v : Word)
  /-- UPDATE_ACTIVATION (R455): At T_upd the module activates the staged slot and enters STANDBY, or defers with event 237. -/
  | updateActivation (t : Nat)
  /-- LEGACY_PERIPHERAL_ACCESS (R465): A legacy-core access to the HM-330 map is served by the module's own hardware. -/
  | legacyPeripheralAccess (t : Nat) (op : LegacyOp)
  /-- LEGACY_UNEMULATED_ACCESS (R466): An access to the flash controller or a store to code records the address and raises event 245 or 246. -/
  | legacyUnemulatedAccess (t : Nat) (addr : Word) (store : Bool)
  /-- LEGACY_WATCHDOG_EXPIRY (R472): The legacy watchdog expiring resets the legacy core, turns its outputs off and raises event 244. -/
  | legacyWatchdogExpiry (t : Nat)
  /-- ETH_FRAME_RECEIVED (R486): A received Ethernet frame is consumed by the module or written to the receive ring. -/
  | ethFrameReceived (t : Nat) (p : Fin 9) (frame : List Byte) (fcsOk : Bool) (sfdNs : Nat)
  /-- ETH_TX_WPTR_WRITE (R484): A write to a transmit ring's WPTR is accepted within range, or sets RINGERR. -/
  | ethTxWptrWrite (t : Nat) (p : Fin 9) (v : Word)
  /-- ETH_FRAME_SEND (R485): The module sends the transmit slot at RPTR and advances RPTR. -/
  | ethFrameSend (t : Nat) (p : Fin 9) (fell : Bool)
  /-- ETH_LINK_CHANGE (R489): A port's link going down or up raises event 233. -/
  | ethLinkChange (t : Nat) (p : Fin 9) (up : Bool) (speed : Fin 4)
  /-- PTP_MESSAGE_RECEIVED (R487): An 802.1AS message is consumed for path delay, best master and time. -/
  | ptpMessageReceived (t : Nat) (p : Fin 8) (m : PtpMessage)
  /-- PTP_SYNC_SEND (R487): At its sync interval the module sends a two-step Sync. -/
  | ptpSyncSend (t : Nat) (p : Fin 8)
  /-- UNIT_RECORD_RECEIVED (R492): A unit record from a member's source sets that member's epoch, digest and LOCALCHG. -/
  | unitRecordReceived (t : Nat) (can : Bool) (port : Nat) (src : Nat) (payload : List Byte)
  /-- MACHINE_DIGEST_UPDATE (R492): After each root publication the machine digest is recomputed from its 32 child records. -/
  | machineDigestUpdate (t : Nat)
  /-- MACHINE_RECORD_SEND (R492): A machine record is sent after each machine-digest computation. -/
  | machineRecordSend (t : Nat)
  /-- MEMBER_MISSING (R493): A member silent for 1 s becomes missing and raises event 232. -/
  | memberMissing (t : Nat) (i : Fin 32)
  /-- FLEET_RECORD (R494): Every FLEET_S seconds a signed fleet record is written to the fleet ring. -/
  | fleetRecord (t : Nat)
  /-- IDENTITY_CHALLENGE (R497): An identity challenge is answered with a signed response, or ignored beyond 4 per second. -/
  | identityChallenge (t : Nat) (path : Fin 10) (payload : Challenge)
  /-- ANCHOR_CHALLENGE (R499): The module sends an anchor challenge with a fresh random challenge. -/
  | anchorChallenge (t : Nat)
  /-- ANCHOR_RESPONSE (R499): An anchor response is verified and sets BSTATE to OK or MISMATCH. -/
  | anchorResponse (t : Nat) (payload : List Byte) (okRec : Bool) (okNew : Bool)
  /-- BINDING_ABSENT (R499): No anchor response within 10 s of READY sets BSTATE to ABSENT. -/
  | bindingAbsent (t : Nat)
  /-- SESSION_NONCE_DRAW (R500): A read of FLT_SES_NONCE[0] draws a fresh 32-byte nonce. -/
  | sessionNonceDraw (t : Nat)
  /-- SESSION_EXPIRY (R500): An open service session ends when its validity expires. -/
  | sessionExpiry (t : Nat)
  /-- ID_SIGN (R502): ID_SIGN writes an identity response for a challenge in BUF. -/
  | idSign (t : Nat) (c : Fin 4096) (tag : Nat) (ecc : Bool)
  /-- SESSION_OPEN (R502): SESSION_OPEN verifies a token and opens a service session. -/
  | sessionOpen (t : Nat) (c : Fin 4096) (tag : Nat) (ecc : Bool) (sigOk : Bool)
  /-- SESSION_CLOSE (R502): SESSION_CLOSE ends the open service session. -/
  | sessionClose (t : Nat) (c : Fin 4096) (tag : Nat)
  /-- REBIND (R501): REBIND challenges the new anchor and on proof writes the machine binding record. -/
  | rebind (t : Nat) (c : Fin 4096) (tag : Nat) (ecc : Bool)
  /-- REBIND_TIMEOUT (R502): No anchor proof within 10 s completes REBIND with FAULT_ACCESS, DETAIL 3. -/
  | rebindTimeout (t : Nat) (c : Fin 4096) (tag : Nat)
  /-- DSP_ON (R509): Writing ON starts the panel power-on sequence. -/
  | dspOn (t : Nat)
  /-- DSP_OFF (R510): Writing OFF starts the panel power-off sequence. -/
  | dspOff (t : Nat)
  /-- DSP_LINK_TRAINING (R509): At HPD high or 200 ms after ON the eDP link training starts. -/
  | dspLinkTraining (t : Nat)
  /-- DSP_TRAINING_END (R509): Link training ends in success, or fails with event 240 and a retry each second. -/
  | dspTrainingEnd (t : Nat) (ok : Bool)
  /-- DSP_HPD_CHANGE (R514): HPD falling while the panel is on starts retraining. -/
  | dspHpdChange (t : Nat) (level : Bool)
  /-- DSP_VERTICAL_START (R508): At each vertical start a frame is scanned out, black frames first after power-on. -/
  | dspVerticalStart (t : Nat) (late : List Nat)
  /-- DSP_BACKLIGHT_DELAY (R509): BLDLY after scan-out begins the backlight enable goes high. -/
  | dspBacklightDelay (t : Nat)
  /-- MUL_LIMIT_END (R311): Current limiting of a Mule channel ends when the load current falls below ILIM, clearing MUL_CH_STAT.ILIM and ending the limiting episode. -/
  | mulLimitEnd (t : Nat) (n : Fin 64) (ma : Nat)
  /-- OX_RAIL_CLAMP_END (R290): The boost rail falls back to 58 V or below, the active clamp stops and OX_GLB_STAT.CLAMP clears, ending the clamp episode. -/
  | oxRailClampEnd (t : Nat) (vb : Nat)
  /-- ANTENNA_BIAS_FAULT_END (R216): The antenna bias current returns within range, clearing ANTOPEN or ANTSHORT and ending the event 134 episode. -/
  | antennaBiasFaultEnd (t : Nat) (ua : Nat)
  /-- BACKUP_CELL_GIVES_OUT (R406): The backup cell collapses while the always-on domain waits on backup, the blocking path opens and the domain runs on its hold-up capacitance. -/
  | backupCellGivesOut (t : Nat)
  deriving DecidableEq, Repr

end Sys2Proof
end

