-- ==== Sys2Proof/Decode.lean ====
section
/-!
DEFINITION. Decode.lean: the commands that words spell. No row of the spec's table gives bits (each has
an empty list of fields), so no word spells a command.
-/

namespace Sys2Proof

/-- The command that a word of the table's bits spells: no row of the table gives bits. -/
def decodeTableWord (_nbits _w : Nat) : Option Instr := none

end Sys2Proof
end

