-- ==== Sys2Proof/Config.lean ====
section
/-!
DEFINITION. Config.lean: what the spec leaves open and the model leaves free. Each constant has no
body, so nothing can be proved of its value; a claim about it holds for every value.
-/

namespace Sys2Proof

/-- The n-th value that the spec leaves open, of width w. The machine draws a fresh index for each
such value from the plain counter `State.freeCtr` (log entry 11). -/
opaque Config.freeValue (w : Nat) (n : Nat) : BitVec w

/-- The ECDSA P-256 signature, r then s, that this module's identity key makes over a message with the
deterministic nonce of RFC 6979 (R491, R494, R496): the key leaves no trace in the spec, so its
signatures are a function of the message and nothing more (log entry 22). -/
opaque Config.identitySignature (message : List (BitVec 8)) : BitVec 512

/-- Does a brick segment of a tile hold the recurrent state of fusion network k (R164, R267)? The spec
places that state "in the network's brick segments" and does not say in which (log entry 25). -/
opaque Config.recurrentSegment (k tile segment : Nat) : Bool

/-- Corrected memory errors of a source (tile 0 to 127, or 128 for the Goose) in the tally period that
boundary `seq` of the start at `boot` closed (R58, R333): how often a bit upset is corrected is not the
spec's to say, and no command stands for one (log entry 26). -/
opaque Config.correctedErrors (source seq boot : Nat) : BitVec 8

end Sys2Proof
end

