-- ==== Sys2Proof/Machine/State.lean ====
section
/-!
DEFINITION. Machine/State.lean: everything the spec gives the FV-7204, as plain data. The set-up
registers of R536 are one canonical map `regs` from offset to stored word (an unlisted offset reads
its Reset column); what no register shows stands in the block structures below, each field with the
rule that names it. Instants are picoseconds on one free-running timeline (log entry 1).
-/

namespace Sys2Proof.Machine

/-- A field of a set-up register: register offset, lowest bit, width (R4, R7). -/
structure Fld where
  off : Nat
  lo : Nat
  width : Nat
  deriving DecidableEq, Repr, Inhabited

/-- The type codes of R8. No register of the map carries WO1. -/
inductive FieldType
  | rw | ro | wo | w1c | w1s | rwl
  deriving DecidableEq, Repr, Inhabited

/-- One dimension of an array register: entry count and stride in bytes. -/
structure Dim where
  count : Nat
  stride : Nat
  deriving DecidableEq, Repr, Inhabited

/-- A field's place and type inside its register. -/
structure FieldSpec where
  lo : Nat
  width : Nat
  ty : FieldType
  deriving DecidableEq, Repr, Inhabited

/-- A register or array register of R536: offset of its first entry, dimensions, fields. -/
structure RegSpec where
  base : Nat
  dims : List Dim
  fields : List FieldSpec
  deriving DecidableEq, Repr, Inhabited

/-- The reset value of a register or array register whose Reset column is not zero (R10). -/
structure ResetSpec where
  base : Nat
  dims : List Dim
  value : Nat
  deriving DecidableEq, Repr, Inhabited

/-- The eight modes of R21. -/
inductive Mode
  | backup | standby | boot | recovery | compat | field | road | service
  deriving DecidableEq, Repr, Inhabited

/-- Why a step stops. No command of this model stops: every happening the spec describes has its
effect, and one whose governing condition does not hold leaves the machine as it is (log entry 3).
The constructor exists because the interface asks for a closed type. -/
inductive Fault
  /-- Raised by no command (safe: it is never answered). -/
  | none
  deriving DecidableEq, Repr

/-- Why a command has no meaning in the model. -/
inductive Refusal
  /-- Raised by the dispatch arm of a command that the model has not reached (safe: the run stops). -/
  | notModelled (mnemonic : String)
  deriving DecidableEq, Repr

/-! ### Contexts, operations, events, tallies (chapter 9) -/

/-- An unconsumed completion record: when it was written, and whether it counts towards the
interrupt condition at once (R242). -/
structure RecMark where
  at_ : Nat
  now : Bool
  deriving DecidableEq, Repr, Inhabited

/-- The pointers of one context (R224), its unconsumed records and its interrupt line (R242).
STATE, CLASS and the ring registers stand in the CTX registers. -/
structure CtxSt where
  sqTail : Nat
  sqHead : Nat
  cqTail : Nat
  cqHead : Nat
  recs : List RecMark
  line : Bool
  /-- CTX_COAL as of the last completion written (R223) -/
  cnt : Nat
  timeUs : Nat
  deriving DecidableEq, Repr, Inhabited

/-- Where an operation in flight stands (R232, R233): read but not started, registered in the wait
table (R270), or started. -/
inductive OpPhase
  | queued | waiting | started
  deriving DecidableEq, Repr, Inhabited

/-- An operation in flight (R231, R233): its context, class, descriptor words, the instant its
descriptor was read, its deadline (R253), its phase, and, once started, the outcome that its
completion will report (R239). `aux` ties it to what it waits for: a Hen record's SEQ, a route. -/
structure Op where
  ctx : Nat
  cls : Nat
  w0 : Flit
  w1 : Flit
  w2 : Flit
  w3 : Flit
  readAt : Nat
  deadline : Nat
  phase : OpPhase
  startAt : Nat
  ready : Bool
  code : Nat
  detail : Nat
  result : Nat
  aux : Nat
  /-- when DRAM has served its tokens (R259) -/
  tokensAt : Nat
  deriving DecidableEq, Repr, Inhabited

/-- Host rings, events, tally periods and RESYNC (R219 to R251). -/
structure HostSt where
  /-- the contexts' pointers and lines, by context number (R224, R242) -/
  ctx : Sparse CtxSt
  /-- the operations in flight, in the order their descriptors were read (R233) -/
  ops : List Op
  /-- the context last read in each class, plus 1 (the round robin of R230) -/
  lastRead : Sparse Nat
  /-- raise count of each event since BOOT entry (R244) -/
  raises : Sparse Nat
  /-- the period counters running towards the next tally boundary, by 32 * offset + lowest bit (R245) -/
  tally : Sparse Nat
  /-- happenings already reported in this tally period: (event, index) (R229, R243, R254, R387) -/
  once : List (Nat × Nat)
  /-- the last tally boundary, in ms of module time (R245) -/
  tallyLast : Nat
  /-- the next tally boundary, in ms of module time -/
  tallyNext : Nat
  /-- the period in force, ms (R246) -/
  tallyPeriod : Nat
  /-- the RESYNC summary taken and not yet written, with its address (R247) -/
  summary : List Byte
  summaryAddr : Nat
  /-- SEQ of the last summary taken, modulo 2^32 (R248) -/
  summarySeq : Nat
  deriving DecidableEq, Repr, Inhabited

/-! ### Quotas, holdings, waits (chapter 10) -/

/-- A holding: the holding context plus 1 (0: free) and the instant of the grant (R266, R268). -/
structure Hold where
  owner : Nat
  grantedAt : Nat
  deriving DecidableEq, Repr, Inhabited

/-- A registered wait (R270): context, tag, class, kind, tile, count or index. -/
structure Wait where
  ctx : Nat
  tag : Nat
  cls : Nat
  kind : Nat
  tile : Nat
  count : Nat
  index : Nat
  deriving DecidableEq, Repr, Inhabited

/-- Quotas, holdings and the wait table (R261 to R273). -/
structure QosSt where
  /-- quota of context c and kind k at 16 * c + k, as the difference from its reset value being
  listed; an unlisted entry reads the reset value of R263 -/
  quota : Sparse (Option Nat)
  /-- brick segments, at 448 * tile + segment (R57) -/
  segs : Sparse Hold
  slots : Sparse Hold
  routes : Sparse Hold
  dma : Sparse Hold
  /-- DMA channels that a RECLAIM frees when their transfer ends (R267) -/
  ending : List Nat
  /-- the wait table, in the order of registration -/
  waits : List Wait
  /-- until when the DRAM tokens of each class are taken (R259) -/
  dramTo : Sparse Nat
  deriving DecidableEq, Repr, Inhabited

/-! ### Module-written rings (R53) -/

/-- A ring that follows R53: the base and size sampled when EN went to 1, and the records that wait
in its internal buffer, oldest first. Its pointers stand in its PTR register. -/
structure RingSt where
  base : Nat
  log2 : Nat
  buf : List (List Byte)
  deriving DecidableEq, Repr, Inhabited

/-! ### Hen (chapter 16) -/

/-- A Hen record (R382). -/
structure HenRec where
  seq : Nat
  hours : Nat
  pcyc : Nat
  sev : Nat
  host : Bool
  event : Nat
  arg : Nat
  time : Nat
  repeats : Nat
  delay : Nat
  deriving DecidableEq, Repr, Inhabited

/-- An MRAM slot that holds a record: the record, and whether its first MRAM write has begun (R387). -/
structure HenSlot where
  record : HenRec
  written : Bool
  madeAt : Nat
  cls : Nat
  deriving DecidableEq, Repr, Inhabited

/-- An entry of the write queue (R388): the record's SEQ, the class, and the REPEAT to write (absent
while the record is open: it is then read at the write). -/
structure HenWrite where
  seq : Nat
  cls : Nat
  repeats : Option Nat
  deriving DecidableEq, Repr, Inhabited

/-- The Hen (R382 to R395). The slots, SEQ, HOURS and PCYC stand in MRAM. -/
structure HenSt where
  slots : Sparse (Option HenSlot)
  nextSeq : Nat
  hours : Nat
  pcyc : Nat
  /-- SEQ of the open record, its REPEAT in hub SRAM, and when it was made (R386) -/
  openSeq : Option Nat
  openRepeat : Nat
  openAt : Nat
  queue : List HenWrite
  /-- the instants at which the tokens now out were taken (R388) -/
  tokens : List Nat
  /-- slots that failed the start scan and are overwritten first (R385) -/
  badSlots : List Nat
  /-- SEQ of the record in the window (R389) -/
  shown : Option Nat
  deriving DecidableEq, Repr, Inhabited

/-! ### Power, always-on domain, Rooster (chapter 17) -/

/-- A write to a calendar field in the present AO cycle: the value before it, and whether the legacy core made
it (R478). -/
structure CalWrite where
  field : CalField
  old : Nat
  legacy : Bool
  deriving DecidableEq, Repr, Inhabited

/-- Supply, wake sources and always-on domain (R396 to R416). -/
structure PwrSt where
  /-- level of the ignition input (R402) and the instant it went low -/
  ign : Bool
  ignLowAt : Nat
  /-- CAN wake patterns held until the start they cause, bit n for controller n (R402) -/
  canWake : Nat
  /-- entry instant of the CRANK episode (R397) -/
  crankAt : Nat
  /-- lowest supply of the episode, 0.1 V (PWR_LASTOFF.MINV) -/
  minV : Nat
  /-- the always-on domain runs on its hold-up capacitance since (R406) -/
  holdup : Option Nat
  /-- the retention canary (R407): true when flipped -/
  canary : Bool
  /-- events to raise at the next BOOT entry: crystal stopped (R410), alarm fired (R415) -/
  stopPending : Bool
  alarmPending : Bool
  /-- the crystal runs (R410); raw crystal ticks `rawBase` at instant `rawSince` (R411) -/
  xoRuns : Bool
  rawBase : Nat
  rawSince : Nat
  /-- trimmed ticks `trimBase` at raw tick `trimRaw` (R414) -/
  trimBase : Nat
  trimRaw : Nat
  /-- the count is the trimmed ticks plus this, modulo 2^48 (R411, R413) -/
  loadOfs : Nat
  /-- raw ticks when LOAD was written (R413) -/
  loadRaw : Nat
  /-- raw ticks when the alarm was last armed or its value written (R415) -/
  almRaw : Nat
  /-- calendar fields written in the AO cycle of `calWroteAt`, and the instant a cause last set OSF (R478) -/
  calWrote : List CalWrite
  calWroteAt : Nat
  osfAt : Option Nat
  /-- the 100 ms update of PWR_TEMP last shown, plus 1 (R531) -/
  tempAt : Nat
  /-- tick shadows by master identity: count plus 1 while frozen (R412) -/
  shadow : Sparse Nat
  /-- trimmed ticks at the last calendar second (R473, R476) -/
  calBase : Nat
  /-- the positions of the sealed switches S1 to S8 (R332) -/
  switches : Byte
  deriving DecidableEq, Repr, Inhabited

/-! ### Clocks (chapter 18) -/

/-- A relock in progress (R428): the start of its attempt, or of its failure; lock reported, the start of
the present 8 µs window, consecutive good windows, failed windows; failed and awaiting the retry. -/
structure Relock where
  startAt : Nat
  locked : Bool
  windowAt : Nat
  passes : Nat
  fails : Nat
  failed : Bool
  deriving DecidableEq, Repr, Inhabited

/-- Oscillator judgement and relocks (R422, R428): consecutive good and bad windows by oscillator, a mask
of oscillators that have failed since power-up, relocks by domain. -/
structure ClkSt where
  good : Sparse Nat
  bad : Sparse Nat
  hasFailed : Nat
  relock : Sparse (Option Relock)
  /-- every reference is lost and module time counts the parking clock (R426) -/
  refLost : Bool
  /-- the last request to each block of the set-up map (R431) -/
  workAt : Sparse Nat
  deriving DecidableEq, Repr, Inhabited

/-! ### Tiles, mortar, routes, digests (chapter 3) -/

/-- A route entry in the layout of MOR_RT_ACTIVE0 and MOR_RT_ACTIVE1 (R88). -/
structure RouteEntry where
  w0 : Word
  w1 : Word
  deriving DecidableEq, Repr, Inhabited

/-- A stream route (R71 to R74): its entries, the links each is placed on as (bundle, link) pairs
(R60), the pending change, and the old route that still carries a frame or an end-of-stream packet. -/
structure RouteSt where
  active : RouteEntry
  activeLinks : List (Nat × Nat)
  staged : RouteEntry
  stagedLinks : List (Nat × Nat)
  pend : Bool
  pendAt : Nat
  /-- the ROUTE_COMMIT descriptor that waits for the switch: context, tag (R237) -/
  waiter : Option (Nat × Nat)
  switched : Bool
  rej : Bool
  refused : Bool
  /-- the source has begun a frame on the active entry and not ended it -/
  open_ : Bool
  /-- the entry before the last switch, while a frame of it is in flight or its reservation is held (R73):
  its links, whether that frame is in flight, and whether the reservation is held -/
  old : Option RouteEntry
  oldLinks : List (Nat × Nat)
  oldOpen : Bool
  oldHeld : Bool
  /-- destinations still owed an end-of-stream packet (R73) -/
  eosDue : List Nat
  /-- the route ends under R267 and its holding with it -/
  releasing : Bool
  /-- an activation's entry that waits for the first frame boundary (R86), and its links -/
  next : Option RouteEntry
  nextLinks : List (Nat × Nat)
  /-- shaping at the source: the instant at which all flits sent so far have passed at BW (R69) -/
  tat : Nat
  deriving DecidableEq, Repr, Inhabited

/-- What a tile has received on a route: the last flit, when its last byte arrived, the flit before
it, how many have arrived, and whether the stream has ended (R119 step 3, R121). -/
structure StreamIn where
  flit : Flit
  at_ : Nat
  prev : Option Flit
  count : Nat
  ended : Bool
  deriving DecidableEq, Repr, Inhabited

/-- A packet on the mortar: its flits as sent (R62), its stream and destination, the links it takes as
(bundle, link) pairs (R60), and when its header leaves the source port (R69). -/
structure Flight where
  words : List Flit
  stream : Nat
  dst : Nat
  links : List (Nat × Nat)
  left : Nat
  deriving DecidableEq, Repr, Inhabited

/-- Tiles and mortar (R55 to R87). -/
structure MorSt where
  routes : Sparse (Option RouteSt)
  /-- packets that a source has emitted and that have not arrived, in order -/
  flight : List Flight
  /-- read responses for which an endpoint has reserved buffer space: (endpoint, address) (R64) -/
  awaited : List (Nat × Nat)
  /-- packets to unused endpoints, counted as route faults (R61) -/
  routeFaults : Nat
  /-- what tile t has received on route r, at 4096 * t + r -/
  streams : Sparse (Option StreamIn)
  /-- stored images of tile units 0 and 1, at 5 * t + u (R77) -/
  images : Sparse (List Byte)
  /-- bits of stored images changed outside the paths of R79: (unit, byte offset, flipped bits) -/
  upsets : List (Nat × Nat × Nat)
  /-- poisoned brick words: flipped bits at 131072 * tile + 16-byte word index (R58) -/
  poison : Sparse Nat
  /-- bytes of bricks 0 to 13, at 2^21 * tile + 2^17 * brick + offset (R57) -/
  bricks : Sparse Byte
  /-- staged images of the units that the staged set changes, by unit (R83) -/
  staged : Sparse (Option (List Byte))
  /-- staged route entries (R83, R237) -/
  stagedRoutes : Sparse (Option RouteEntry)
  /-- T_act of the armed activation, ns of module time (R84) -/
  actAt : Nat
  /-- start of the sweep in progress, module ms (R80) -/
  sweepAt : Option Nat
  /-- units in a mismatch episode (R81) -/
  mismatched : List Nat
  /-- digests of courses 0 to 15 and slabs 16 to 19 from the last sweep (MOR_NODE_DIG) -/
  nodeDigest : Sparse Nat
  nodeEpoch : Nat
  deriving DecidableEq, Repr, Inhabited

/-! ### Control engine and speculative frames (chapters 4 and 5) -/

/-- A latched or predicted input value: Q15, validity, the sample number its flit carried, and the
tags it holds (R119, R132, R140). -/
structure LoopIn where
  val : Int
  valid : Bool
  sample : Nat
  tags : List (Nat × Nat)
  deriving DecidableEq, Repr, Inhabited

/-- What one evaluation produces: outputs with validity, the new words 16 to 18, and whether a
40-bit saturation occurred (R102 to R109). -/
structure EvalOut where
  outs : List Int
  valids : List Bool
  w16 : Nat
  w17 : Nat
  w18 : Nat
  sat : Bool
  deriving DecidableEq, Repr, Inhabited

/-- An evaluation on latched inputs: whether it is a correction pass, when it joined the queue, when it
started, whether it is complete, and its result (R114, R115, R136). -/
structure Eval where
  pass : Bool
  readyAt : Nat
  startedAt : Option Nat
  complete : Bool
  out : EvalOut
  deriving DecidableEq, Repr, Inhabited

/-- A speculative frame (R130 to R140). `replay`: dropped and to be released again; `sentOut`: the
output of the SPEC packet that readers hold; `recompute`: discarded under R86 or R113. -/
structure Frame where
  sample : Nat
  replay : Bool
  released : Bool
  startedAt : Option Nat
  complete : Bool
  confirmed : Bool
  inputs : List LoopIn
  tags : List (Nat × Nat)
  out : EvalOut
  sentOut : Option EvalOut
  recompute : Bool
  /-- it read a poisoned word (R122) -/
  poisoned : Bool
  deriving DecidableEq, Repr, Inhabited

/-- What a slot last put on its output phase, and what a local input reads of it (R119 step 3). -/
structure LoopOut where
  vals : List Int
  valids : List Bool
  hold : Bool
  safe : Bool
  sample : Nat
  deriving DecidableEq, Repr, Inhabited

/-- A sample between its instant and its output phase (R119): its number and instant (ps of module
time), the record words 0 to 7 it runs on, whether it evaluates nothing and puts SAFE_OUT out, its
latched inputs, whether it read a poisoned word, its evaluation, whether its confirm result is due or
found a disagreement, and the loaded output register. -/
structure Sample where
  n : Nat
  at_ : Nat
  words : List Nat
  idle : Bool
  guarded : Bool
  inputs : List LoopIn
  poisoned : Bool
  eval : Option Eval
  awaits : Bool
  disagreed : Bool
  loaded : LoopOut
  deriving DecidableEq, Repr, Inhabited

/-- The running side of a loop slot (R119 to R139); LSTATE, BANK, SWPEND, INSTALE, HOLD and CONSEC
stand in CEN_LSTAT. -/
structure SlotSt where
  /-- samples in progress, oldest first: one, or two around an activation that changes the timing -/
  samples : List Sample
  /-- no sample instant before this instant is evaluated (the 10 µs of R124 and R125) -/
  notBefore : Nat
  /-- a newly enabled slot puts nothing out for sample instants before this one (R125) -/
  quietTo : Nat
  /-- the instant of the latch of the last sample with SPEC = 1, plus 1 (R134) -/
  latchAt : Nat
  /-- the guard at which the slot became FAULTED, until event 64 is raised (R123, R127) -/
  faultDue : Option Nat
  /-- the inputs as last latched, their ages, the deliveries last seen, and stale episodes (R121) -/
  lastIns : List LoopIn
  ages : List Nat
  counts : List Nat
  staleEp : List Bool
  frames : List Frame
  /-- samples whose frame was dropped for a tag (R139) -/
  tagDropped : List Nat
  /-- the last two outputs, the instant of the last, and how many there have been -/
  last : Option LoopOut
  prevOut : Option LoopOut
  lastAt : Nat
  outCount : Nat
  /-- the request of the pending bank exchange, and the LOOP_SWAP that waits for it: context, tag -/
  swapAt : Nat
  swapWaiter : Option (Nat × Nat)
  disabling : Bool
  disableWaiters : List (Nat × Nat)
  satPrev : Bool
  /-- LAST_N, once a sample has been accepted -/
  lastSample : Option Nat
  bound : Nat
  /-- OVR_CUM, SAT_CUM, MISP_CUM, STALE_CUM (word 97) -/
  cum : List Nat
  /-- running OVR, MISP, CORR, SAT, SAMPLES of this tally period, and word 98 as last latched -/
  live : List Nat
  word98 : Nat
  /-- law type or order changed at the activation: state zero at the first sample of E (R86) -/
  zeroState : Bool
  /-- every SAFE cause has ended and the slot returns to RUN (R125) -/
  returning : Bool
  /-- samples lately committed from a confirmed frame, newest first (R135) -/
  commits : List Nat
  deriving DecidableEq, Repr, Inhabited

/-- The control engines (R90 to R148). -/
structure CenSt where
  /-- words of the loop-slot records, at 128 * slot + word, words 0 to 31 (R94) -/
  record : Sparse Nat
  /-- coefficient banks, at 128 * slot + 64 * bank + word (R110) -/
  bank : Sparse Nat
  slot : Sparse (Option SlotSt)
  /-- the record-window shadow (R101) -/
  shadow : Nat
  /-- predicted values received: tile, global slot of the source, sample, outputs with validity (R142) -/
  spec : List (Nat × Nat × Nat × List LoopIn)
  /-- frames known dropped by a DROP packet: (tile, source slot, sample) (R142) -/
  dropped : List (Nat × Nat × Nat)
  /-- DROP packets on their way: tile, source slot, sample, and whether a reader counts it (R139) -/
  drops : List (Nat × Nat × Nat × Bool)
  deriving DecidableEq, Repr, Inhabited

/-! ### What MRAM, NAND and NOR keep (R18, R442 to R458) -/

/-- An image slot or the NOR copy: IMAGE_ID, SVN, the legacy application where it holds one, the tile
microcode and fusion program it loads, and its other components (types 1, 2 and 5 to 8 of R451). -/
structure ImageInfo where
  id : Nat
  svn : Nat
  legacy : Option (List Byte)
  microcode : List Byte
  fusion : List Byte
  others : List (Nat × List Byte)
  deriving DecidableEq, Repr, Inhabited

/-- The configuration store (R444). -/
structure CfgStore where
  regs : Sparse Word
  cal : Sparse Nat
  record : Sparse Nat
  bank : Sparse Nat
  /-- slots whose active bank is bank 1 -/
  activeBank : Sparse Nat
  routes : Sparse (Option RouteEntry)
  segs : Sparse Hold
  epoch : Nat
  localChg : Bool
  deriving DecidableEq, Repr, Inhabited

/-- The machine binding record (R498): MACHINE_ID and the anchor's public key, x then y. -/
structure BindRecord where
  machine : Nat
  key : Nat
  deriving DecidableEq, Repr, Inhabited

/-- Non-volatile state that is not the Hen's. -/
structure NvSt where
  bootCnt : Nat
  /-- the active NAND slot: false A, true B -/
  slotB : Bool
  imageA : Option ImageInfo
  imageB : Option ImageInfo
  nor : ImageInfo
  /-- the first-stage loader in NOR (R18, R449, R458) -/
  loader : List Byte
  /-- host software's file system in NAND, which no command of the table writes (R18, log entry 109) -/
  hostFiles : List Byte
  lastFail : Nat
  minSvn : Nat
  cfg : CfgStore
  /-- a staged set waits in the inactive slot; it failed once it was activated (R452, R458) -/
  staged : Bool
  failedSet : Bool
  /-- the newly active slot has not yet seen the GOOD that settles it (R458) -/
  firstStart : Bool
  /-- the next start is the first on a newly active slot (R458) -/
  newSlot : Bool
  /-- a deferred activation stands (R455) -/
  defer : Bool
  /-- an armed activation kept across power-down: GROUP, reference time T_upd + OFS (R456) -/
  keptArm : Option (Nat × Int)
  /-- an arm was dropped at power-down: event 239 with REASON 9 is due (R456) -/
  armDropped : Bool
  /-- the start that follows is accepted as if a wake source were active (R455) -/
  wakeOwed : Bool
  /-- the machine binding record (chapter 21) -/
  binding : Option BindRecord
  bindCount : Nat
  /-- the fleet sequence number (R494) -/
  fleetSeq : Nat
  deriving DecidableEq, Repr, Inhabited

/-- Start-up, mode changes and updates in progress (R438 to R459). -/
structure BootSt where
  /-- a mode change that takes effect at the next whole ms: target, instant, asked for by a request -/
  pend : Option (Mode × Nat × Bool)
  /-- the effects of BOOT entry have been carried out (R400, R443 step 1) -/
  entered : Bool
  /-- the last step of R443 that has ended -/
  step : Nat
  /-- the boot watchdog runs (R445) -/
  wdRuns : Bool
  /-- the boot set in use (none in RECOVERY) -/
  running : Option ImageInfo
  /-- this start is on a slot whose GOOD is awaited, and is the first one on it (R458) -/
  settling : Bool
  firstOn : Bool
  /-- what takes the module to RECOVERY: event 235 kind 2 or 3 (R446) -/
  recKind : Nat
  /-- T_upd of the arm in force, ns of module time (R454, R456) -/
  updAt : Nat
  /-- T_upd + FUS_TB_OFS of the arm, when the timebase was LOCKED or in HOLDOVER at it (R456) -/
  armRef : Option Int
  /-- kept arm awaiting conversion at the first entry to LOCKED (R456) -/
  toConvert : Option Int
  /-- RECOVERY download: TFTP or CAN, next block or sequence, length, bytes so far (R447, R448) -/
  rxOpen : Bool
  rxNext : Nat
  rxLen : Nat
  rxBytes : List Byte
  rxDone : Bool
  tftpBlk : Nat
  /-- the last answer the recovery ROM gave -/
  answer : List Byte
  deriving DecidableEq, Repr, Inhabited

/-! ### Crop chain (chapter 2) -/

/-- A piezo channel (R34, R35): the end of the open window and the crossings in it; the interval from
which a fault silences the channel, and the interval from which it counts again. -/
structure PiezoSt where
  windowEnd : Option Nat
  crossings : List Nat
  faultFrom : Option Nat
  backFrom : Nat
  deriving DecidableEq, Repr, Inhabited

/-- One 10 ms mass-flow sample (R36): its end in 10 ms units, the total grain flow in µg/s, whether it
is suspect, the K in force, which channels are enabled, the bridge means in nV, and whether each elevator
runs at speed. -/
structure MassSample where
  at10 : Nat
  flow : Nat
  suspect : Bool
  ks : List Nat
  ens : List Bool
  us : List Int
  fast : List Bool
  deriving DecidableEq, Repr, Inhabited

/-- A forecast frame (R42): frame number, T0 in ms, when it was complete (ps), its contents, and the
network's count of resets at the step that fed it (R166). -/
structure FcFrame where
  k : Nat
  t0 : Int
  at_ : Nat
  gap : Bool
  reset : Bool
  dly : List Nat
  speed : Nat
  width : Nat
  gain : Nat
  calver : Nat
  feed : List Nat
  conf : List Nat
  fed : Nat
  deriving DecidableEq, Repr, Inhabited

/-- A yield cell that waits for its delays (R47 to R49): instants in ns of module time. -/
structure YieldCell where
  second : Nat
  fromNs : Nat
  toNs : Nat
  seq : Nat
  width : Nat
  dist : Nat
  lat : Int
  lon : Int
  heading : Nat
  fix : Nat
  isPartial : Bool
  degraded : Bool
  safeStop : Bool
  crop : Nat
  stdMoist : Nat
  epoch : Nat
  dm : Nat
  dw : Nat
  deriving DecidableEq, Repr, Inhabited

/-- The crop chain (R33 to R53). -/
structure CropSt where
  piezo : Sparse PiezoSt
  /-- counted impacts of intervals not yet evaluated: (interval, channel, class 0 NG, 1 NC, 2 NU) -/
  impacts : List (Nat × Nat × Nat)
  /-- the next 100 ms interval to evaluate -/
  lossNext : Nat
  /-- the last ten intervals of group 0 and 1, newest first: loss rate in µg/s, loss in 10^-6 (R39) -/
  loss0 : List (Option Nat × Option Nat)
  loss1 : List (Option Nat × Option Nat)
  /-- published losses, newest first: end of the interval in ms, loss of group 0 and 1 in 10^-6 -/
  published : List (Nat × Option Nat × Option Nat)
  /-- published loss rates of group 0 and 1, µg/s -/
  rate0 : Option Nat
  rate1 : Option Nat
  /-- tank camera: broken-grain share, other-material share, kernel mass in µg; the second, plus 1, of
  their last update, and the network, plus 1, whose program yields them (R40) -/
  tank : Option (Nat × Nat × Nat)
  tankAt : Nat
  tankNet : Nat
  /-- K of each channel as latched for the samples being taken (R36), plus 1 -/
  massK : Sparse Nat
  u0 : Sparse Int
  /-- mass samples, newest first -/
  mass : List MassSample
  /-- end of the last working part, ps of module time (R36) -/
  workEnd : Nat
  /-- start of the running working part, and its end once the mode, the header's engagement or EN has
  ended it, ns of module time (R47) -/
  workFrom : Option Nat
  workTo : Option Nat
  /-- valid moisture readings, newest first: end of the interval in ms, 0.01 % (R37) -/
  moist : List (Nat × Nat)
  lastMoist : Option Nat
  /-- forecast frames, newest first (R42) -/
  frames : List FcFrame
  cells : List YieldCell
  cellSeq : Nat
  /-- what FUS_CROP (0), FUS_CUTW (1) and the epoch (2) read at the start of a second in which they
  changed, newest first: (which, second, value) (R49) -/
  atSecond : List (Nat × Nat × Nat)
  deriving DecidableEq, Repr, Inhabited

/-! ### Sensor timebase and fusion (chapter 6) -/

/-- A candidate reference (R152): consecutive good edges and the last edge, ns of module time. -/
structure EdgeRun where
  count : Nat
  last : Nat
  deriving DecidableEq, Repr, Inhabited

/-- A sample of the propagated motion (R158, R161): instant (ns), ego-motion lanes 0 to 3, pose, FIX, and
the age in ms of the solution the pose rests on. -/
structure Motion where
  at_ : Nat
  ego : List Int
  pose : Pose
  fix : Nat
  age : Nat
  deriving DecidableEq, Repr, Inhabited

/-- A fusion step (R163): trigger instant (ns), step number, frames arrived and frames with a poisoned
word as port masks, the calibration version it uses, and, once started, what it carries: the frames
present, GAP, whether it was reset, and by port the motion interpolated to that frame's mid-exposure. -/
structure FusionStep where
  at_ : Nat
  k : Nat
  arrived : Nat
  started : Bool
  present : Nat
  gap : Bool
  wasReset : Bool
  calver : Nat
  views : List (Nat × Motion)
  deriving DecidableEq, Repr, Inhabited

/-- A fusion network (R162 to R168). -/
structure NetSt where
  steps : List FusionStep
  /-- pending reset causes (R167) -/
  causes : List Nat
  /-- steps in a row that did not complete, and when the last one completed (ns) -/
  missed : Nat
  lastDone : Option Nat
  abandonEp : Bool
  /-- which of the two state buffers is committed, and the recurrent state each holds (R164) -/
  buffer : Bool
  state0 : List Byte
  state1 : List Byte
  /-- track IDs by track slot, plus 1 (R168), and what a slot with an ID last reported -/
  ids : Sparse Nat
  tracks : Sparse TrackOut
  /-- completed steps, newest first: completion instant (ns), step number, GAP, CALVER, and how many
  resets had taken effect (R166) -/
  done : List (Nat × Nat × Bool × Nat × Nat)
  /-- how many resets have taken effect (R166, R167) -/
  resets : Nat
  deriving DecidableEq, Repr, Inhabited

/-- Timebase, triggers, ego-motion, pose, networks, calibration (R149 to R172). -/
structure FusSt where
  gnssRun : EdgeRun
  asRun : EdgeRun
  /-- the last accepted edge (ns of module time), and the bound at it in ns (R151) -/
  lastEdge : Nat
  bound : Nat
  /-- a reference has been LOCKED since BOOT -/
  held : Bool
  /-- OFS was captured at the last edge -/
  captured : Bool
  slewEnd : Nat
  /-- the error being slewed out, ns, and the learnt rate correction, 10^-9 (R149, R151, R152) -/
  slewErr : Int
  rate : Int
  /-- before this instant (ns) generator n does not fire (R157) -/
  trgFrom : Sparse Nat
  /-- the last trigger of generator n: instant (ns) plus 1 -/
  trgLast : Sparse Nat
  /-- last valid ego-motion lanes 0 to 3, and the start of the invalid episode (ns, plus 1) -/
  ego : List Int
  egoBad : Nat
  /-- the complementary filter's pitch and roll, 10^-9 rad (R158), and the filtered slip, 10^-6 (R160) -/
  pitch : Int
  roll : Int
  slip : Int
  /-- propagated pose (R161), and the motion of the last 8 s, newest first (R48, R163) -/
  pose : Pose
  hist : List Motion
  net : Sparse NetSt
  nextTrack : Nat
  /-- calibration: base, in use, last published (R169 to R172), 32-bit two's complement -/
  calBase : Sparse Nat
  calUse : Sparse Nat
  calPub : Sparse Nat
  /-- base values as of the last host publication or the load in BOOT, the middle of the bounds (R170, R171) -/
  calHost : Sparse Nat
  /-- parameters held at their bound since the last host publication (R170) -/
  atBound : List Nat
  deriving DecidableEq, Repr, Inhabited

/-! ### Cameras (chapter 7) -/

/-- A frame of a port (R185 to R194). `settings` are the words of the port's registers +0x0C to +0x3C
at its Frame Start, `cfg`, `fmt` and `tim` those of +0x00 to +0x08; `lines` the received photosites on the
16-bit scale; each tap counts the lines it has done with and those whose data a route carried, and notes
whether it has begun to emit and whether its status packet has left. -/
structure CamFrame where
  at_ : Nat
  f : Nat
  cfg : Nat
  fmt : Nat
  tim : Nat
  settings : List Nat
  lines : List (List Nat)
  closed : Bool
  damage : Nat
  begunA : Bool
  begunB : Bool
  linesA : Nat
  linesB : Nat
  sentA : Nat
  sentB : Nat
  doneA : Bool
  doneB : Bool
  causeA : Nat
  causeB : Nat
  counted : Bool
  statsDone : Bool
  deriving DecidableEq, Repr, Inhabited

/-- A camera port. -/
structure PortSt where
  /-- the frames still in the pipeline, oldest first; an open one is the last -/
  frames : List CamFrame
  orphan : Bool
  /-- trigger instants (ns) with their counts, newest first, for which no frame has opened (R185) -/
  trigs : List (Nat × Nat)
  /-- the trigger pulse last sent on the back-channel: its start and end, ns (R179) -/
  pulse : Option (Nat × Nat)
  /-- photosites that wait in the input buffer (R184) -/
  fill : Nat
  /-- setting words replaced lately: (index, word before, instant of the write in ps) (R197) -/
  held : List (Nat × Nat × Nat)
  linkEp : Bool
  damageEp : Bool
  dropEp : Bool
  i2c : Option Nat
  deriving DecidableEq, Repr, Inhabited

structure CamSt where
  port : Sparse PortSt
  /-- the instant (ns) up to which the pipeline has served the input buffers (R184) -/
  servedAt : Nat
  /-- when HOLD was last written from 0 to 1, ps of module time (R197) -/
  holdAt : Nat
  deriving DecidableEq, Repr, Inhabited

/-! ### GNSS (chapter 8) -/

structure GnsSt where
  epoch : Nat
  /-- the instant of the newest epoch, ns of module time -/
  epochAt : Option Nat
  /-- the newest solution record belongs to the newest epoch (R212) -/
  fresh : Bool
  /-- what the solver yielded at the newest epoch (R205) -/
  sol : GnsSol
  /-- the last solution with FIX ≥ 1, ps of module time; when time became valid -/
  lastFix : Nat
  validFrom : Nat
  /-- a first solution has been reported since the start or the last loss (R202) -/
  firstSeen : Bool
  /-- FIX, position and speed as module functions take them (R212), and when (ps) -/
  fix : Nat
  speed : Nat
  solAt : Nat
  /-- the PPS edge not yet reported: instant in ns, QERR in ps -/
  edge : Option (Nat × Int)
  /-- the edge that the timebase has not taken: instant in ns, GPS second; the last GPS second marked (R209) -/
  due : Option (Nat × Nat)
  lastSec : Option Nat
  /-- the last pulse of PPS_OUT: from, to, ns (R211) -/
  pulse : Option (Nat × Nat)
  /-- satellites (Galileo, PRN) of which a message unit has passed its check (R205, R207) -/
  heard : List (Bool × Nat)
  /-- the elevation of each slot's satellite at the last epoch, 0.01 degree (R201, R215) -/
  elev : Sparse Nat
  deriving DecidableEq, Repr, Inhabited

/-! ### Ox (chapter 11) -/

/-- The fields of an HM-330 valve (R467): setpoint in mA, PWM period in 5 ns steps (0 until the first write, when
the native period stands), dither, PI gains. -/
structure LegacyValve where
  ma : Nat
  period : Nat
  ditherN : Nat
  ditherMa : Nat
  kp : Nat
  ki : Nat
  deriving DecidableEq, Repr, Inhabited

/-- An Ox channel (R282 to R301): instants are ps of module time. -/
structure OxCh where
  /-- command flits not yet applied: arrival, and the lane value; none for a discarded flit (R297) -/
  queue : List (Nat × Option Int)
  /-- the command in force, Q15, and the source slot of the last flit, plus 1 -/
  cmd : Int
  src : Nat
  /-- consecutive periods without a command, and the forced off of R286 -/
  noCmd : Nat
  timedOut : Bool
  /-- forced off by the Goose until a command applies after the cut (R298) -/
  needCmd : Bool
  /-- EN as of the last period start (R301) -/
  live : Bool
  /-- whole periods in a row with duty 0, whether the present period was cut short by a forced off, and
  whether the next driving period is a pull-in request -/
  offPeriods : Nat
  cutShort : Bool
  restart : Bool
  /-- duty applied in the current period, in 5 ns steps (R282) -/
  duty : Nat
  /-- a pull-in: requested, granted, begun (R291 to R294) -/
  req : Option Nat
  granted : Bool
  begun : Option Nat
  /-- dither in force: frequency, amplitude, period index; whether a write has been made since the
  dither period began; sums of the two halves in mA; R in lane units (R285, R287) -/
  dFreq : Nat
  dAmp : Nat
  dIdx : Nat
  dNew : Bool
  posSum : Nat
  negSum : Nat
  r : Int
  /-- duty sums of the last 10 ms spans, newest first, and of the span in progress (R288) -/
  win : List Nat
  acc : Nat
  /-- consecutive periods that meet the OPEN condition (R299) -/
  openCnt : Nat
  /-- the HM-330 valve fields as written, those of the period that runs, and its start (R467) -/
  legacy : LegacyValve
  legacyRun : LegacyValve
  legacyAt : Nat
  deriving DecidableEq, Repr, Inhabited

/-- A token out (R292): its channel, whether it is a reserved one, and when it returns, once begun. -/
structure OxToken where
  ch : Nat
  reserved : Bool
  returnAt : Option Nat
  deriving DecidableEq, Repr, Inhabited

structure OxSt where
  ch : Sparse OxCh
  out : List OxToken
  /-- when the supply was last found below 9 V (R296) -/
  lowAt : Nat
  deriving DecidableEq, Repr, Inhabited

/-! ### Mule (chapter 12) -/

/-- A Mule channel (R305 to R316): instants are ps of module time. -/
structure MulCh where
  cmd : Bool
  src : Nat
  on : Bool
  /-- off by the Goose until a command applies after the cut (R309) -/
  needCmd : Bool
  /-- start of the limiting episode, and whether event 161 has been raised for it -/
  limitAt : Option Nat
  limitLong : Bool
  /-- a thermal shutdown whose retry is awaited, and one that left the channel off (R312) -/
  shutAt : Option Nat
  fault : Bool
  onSince : Nat
  lastLimit : Nat
  offSince : Nat
  /-- consecutive off-state checks that found an open load, or a short to supply -/
  openCnt : Nat
  batCnt : Nat
  /-- the HM-330 diagnosis bit (R468) -/
  diag : Bool
  /-- the last thermal shutdown, ps of module time (R316) -/
  tsdAt : Nat
  deriving DecidableEq, Repr, Inhabited

structure MulSt where
  ch : Sparse MulCh
  /-- when UVLO last changed, ps of module time (R310) -/
  uvloAt : Nat
  deriving DecidableEq, Repr, Inhabited

/-! ### Goose (chapter 13) -/

/-- A safety input (R322 to R326): tripped; whether both contacts have since been seen 0 together; the
start of a discrepancy; its safe-stop causes 1 to 3 and its local trip in force. -/
structure GooIn where
  tripped : Bool
  sawLow : Bool
  discAt : Option Nat
  cause1 : Bool
  cause2 : Bool
  cause3 : Bool
  localTrip : Bool
  deriving DecidableEq, Repr, Inhabited

structure GooSt where
  input : Sparse GooIn
  /-- when output o last changed, ps of module time (R331) -/
  outAt : Sparse Nat
  /-- levels of feedback inputs 0 to 3 (R331) -/
  feedback : BitVec 4
  /-- causes 4 to 8 in force: output test, feedback, sealed switch, host, self-diagnosis (R336) -/
  causes : List Nat
  /-- levels of the eight sealed switches and when a difference from SWBOOT began -/
  swDiff : Option Nat
  /-- speeds from the two frequency inputs, mm/s; pulses of the last ten 10 ms windows, newest first -/
  speedA : Nat
  speedB : Nat
  pulsesA : List Nat
  pulsesB : List Nat
  /-- both below 139 mm/s since (ps, plus 1); differing by more than 20 % since, and agreeing
  since (ps, plus 1) -/
  stillAt : Nat
  discAt : Nat
  agreeAt : Nat
  /-- the Goose application failed its check: outputs stay off and the cut lines asserted (R321) -/
  badApp : Bool
  /-- start of the present or last safe stop, and its last end, ns of module time (R52) -/
  stopFromNs : Nat
  stopEndNs : Nat
  deriving DecidableEq, Repr, Inhabited

/-! ### CAN (chapter 14) -/

/-- A frame that a CAN_TX descriptor has queued (R353, R364): context, tag, one-shot, word 0 of the
element, data. -/
structure CanQueued where
  ctx : Nat
  tag : Nat
  oneShot : Bool
  head : Nat
  data : List Byte
  deriving DecidableEq, Repr, Inhabited

/-- What a controller has on the bus: a transmit buffer (exclusive: R361) or a queued frame. -/
inductive CanOnBus
  | buffer (b : Nat) (exclusive : Bool)
  | queued (q : CanQueued)
  deriving DecidableEq, Repr

/-- Bit-rate detection in progress (R359): candidate, pass, start of the candidate, good frames, start
of the wait for a data rate, data rate found plus 1. -/
structure CanAbd where
  idx : Nat
  pass : Nat
  since : Nat
  good : Nat
  wonAt : Option Nat
  drate : Nat
  deriving DecidableEq, Repr, Inhabited

/-- A CAN controller (R345 to R363): instants are ps of module time. -/
structure CanCh where
  queue : List CanQueued
  onBus : Option CanOnBus
  /-- the frame last put on the bus: word 0 of its element and its data (log entry 10) -/
  wire : Option (Nat × List Byte)
  /-- OFFBUS written to 1 while its own frame is on the bus (R345) -/
  offDue : Bool
  /-- data that waits for a buffer whose frame is on the bus (R355) -/
  waiting : Sparse (Option Flit)
  /-- stores into each dedicated buffer since OFFBUS was last written to 0 (R352) -/
  stores : Sparse Nat
  abd : Option CanAbd
  /-- µs of module time of the last reference message, plus 1; references in a row since a level 3; the arbitrating window; the
  level 3 stop; buffers stored to in this basic cycle; a failure in this matrix cycle (R360 to R362) -/
  refAt : Nat
  refs : Nat
  open_ : Bool
  stopped : Bool
  fresh : Nat
  failed : Bool
  /-- since when recessive bits are awaited, to join or to recover (R345, R357) -/
  waitFrom : Nat
  /-- the CAN clock period of the last store into each dedicated buffer, plus 1 (R350) -/
  storedAt : Sparse Nat
  /-- data that a flit replaced in a requested transmit buffer, and the CAN clock period (R365) -/
  replaced : Sparse (Option (Nat × Nat))
  deriving DecidableEq, Repr, Inhabited

structure CanSt where
  ch : Sparse CanCh
  deriving DecidableEq, Repr, Inhabited

/-! ### Mailboxes (chapter 15) -/

/-- One direction of a channel (R371, R372): pending messages with their SEQ, oldest first, the SEQ of
the next send, and words 0 to 2 as held. -/
structure MbxDir where
  queue : List (Nat × Flit)
  next : Nat
  w0 : Word
  w1 : Word
  w2 : Word
  /-- the last acknowledge: its instant and its slot (R379) -/
  acked : Option (Nat × Nat)
  deriving DecidableEq, Repr, Inhabited

/-- A channel: the direction from side A and from side B, the start of the mutual pending with the
observation time in force, and the episode of R377. -/
structure MbxCh where
  fromA : MbxDir
  fromB : MbxDir
  since : Option (Nat × Nat)
  episode : Bool
  deriving DecidableEq, Repr, Inhabited

structure MbxSt where
  ch : Sparse MbxCh
  deriving DecidableEq, Repr, Inhabited

/-! ### Compatibility (chapter 20) -/

/-- The legacy core's side of COMPAT (R465, R472): RAM, its code image, and watchdog resets since COMPAT
entry. -/
structure CmpSt where
  ram : Sparse Byte
  code : List Byte
  resets : Nat
  /-- the address of the last access outside the map, which took an access fault (R465) -/
  fault : Option Word
  deriving DecidableEq, Repr, Inhabited

/-! ### Machine network, fleet link, identity (chapter 21) -/

/-- A REBIND that waits for its anchor's proof (R501): context, tag, new MACHINE_ID, anchor key, and
the instant it started. -/
structure Rebind where
  ctx : Nat
  tag : Nat
  id : Nat
  key : Nat
  at_ : Nat
  deriving DecidableEq, Repr, Inhabited

/-- Fleet link and identity (R482 to R503): instants are ps of module time. Paths 0 to 8 are the
Ethernet ports, path 9 is CAN. -/
structure FltSt where
  /-- the last frame or message that each path put on its wire (log entry 10) -/
  sent : Sparse (List Byte)
  /-- the machine record as last sent (R494) -/
  lastRecord : List Byte
  /-- MOR_ROOT has been published and the machine digest not yet recomputed; recomputed and the
  machine record not yet sent (R492) -/
  digestDue : Bool
  recordDue : Bool
  /-- arrival of the last valid unit record of member i; members that are not missing; members that
  have been heard since BOOT entry; members whose LOCALCHG is set (R492, R493) -/
  memAt : Sparse Nat
  memHere : List Nat
  memHeard : List Nat
  memLocal : List Nat
  /-- when each path answered challenges, newest first (R497) -/
  answered : Sparse (List Nat)
  /-- the newest anchor challenge and when it was sent (R499, R501) -/
  challenge : Nat
  challengeAt : Option Nat
  /-- READY (R443), from which the binding check runs -/
  readyAt : Option Nat
  /-- the newest nonce has not been used (R500) -/
  nonceFresh : Bool
  sessionEnd : Nat
  rebinds : List Rebind
  /-- arrivals of Sync messages with the grandmaster's interval in ns, newest first, five at most -/
  syncs : List (Nat × Nat)
  /-- the last Sync sent on each port: instant plus 1 -/
  syncSent : Sparse Nat
  deriving DecidableEq, Repr, Inhabited

/-! ### Cluster panel (chapter 22) -/

/-- Where the panel's sequences stand (R509 to R511): off; waiting for HPD; training; waiting for the
vertical start; black frames left; scanning out before the backlight; on; the power-off delay, its
wait for a vertical start, its black frame, its last 10 ms; self-refresh. -/
inductive DspPhase
  | off | waitHpd | training | waitStart | black (left : Nat) | scan | run
  | offDelay | offFrame | offBlack | offLast | selfRefresh
  deriving DecidableEq, Repr, Inhabited

structure DspSt where
  phase : DspPhase
  /-- when the phase began (ps of the timeline) -/
  since : Nat
  /-- link training runs; failed attempts; when the last attempt began -/
  training : Bool
  attempts : Nat
  trainAt : Nat
  /-- ON was written during the power-off sequence (R514) -/
  onDue : Bool
  /-- the panel supply output and the backlight enable -/
  supply : Bool
  backlight : Bool
  /-- frame base and stride in force since the last vertical start (R508) -/
  fbBase : Nat
  fbStride : Nat
  /-- the last vertical start, plus 1, and the lines of its frame that were not fetched in time (R508) -/
  vertAt : Nat
  late : List Nat
  /-- the level of the HPD pin -/
  hpd : Bool
  /-- the Lamb bitmap in always-on memory, its place and the STANDBY backlight duty (R511) -/
  lamb : List Byte
  lambX : Nat
  lambY : Nat
  lambDuty : Nat
  deriving DecidableEq, Repr, Inhabited

/-! ### The whole machine -/

/-- The FV-7204: every piece of state the spec gives it, the queue of commands that wait, and the
model's own counter of values the spec leaves open. -/
structure State where
  /-- the present instant, ps of the timeline, and the instant of the last BOOT entry (R400) -/
  now : Nat
  bootAt : Nat
  mode : Mode
  prevMode : Mode
  /-- set-up registers whose word differs from their reset value (R7 to R10, R536) -/
  regs : Sparse Word
  /-- module DRAM: bytes that differ from `dramDefault` (R14) -/
  dram : List Host.Cell
  /-- module-written rings, by offset of their BASE_LO register (R53) -/
  rings : Sparse RingSt
  /-- what the last read of a register returned -/
  busData : Word
  /-- the commands that wait, first in first out -/
  pending : List Instr
  /-- the model's own: index of the next value the spec leaves open (log entry 11) -/
  freeCtr : Nat
  host : HostSt
  qos : QosSt
  hen : HenSt
  pwr : PwrSt
  clk : ClkSt
  nv : NvSt
  boot : BootSt
  crop : CropSt
  mor : MorSt
  cen : CenSt
  fus : FusSt
  cam : CamSt
  gns : GnsSt
  ox : OxSt
  mul : MulSt
  goo : GooSt
  can : CanSt
  mbx : MbxSt
  flt : FltSt
  dsp : DspSt
  cmp : CmpSt
  deriving DecidableEq, Repr, Inhabited

/-- The machine at power-up before its first start: AO cold start in STANDBY with every other domain
unpowered (R21, R401, R405), all registers at their Reset column, DRAM empty, the canary flipped
(R407), the crystal running; MRAM and NAND as log entry 7 says. A program comes to run by the
commands POWER_UP_START, BOOT_ENTRY and BOOT_STEP_COMPLETE (log entry 8). -/
def State.reset : State :=
  { (default : State) with
    mode := .standby
    prevMode := .backup
    pwr := { (default : PwrSt) with canary := true, xoRuns := true }
    nv := { (default : NvSt) with imageA := some default } }

end Sys2Proof.Machine
end

