-- ==== Sys2Proof/Machine/Regs.lean ====
section
/-!
DEFINITION. Machine/Regs.lean: the set-up register map of R536, register by register, with the
fields, type codes and Reset columns of the chapters' register tables (R7 to R10, R535). `R.NAME`
is a register's offset in the set-up window, `F.NAME_FIELD` a field of it; an index argument
selects the entry of an array register. Field values are plain numbers (`Nat`).
-/

namespace Sys2Proof.Machine

/-! ### Register offsets (R535, R536) -/

def R.GLB_MODE : Nat := 0x0
def R.GLB_STATUS : Nat := 0x4
def R.GLB_MODE_REQ : Nat := 0x8
def R.GLB_MODE_STAT : Nat := 0xc
def R.GLB_BOOT_CFG : Nat := 0x10
def R.GLB_BOOT_CTL : Nat := 0x14
def R.GLB_BOOT_STAT : Nat := 0x18
def R.GLB_UPD_SRC_LO : Nat := 0x20
def R.GLB_UPD_SRC_HI : Nat := 0x24
def R.GLB_UPD_LEN : Nat := 0x28
def R.GLB_UPD_CTL : Nat := 0x2c
def R.GLB_UPD_TIME_LO : Nat := 0x30
def R.GLB_UPD_TIME_HI : Nat := 0x34
def R.GLB_UPD_STAT : Nat := 0x38
def R.GLB_UPD_ID_ACT : Nat := 0x3c
def R.GLB_UPD_ID_STG : Nat := 0x40
def R.GLB_UPD_SVN : Nat := 0x44
def R.GLB_TALLY_CFG : Nat := 0x100
def R.GLB_TALLY_SEQ : Nat := 0x104
def R.GLB_RESYNC_ADDR_LO : Nat := 0x110
def R.GLB_RESYNC_ADDR_HI : Nat := 0x114
def R.GLB_RESYNC_CTL : Nat := 0x118
def R.GLB_RESYNC_STAT : Nat := 0x11c
def R.GLB_IRQ_STAT : Nat := 0x120
def R.GLB_INFLIGHT : Nat := 0x124
def R.GLB_EVT_PEND (i : Nat) : Nat := 0x200 + 4 * i
def R.GLB_LOCK (i : Nat) : Nat := 0x300 + 4 * i
def R.GLB_LOCKV_ADDR : Nat := 0x380
def R.GLB_EVT_RT (i : Nat) : Nat := 0x1000 + 4 * i
def R.GLB_EVT_ARG (i : Nat) : Nat := 0x1400 + 4 * i
def R.PWR_STAT : Nat := 0x10000
def R.PWR_VOLT : Nat := 0x10004
def R.PWR_LASTOFF : Nat := 0x10008
def R.PWR_WAKE_CFG : Nat := 0x1000c
def R.PWR_WAKE_STAT : Nat := 0x10010
def R.PWR_DOM_STAT : Nat := 0x10014
def R.PWR_TALLY : Nat := 0x10018
def R.PWR_TEMP : Nat := 0x1001c
def R.CLK_OSC_STAT : Nat := 0x20000
def R.CLK_REF : Nat := 0x20004
def R.CLK_DOM_CFG (i : Nat) : Nat := 0x20100 + 16 * i
def R.CLK_DOM_STAT (i : Nat) : Nat := 0x20104 + 16 * i
def R.CLK_GATE (i : Nat) : Nat := 0x20400 + 4 * i
def R.CLK_OBS_CFG : Nat := 0x20500
def R.ROO_TICK0 : Nat := 0x30000
def R.ROO_TICK1 : Nat := 0x30004
def R.ROO_TICK2 : Nat := 0x30008
def R.ROO_SET0 : Nat := 0x30010
def R.ROO_SET1 : Nat := 0x30014
def R.ROO_SET2 : Nat := 0x30018
def R.ROO_CTL : Nat := 0x3001c
def R.ROO_ALM0 : Nat := 0x30020
def R.ROO_ALM1 : Nat := 0x30024
def R.ROO_ALM2 : Nat := 0x30028
def R.ROO_STAT : Nat := 0x3002c
def R.ROO_BOOTTICK0 : Nat := 0x30030
def R.ROO_BOOTTICK1 : Nat := 0x30034
def R.ROO_BOOTTICK2 : Nat := 0x30038
def R.ROO_TRIM : Nat := 0x3003c
def R.ROO_BKP (i : Nat) : Nat := 0x30040 + 4 * i
def R.ROO_CAL_SEC : Nat := 0x30100
def R.ROO_CAL_MIN : Nat := 0x30104
def R.ROO_CAL_HOUR : Nat := 0x30108
def R.ROO_CAL_DOW : Nat := 0x3010c
def R.ROO_CAL_DATE : Nat := 0x30110
def R.ROO_CAL_MON : Nat := 0x30114
def R.ROO_CAL_YEAR : Nat := 0x30118
def R.ROO_CAL_STAT : Nat := 0x3011c
def R.HEN_STAT : Nat := 0x40000
def R.HEN_CFG : Nat := 0x40004
def R.HEN_SEQ : Nat := 0x40008
def R.HEN_HOURS : Nat := 0x4000c
def R.HEN_PCYC : Nat := 0x40010
def R.HEN_CUR_SEQ : Nat := 0x40020
def R.HEN_CUR_STAT : Nat := 0x40024
def R.HEN_CTL : Nat := 0x40028
def R.HEN_WIN (i : Nat) : Nat := 0x40040 + 4 * i
def R.HEN_EXP_BASE_LO : Nat := 0x40080
def R.HEN_EXP_BASE_HI : Nat := 0x40084
def R.HEN_EXP_SIZE : Nat := 0x40088
def R.HEN_EXP_PTR : Nat := 0x4008c
def R.HEN_EXP_CTL : Nat := 0x40090
def R.HEN_TALLY : Nat := 0x40094
def R.GOO_STAT : Nat := 0x50000
def R.GOO_CTL : Nat := 0x50004
def R.GOO_CAUSE : Nat := 0x50008
def R.GOO_SW : Nat := 0x5000c
def R.GOO_SPD_CFG : Nat := 0x50010
def R.GOO_SPD : Nat := 0x50014
def R.GOO_STAT_RT : Nat := 0x50018
def R.GOO_IN_CFG (i : Nat) : Nat := 0x50100 + 4 * i
def R.GOO_IN_STAT (i : Nat) : Nat := 0x50140 + 4 * i
def R.GOO_OUT_CFG (i : Nat) : Nat := 0x50200 + 4 * i
def R.GOO_OUT_REQ : Nat := 0x50220
def R.GOO_OUT_STAT (i : Nat) : Nat := 0x50240 + 4 * i
def R.GOO_DIAG : Nat := 0x50300
def R.CTX_RING_BASE (i : Nat) : Nat := 0x60000 + 32 * i
def R.CTX_CPL_BASE (i : Nat) : Nat := 0x60004 + 32 * i
def R.CTX_CFG (i : Nat) : Nat := 0x60008 + 32 * i
def R.CTX_CTL (i : Nat) : Nat := 0x6000c + 32 * i
def R.CTX_STAT (i : Nat) : Nat := 0x60010 + 32 * i
def R.CTX_COAL (i : Nat) : Nat := 0x60014 + 32 * i
def R.CTX_DLINE (i : Nat) : Nat := 0x60018 + 32 * i
def R.CTX_TALLY (i : Nat) : Nat := 0x6001c + 32 * i
def R.QOS_Q_SEL : Nat := 0x80000
def R.QOS_Q_VAL : Nat := 0x80004
def R.QOS_Q_USE : Nat := 0x80008
def R.QOS_Q_STAT : Nat := 0x8000c
def R.QOS_CAP (i : Nat) : Nat := 0x80040 + 4 * i
def R.QOS_CLASS_CFG (i : Nat) : Nat := 0x80100 + 4 * i
def R.QOS_DRAM_CFG (i : Nat) : Nat := 0x80200 + 4 * i
def R.QOS_DRAM_STAT : Nat := 0x80220
def R.QOS_TALLY_DLY (i : Nat) : Nat := 0x80300 + 8 * i
def R.QOS_TALLY_CNT (i : Nat) : Nat := 0x80304 + 8 * i
def R.QOS_WAIT_STAT : Nat := 0x80400
def R.MOR_CLASS_CFG (i : Nat) : Nat := 0xa0000 + 4 * i
def R.MOR_RT_SEL : Nat := 0xa0100
def R.MOR_RT_STAGE0 : Nat := 0xa0104
def R.MOR_RT_STAGE1 : Nat := 0xa0108
def R.MOR_RT_CTL : Nat := 0xa010c
def R.MOR_RT_STAT : Nat := 0xa0110
def R.MOR_RT_ACTIVE0 : Nat := 0xa0114
def R.MOR_RT_ACTIVE1 : Nat := 0xa0118
def R.MOR_EPOCH : Nat := 0xa0200
def R.MOR_ROOT_LO : Nat := 0xa0204
def R.MOR_ROOT_HI : Nat := 0xa0208
def R.MOR_STG_EPOCH : Nat := 0xa0210
def R.MOR_STG_ROOT_LO : Nat := 0xa0214
def R.MOR_STG_ROOT_HI : Nat := 0xa0218
def R.MOR_ACT_EPOCH : Nat := 0xa0220
def R.MOR_ACT_TIME_LO : Nat := 0xa0224
def R.MOR_ACT_TIME_HI : Nat := 0xa0228
def R.MOR_ACT_CTL : Nat := 0xa022c
def R.MOR_ACT_STAT : Nat := 0xa0230
def R.MOR_SWEEP_STAT : Nat := 0xa0240
def R.MOR_DIG_STAT : Nat := 0xa0244
def R.MOR_NODE_SEL : Nat := 0xa0250
def R.MOR_NODE_EPOCH : Nat := 0xa0254
def R.MOR_NODE_DIG_LO : Nat := 0xa0258
def R.MOR_NODE_DIG_HI : Nat := 0xa025c
def R.TIL_STAT (i : Nat) : Nat := 0xc0000 + 64 * i
def R.TIL_EPOCH (i : Nat) : Nat := 0xc0004 + 64 * i
def R.TIL_DIG_LO (i : Nat) : Nat := 0xc0008 + 64 * i
def R.TIL_DIG_HI (i : Nat) : Nat := 0xc000c + 64 * i
def R.TIL_SEG_FREE (i : Nat) : Nat := 0xc0010 + 64 * i
def R.CEN_SEL : Nat := 0x100000
def R.CEN_CTL : Nat := 0x100004
def R.CEN_CMD_STAT : Nat := 0x100008
def R.CEN_ADM : Nat := 0x10000c
def R.CEN_REC (i : Nat) : Nat := 0x101000 + 4 * i
def R.CEN_BANK_IN (i : Nat) : Nat := 0x102000 + 4 * i
def R.CEN_BANK_ACT (i : Nat) : Nat := 0x102400 + 4 * i
def R.CEN_LSTAT (i : Nat) : Nat := 0x120000 + 4 * i
def R.CEN_TILE_UTIL (i : Nat) : Nat := 0x128000 + 4 * i
def R.CEN_FAULTMAP (i : Nat) : Nat := 0x129000 + 4 * i
def R.FUS_TB_CFG : Nat := 0x140000
def R.FUS_TB_STAT : Nat := 0x140004
def R.FUS_TB_PHERR : Nat := 0x140008
def R.FUS_TB_ERREST : Nat := 0x14000c
def R.FUS_TB_OFS_LO : Nat := 0x140010
def R.FUS_TB_OFS_HI : Nat := 0x140014
def R.FUS_TB_NOW_LO : Nat := 0x140018
def R.FUS_TB_NOW_HI : Nat := 0x14001c
def R.FUS_TRG_CFG (i : Nat) : Nat := 0x140100 + 8 * i
def R.FUS_TRG_PH (i : Nat) : Nat := 0x140104 + 8 * i
def R.FUS_TRG_STAT : Nat := 0x140180
def R.FUS_EGO_CFG : Nat := 0x140200
def R.FUS_EGO_SCALE : Nat := 0x140204
def R.FUS_EGO_STAT : Nat := 0x140208
def R.FUS_NET_CFG (i : Nat) : Nat := 0x141000 + 16 * i
def R.FUS_NET_TIM (i : Nat) : Nat := 0x141004 + 16 * i
def R.FUS_NET_TILES (i : Nat) : Nat := 0x141008 + 16 * i
def R.FUS_NET_STAT (i : Nat) : Nat := 0x14100c + 16 * i
def R.FUS_CAL_VER : Nat := 0x142000
def R.FUS_CAL_SEL : Nat := 0x142004
def R.FUS_CAL_VAL : Nat := 0x142008
def R.FUS_CAL_CTL : Nat := 0x14200c
def R.FUS_OUT_BASE_LO : Nat := 0x143000
def R.FUS_OUT_BASE_HI : Nat := 0x143004
def R.FUS_OUT_SIZE : Nat := 0x143008
def R.FUS_OUT_PTR : Nat := 0x14300c
def R.FUS_OUT_STAT : Nat := 0x143010
def R.FUS_OUT_CTL : Nat := 0x143014
def R.FUS_FCST_CFG : Nat := 0x14c000
def R.FUS_FCST_GAIN : Nat := 0x14c004
def R.FUS_STATION_DLY (i : Nat) : Nat := 0x14c010 + 4 * i
def R.FUS_CROP : Nat := 0x14c020
def R.FUS_CUTW : Nat := 0x14c024
def R.FUS_LOSS_CFG : Nat := 0x14c028
def R.FUS_PIEZO_CFG (i : Nat) : Nat := 0x14c040 + 4 * i
def R.FUS_MFLOW_K (i : Nat) : Nat := 0x14c080 + 4 * i
def R.FUS_MFLOW_SPD (i : Nat) : Nat := 0x14c090 + 4 * i
def R.FUS_YIELD_CFG : Nat := 0x14c100
def R.FUS_YIELD_CTL : Nat := 0x14c104
def R.FUS_YIELD_BASE_LO : Nat := 0x14c108
def R.FUS_YIELD_BASE_HI : Nat := 0x14c10c
def R.FUS_YIELD_SIZE : Nat := 0x14c110
def R.FUS_YIELD_PTR : Nat := 0x14c114
def R.FUS_YIELD_STAT : Nat := 0x14c118
def R.CAM_GLB_CFG : Nat := 0x160000
def R.CAM_GLB_STAT : Nat := 0x160004
def R.CAM_ST_CTL : Nat := 0x160010
def R.CAM_ST_BASE_LO : Nat := 0x160014
def R.CAM_ST_BASE_HI : Nat := 0x160018
def R.CAM_ST_SIZE : Nat := 0x16001c
def R.CAM_ST_PTR : Nat := 0x160020
def R.CAM_ST_STAT : Nat := 0x160024
def R.CAM_PORT_CFG (i : Nat) : Nat := 0x161000 + 256 * i
def R.CAM_PORT_FMT (i : Nat) : Nat := 0x161004 + 256 * i
def R.CAM_PORT_TIM (i : Nat) : Nat := 0x161008 + 256 * i
def R.CAM_PORT_BLK0 (i : Nat) : Nat := 0x16100c + 256 * i
def R.CAM_PORT_BLK1 (i : Nat) : Nat := 0x161010 + 256 * i
def R.CAM_PORT_DEF (i : Nat) : Nat := 0x161014 + 256 * i
def R.CAM_PORT_TAP (i : Nat) (j : Nat) : Nat := 0x161018 + 256 * i + 4 * j
def R.CAM_PORT_CCM (i : Nat) (j : Nat) : Nat := 0x161020 + 256 * i + 4 * j
def R.CAM_PORT_I2C (i : Nat) : Nat := 0x161040 + 256 * i
def R.CAM_PORT_STAT (i : Nat) : Nat := 0x161044 + 256 * i
def R.CAM_PORT_CNT (i : Nat) : Nat := 0x161048 + 256 * i
def R.CAM_PORT_LAST (i : Nat) : Nat := 0x16104c + 256 * i
def R.CAM_ST_HIST (i : Nat) (j : Nat) : Nat := 0x170000 + 4096 * i + 4 * j
def R.CAM_ST_ZONE (i : Nat) (j : Nat) : Nat := 0x170400 + 4096 * i + 4 * j
def R.CAM_ST_PIX (i : Nat) : Nat := 0x170800 + 4096 * i
def R.GNS_CFG : Nat := 0x180000
def R.GNS_ANTDLY : Nat := 0x180004
def R.GNS_SV_MASK_GPS : Nat := 0x180008
def R.GNS_SV_MASK_GAL_LO : Nat := 0x18000c
def R.GNS_SV_MASK_GAL_HI : Nat := 0x180010
def R.GNS_STAT : Nat := 0x180014
def R.GNS_PPS_CFG : Nat := 0x180018
def R.GNS_PPS_QERR : Nat := 0x18001c
def R.GNS_NAV_CNT : Nat := 0x180020
def R.GNS_RING_BASE_LO : Nat := 0x180030
def R.GNS_RING_BASE_HI : Nat := 0x180034
def R.GNS_RING_SIZE : Nat := 0x180038
def R.GNS_RING_PTR : Nat := 0x18003c
def R.GNS_RING_STAT : Nat := 0x180040
def R.GNS_RING_CTL : Nat := 0x180044
def R.GNS_INJ_LAT : Nat := 0x180050
def R.GNS_INJ_LON : Nat := 0x180054
def R.GNS_INJ_HGT : Nat := 0x180058
def R.GNS_INJ_CTL : Nat := 0x18005c
def R.GNS_CH_STAT (i : Nat) : Nat := 0x180100 + 4 * i
def R.OX_GLB_CFG : Nat := 0x190000
def R.OX_GLB_STAT : Nat := 0x190004
def R.OX_GLB_TALLY : Nat := 0x190008
def R.OX_CH_CFG (i : Nat) : Nat := 0x191000 + 32 * i
def R.OX_CH_MRT (i : Nat) : Nat := 0x191004 + 32 * i
def R.OX_CH_PI (i : Nat) : Nat := 0x191008 + 32 * i
def R.OX_CH_DITH (i : Nat) : Nat := 0x19100c + 32 * i
def R.OX_CH_LIM (i : Nat) : Nat := 0x191010 + 32 * i
def R.OX_CH_STAT (i : Nat) : Nat := 0x191014 + 32 * i
def R.OX_CH_DLY (i : Nat) : Nat := 0x191018 + 32 * i
def R.OX_CH_MON (i : Nat) : Nat := 0x19101c + 32 * i
def R.MUL_GLB_STAT : Nat := 0x1a0000
def R.MUL_GLB_TALLY : Nat := 0x1a0004
def R.MUL_CH_CFG (i : Nat) : Nat := 0x1a1000 + 16 * i
def R.MUL_CH_CMD (i : Nat) : Nat := 0x1a1004 + 16 * i
def R.MUL_CH_STAT (i : Nat) : Nat := 0x1a1008 + 16 * i
def R.MUL_CH_TALLY (i : Nat) : Nat := 0x1a100c + 16 * i
def R.CAN_CFG (i : Nat) : Nat := 0x1b0000 + 4096 * i
def R.CAN_NBT (i : Nat) : Nat := 0x1b0004 + 4096 * i
def R.CAN_DBT (i : Nat) : Nat := 0x1b0008 + 4096 * i
def R.CAN_STAT (i : Nat) : Nat := 0x1b000c + 4096 * i
def R.CAN_ABD (i : Nat) : Nat := 0x1b0010 + 4096 * i
def R.CAN_TXREQ (i : Nat) : Nat := 0x1b0014 + 4096 * i
def R.CAN_TXDONE (i : Nat) : Nat := 0x1b0018 + 4096 * i
def R.CAN_TXFAIL (i : Nat) : Nat := 0x1b001c + 4096 * i
def R.CAN_TXCAN (i : Nat) : Nat := 0x1b0020 + 4096 * i
def R.CAN_NDAT (i : Nat) : Nat := 0x1b0024 + 4096 * i
def R.CAN_LOST (i : Nat) : Nat := 0x1b0028 + 4096 * i
def R.CAN_FIFO (i : Nat) : Nat := 0x1b002c + 4096 * i
def R.CAN_FIFO_ACK (i : Nat) : Nat := 0x1b0030 + 4096 * i
def R.CAN_ISO (i : Nat) : Nat := 0x1b0034 + 4096 * i
def R.CAN_RXRT (i : Nat) (j : Nat) : Nat := 0x1b0040 + 4096 * i + 4 * j
def R.CAN_TXRT (i : Nat) (j : Nat) : Nat := 0x1b0080 + 4096 * i + 4 * j
def R.CAN_TT_CFG (i : Nat) : Nat := 0x1b00a0 + 4096 * i
def R.CAN_TT_REF (i : Nat) : Nat := 0x1b00a4 + 4096 * i
def R.CAN_TT_STAT (i : Nat) : Nat := 0x1b00a8 + 4096 * i
def R.CAN_TALLY (i : Nat) : Nat := 0x1b00b0 + 4096 * i
def R.MBX_GLB_STAT : Nat := 0x1c0000
def R.MBX_BIND (i : Nat) : Nat := 0x1c0100 + 4 * i
def R.MBX_OBS (i : Nat) : Nat := 0x1c0200 + 4 * i
def R.MBX_TXD (i : Nat) (j : Nat) (k : Nat) : Nat := 0x1c1000 + 256 * i + 128 * j + 4 * k
def R.MBX_RXD (i : Nat) (j : Nat) (k : Nat) : Nat := 0x1c1010 + 256 * i + 128 * j + 4 * k
def R.MBX_ACK (i : Nat) (j : Nat) : Nat := 0x1c1020 + 256 * i + 128 * j
def R.MBX_STAT (i : Nat) (j : Nat) : Nat := 0x1c1024 + 256 * i + 128 * j
def R.MBX_IEN (i : Nat) (j : Nat) : Nat := 0x1c1028 + 256 * i + 128 * j
def R.MBX_ACKREC (i : Nat) (j : Nat) (k : Nat) : Nat := 0x1c1030 + 256 * i + 128 * j + 4 * k
def R.FLT_ID_LO : Nat := 0x1d0000
def R.FLT_ID_HI : Nat := 0x1d0004
def R.FLT_MAC_LO : Nat := 0x1d0008
def R.FLT_MAC_HI : Nat := 0x1d000c
def R.FLT_PUB (i : Nat) : Nat := 0x1d0010 + 4 * i
def R.FLT_BIND_STAT : Nat := 0x1d0080
def R.FLT_MACH_ID_LO : Nat := 0x1d0084
def R.FLT_MACH_ID_HI : Nat := 0x1d0088
def R.FLT_SES_NONCE (i : Nat) : Nat := 0x1d0090 + 4 * i
def R.FLT_ANN_CFG : Nat := 0x1d0100
def R.FLT_ANN_CANID : Nat := 0x1d0104
def R.FLT_MACH_DIG_LO : Nat := 0x1d0108
def R.FLT_MACH_DIG_HI : Nat := 0x1d010c
def R.FLT_MISSING : Nat := 0x1d0110
def R.FLT_MEM_CFG (i : Nat) : Nat := 0x1d0200 + 32 * i
def R.FLT_MEM_ADDR_LO (i : Nat) : Nat := 0x1d0204 + 32 * i
def R.FLT_MEM_ADDR_HI (i : Nat) : Nat := 0x1d0208 + 32 * i
def R.FLT_MEM_EPOCH (i : Nat) : Nat := 0x1d020c + 32 * i
def R.FLT_MEM_DIG_LO (i : Nat) : Nat := 0x1d0210 + 32 * i
def R.FLT_MEM_DIG_HI (i : Nat) : Nat := 0x1d0214 + 32 * i
def R.FLT_FLEET_CFG : Nat := 0x1d0600
def R.FLT_FLEET_BASE_LO : Nat := 0x1d0604
def R.FLT_FLEET_BASE_HI : Nat := 0x1d0608
def R.FLT_FLEET_SIZE : Nat := 0x1d060c
def R.FLT_FLEET_PTR : Nat := 0x1d0610
def R.FLT_FLEET_STAT : Nat := 0x1d0614
def R.FLT_FLEET_EPOCH : Nat := 0x1d0618
def R.FLT_FLEET_ROOT_LO : Nat := 0x1d061c
def R.FLT_FLEET_ROOT_HI : Nat := 0x1d0620
def R.FLT_PTP_CFG : Nat := 0x1d0700
def R.FLT_PTP_STAT : Nat := 0x1d0704
def R.FLT_PTP_OFS : Nat := 0x1d0708
def R.FLT_ETH_CFG (i : Nat) : Nat := 0x1d1000 + 64 * i
def R.FLT_ETH_STAT (i : Nat) : Nat := 0x1d1004 + 64 * i
def R.FLT_ETH_RX_BASE_LO (i : Nat) : Nat := 0x1d1008 + 64 * i
def R.FLT_ETH_RX_BASE_HI (i : Nat) : Nat := 0x1d100c + 64 * i
def R.FLT_ETH_RX_SIZE (i : Nat) : Nat := 0x1d1010 + 64 * i
def R.FLT_ETH_RX_PTR (i : Nat) : Nat := 0x1d1014 + 64 * i
def R.FLT_ETH_TX_BASE_LO (i : Nat) : Nat := 0x1d1018 + 64 * i
def R.FLT_ETH_TX_BASE_HI (i : Nat) : Nat := 0x1d101c + 64 * i
def R.FLT_ETH_TX_SIZE (i : Nat) : Nat := 0x1d1020 + 64 * i
def R.FLT_ETH_TX_PTR (i : Nat) : Nat := 0x1d1024 + 64 * i
def R.FLT_ETH_TXTS_LO (i : Nat) : Nat := 0x1d1028 + 64 * i
def R.FLT_ETH_TXTS_HI (i : Nat) : Nat := 0x1d102c + 64 * i
def R.FLT_ETH_CNT (i : Nat) : Nat := 0x1d1030 + 64 * i
def R.DSP_CTL : Nat := 0x1e0000
def R.DSP_STAT : Nat := 0x1e0004
def R.DSP_LINK : Nat := 0x1e0008
def R.DSP_SEQ : Nat := 0x1e000c
def R.DSP_TIM_H : Nat := 0x1e0010
def R.DSP_TIM_V : Nat := 0x1e0014
def R.DSP_PCLK : Nat := 0x1e0018
def R.DSP_FB_BASE_LO : Nat := 0x1e0020
def R.DSP_FB_BASE_HI : Nat := 0x1e0024
def R.DSP_FB_STRIDE : Nat := 0x1e0028
def R.DSP_BL : Nat := 0x1e002c
def R.DSP_LAMB_CFG : Nat := 0x1e0030
def R.DSP_LAMB_BASE_LO : Nat := 0x1e0034
def R.DSP_LAMB_BASE_HI : Nat := 0x1e0038
def R.DSP_LAMB_PAL (i : Nat) : Nat := 0x1e0040 + 4 * i
def R.CMP_STAT : Nat := 0x1f0000
def R.CMP_UNEMU : Nat := 0x1f0004
def R.CMP_TALLY : Nat := 0x1f0008
def R.CAN_MEM (i : Nat) (j : Nat) : Nat := 0x1b0100 + 4096 * i + 4 * j

/-! ### Register fields -/

def F.GLB_MODE_MODE : Fld := ⟨R.GLB_MODE, 0, 3⟩
def F.GLB_MODE_SAFESTOP : Fld := ⟨R.GLB_MODE, 3, 1⟩
def F.GLB_MODE_PREV : Fld := ⟨R.GLB_MODE, 4, 3⟩
def F.GLB_STATUS_BADACC : Fld := ⟨R.GLB_STATUS, 0, 1⟩
def F.GLB_STATUS_RINGERR : Fld := ⟨R.GLB_STATUS, 1, 1⟩
def F.GLB_MODE_REQ_TARGET : Fld := ⟨R.GLB_MODE_REQ, 0, 3⟩
def F.GLB_MODE_STAT_PEND : Fld := ⟨R.GLB_MODE_STAT, 0, 1⟩
def F.GLB_MODE_STAT_DONE : Fld := ⟨R.GLB_MODE_STAT, 1, 1⟩
def F.GLB_MODE_STAT_REFUSED : Fld := ⟨R.GLB_MODE_STAT, 2, 1⟩
def F.GLB_MODE_STAT_REASON : Fld := ⟨R.GLB_MODE_STAT, 3, 3⟩
def F.GLB_BOOT_CFG_WDT_S : Fld := ⟨R.GLB_BOOT_CFG, 0, 8⟩
def F.GLB_BOOT_CFG_IGNOFF_S : Fld := ⟨R.GLB_BOOT_CFG, 8, 8⟩
def F.GLB_BOOT_CTL_GOOD : Fld := ⟨R.GLB_BOOT_CTL, 0, 1⟩
def F.GLB_BOOT_STAT_BOOTCNT : Fld := ⟨R.GLB_BOOT_STAT, 0, 2⟩
def F.GLB_BOOT_STAT_SLOT : Fld := ⟨R.GLB_BOOT_STAT, 2, 1⟩
def F.GLB_BOOT_STAT_FROMNOR : Fld := ⟨R.GLB_BOOT_STAT, 3, 1⟩
def F.GLB_BOOT_STAT_RCVSTRAP : Fld := ⟨R.GLB_BOOT_STAT, 4, 1⟩
def F.GLB_BOOT_STAT_SVCSTRAP : Fld := ⟨R.GLB_BOOT_STAT, 5, 1⟩
def F.GLB_BOOT_STAT_READY : Fld := ⟨R.GLB_BOOT_STAT, 6, 1⟩
def F.GLB_BOOT_STAT_GOODSEEN : Fld := ⟨R.GLB_BOOT_STAT, 7, 1⟩
def F.GLB_BOOT_STAT_LASTFAIL : Fld := ⟨R.GLB_BOOT_STAT, 8, 4⟩
def F.GLB_BOOT_STAT_LOADED : Fld := ⟨R.GLB_BOOT_STAT, 16, 11⟩
def F.GLB_UPD_SRC_LO_ADDR : Fld := ⟨R.GLB_UPD_SRC_LO, 6, 26⟩
def F.GLB_UPD_SRC_HI_ADDR : Fld := ⟨R.GLB_UPD_SRC_HI, 0, 32⟩
def F.GLB_UPD_LEN_BYTES : Fld := ⟨R.GLB_UPD_LEN, 0, 32⟩
def F.GLB_UPD_CTL_STAGE : Fld := ⟨R.GLB_UPD_CTL, 0, 1⟩
def F.GLB_UPD_CTL_ARM : Fld := ⟨R.GLB_UPD_CTL, 1, 1⟩
def F.GLB_UPD_CTL_DISARM : Fld := ⟨R.GLB_UPD_CTL, 2, 1⟩
def F.GLB_UPD_CTL_DISCARD : Fld := ⟨R.GLB_UPD_CTL, 3, 1⟩
def F.GLB_UPD_CTL_GROUP : Fld := ⟨R.GLB_UPD_CTL, 16, 16⟩
def F.GLB_UPD_TIME_LO_TIME : Fld := ⟨R.GLB_UPD_TIME_LO, 0, 32⟩
def F.GLB_UPD_TIME_HI_TIME : Fld := ⟨R.GLB_UPD_TIME_HI, 0, 32⟩
def F.GLB_UPD_STAT_STAGING : Fld := ⟨R.GLB_UPD_STAT, 0, 1⟩
def F.GLB_UPD_STAT_STAGED : Fld := ⟨R.GLB_UPD_STAT, 1, 1⟩
def F.GLB_UPD_STAT_ARMED : Fld := ⟨R.GLB_UPD_STAT, 2, 1⟩
def F.GLB_UPD_STAT_DEFER : Fld := ⟨R.GLB_UPD_STAT, 3, 1⟩
def F.GLB_UPD_STAT_REFUSED : Fld := ⟨R.GLB_UPD_STAT, 4, 1⟩
def F.GLB_UPD_STAT_REASON : Fld := ⟨R.GLB_UPD_STAT, 5, 4⟩
def F.GLB_UPD_ID_ACT_IMAGE_ID : Fld := ⟨R.GLB_UPD_ID_ACT, 0, 32⟩
def F.GLB_UPD_ID_STG_IMAGE_ID : Fld := ⟨R.GLB_UPD_ID_STG, 0, 32⟩
def F.GLB_UPD_SVN_MINSVN : Fld := ⟨R.GLB_UPD_SVN, 0, 16⟩
def F.GLB_UPD_SVN_ACTSVN : Fld := ⟨R.GLB_UPD_SVN, 16, 16⟩
def F.GLB_TALLY_CFG_PERIOD_MS : Fld := ⟨R.GLB_TALLY_CFG, 0, 16⟩
def F.GLB_TALLY_SEQ_SEQ : Fld := ⟨R.GLB_TALLY_SEQ, 0, 31⟩
def F.GLB_TALLY_SEQ_SHORT : Fld := ⟨R.GLB_TALLY_SEQ, 31, 1⟩
def F.GLB_RESYNC_ADDR_LO_ADDR : Fld := ⟨R.GLB_RESYNC_ADDR_LO, 12, 20⟩
def F.GLB_RESYNC_ADDR_HI_ADDR : Fld := ⟨R.GLB_RESYNC_ADDR_HI, 0, 32⟩
def F.GLB_RESYNC_CTL_REQ : Fld := ⟨R.GLB_RESYNC_CTL, 0, 1⟩
def F.GLB_RESYNC_CTL_CTX : Fld := ⟨R.GLB_RESYNC_CTL, 4, 12⟩
def F.GLB_RESYNC_STAT_DONE : Fld := ⟨R.GLB_RESYNC_STAT, 0, 1⟩
def F.GLB_RESYNC_STAT_BUSY : Fld := ⟨R.GLB_RESYNC_STAT, 1, 1⟩
def F.GLB_RESYNC_STAT_REJ : Fld := ⟨R.GLB_RESYNC_STAT, 2, 1⟩
def F.GLB_RESYNC_STAT_SEQ : Fld := ⟨R.GLB_RESYNC_STAT, 16, 16⟩
def F.GLB_IRQ_STAT_LINE : Fld := ⟨R.GLB_IRQ_STAT, 0, 16⟩
def F.GLB_INFLIGHT_COUNT : Fld := ⟨R.GLB_INFLIGHT, 0, 11⟩
def F.GLB_EVT_PEND_PEND (i : Nat) : Fld := ⟨(R.GLB_EVT_PEND i), 0, 32⟩
def F.GLB_LOCK_LOCK (i : Nat) : Fld := ⟨(R.GLB_LOCK i), 0, 1⟩
def F.GLB_LOCK_LOCKV (i : Nat) : Fld := ⟨(R.GLB_LOCK i), 1, 1⟩
def F.GLB_LOCKV_ADDR_OFFSET : Fld := ⟨R.GLB_LOCKV_ADDR, 0, 21⟩
def F.GLB_LOCKV_ADDR_DESC : Fld := ⟨R.GLB_LOCKV_ADDR, 31, 1⟩
def F.GLB_EVT_RT_LINE (i : Nat) : Fld := ⟨(R.GLB_EVT_RT i), 0, 4⟩
def F.GLB_EVT_RT_LINE_EN (i : Nat) : Fld := ⟨(R.GLB_EVT_RT i), 4, 1⟩
def F.GLB_EVT_RT_CTX (i : Nat) : Fld := ⟨(R.GLB_EVT_RT i), 5, 12⟩
def F.GLB_EVT_RT_REC_EN (i : Nat) : Fld := ⟨(R.GLB_EVT_RT i), 17, 1⟩
def F.GLB_EVT_ARG_ARG (i : Nat) : Fld := ⟨(R.GLB_EVT_ARG i), 0, 32⟩
def F.PWR_STAT_BAND : Fld := ⟨R.PWR_STAT, 0, 2⟩
def F.PWR_STAT_AOSRC : Fld := ⟨R.PWR_STAT, 2, 1⟩
def F.PWR_STAT_BKPUSED : Fld := ⟨R.PWR_STAT, 3, 1⟩
def F.PWR_STAT_VSUP : Fld := ⟨R.PWR_STAT, 16, 10⟩
def F.PWR_VOLT_VAO : Fld := ⟨R.PWR_VOLT, 0, 12⟩
def F.PWR_VOLT_VBAT : Fld := ⟨R.PWR_VOLT, 16, 12⟩
def F.PWR_LASTOFF_CAUSE : Fld := ⟨R.PWR_LASTOFF, 0, 4⟩
def F.PWR_LASTOFF_DOMAIN : Fld := ⟨R.PWR_LASTOFF, 4, 4⟩
def F.PWR_LASTOFF_MINV : Fld := ⟨R.PWR_LASTOFF, 16, 10⟩
def F.PWR_WAKE_CFG_IGN : Fld := ⟨R.PWR_WAKE_CFG, 0, 1⟩
def F.PWR_WAKE_CFG_CANW0 : Fld := ⟨R.PWR_WAKE_CFG, 1, 1⟩
def F.PWR_WAKE_CFG_CANW1 : Fld := ⟨R.PWR_WAKE_CFG, 2, 1⟩
def F.PWR_WAKE_CFG_ALARM : Fld := ⟨R.PWR_WAKE_CFG, 3, 1⟩
def F.PWR_WAKE_STAT_SRC : Fld := ⟨R.PWR_WAKE_STAT, 0, 4⟩
def F.PWR_DOM_STAT_ON : Fld := ⟨R.PWR_DOM_STAT, 0, 13⟩
def F.PWR_DOM_STAT_FAULT : Fld := ⟨R.PWR_DOM_STAT, 16, 13⟩
def F.PWR_TALLY_LOWEP : Fld := ⟨R.PWR_TALLY, 0, 8⟩
def F.PWR_TALLY_CRANKEP : Fld := ⟨R.PWR_TALLY, 8, 8⟩
def F.PWR_TALLY_CRANKMAX : Fld := ⟨R.PWR_TALLY, 16, 16⟩
def F.PWR_TEMP_BASE : Fld := ⟨R.PWR_TEMP, 0, 8⟩
def F.PWR_TEMP_HUB : Fld := ⟨R.PWR_TEMP, 8, 8⟩
def F.PWR_TEMP_SLAB : Fld := ⟨R.PWR_TEMP, 16, 8⟩
def F.PWR_TEMP_PSTAGE : Fld := ⟨R.PWR_TEMP, 24, 8⟩
def F.CLK_OSC_STAT_STABLE : Fld := ⟨R.CLK_OSC_STAT, 0, 4⟩
def F.CLK_OSC_STAT_FAIL : Fld := ⟨R.CLK_OSC_STAT, 4, 4⟩
def F.CLK_REF_REFSEL : Fld := ⟨R.CLK_REF, 0, 2⟩
def F.CLK_REF_TCXOFB : Fld := ⟨R.CLK_REF, 2, 1⟩
def F.CLK_DOM_CFG_FREQ (i : Nat) : Fld := ⟨(R.CLK_DOM_CFG i), 0, 14⟩
def F.CLK_DOM_STAT_SRC (i : Nat) : Fld := ⟨(R.CLK_DOM_STAT i), 0, 1⟩
def F.CLK_DOM_STAT_BUSY (i : Nat) : Fld := ⟨(R.CLK_DOM_STAT i), 1, 1⟩
def F.CLK_DOM_STAT_REFUSED (i : Nat) : Fld := ⟨(R.CLK_DOM_STAT i), 2, 1⟩
def F.CLK_DOM_STAT_LOCKFAIL (i : Nat) : Fld := ⟨(R.CLK_DOM_STAT i), 3, 1⟩
def F.CLK_GATE_RUN_EN (i : Nat) : Fld := ⟨(R.CLK_GATE i), 0, 1⟩
def F.CLK_GATE_SLEEP_EN (i : Nat) : Fld := ⟨(R.CLK_GATE i), 1, 1⟩
def F.CLK_GATE_DEEP_EN (i : Nat) : Fld := ⟨(R.CLK_GATE i), 2, 1⟩
def F.CLK_GATE_STATE (i : Nat) : Fld := ⟨(R.CLK_GATE i), 3, 2⟩
def F.CLK_GATE_IDLE (i : Nat) : Fld := ⟨(R.CLK_GATE i), 8, 16⟩
def F.CLK_OBS_CFG_SEL : Fld := ⟨R.CLK_OBS_CFG, 0, 5⟩
def F.CLK_OBS_CFG_EN : Fld := ⟨R.CLK_OBS_CFG, 5, 1⟩
def F.CLK_OBS_CFG_REJ : Fld := ⟨R.CLK_OBS_CFG, 6, 1⟩
def F.CLK_OBS_CFG_DIV : Fld := ⟨R.CLK_OBS_CFG, 16, 16⟩
def F.ROO_TICK0_TICK : Fld := ⟨R.ROO_TICK0, 0, 16⟩
def F.ROO_TICK1_TICK : Fld := ⟨R.ROO_TICK1, 0, 16⟩
def F.ROO_TICK2_TICK : Fld := ⟨R.ROO_TICK2, 0, 16⟩
def F.ROO_SET0_VALUE : Fld := ⟨R.ROO_SET0, 0, 16⟩
def F.ROO_SET1_VALUE : Fld := ⟨R.ROO_SET1, 0, 16⟩
def F.ROO_SET2_VALUE : Fld := ⟨R.ROO_SET2, 0, 16⟩
def F.ROO_CTL_LOAD : Fld := ⟨R.ROO_CTL, 0, 1⟩
def F.ROO_CTL_ALMEN : Fld := ⟨R.ROO_CTL, 1, 1⟩
def F.ROO_ALM0_VALUE : Fld := ⟨R.ROO_ALM0, 0, 16⟩
def F.ROO_ALM1_VALUE : Fld := ⟨R.ROO_ALM1, 0, 16⟩
def F.ROO_ALM2_VALUE : Fld := ⟨R.ROO_ALM2, 0, 16⟩
def F.ROO_STAT_LOWBAT : Fld := ⟨R.ROO_STAT, 0, 1⟩
def F.ROO_STAT_CANARY : Fld := ⟨R.ROO_STAT, 1, 1⟩
def F.ROO_STAT_UNTRUST : Fld := ⟨R.ROO_STAT, 2, 1⟩
def F.ROO_STAT_OSCSTOP : Fld := ⟨R.ROO_STAT, 3, 1⟩
def F.ROO_STAT_ALMF : Fld := ⟨R.ROO_STAT, 4, 1⟩
def F.ROO_STAT_LOADPEND : Fld := ⟨R.ROO_STAT, 5, 1⟩
def F.ROO_BOOTTICK0_TICK : Fld := ⟨R.ROO_BOOTTICK0, 0, 16⟩
def F.ROO_BOOTTICK1_TICK : Fld := ⟨R.ROO_BOOTTICK1, 0, 16⟩
def F.ROO_BOOTTICK2_TICK : Fld := ⟨R.ROO_BOOTTICK2, 0, 16⟩
def F.ROO_TRIM_PPM : Fld := ⟨R.ROO_TRIM, 0, 8⟩
def F.ROO_BKP_DATA (i : Nat) : Fld := ⟨(R.ROO_BKP i), 0, 32⟩
def F.ROO_CAL_SEC_SEC : Fld := ⟨R.ROO_CAL_SEC, 0, 7⟩
def F.ROO_CAL_MIN_MIN : Fld := ⟨R.ROO_CAL_MIN, 0, 7⟩
def F.ROO_CAL_HOUR_HOUR : Fld := ⟨R.ROO_CAL_HOUR, 0, 6⟩
def F.ROO_CAL_DOW_DOW : Fld := ⟨R.ROO_CAL_DOW, 0, 3⟩
def F.ROO_CAL_DATE_DATE : Fld := ⟨R.ROO_CAL_DATE, 0, 6⟩
def F.ROO_CAL_MON_MON : Fld := ⟨R.ROO_CAL_MON, 0, 5⟩
def F.ROO_CAL_YEAR_YEAR : Fld := ⟨R.ROO_CAL_YEAR, 0, 8⟩
def F.ROO_CAL_STAT_OSF : Fld := ⟨R.ROO_CAL_STAT, 0, 1⟩
def F.HEN_STAT_USED : Fld := ⟨R.HEN_STAT, 0, 16⟩
def F.HEN_STAT_SCANNED : Fld := ⟨R.HEN_STAT, 16, 1⟩
def F.HEN_STAT_BADREC : Fld := ⟨R.HEN_STAT, 17, 15⟩
def F.HEN_CFG_DLYTHR : Fld := ⟨R.HEN_CFG, 0, 16⟩
def F.HEN_SEQ_NEXT : Fld := ⟨R.HEN_SEQ, 0, 32⟩
def F.HEN_HOURS_HOURS : Fld := ⟨R.HEN_HOURS, 0, 32⟩
def F.HEN_PCYC_PCYC : Fld := ⟨R.HEN_PCYC, 0, 24⟩
def F.HEN_CUR_SEQ_SEQ : Fld := ⟨R.HEN_CUR_SEQ, 0, 32⟩
def F.HEN_CUR_STAT_FOUND : Fld := ⟨R.HEN_CUR_STAT, 0, 1⟩
def F.HEN_CUR_STAT_CRCERR : Fld := ⟨R.HEN_CUR_STAT, 1, 1⟩
def F.HEN_CTL_NEXT : Fld := ⟨R.HEN_CTL, 0, 1⟩
def F.HEN_WIN_DATA (i : Nat) : Fld := ⟨(R.HEN_WIN i), 0, 32⟩
def F.HEN_EXP_BASE_LO_ADDR : Fld := ⟨R.HEN_EXP_BASE_LO, 6, 26⟩
def F.HEN_EXP_BASE_HI_ADDR : Fld := ⟨R.HEN_EXP_BASE_HI, 0, 32⟩
def F.HEN_EXP_SIZE_LOG2 : Fld := ⟨R.HEN_EXP_SIZE, 0, 4⟩
def F.HEN_EXP_PTR_WPTR : Fld := ⟨R.HEN_EXP_PTR, 0, 16⟩
def F.HEN_EXP_PTR_RPTR : Fld := ⟨R.HEN_EXP_PTR, 16, 16⟩
def F.HEN_EXP_CTL_EN : Fld := ⟨R.HEN_EXP_CTL, 0, 1⟩
def F.HEN_TALLY_DISC : Fld := ⟨R.HEN_TALLY, 0, 8⟩
def F.HEN_TALLY_LOSTQ : Fld := ⟨R.HEN_TALLY, 8, 8⟩
def F.HEN_TALLY_EXPDROP : Fld := ⟨R.HEN_TALLY, 16, 8⟩
def F.HEN_TALLY_QMAX : Fld := ⟨R.HEN_TALLY, 24, 8⟩
def F.GOO_STAT_SAFESTOP : Fld := ⟨R.GOO_STAT, 0, 1⟩
def F.GOO_STAT_FAILSAFE : Fld := ⟨R.GOO_STAT, 1, 1⟩
def F.GOO_STAT_STILL : Fld := ⟨R.GOO_STAT, 2, 1⟩
def F.GOO_STAT_HDRENG : Fld := ⟨R.GOO_STAT, 3, 1⟩
def F.GOO_STAT_VERIFIED : Fld := ⟨R.GOO_STAT, 4, 1⟩
def F.GOO_STAT_DISCON : Fld := ⟨R.GOO_STAT, 5, 1⟩
def F.GOO_STAT_OXCUT : Fld := ⟨R.GOO_STAT, 6, 1⟩
def F.GOO_STAT_MULCUT : Fld := ⟨R.GOO_STAT, 7, 1⟩
def F.GOO_STAT_CAUSE : Fld := ⟨R.GOO_STAT, 8, 4⟩
def F.GOO_STAT_INOK : Fld := ⟨R.GOO_STAT, 16, 16⟩
def F.GOO_CTL_STOP : Fld := ⟨R.GOO_CTL, 0, 1⟩
def F.GOO_CTL_RELEASE : Fld := ⟨R.GOO_CTL, 1, 1⟩
def F.GOO_CAUSE_ACTIVE : Fld := ⟨R.GOO_CAUSE, 1, 8⟩
def F.GOO_SW_SWBOOT : Fld := ⟨R.GOO_SW, 0, 8⟩
def F.GOO_SW_SWNOW : Fld := ⟨R.GOO_SW, 8, 8⟩
def F.GOO_SPD_CFG_FIN_A : Fld := ⟨R.GOO_SPD_CFG, 0, 4⟩
def F.GOO_SPD_CFG_FIN_B : Fld := ⟨R.GOO_SPD_CFG, 4, 4⟩
def F.GOO_SPD_CFG_UMPP : Fld := ⟨R.GOO_SPD_CFG, 8, 16⟩
def F.GOO_SPD_SPEED : Fld := ⟨R.GOO_SPD, 0, 16⟩
def F.GOO_SPD_SPDDISC : Fld := ⟨R.GOO_SPD, 16, 1⟩
def F.GOO_STAT_RT_ROUTE : Fld := ⟨R.GOO_STAT_RT, 0, 12⟩
def F.GOO_STAT_RT_EN : Fld := ⟨R.GOO_STAT_RT, 12, 1⟩
def F.GOO_IN_CFG_EN (i : Nat) : Fld := ⟨(R.GOO_IN_CFG i), 0, 1⟩
def F.GOO_IN_CFG_ANTIV (i : Nat) : Fld := ⟨(R.GOO_IN_CFG i), 1, 1⟩
def F.GOO_IN_CFG_DISC_MS (i : Nat) : Fld := ⟨(R.GOO_IN_CFG i), 2, 11⟩
def F.GOO_IN_CFG_REACT (i : Nat) : Fld := ⟨(R.GOO_IN_CFG i), 13, 1⟩
def F.GOO_IN_CFG_OMASK (i : Nat) : Fld := ⟨(R.GOO_IN_CFG i), 14, 8⟩
def F.GOO_IN_CFG_OXCUT (i : Nat) : Fld := ⟨(R.GOO_IN_CFG i), 22, 1⟩
def F.GOO_IN_CFG_MULCUT (i : Nat) : Fld := ⟨(R.GOO_IN_CFG i), 23, 1⟩
def F.GOO_IN_STAT_A (i : Nat) : Fld := ⟨(R.GOO_IN_STAT i), 0, 1⟩
def F.GOO_IN_STAT_B (i : Nat) : Fld := ⟨(R.GOO_IN_STAT i), 1, 1⟩
def F.GOO_IN_STAT_OK (i : Nat) : Fld := ⟨(R.GOO_IN_STAT i), 2, 1⟩
def F.GOO_IN_STAT_DISCF (i : Nat) : Fld := ⟨(R.GOO_IN_STAT i), 3, 1⟩
def F.GOO_IN_STAT_XF (i : Nat) : Fld := ⟨(R.GOO_IN_STAT i), 4, 1⟩
def F.GOO_OUT_CFG_EN (i : Nat) : Fld := ⟨(R.GOO_OUT_CFG i), 0, 1⟩
def F.GOO_OUT_CFG_ROLE (i : Nat) : Fld := ⟨(R.GOO_OUT_CFG i), 1, 2⟩
def F.GOO_OUT_CFG_TPW (i : Nat) : Fld := ⟨(R.GOO_OUT_CFG i), 3, 9⟩
def F.GOO_OUT_CFG_FBEN (i : Nat) : Fld := ⟨(R.GOO_OUT_CFG i), 12, 1⟩
def F.GOO_OUT_CFG_FB (i : Nat) : Fld := ⟨(R.GOO_OUT_CFG i), 13, 2⟩
def F.GOO_OUT_CFG_FBTIME (i : Nat) : Fld := ⟨(R.GOO_OUT_CFG i), 15, 10⟩
def F.GOO_OUT_REQ_ON : Fld := ⟨R.GOO_OUT_REQ, 0, 8⟩
def F.GOO_OUT_STAT_ON (i : Nat) : Fld := ⟨(R.GOO_OUT_STAT i), 0, 1⟩
def F.GOO_OUT_STAT_RB (i : Nat) : Fld := ⟨(R.GOO_OUT_STAT i), 1, 1⟩
def F.GOO_OUT_STAT_TESTF (i : Nat) : Fld := ⟨(R.GOO_OUT_STAT i), 2, 1⟩
def F.GOO_OUT_STAT_FBF (i : Nat) : Fld := ⟨(R.GOO_OUT_STAT i), 3, 1⟩
def F.GOO_OUT_STAT_REFUSED (i : Nat) : Fld := ⟨(R.GOO_OUT_STAT i), 4, 1⟩
def F.GOO_OUT_STAT_FBIN (i : Nat) : Fld := ⟨(R.GOO_OUT_STAT i), 5, 1⟩
def F.GOO_DIAG_WDF : Fld := ⟨R.GOO_DIAG, 0, 1⟩
def F.GOO_DIAG_PFCF : Fld := ⟨R.GOO_DIAG, 1, 1⟩
def F.GOO_DIAG_STESTF : Fld := ⟨R.GOO_DIAG, 2, 1⟩
def F.GOO_DIAG_ECCUF : Fld := ⟨R.GOO_DIAG, 3, 1⟩
def F.GOO_DIAG_ECCCORR : Fld := ⟨R.GOO_DIAG, 8, 8⟩
def F.GOO_DIAG_STESTN : Fld := ⟨R.GOO_DIAG, 16, 16⟩
def F.CTX_RING_BASE_ADDR (i : Nat) : Fld := ⟨(R.CTX_RING_BASE i), 0, 32⟩
def F.CTX_CPL_BASE_ADDR (i : Nat) : Fld := ⟨(R.CTX_CPL_BASE i), 0, 32⟩
def F.CTX_CFG_SQ_LOG2 (i : Nat) : Fld := ⟨(R.CTX_CFG i), 0, 4⟩
def F.CTX_CFG_CQ_LOG2 (i : Nat) : Fld := ⟨(R.CTX_CFG i), 4, 4⟩
def F.CTX_CFG_CLASS (i : Nat) : Fld := ⟨(R.CTX_CFG i), 8, 3⟩
def F.CTX_CFG_IRQ (i : Nat) : Fld := ⟨(R.CTX_CFG i), 12, 4⟩
def F.CTX_CFG_IRQ_EN (i : Nat) : Fld := ⟨(R.CTX_CFG i), 16, 1⟩
def F.CTX_CTL_ENABLE (i : Nat) : Fld := ⟨(R.CTX_CTL i), 0, 1⟩
def F.CTX_CTL_DISABLE (i : Nat) : Fld := ⟨(R.CTX_CTL i), 1, 1⟩
def F.CTX_STAT_STATE (i : Nat) : Fld := ⟨(R.CTX_STAT i), 0, 2⟩
def F.CTX_STAT_REFUSED (i : Nat) : Fld := ⟨(R.CTX_STAT i), 2, 1⟩
def F.CTX_STAT_REASON (i : Nat) : Fld := ⟨(R.CTX_STAT i), 3, 3⟩
def F.CTX_STAT_DBERR (i : Nat) : Fld := ⟨(R.CTX_STAT i), 6, 1⟩
def F.CTX_STAT_CFGREJ (i : Nat) : Fld := ⟨(R.CTX_STAT i), 7, 1⟩
def F.CTX_STAT_OVERQ (i : Nat) : Fld := ⟨(R.CTX_STAT i), 8, 1⟩
def F.CTX_STAT_INFLIGHT (i : Nat) : Fld := ⟨(R.CTX_STAT i), 9, 11⟩
def F.CTX_COAL_CNT (i : Nat) : Fld := ⟨(R.CTX_COAL i), 0, 16⟩
def F.CTX_COAL_TIME_US (i : Nat) : Fld := ⟨(R.CTX_COAL i), 16, 16⟩
def F.CTX_DLINE_US (i : Nat) : Fld := ⟨(R.CTX_DLINE i), 0, 32⟩
def F.CTX_TALLY_CPL (i : Nat) : Fld := ⟨(R.CTX_TALLY i), 0, 16⟩
def F.CTX_TALLY_REFUSED (i : Nat) : Fld := ⟨(R.CTX_TALLY i), 16, 8⟩
def F.CTX_TALLY_EVLOST (i : Nat) : Fld := ⟨(R.CTX_TALLY i), 24, 8⟩
def F.QOS_Q_SEL_CTX : Fld := ⟨R.QOS_Q_SEL, 0, 12⟩
def F.QOS_Q_SEL_KIND : Fld := ⟨R.QOS_Q_SEL, 16, 4⟩
def F.QOS_Q_VAL_QUOTA : Fld := ⟨R.QOS_Q_VAL, 0, 32⟩
def F.QOS_Q_USE_USE : Fld := ⟨R.QOS_Q_USE, 0, 32⟩
def F.QOS_Q_STAT_OVER : Fld := ⟨R.QOS_Q_STAT, 0, 1⟩
def F.QOS_Q_STAT_REFUSED : Fld := ⟨R.QOS_Q_STAT, 1, 1⟩
def F.QOS_Q_STAT_REJ : Fld := ⟨R.QOS_Q_STAT, 2, 1⟩
def F.QOS_CAP_CAP (i : Nat) : Fld := ⟨(R.QOS_CAP i), 0, 32⟩
def F.QOS_CLASS_CFG_THR (i : Nat) : Fld := ⟨(R.QOS_CLASS_CFG i), 0, 8⟩
def F.QOS_DRAM_CFG_RSV (i : Nat) : Fld := ⟨(R.QOS_DRAM_CFG i), 0, 8⟩
def F.QOS_DRAM_CFG_WEIGHT (i : Nat) : Fld := ⟨(R.QOS_DRAM_CFG i), 16, 8⟩
def F.QOS_DRAM_STAT_REFUSED : Fld := ⟨R.QOS_DRAM_STAT, 0, 1⟩
def F.QOS_DRAM_STAT_RSVSUM : Fld := ⟨R.QOS_DRAM_STAT, 8, 8⟩
def F.QOS_TALLY_DLY_DELAYMAX (i : Nat) : Fld := ⟨(R.QOS_TALLY_DLY i), 0, 32⟩
def F.QOS_TALLY_CNT_LATE (i : Nat) : Fld := ⟨(R.QOS_TALLY_CNT i), 0, 16⟩
def F.QOS_TALLY_CNT_REFUSED (i : Nat) : Fld := ⟨(R.QOS_TALLY_CNT i), 16, 16⟩
def F.QOS_WAIT_STAT_WAITS : Fld := ⟨R.QOS_WAIT_STAT, 0, 11⟩
def F.QOS_WAIT_STAT_CYCLES : Fld := ⟨R.QOS_WAIT_STAT, 16, 8⟩
def F.MOR_CLASS_CFG_RESV (i : Nat) : Fld := ⟨(R.MOR_CLASS_CFG i), 0, 16⟩
def F.MOR_CLASS_CFG_WEIGHT (i : Nat) : Fld := ⟨(R.MOR_CLASS_CFG i), 16, 8⟩
def F.MOR_RT_SEL_ROUTE : Fld := ⟨R.MOR_RT_SEL, 0, 12⟩
def F.MOR_RT_STAGE0_SRC : Fld := ⟨R.MOR_RT_STAGE0, 0, 8⟩
def F.MOR_RT_STAGE0_DST0 : Fld := ⟨R.MOR_RT_STAGE0, 8, 8⟩
def F.MOR_RT_STAGE0_DST1 : Fld := ⟨R.MOR_RT_STAGE0, 16, 8⟩
def F.MOR_RT_STAGE0_DST2 : Fld := ⟨R.MOR_RT_STAGE0, 24, 8⟩
def F.MOR_RT_STAGE1_CLASS : Fld := ⟨R.MOR_RT_STAGE1, 0, 3⟩
def F.MOR_RT_STAGE1_BOUND : Fld := ⟨R.MOR_RT_STAGE1, 3, 1⟩
def F.MOR_RT_STAGE1_EN : Fld := ⟨R.MOR_RT_STAGE1, 4, 1⟩
def F.MOR_RT_STAGE1_BW : Fld := ⟨R.MOR_RT_STAGE1, 16, 16⟩
def F.MOR_RT_CTL_COMMIT : Fld := ⟨R.MOR_RT_CTL, 0, 1⟩
def F.MOR_RT_CTL_CANCEL : Fld := ⟨R.MOR_RT_CTL, 1, 1⟩
def F.MOR_RT_STAT_PEND : Fld := ⟨R.MOR_RT_STAT, 0, 1⟩
def F.MOR_RT_STAT_SWITCHED : Fld := ⟨R.MOR_RT_STAT, 1, 1⟩
def F.MOR_RT_STAT_REJ : Fld := ⟨R.MOR_RT_STAT, 2, 1⟩
def F.MOR_RT_STAT_REFUSED : Fld := ⟨R.MOR_RT_STAT, 3, 1⟩
def F.MOR_RT_ACTIVE0_SRC : Fld := ⟨R.MOR_RT_ACTIVE0, 0, 8⟩
def F.MOR_RT_ACTIVE0_DST0 : Fld := ⟨R.MOR_RT_ACTIVE0, 8, 8⟩
def F.MOR_RT_ACTIVE0_DST1 : Fld := ⟨R.MOR_RT_ACTIVE0, 16, 8⟩
def F.MOR_RT_ACTIVE0_DST2 : Fld := ⟨R.MOR_RT_ACTIVE0, 24, 8⟩
def F.MOR_RT_ACTIVE1_CLASS : Fld := ⟨R.MOR_RT_ACTIVE1, 0, 3⟩
def F.MOR_RT_ACTIVE1_BOUND : Fld := ⟨R.MOR_RT_ACTIVE1, 3, 1⟩
def F.MOR_RT_ACTIVE1_EN : Fld := ⟨R.MOR_RT_ACTIVE1, 4, 1⟩
def F.MOR_RT_ACTIVE1_BW : Fld := ⟨R.MOR_RT_ACTIVE1, 16, 16⟩
def F.MOR_EPOCH_EPOCH : Fld := ⟨R.MOR_EPOCH, 0, 32⟩
def F.MOR_ROOT_LO_DIG : Fld := ⟨R.MOR_ROOT_LO, 0, 32⟩
def F.MOR_ROOT_HI_DIG : Fld := ⟨R.MOR_ROOT_HI, 0, 32⟩
def F.MOR_STG_EPOCH_EPOCH : Fld := ⟨R.MOR_STG_EPOCH, 0, 32⟩
def F.MOR_STG_ROOT_LO_DIG : Fld := ⟨R.MOR_STG_ROOT_LO, 0, 32⟩
def F.MOR_STG_ROOT_HI_DIG : Fld := ⟨R.MOR_STG_ROOT_HI, 0, 32⟩
def F.MOR_ACT_EPOCH_EPOCH : Fld := ⟨R.MOR_ACT_EPOCH, 0, 32⟩
def F.MOR_ACT_TIME_LO_TIME : Fld := ⟨R.MOR_ACT_TIME_LO, 0, 32⟩
def F.MOR_ACT_TIME_HI_TIME : Fld := ⟨R.MOR_ACT_TIME_HI, 0, 32⟩
def F.MOR_ACT_CTL_ARM : Fld := ⟨R.MOR_ACT_CTL, 0, 1⟩
def F.MOR_ACT_CTL_DISARM : Fld := ⟨R.MOR_ACT_CTL, 1, 1⟩
def F.MOR_ACT_STAT_STAGED : Fld := ⟨R.MOR_ACT_STAT, 0, 1⟩
def F.MOR_ACT_STAT_ARMED : Fld := ⟨R.MOR_ACT_STAT, 1, 1⟩
def F.MOR_ACT_STAT_DONE : Fld := ⟨R.MOR_ACT_STAT, 2, 1⟩
def F.MOR_ACT_STAT_REFUSED : Fld := ⟨R.MOR_ACT_STAT, 3, 1⟩
def F.MOR_ACT_STAT_REASON : Fld := ⟨R.MOR_ACT_STAT, 4, 4⟩
def F.MOR_SWEEP_STAT_SEQ : Fld := ⟨R.MOR_SWEEP_STAT, 0, 16⟩
def F.MOR_SWEEP_STAT_STALE : Fld := ⟨R.MOR_SWEEP_STAT, 16, 1⟩
def F.MOR_SWEEP_STAT_LOCALCHG : Fld := ⟨R.MOR_SWEEP_STAT, 17, 1⟩
def F.MOR_SWEEP_STAT_MISMATCH : Fld := ⟨R.MOR_SWEEP_STAT, 18, 1⟩
def F.MOR_DIG_STAT_SLAB : Fld := ⟨R.MOR_DIG_STAT, 0, 3⟩
def F.MOR_DIG_STAT_COURSE : Fld := ⟨R.MOR_DIG_STAT, 3, 2⟩
def F.MOR_DIG_STAT_TILE : Fld := ⟨R.MOR_DIG_STAT, 5, 3⟩
def F.MOR_DIG_STAT_UNIT : Fld := ⟨R.MOR_DIG_STAT, 8, 5⟩
def F.MOR_DIG_STAT_VALID : Fld := ⟨R.MOR_DIG_STAT, 31, 1⟩
def F.MOR_NODE_SEL_NODE : Fld := ⟨R.MOR_NODE_SEL, 0, 5⟩
def F.MOR_NODE_EPOCH_EPOCH : Fld := ⟨R.MOR_NODE_EPOCH, 0, 32⟩
def F.MOR_NODE_DIG_LO_DIG : Fld := ⟨R.MOR_NODE_DIG_LO, 0, 32⟩
def F.MOR_NODE_DIG_HI_DIG : Fld := ⟨R.MOR_NODE_DIG_HI, 0, 32⟩
def F.TIL_STAT_RUN (i : Nat) : Fld := ⟨(R.TIL_STAT i), 0, 1⟩
def F.TIL_STAT_ECCFAIL (i : Nat) : Fld := ⟨(R.TIL_STAT i), 1, 1⟩
def F.TIL_STAT_CORR (i : Nat) : Fld := ⟨(R.TIL_STAT i), 8, 8⟩
def F.TIL_EPOCH_EPOCH (i : Nat) : Fld := ⟨(R.TIL_EPOCH i), 0, 32⟩
def F.TIL_DIG_LO_DIG (i : Nat) : Fld := ⟨(R.TIL_DIG_LO i), 0, 32⟩
def F.TIL_DIG_HI_DIG (i : Nat) : Fld := ⟨(R.TIL_DIG_HI i), 0, 32⟩
def F.TIL_SEG_FREE_FREE (i : Nat) : Fld := ⟨(R.TIL_SEG_FREE i), 0, 9⟩
def F.CEN_SEL_SLOT : Fld := ⟨R.CEN_SEL, 0, 13⟩
def F.CEN_CTL_ENABLE : Fld := ⟨R.CEN_CTL, 0, 1⟩
def F.CEN_CTL_DISABLE : Fld := ⟨R.CEN_CTL, 1, 1⟩
def F.CEN_CTL_REARM : Fld := ⟨R.CEN_CTL, 2, 1⟩
def F.CEN_CTL_SWAP : Fld := ⟨R.CEN_CTL, 3, 1⟩
def F.CEN_CMD_STAT_DONE : Fld := ⟨R.CEN_CMD_STAT, 0, 1⟩
def F.CEN_CMD_STAT_REFUSED : Fld := ⟨R.CEN_CMD_STAT, 1, 1⟩
def F.CEN_CMD_STAT_REASON : Fld := ⟨R.CEN_CMD_STAT, 2, 3⟩
def F.CEN_CMD_STAT_CFGREJ : Fld := ⟨R.CEN_CMD_STAT, 5, 1⟩
def F.CEN_CMD_STAT_BANKREJ : Fld := ⟨R.CEN_CMD_STAT, 6, 1⟩
def F.CEN_ADM_BOUND : Fld := ⟨R.CEN_ADM, 0, 24⟩
def F.CEN_REC_DATA (i : Nat) : Fld := ⟨(R.CEN_REC i), 0, 32⟩
def F.CEN_BANK_IN_DATA (i : Nat) : Fld := ⟨(R.CEN_BANK_IN i), 0, 32⟩
def F.CEN_BANK_ACT_DATA (i : Nat) : Fld := ⟨(R.CEN_BANK_ACT i), 0, 32⟩
def F.CEN_LSTAT_LSTATE (i : Nat) : Fld := ⟨(R.CEN_LSTAT i), 0, 3⟩
def F.CEN_LSTAT_BANK (i : Nat) : Fld := ⟨(R.CEN_LSTAT i), 3, 1⟩
def F.CEN_LSTAT_SWPEND (i : Nat) : Fld := ⟨(R.CEN_LSTAT i), 4, 1⟩
def F.CEN_LSTAT_INSTALE (i : Nat) : Fld := ⟨(R.CEN_LSTAT i), 5, 1⟩
def F.CEN_LSTAT_HOLD (i : Nat) : Fld := ⟨(R.CEN_LSTAT i), 6, 1⟩
def F.CEN_LSTAT_CONSEC (i : Nat) : Fld := ⟨(R.CEN_LSTAT i), 8, 8⟩
def F.CEN_LSTAT_CTX (i : Nat) : Fld := ⟨(R.CEN_LSTAT i), 20, 12⟩
def F.CEN_TILE_UTIL_UTIL (i : Nat) : Fld := ⟨(R.CEN_TILE_UTIL i), 0, 10⟩
def F.CEN_TILE_UTIL_SLOTS (i : Nat) : Fld := ⟨(R.CEN_TILE_UTIL i), 16, 7⟩
def F.CEN_FAULTMAP_FAULTED (i : Nat) : Fld := ⟨(R.CEN_FAULTMAP i), 0, 32⟩
def F.FUS_TB_CFG_SRC : Fld := ⟨R.FUS_TB_CFG, 0, 2⟩
def F.FUS_TB_STAT_STATE : Fld := ⟨R.FUS_TB_STAT, 0, 2⟩
def F.FUS_TB_STAT_SRCUSED : Fld := ⟨R.FUS_TB_STAT, 2, 2⟩
def F.FUS_TB_STAT_OFSCHG : Fld := ⟨R.FUS_TB_STAT, 4, 1⟩
def F.FUS_TB_STAT_SLEW : Fld := ⟨R.FUS_TB_STAT, 5, 1⟩
def F.FUS_TB_PHERR_PHERR : Fld := ⟨R.FUS_TB_PHERR, 0, 32⟩
def F.FUS_TB_ERREST_ERREST : Fld := ⟨R.FUS_TB_ERREST, 0, 32⟩
def F.FUS_TB_OFS_LO_OFS : Fld := ⟨R.FUS_TB_OFS_LO, 0, 32⟩
def F.FUS_TB_OFS_HI_OFS : Fld := ⟨R.FUS_TB_OFS_HI, 0, 32⟩
def F.FUS_TB_NOW_LO_NOW : Fld := ⟨R.FUS_TB_NOW_LO, 0, 32⟩
def F.FUS_TB_NOW_HI_NOW : Fld := ⟨R.FUS_TB_NOW_HI, 0, 32⟩
def F.FUS_TRG_CFG_PERIOD_US (i : Nat) : Fld := ⟨(R.FUS_TRG_CFG i), 0, 24⟩
def F.FUS_TRG_CFG_EN (i : Nat) : Fld := ⟨(R.FUS_TRG_CFG i), 31, 1⟩
def F.FUS_TRG_PH_PHASE (i : Nat) : Fld := ⟨(R.FUS_TRG_PH i), 0, 27⟩
def F.FUS_TRG_STAT_REJ : Fld := ⟨R.FUS_TRG_STAT, 0, 16⟩
def F.FUS_EGO_CFG_ENC_L : Fld := ⟨R.FUS_EGO_CFG, 0, 3⟩
def F.FUS_EGO_CFG_ENC_R : Fld := ⟨R.FUS_EGO_CFG, 3, 3⟩
def F.FUS_EGO_CFG_ROUTE : Fld := ⟨R.FUS_EGO_CFG, 6, 12⟩
def F.FUS_EGO_CFG_TILE : Fld := ⟨R.FUS_EGO_CFG, 18, 7⟩
def F.FUS_EGO_CFG_EN : Fld := ⟨R.FUS_EGO_CFG, 25, 1⟩
def F.FUS_EGO_SCALE_NM : Fld := ⟨R.FUS_EGO_SCALE, 0, 32⟩
def F.FUS_EGO_STAT_VALID : Fld := ⟨R.FUS_EGO_STAT, 0, 1⟩
def F.FUS_EGO_STAT_IMU_OK : Fld := ⟨R.FUS_EGO_STAT, 1, 1⟩
def F.FUS_EGO_STAT_ENC_OK : Fld := ⟨R.FUS_EGO_STAT, 2, 1⟩
def F.FUS_EGO_STAT_SLIP : Fld := ⟨R.FUS_EGO_STAT, 16, 16⟩
def F.FUS_NET_CFG_CAMMASK (i : Nat) : Fld := ⟨(R.FUS_NET_CFG i), 0, 16⟩
def F.FUS_NET_CFG_EN (i : Nat) : Fld := ⟨(R.FUS_NET_CFG i), 16, 1⟩
def F.FUS_NET_CFG_FCST (i : Nat) : Fld := ⟨(R.FUS_NET_CFG i), 17, 1⟩
def F.FUS_NET_CFG_MAXGAP (i : Nat) : Fld := ⟨(R.FUS_NET_CFG i), 18, 4⟩
def F.FUS_NET_CFG_RST (i : Nat) : Fld := ⟨(R.FUS_NET_CFG i), 22, 1⟩
def F.FUS_NET_CFG_REJ (i : Nat) : Fld := ⟨(R.FUS_NET_CFG i), 23, 1⟩
def F.FUS_NET_TIM_ASM (i : Nat) : Fld := ⟨(R.FUS_NET_TIM i), 0, 16⟩
def F.FUS_NET_TIM_DL (i : Nat) : Fld := ⟨(R.FUS_NET_TIM i), 16, 16⟩
def F.FUS_NET_TILES_FIRST (i : Nat) : Fld := ⟨(R.FUS_NET_TILES i), 0, 7⟩
def F.FUS_NET_TILES_COUNT (i : Nat) : Fld := ⟨(R.FUS_NET_TILES i), 7, 8⟩
def F.FUS_NET_TILES_GROUTE (i : Nat) : Fld := ⟨(R.FUS_NET_TILES i), 15, 12⟩
def F.FUS_NET_TILES_GEN (i : Nat) : Fld := ⟨(R.FUS_NET_TILES i), 27, 1⟩
def F.FUS_NET_STAT_GAPS (i : Nat) : Fld := ⟨(R.FUS_NET_STAT i), 0, 8⟩
def F.FUS_NET_STAT_ABANDONED (i : Nat) : Fld := ⟨(R.FUS_NET_STAT i), 8, 8⟩
def F.FUS_NET_STAT_LATEFRM (i : Nat) : Fld := ⟨(R.FUS_NET_STAT i), 16, 8⟩
def F.FUS_NET_STAT_RESETS (i : Nat) : Fld := ⟨(R.FUS_NET_STAT i), 24, 4⟩
def F.FUS_NET_STAT_LASTRST (i : Nat) : Fld := ⟨(R.FUS_NET_STAT i), 28, 4⟩
def F.FUS_CAL_VER_VERSION : Fld := ⟨R.FUS_CAL_VER, 0, 32⟩
def F.FUS_CAL_SEL_PARAM : Fld := ⟨R.FUS_CAL_SEL, 0, 8⟩
def F.FUS_CAL_SEL_BASE : Fld := ⟨R.FUS_CAL_SEL, 8, 1⟩
def F.FUS_CAL_VAL_VALUE : Fld := ⟨R.FUS_CAL_VAL, 0, 32⟩
def F.FUS_CAL_CTL_PUBLISH : Fld := ⟨R.FUS_CAL_CTL, 0, 1⟩
def F.FUS_CAL_CTL_REFINE : Fld := ⟨R.FUS_CAL_CTL, 1, 1⟩
def F.FUS_CAL_CTL_ATBOUND : Fld := ⟨R.FUS_CAL_CTL, 2, 1⟩
def F.FUS_OUT_BASE_LO_ADDR : Fld := ⟨R.FUS_OUT_BASE_LO, 6, 26⟩
def F.FUS_OUT_BASE_HI_ADDR : Fld := ⟨R.FUS_OUT_BASE_HI, 0, 32⟩
def F.FUS_OUT_SIZE_LOG2 : Fld := ⟨R.FUS_OUT_SIZE, 0, 4⟩
def F.FUS_OUT_PTR_WPTR : Fld := ⟨R.FUS_OUT_PTR, 0, 16⟩
def F.FUS_OUT_PTR_RPTR : Fld := ⟨R.FUS_OUT_PTR, 16, 16⟩
def F.FUS_OUT_STAT_DROP : Fld := ⟨R.FUS_OUT_STAT, 0, 16⟩
def F.FUS_OUT_STAT_PEND : Fld := ⟨R.FUS_OUT_STAT, 16, 9⟩
def F.FUS_OUT_CTL_EN : Fld := ⟨R.FUS_OUT_CTL, 0, 1⟩
def F.FUS_OUT_CTL_POSE : Fld := ⟨R.FUS_OUT_CTL, 1, 1⟩
def F.FUS_OUT_CTL_TRK : Fld := ⟨R.FUS_OUT_CTL, 2, 1⟩
def F.FUS_OUT_CTL_MINCONF : Fld := ⟨R.FUS_OUT_CTL, 16, 16⟩
def F.FUS_FCST_CFG_EN : Fld := ⟨R.FUS_FCST_CFG, 0, 1⟩
def F.FUS_FCST_CFG_STALE : Fld := ⟨R.FUS_FCST_CFG, 1, 1⟩
def F.FUS_FCST_CFG_GAINRST : Fld := ⟨R.FUS_FCST_CFG, 2, 1⟩
def F.FUS_FCST_CFG_FS_KGS : Fld := ⟨R.FUS_FCST_CFG, 16, 16⟩
def F.FUS_FCST_GAIN_GAIN : Fld := ⟨R.FUS_FCST_GAIN, 0, 16⟩
def F.FUS_STATION_DLY_DLY_MS (i : Nat) : Fld := ⟨(R.FUS_STATION_DLY i), 0, 16⟩
def F.FUS_CROP_CROP : Fld := ⟨R.FUS_CROP, 0, 8⟩
def F.FUS_CROP_KMASS_MG : Fld := ⟨R.FUS_CROP, 8, 8⟩
def F.FUS_CROP_STDMOIST : Fld := ⟨R.FUS_CROP, 16, 16⟩
def F.FUS_CUTW_WIDTH_CM : Fld := ⟨R.FUS_CUTW, 0, 16⟩
def F.FUS_LOSS_CFG_COVER_SEP : Fld := ⟨R.FUS_LOSS_CFG, 0, 16⟩
def F.FUS_LOSS_CFG_COVER_CLN : Fld := ⟨R.FUS_LOSS_CFG, 16, 16⟩
def F.FUS_PIEZO_CFG_EN (i : Nat) : Fld := ⟨(R.FUS_PIEZO_CFG i), 0, 1⟩
def F.FUS_PIEZO_CFG_GROUP (i : Nat) : Fld := ⟨(R.FUS_PIEZO_CFG i), 1, 1⟩
def F.FUS_PIEZO_CFG_FAULT (i : Nat) : Fld := ⟨(R.FUS_PIEZO_CFG i), 2, 1⟩
def F.FUS_PIEZO_CFG_THRESH (i : Nat) : Fld := ⟨(R.FUS_PIEZO_CFG i), 16, 16⟩
def F.FUS_MFLOW_K_K (i : Nat) : Fld := ⟨(R.FUS_MFLOW_K i), 0, 32⟩
def F.FUS_MFLOW_SPD_VNOM (i : Nat) : Fld := ⟨(R.FUS_MFLOW_SPD i), 0, 16⟩
def F.FUS_MFLOW_SPD_FIN (i : Nat) : Fld := ⟨(R.FUS_MFLOW_SPD i), 16, 4⟩
def F.FUS_MFLOW_SPD_EN (i : Nat) : Fld := ⟨(R.FUS_MFLOW_SPD i), 31, 1⟩
def F.FUS_YIELD_CFG_DLY_MASS_MS : Fld := ⟨R.FUS_YIELD_CFG, 0, 16⟩
def F.FUS_YIELD_CFG_DLY_MOIST_MS : Fld := ⟨R.FUS_YIELD_CFG, 16, 16⟩
def F.FUS_YIELD_CTL_EN : Fld := ⟨R.FUS_YIELD_CTL, 0, 1⟩
def F.FUS_YIELD_CTL_HWORK : Fld := ⟨R.FUS_YIELD_CTL, 16, 16⟩
def F.FUS_YIELD_BASE_LO_ADDR : Fld := ⟨R.FUS_YIELD_BASE_LO, 6, 26⟩
def F.FUS_YIELD_BASE_HI_ADDR : Fld := ⟨R.FUS_YIELD_BASE_HI, 0, 32⟩
def F.FUS_YIELD_SIZE_LOG2 : Fld := ⟨R.FUS_YIELD_SIZE, 0, 4⟩
def F.FUS_YIELD_PTR_WPTR : Fld := ⟨R.FUS_YIELD_PTR, 0, 16⟩
def F.FUS_YIELD_PTR_RPTR : Fld := ⟨R.FUS_YIELD_PTR, 16, 16⟩
def F.FUS_YIELD_STAT_DROP : Fld := ⟨R.FUS_YIELD_STAT, 0, 16⟩
def F.FUS_YIELD_STAT_PEND : Fld := ⟨R.FUS_YIELD_STAT, 16, 7⟩
def F.CAM_GLB_CFG_WIDE : Fld := ⟨R.CAM_GLB_CFG, 0, 1⟩
def F.CAM_GLB_STAT_ACTIVE : Fld := ⟨R.CAM_GLB_STAT, 0, 16⟩
def F.CAM_GLB_STAT_WIDEREJ : Fld := ⟨R.CAM_GLB_STAT, 16, 1⟩
def F.CAM_ST_CTL_EN : Fld := ⟨R.CAM_ST_CTL, 0, 1⟩
def F.CAM_ST_CTL_HOLD : Fld := ⟨R.CAM_ST_CTL, 1, 1⟩
def F.CAM_ST_BASE_LO_ADDR : Fld := ⟨R.CAM_ST_BASE_LO, 6, 26⟩
def F.CAM_ST_BASE_HI_ADDR : Fld := ⟨R.CAM_ST_BASE_HI, 0, 32⟩
def F.CAM_ST_SIZE_LOG2 : Fld := ⟨R.CAM_ST_SIZE, 0, 4⟩
def F.CAM_ST_PTR_WPTR : Fld := ⟨R.CAM_ST_PTR, 0, 16⟩
def F.CAM_ST_PTR_RPTR : Fld := ⟨R.CAM_ST_PTR, 16, 16⟩
def F.CAM_ST_STAT_DROP : Fld := ⟨R.CAM_ST_STAT, 0, 16⟩
def F.CAM_ST_STAT_PEND : Fld := ⟨R.CAM_ST_STAT, 16, 6⟩
def F.CAM_PORT_CFG_EN (i : Nat) : Fld := ⟨(R.CAM_PORT_CFG i), 0, 1⟩
def F.CAM_PORT_CFG_GEAR (i : Nat) : Fld := ⟨(R.CAM_PORT_CFG i), 1, 3⟩
def F.CAM_PORT_CFG_VC (i : Nat) : Fld := ⟨(R.CAM_PORT_CFG i), 4, 4⟩
def F.CAM_PORT_CFG_DT (i : Nat) : Fld := ⟨(R.CAM_PORT_CFG i), 8, 6⟩
def F.CAM_PORT_CFG_MOSAIC (i : Nat) : Fld := ⟨(R.CAM_PORT_CFG i), 14, 2⟩
def F.CAM_PORT_CFG_MPX (i : Nat) : Fld := ⟨(R.CAM_PORT_CFG i), 16, 2⟩
def F.CAM_PORT_CFG_MPY (i : Nat) : Fld := ⟨(R.CAM_PORT_CFG i), 18, 2⟩
def F.CAM_PORT_FMT_WIDTH (i : Nat) : Fld := ⟨(R.CAM_PORT_FMT i), 0, 14⟩
def F.CAM_PORT_FMT_HEIGHT (i : Nat) : Fld := ⟨(R.CAM_PORT_FMT i), 16, 14⟩
def F.CAM_PORT_TIM_DL (i : Nat) : Fld := ⟨(R.CAM_PORT_TIM i), 0, 16⟩
def F.CAM_PORT_TIM_FSWIN (i : Nat) : Fld := ⟨(R.CAM_PORT_TIM i), 16, 8⟩
def F.CAM_PORT_TIM_TPW (i : Nat) : Fld := ⟨(R.CAM_PORT_TIM i), 24, 8⟩
def F.CAM_PORT_BLK0_BLK_R (i : Nat) : Fld := ⟨(R.CAM_PORT_BLK0 i), 0, 16⟩
def F.CAM_PORT_BLK0_BLK_G (i : Nat) : Fld := ⟨(R.CAM_PORT_BLK0 i), 16, 16⟩
def F.CAM_PORT_BLK1_BLK_B (i : Nat) : Fld := ⟨(R.CAM_PORT_BLK1 i), 0, 16⟩
def F.CAM_PORT_BLK1_BLK_I (i : Nat) : Fld := ⟨(R.CAM_PORT_BLK1 i), 16, 16⟩
def F.CAM_PORT_DEF_DEFTHR (i : Nat) : Fld := ⟨(R.CAM_PORT_DEF i), 0, 16⟩
def F.CAM_PORT_DEF_CSH (i : Nat) : Fld := ⟨(R.CAM_PORT_DEF i), 16, 2⟩
def F.CAM_PORT_TAP_POINT (i : Nat) (j : Nat) : Fld := ⟨(R.CAM_PORT_TAP i j), 0, 2⟩
def F.CAM_PORT_TAP_FMT (i : Nat) (j : Nat) : Fld := ⟨(R.CAM_PORT_TAP i j), 2, 1⟩
def F.CAM_PORT_TAP_EN (i : Nat) (j : Nat) : Fld := ⟨(R.CAM_PORT_TAP i j), 3, 1⟩
def F.CAM_PORT_TAP_ROUTE (i : Nat) (j : Nat) : Fld := ⟨(R.CAM_PORT_TAP i j), 4, 12⟩
def F.CAM_PORT_TAP_TAPERR (i : Nat) (j : Nat) : Fld := ⟨(R.CAM_PORT_TAP i j), 16, 1⟩
def F.CAM_PORT_CCM_M_LO (i : Nat) (j : Nat) : Fld := ⟨(R.CAM_PORT_CCM i j), 0, 16⟩
def F.CAM_PORT_CCM_M_HI (i : Nat) (j : Nat) : Fld := ⟨(R.CAM_PORT_CCM i j), 16, 16⟩
def F.CAM_PORT_I2C_DEV (i : Nat) : Fld := ⟨(R.CAM_PORT_I2C i), 0, 7⟩
def F.CAM_PORT_I2C_RD (i : Nat) : Fld := ⟨(R.CAM_PORT_I2C i), 7, 1⟩
def F.CAM_PORT_I2C_REG (i : Nat) : Fld := ⟨(R.CAM_PORT_I2C i), 8, 16⟩
def F.CAM_PORT_I2C_DATA (i : Nat) : Fld := ⟨(R.CAM_PORT_I2C i), 24, 8⟩
def F.CAM_PORT_STAT_LINK (i : Nat) : Fld := ⟨(R.CAM_PORT_STAT i), 0, 1⟩
def F.CAM_PORT_STAT_REFUSED (i : Nat) : Fld := ⟨(R.CAM_PORT_STAT i), 1, 1⟩
def F.CAM_PORT_STAT_I2CBUSY (i : Nat) : Fld := ⟨(R.CAM_PORT_STAT i), 2, 1⟩
def F.CAM_PORT_STAT_I2CNACK (i : Nat) : Fld := ⟨(R.CAM_PORT_STAT i), 3, 1⟩
def F.CAM_PORT_STAT_CFGREJ (i : Nat) : Fld := ⟨(R.CAM_PORT_STAT i), 4, 1⟩
def F.CAM_PORT_STAT_RDATA (i : Nat) : Fld := ⟨(R.CAM_PORT_STAT i), 8, 8⟩
def F.CAM_PORT_CNT_DROPPED (i : Nat) : Fld := ⟨(R.CAM_PORT_CNT i), 0, 8⟩
def F.CAM_PORT_CNT_DAMAGED (i : Nat) : Fld := ⟨(R.CAM_PORT_CNT i), 8, 8⟩
def F.CAM_PORT_CNT_ORPHAN (i : Nat) : Fld := ⟨(R.CAM_PORT_CNT i), 16, 8⟩
def F.CAM_PORT_CNT_FOREIGN (i : Nat) : Fld := ⟨(R.CAM_PORT_CNT i), 24, 8⟩
def F.CAM_PORT_LAST_F (i : Nat) : Fld := ⟨(R.CAM_PORT_LAST i), 0, 32⟩
def F.CAM_ST_HIST_COUNT (i : Nat) (j : Nat) : Fld := ⟨(R.CAM_ST_HIST i j), 0, 32⟩
def F.CAM_ST_ZONE_LO (i : Nat) (j : Nat) : Fld := ⟨(R.CAM_ST_ZONE i j), 0, 16⟩
def F.CAM_ST_ZONE_HI (i : Nat) (j : Nat) : Fld := ⟨(R.CAM_ST_ZONE i j), 16, 16⟩
def F.CAM_ST_PIX_PIXELS (i : Nat) : Fld := ⟨(R.CAM_ST_PIX i), 0, 32⟩
def F.GNS_CFG_EN : Fld := ⟨R.GNS_CFG, 0, 1⟩
def F.GNS_CFG_RATE : Fld := ⟨R.GNS_CFG, 1, 2⟩
def F.GNS_CFG_GAL_EN : Fld := ⟨R.GNS_CFG, 3, 1⟩
def F.GNS_CFG_L5_EN : Fld := ⟨R.GNS_CFG, 4, 1⟩
def F.GNS_CFG_ELMASK : Fld := ⟨R.GNS_CFG, 5, 7⟩
def F.GNS_ANTDLY_NS : Fld := ⟨R.GNS_ANTDLY, 0, 16⟩
def F.GNS_SV_MASK_GPS_EXCL : Fld := ⟨R.GNS_SV_MASK_GPS, 0, 32⟩
def F.GNS_SV_MASK_GAL_LO_EXCL : Fld := ⟨R.GNS_SV_MASK_GAL_LO, 0, 32⟩
def F.GNS_SV_MASK_GAL_HI_EXCL : Fld := ⟨R.GNS_SV_MASK_GAL_HI, 0, 4⟩
def F.GNS_STAT_FIX : Fld := ⟨R.GNS_STAT, 0, 3⟩
def F.GNS_STAT_SVUSED : Fld := ⟨R.GNS_STAT, 3, 6⟩
def F.GNS_STAT_SVDUAL : Fld := ⟨R.GNS_STAT, 9, 6⟩
def F.GNS_STAT_TIMEVALID : Fld := ⟨R.GNS_STAT, 15, 1⟩
def F.GNS_STAT_PPSACT : Fld := ⟨R.GNS_STAT, 16, 1⟩
def F.GNS_STAT_ANTOPEN : Fld := ⟨R.GNS_STAT, 17, 1⟩
def F.GNS_STAT_ANTSHORT : Fld := ⟨R.GNS_STAT, 18, 1⟩
def F.GNS_STAT_INJREJ : Fld := ⟨R.GNS_STAT, 19, 1⟩
def F.GNS_STAT_CFGREJ : Fld := ⟨R.GNS_STAT, 20, 1⟩
def F.GNS_PPS_CFG_EN : Fld := ⟨R.GNS_PPS_CFG, 0, 1⟩
def F.GNS_PPS_CFG_POL : Fld := ⟨R.GNS_PPS_CFG, 1, 1⟩
def F.GNS_PPS_CFG_FREERUN : Fld := ⟨R.GNS_PPS_CFG, 2, 1⟩
def F.GNS_PPS_CFG_PW : Fld := ⟨R.GNS_PPS_CFG, 3, 9⟩
def F.GNS_PPS_QERR_QERR : Fld := ⟨R.GNS_PPS_QERR, 0, 32⟩
def F.GNS_NAV_CNT_FAILED : Fld := ⟨R.GNS_NAV_CNT, 0, 16⟩
def F.GNS_NAV_CNT_PASSED : Fld := ⟨R.GNS_NAV_CNT, 16, 16⟩
def F.GNS_RING_BASE_LO_ADDR : Fld := ⟨R.GNS_RING_BASE_LO, 7, 25⟩
def F.GNS_RING_BASE_HI_ADDR : Fld := ⟨R.GNS_RING_BASE_HI, 0, 32⟩
def F.GNS_RING_SIZE_LOG2 : Fld := ⟨R.GNS_RING_SIZE, 0, 4⟩
def F.GNS_RING_PTR_WPTR : Fld := ⟨R.GNS_RING_PTR, 0, 16⟩
def F.GNS_RING_PTR_RPTR : Fld := ⟨R.GNS_RING_PTR, 16, 16⟩
def F.GNS_RING_STAT_DROP : Fld := ⟨R.GNS_RING_STAT, 0, 16⟩
def F.GNS_RING_STAT_PEND : Fld := ⟨R.GNS_RING_STAT, 16, 10⟩
def F.GNS_RING_CTL_EN : Fld := ⟨R.GNS_RING_CTL, 0, 1⟩
def F.GNS_RING_CTL_MEAS : Fld := ⟨R.GNS_RING_CTL, 1, 1⟩
def F.GNS_RING_CTL_NAV : Fld := ⟨R.GNS_RING_CTL, 2, 1⟩
def F.GNS_RING_CTL_NAVFAIL : Fld := ⟨R.GNS_RING_CTL, 3, 1⟩
def F.GNS_INJ_LAT_VALUE : Fld := ⟨R.GNS_INJ_LAT, 0, 32⟩
def F.GNS_INJ_LON_VALUE : Fld := ⟨R.GNS_INJ_LON, 0, 32⟩
def F.GNS_INJ_HGT_VALUE : Fld := ⟨R.GNS_INJ_HGT, 0, 32⟩
def F.GNS_INJ_CTL_FIX : Fld := ⟨R.GNS_INJ_CTL, 0, 3⟩
def F.GNS_INJ_CTL_COMMIT : Fld := ⟨R.GNS_INJ_CTL, 3, 1⟩
def F.GNS_INJ_CTL_EPOCH : Fld := ⟨R.GNS_INJ_CTL, 16, 16⟩
def F.GNS_CH_STAT_STATE (i : Nat) : Fld := ⟨(R.GNS_CH_STAT i), 0, 2⟩
def F.GNS_CH_STAT_SYS (i : Nat) : Fld := ⟨(R.GNS_CH_STAT i), 2, 1⟩
def F.GNS_CH_STAT_PRN (i : Nat) : Fld := ⟨(R.GNS_CH_STAT i), 3, 6⟩
def F.GNS_CH_STAT_CN0 (i : Nat) : Fld := ⟨(R.GNS_CH_STAT i), 16, 16⟩
def F.OX_GLB_CFG_PIDLYMAX : Fld := ⟨R.OX_GLB_CFG, 0, 16⟩
def F.OX_GLB_STAT_VBOOST : Fld := ⟨R.OX_GLB_STAT, 0, 10⟩
def F.OX_GLB_STAT_LOW : Fld := ⟨R.OX_GLB_STAT, 10, 1⟩
def F.OX_GLB_STAT_CLAMP : Fld := ⟨R.OX_GLB_STAT, 11, 1⟩
def F.OX_GLB_STAT_SUPLOW : Fld := ⟨R.OX_GLB_STAT, 12, 1⟩
def F.OX_GLB_STAT_TOKFREE : Fld := ⟨R.OX_GLB_STAT, 13, 3⟩
def F.OX_GLB_STAT_PIGRSV : Fld := ⟨R.OX_GLB_STAT, 16, 3⟩
def F.OX_GLB_STAT_PIGREJ : Fld := ⟨R.OX_GLB_STAT, 19, 1⟩
def F.OX_GLB_STAT_PAIRREJ : Fld := ⟨R.OX_GLB_STAT, 20, 1⟩
def F.OX_GLB_STAT_QUEUE : Fld := ⟨R.OX_GLB_STAT, 21, 6⟩
def F.OX_GLB_TALLY_PULLINS : Fld := ⟨R.OX_GLB_TALLY, 0, 16⟩
def F.OX_GLB_TALLY_DLYMAX : Fld := ⟨R.OX_GLB_TALLY, 16, 16⟩
def F.OX_CH_CFG_EN (i : Nat) : Fld := ⟨(R.OX_CH_CFG i), 0, 1⟩
def F.OX_CH_CFG_PAIR (i : Nat) : Fld := ⟨(R.OX_CH_CFG i), 1, 1⟩
def F.OX_CH_CFG_GCUT (i : Nat) : Fld := ⟨(R.OX_CH_CFG i), 2, 1⟩
def F.OX_CH_CFG_PIG (i : Nat) : Fld := ⟨(R.OX_CH_CFG i), 3, 1⟩
def F.OX_CH_CFG_CLASS (i : Nat) : Fld := ⟨(R.OX_CH_CFG i), 4, 3⟩
def F.OX_CH_CFG_ROUTE (i : Nat) : Fld := ⟨(R.OX_CH_CFG i), 8, 12⟩
def F.OX_CH_CFG_LANE (i : Nat) : Fld := ⟨(R.OX_CH_CFG i), 20, 2⟩
def F.OX_CH_CFG_CFGREJ (i : Nat) : Fld := ⟨(R.OX_CH_CFG i), 22, 1⟩
def F.OX_CH_MRT_ROUTE (i : Nat) : Fld := ⟨(R.OX_CH_MRT i), 0, 12⟩
def F.OX_CH_MRT_EN (i : Nat) : Fld := ⟨(R.OX_CH_MRT i), 12, 1⟩
def F.OX_CH_PI_PI_US (i : Nat) : Fld := ⟨(R.OX_CH_PI i), 0, 10⟩
def F.OX_CH_PI_PI_MA (i : Nat) : Fld := ⟨(R.OX_CH_PI i), 16, 12⟩
def F.OX_CH_DITH_DFREQ (i : Nat) : Fld := ⟨(R.OX_CH_DITH i), 0, 9⟩
def F.OX_CH_DITH_DAMP (i : Nat) : Fld := ⟨(R.OX_CH_DITH i), 16, 8⟩
def F.OX_CH_LIM_DLIM (i : Nat) : Fld := ⟨(R.OX_CH_LIM i), 0, 16⟩
def F.OX_CH_LIM_DWIN (i : Nat) : Fld := ⟨(R.OX_CH_LIM i), 16, 6⟩
def F.OX_CH_LIM_TMO (i : Nat) : Fld := ⟨(R.OX_CH_LIM i), 24, 8⟩
def F.OX_CH_STAT_STATE (i : Nat) : Fld := ⟨(R.OX_CH_STAT i), 0, 2⟩
def F.OX_CH_STAT_QUEUED (i : Nat) : Fld := ⟨(R.OX_CH_STAT i), 2, 1⟩
def F.OX_CH_STAT_DLIMACT (i : Nat) : Fld := ⟨(R.OX_CH_STAT i), 3, 1⟩
def F.OX_CH_STAT_SHORT (i : Nat) : Fld := ⟨(R.OX_CH_STAT i), 4, 1⟩
def F.OX_CH_STAT_OPEN (i : Nat) : Fld := ⟨(R.OX_CH_STAT i), 5, 1⟩
def F.OX_CH_STAT_OVERTEMP (i : Nat) : Fld := ⟨(R.OX_CH_STAT i), 6, 1⟩
def F.OX_CH_STAT_TIMEOUT (i : Nat) : Fld := ⟨(R.OX_CH_STAT i), 7, 1⟩
def F.OX_CH_STAT_CURR (i : Nat) : Fld := ⟨(R.OX_CH_STAT i), 16, 16⟩
def F.OX_CH_DLY_LAST (i : Nat) : Fld := ⟨(R.OX_CH_DLY i), 0, 16⟩
def F.OX_CH_DLY_MAX (i : Nat) : Fld := ⟨(R.OX_CH_DLY i), 16, 16⟩
def F.OX_CH_MON_DUTY (i : Nat) : Fld := ⟨(R.OX_CH_MON i), 0, 16⟩
def F.OX_CH_MON_PULLINS (i : Nat) : Fld := ⟨(R.OX_CH_MON i), 16, 8⟩
def F.MUL_GLB_STAT_VSUP : Fld := ⟨R.MUL_GLB_STAT, 0, 10⟩
def F.MUL_GLB_STAT_UVLO : Fld := ⟨R.MUL_GLB_STAT, 10, 1⟩
def F.MUL_GLB_STAT_ON : Fld := ⟨R.MUL_GLB_STAT, 11, 7⟩
def F.MUL_GLB_TALLY_TSD : Fld := ⟨R.MUL_GLB_TALLY, 0, 16⟩
def F.MUL_GLB_TALLY_ILIM : Fld := ⟨R.MUL_GLB_TALLY, 16, 16⟩
def F.MUL_CH_CFG_EN (i : Nat) : Fld := ⟨(R.MUL_CH_CFG i), 0, 1⟩
def F.MUL_CH_CFG_SRC (i : Nat) : Fld := ⟨(R.MUL_CH_CFG i), 1, 1⟩
def F.MUL_CH_CFG_GCUT (i : Nat) : Fld := ⟨(R.MUL_CH_CFG i), 2, 1⟩
def F.MUL_CH_CFG_OLDET (i : Nat) : Fld := ⟨(R.MUL_CH_CFG i), 3, 1⟩
def F.MUL_CH_CFG_RETRY (i : Nat) : Fld := ⟨(R.MUL_CH_CFG i), 4, 3⟩
def F.MUL_CH_CFG_ROUTE (i : Nat) : Fld := ⟨(R.MUL_CH_CFG i), 8, 12⟩
def F.MUL_CH_CFG_LANE (i : Nat) : Fld := ⟨(R.MUL_CH_CFG i), 20, 2⟩
def F.MUL_CH_CFG_CFGREJ (i : Nat) : Fld := ⟨(R.MUL_CH_CFG i), 22, 1⟩
def F.MUL_CH_CMD_ON (i : Nat) : Fld := ⟨(R.MUL_CH_CMD i), 0, 1⟩
def F.MUL_CH_STAT_STATE (i : Nat) : Fld := ⟨(R.MUL_CH_STAT i), 0, 2⟩
def F.MUL_CH_STAT_ILIM (i : Nat) : Fld := ⟨(R.MUL_CH_STAT i), 2, 1⟩
def F.MUL_CH_STAT_TSD (i : Nat) : Fld := ⟨(R.MUL_CH_STAT i), 3, 1⟩
def F.MUL_CH_STAT_OPEN (i : Nat) : Fld := ⟨(R.MUL_CH_STAT i), 4, 1⟩
def F.MUL_CH_STAT_SHORTBAT (i : Nat) : Fld := ⟨(R.MUL_CH_STAT i), 5, 1⟩
def F.MUL_CH_STAT_HEAVY (i : Nat) : Fld := ⟨(R.MUL_CH_STAT i), 6, 1⟩
def F.MUL_CH_STAT_RETRIES (i : Nat) : Fld := ⟨(R.MUL_CH_STAT i), 7, 3⟩
def F.MUL_CH_STAT_CURR (i : Nat) : Fld := ⟨(R.MUL_CH_STAT i), 16, 16⟩
def F.MUL_CH_TALLY_ILIMCNT (i : Nat) : Fld := ⟨(R.MUL_CH_TALLY i), 0, 8⟩
def F.MUL_CH_TALLY_TSDCNT (i : Nat) : Fld := ⟨(R.MUL_CH_TALLY i), 8, 8⟩
def F.MUL_CH_TALLY_SWON (i : Nat) : Fld := ⟨(R.MUL_CH_TALLY i), 16, 16⟩
def F.CAN_CFG_OFFBUS (i : Nat) : Fld := ⟨(R.CAN_CFG i), 0, 1⟩
def F.CAN_CFG_FD_EN (i : Nat) : Fld := ⟨(R.CAN_CFG i), 1, 1⟩
def F.CAN_CFG_RATESW_EN (i : Nat) : Fld := ⟨(R.CAN_CFG i), 2, 1⟩
def F.CAN_CFG_LISTEN (i : Nat) : Fld := ⟨(R.CAN_CFG i), 3, 1⟩
def F.CAN_CFG_RESTR (i : Nat) : Fld := ⟨(R.CAN_CFG i), 4, 1⟩
def F.CAN_CFG_ONESHOT (i : Nat) : Fld := ⟨(R.CAN_CFG i), 5, 1⟩
def F.CAN_CFG_BOREC (i : Nat) : Fld := ⟨(R.CAN_CFG i), 6, 1⟩
def F.CAN_CFG_ABD (i : Nat) : Fld := ⟨(R.CAN_CFG i), 7, 1⟩
def F.CAN_CFG_ISODA (i : Nat) : Fld := ⟨(R.CAN_CFG i), 8, 1⟩
def F.CAN_CFG_NOMATCH (i : Nat) : Fld := ⟨(R.CAN_CFG i), 9, 1⟩
def F.CAN_CFG_FIFOOW (i : Nat) : Fld := ⟨(R.CAN_CFG i), 10, 1⟩
def F.CAN_NBT_PRE (i : Nat) : Fld := ⟨(R.CAN_NBT i), 0, 9⟩
def F.CAN_NBT_PH1 (i : Nat) : Fld := ⟨(R.CAN_NBT i), 9, 8⟩
def F.CAN_NBT_PH2 (i : Nat) : Fld := ⟨(R.CAN_NBT i), 17, 7⟩
def F.CAN_NBT_RJW (i : Nat) : Fld := ⟨(R.CAN_NBT i), 24, 7⟩
def F.CAN_DBT_PRE (i : Nat) : Fld := ⟨(R.CAN_DBT i), 0, 5⟩
def F.CAN_DBT_PH1 (i : Nat) : Fld := ⟨(R.CAN_DBT i), 5, 5⟩
def F.CAN_DBT_PH2 (i : Nat) : Fld := ⟨(R.CAN_DBT i), 10, 4⟩
def F.CAN_DBT_RJW (i : Nat) : Fld := ⟨(R.CAN_DBT i), 14, 4⟩
def F.CAN_DBT_SSP_EN (i : Nat) : Fld := ⟨(R.CAN_DBT i), 18, 1⟩
def F.CAN_DBT_SSP_OFS (i : Nat) : Fld := ⟨(R.CAN_DBT i), 19, 7⟩
def F.CAN_STAT_TEC (i : Nat) : Fld := ⟨(R.CAN_STAT i), 0, 8⟩
def F.CAN_STAT_REC (i : Nat) : Fld := ⟨(R.CAN_STAT i), 8, 7⟩
def F.CAN_STAT_RP (i : Nat) : Fld := ⟨(R.CAN_STAT i), 15, 1⟩
def F.CAN_STAT_BSTATE (i : Nat) : Fld := ⟨(R.CAN_STAT i), 16, 2⟩
def F.CAN_STAT_SYNC (i : Nat) : Fld := ⟨(R.CAN_STAT i), 18, 1⟩
def F.CAN_STAT_ABDDONE (i : Nat) : Fld := ⟨(R.CAN_STAT i), 19, 1⟩
def F.CAN_STAT_ABDFAIL (i : Nat) : Fld := ⟨(R.CAN_STAT i), 20, 1⟩
def F.CAN_STAT_CFGREJ (i : Nat) : Fld := ⟨(R.CAN_STAT i), 21, 1⟩
def F.CAN_ABD_NRATE (i : Nat) : Fld := ⟨(R.CAN_ABD i), 0, 3⟩
def F.CAN_ABD_DRATE (i : Nat) : Fld := ⟨(R.CAN_ABD i), 3, 2⟩
def F.CAN_ABD_DVALID (i : Nat) : Fld := ⟨(R.CAN_ABD i), 5, 1⟩
def F.CAN_TXREQ_BUF (i : Nat) : Fld := ⟨(R.CAN_TXREQ i), 0, 8⟩
def F.CAN_TXDONE_BUF (i : Nat) : Fld := ⟨(R.CAN_TXDONE i), 0, 8⟩
def F.CAN_TXFAIL_BUF (i : Nat) : Fld := ⟨(R.CAN_TXFAIL i), 0, 8⟩
def F.CAN_TXCAN_BUF (i : Nat) : Fld := ⟨(R.CAN_TXCAN i), 0, 8⟩
def F.CAN_NDAT_BUF (i : Nat) : Fld := ⟨(R.CAN_NDAT i), 0, 16⟩
def F.CAN_LOST_BUF (i : Nat) : Fld := ⟨(R.CAN_LOST i), 0, 16⟩
def F.CAN_FIFO_WP (i : Nat) : Fld := ⟨(R.CAN_FIFO i), 0, 4⟩
def F.CAN_FIFO_FILL (i : Nat) : Fld := ⟨(R.CAN_FIFO i), 4, 4⟩
def F.CAN_FIFO_LOST (i : Nat) : Fld := ⟨(R.CAN_FIFO i), 8, 1⟩
def F.CAN_FIFO_ACK_RP (i : Nat) : Fld := ⟨(R.CAN_FIFO_ACK i), 0, 4⟩
def F.CAN_ISO_SA (i : Nat) : Fld := ⟨(R.CAN_ISO i), 0, 8⟩
def F.CAN_RXRT_ROUTE (i : Nat) (j : Nat) : Fld := ⟨(R.CAN_RXRT i j), 0, 12⟩
def F.CAN_RXRT_EN (i : Nat) (j : Nat) : Fld := ⟨(R.CAN_RXRT i j), 12, 1⟩
def F.CAN_RXRT_OFS (i : Nat) (j : Nat) : Fld := ⟨(R.CAN_RXRT i j), 13, 6⟩
def F.CAN_TXRT_ROUTE (i : Nat) (j : Nat) : Fld := ⟨(R.CAN_TXRT i j), 0, 12⟩
def F.CAN_TXRT_EN (i : Nat) (j : Nat) : Fld := ⟨(R.CAN_TXRT i j), 12, 1⟩
def F.CAN_TT_CFG_TTEN (i : Nat) : Fld := ⟨(R.CAN_TT_CFG i), 0, 1⟩
def F.CAN_TT_CFG_POTM (i : Nat) : Fld := ⟨(R.CAN_TT_CFG i), 1, 1⟩
def F.CAN_TT_CFG_PRIO (i : Nat) : Fld := ⟨(R.CAN_TT_CFG i), 2, 3⟩
def F.CAN_TT_CFG_MCYC (i : Nat) : Fld := ⟨(R.CAN_TT_CFG i), 5, 6⟩
def F.CAN_TT_CFG_CYCLE_US (i : Nat) : Fld := ⟨(R.CAN_TT_CFG i), 11, 16⟩
def F.CAN_TT_CFG_ALIGN (i : Nat) : Fld := ⟨(R.CAN_TT_CFG i), 27, 1⟩
def F.CAN_TT_REF_ID (i : Nat) : Fld := ⟨(R.CAN_TT_REF i), 0, 29⟩
def F.CAN_TT_REF_XTD (i : Nat) : Fld := ⟨(R.CAN_TT_REF i), 29, 1⟩
def F.CAN_TT_STAT_CYCCNT (i : Nat) : Fld := ⟨(R.CAN_TT_STAT i), 0, 6⟩
def F.CAN_TT_STAT_MASTER (i : Nat) : Fld := ⟨(R.CAN_TT_STAT i), 6, 1⟩
def F.CAN_TT_STAT_TTERR (i : Nat) : Fld := ⟨(R.CAN_TT_STAT i), 7, 2⟩
def F.CAN_TT_STAT_REFOFS (i : Nat) : Fld := ⟨(R.CAN_TT_STAT i), 16, 16⟩
def F.CAN_TALLY_RX (i : Nat) : Fld := ⟨(R.CAN_TALLY i), 0, 16⟩
def F.CAN_TALLY_TX (i : Nat) : Fld := ⟨(R.CAN_TALLY i), 16, 16⟩
def F.MBX_GLB_STAT_IDERR : Fld := ⟨R.MBX_GLB_STAT, 0, 1⟩
def F.MBX_GLB_STAT_CH : Fld := ⟨R.MBX_GLB_STAT, 1, 6⟩
def F.MBX_GLB_STAT_SIDE : Fld := ⟨R.MBX_GLB_STAT, 7, 1⟩
def F.MBX_GLB_STAT_ID : Fld := ⟨R.MBX_GLB_STAT, 8, 4⟩
def F.MBX_GLB_STAT_EPISODES : Fld := ⟨R.MBX_GLB_STAT, 24, 8⟩
def F.MBX_BIND_IDA (i : Nat) : Fld := ⟨(R.MBX_BIND i), 0, 4⟩
def F.MBX_BIND_IDB (i : Nat) : Fld := ⟨(R.MBX_BIND i), 8, 4⟩
def F.MBX_BIND_EN (i : Nat) : Fld := ⟨(R.MBX_BIND i), 16, 1⟩
def F.MBX_OBS_OBS_MS (i : Nat) : Fld := ⟨(R.MBX_OBS i), 0, 16⟩
def F.MBX_TXD_DATA (i : Nat) (j : Nat) (k : Nat) : Fld := ⟨(R.MBX_TXD i j k), 0, 32⟩
def F.MBX_RXD_DATA (i : Nat) (j : Nat) (k : Nat) : Fld := ⟨(R.MBX_RXD i j k), 0, 32⟩
def F.MBX_ACK_RETCODE (i : Nat) (j : Nat) : Fld := ⟨(R.MBX_ACK i j), 0, 16⟩
def F.MBX_STAT_TXCNT (i : Nat) (j : Nat) : Fld := ⟨(R.MBX_STAT i j), 0, 3⟩
def F.MBX_STAT_RXCNT (i : Nat) (j : Nat) : Fld := ⟨(R.MBX_STAT i j), 3, 3⟩
def F.MBX_STAT_FULLERR (i : Nat) (j : Nat) : Fld := ⟨(R.MBX_STAT i j), 6, 1⟩
def F.MBX_STAT_EMPTYERR (i : Nat) (j : Nat) : Fld := ⟨(R.MBX_STAT i j), 7, 1⟩
def F.MBX_STAT_BOTHPEND (i : Nat) (j : Nat) : Fld := ⟨(R.MBX_STAT i j), 8, 1⟩
def F.MBX_STAT_ACKLOST (i : Nat) (j : Nat) : Fld := ⟨(R.MBX_STAT i j), 9, 1⟩
def F.MBX_STAT_RXSEQ (i : Nat) (j : Nat) : Fld := ⟨(R.MBX_STAT i j), 16, 8⟩
def F.MBX_STAT_TXSEQ (i : Nat) (j : Nat) : Fld := ⟨(R.MBX_STAT i j), 24, 8⟩
def F.MBX_IEN_RXIE (i : Nat) (j : Nat) : Fld := ⟨(R.MBX_IEN i j), 0, 1⟩
def F.MBX_IEN_ACKIE (i : Nat) (j : Nat) : Fld := ⟨(R.MBX_IEN i j), 1, 1⟩
def F.MBX_ACKREC_RETCODE (i : Nat) (j : Nat) (k : Nat) : Fld := ⟨(R.MBX_ACKREC i j k), 0, 16⟩
def F.MBX_ACKREC_SEQ (i : Nat) (j : Nat) (k : Nat) : Fld := ⟨(R.MBX_ACKREC i j k), 16, 8⟩
def F.MBX_ACKREC_NEW (i : Nat) (j : Nat) (k : Nat) : Fld := ⟨(R.MBX_ACKREC i j k), 31, 1⟩
def F.FLT_ID_LO_MODULE_ID : Fld := ⟨R.FLT_ID_LO, 0, 32⟩
def F.FLT_ID_HI_MODULE_ID : Fld := ⟨R.FLT_ID_HI, 0, 32⟩
def F.FLT_MAC_LO_MAC : Fld := ⟨R.FLT_MAC_LO, 0, 32⟩
def F.FLT_MAC_HI_MAC : Fld := ⟨R.FLT_MAC_HI, 0, 16⟩
def F.FLT_PUB_KEY (i : Nat) : Fld := ⟨(R.FLT_PUB i), 0, 32⟩
def F.FLT_BIND_STAT_BSTATE : Fld := ⟨R.FLT_BIND_STAT, 0, 3⟩
def F.FLT_BIND_STAT_SESSION : Fld := ⟨R.FLT_BIND_STAT, 3, 1⟩
def F.FLT_BIND_STAT_RIGHTS : Fld := ⟨R.FLT_BIND_STAT, 4, 2⟩
def F.FLT_BIND_STAT_CHIGN : Fld := ⟨R.FLT_BIND_STAT, 6, 10⟩
def F.FLT_BIND_STAT_BINDCNT : Fld := ⟨R.FLT_BIND_STAT, 16, 16⟩
def F.FLT_MACH_ID_LO_MACHINE_ID : Fld := ⟨R.FLT_MACH_ID_LO, 0, 32⟩
def F.FLT_MACH_ID_HI_MACHINE_ID : Fld := ⟨R.FLT_MACH_ID_HI, 0, 32⟩
def F.FLT_SES_NONCE_NONCE (i : Nat) : Fld := ⟨(R.FLT_SES_NONCE i), 0, 32⟩
def F.FLT_ANN_CFG_CANEN : Fld := ⟨R.FLT_ANN_CFG, 0, 1⟩
def F.FLT_ANN_CFG_CANCTL : Fld := ⟨R.FLT_ANN_CFG, 1, 4⟩
def F.FLT_ANN_CANID_B : Fld := ⟨R.FLT_ANN_CANID, 0, 29⟩
def F.FLT_MACH_DIG_LO_DIG : Fld := ⟨R.FLT_MACH_DIG_LO, 0, 32⟩
def F.FLT_MACH_DIG_HI_DIG : Fld := ⟨R.FLT_MACH_DIG_HI, 0, 32⟩
def F.FLT_MISSING_MEM : Fld := ⟨R.FLT_MISSING, 1, 31⟩
def F.FLT_MEM_CFG_EN (i : Nat) : Fld := ⟨(R.FLT_MEM_CFG i), 0, 1⟩
def F.FLT_MEM_CFG_ANCHOR (i : Nat) : Fld := ⟨(R.FLT_MEM_CFG i), 1, 1⟩
def F.FLT_MEM_CFG_XPORT (i : Nat) : Fld := ⟨(R.FLT_MEM_CFG i), 2, 1⟩
def F.FLT_MEM_CFG_PORT (i : Nat) : Fld := ⟨(R.FLT_MEM_CFG i), 3, 4⟩
def F.FLT_MEM_ADDR_LO_ADDR (i : Nat) : Fld := ⟨(R.FLT_MEM_ADDR_LO i), 0, 32⟩
def F.FLT_MEM_ADDR_HI_ADDR (i : Nat) : Fld := ⟨(R.FLT_MEM_ADDR_HI i), 0, 16⟩
def F.FLT_MEM_EPOCH_EPOCH (i : Nat) : Fld := ⟨(R.FLT_MEM_EPOCH i), 0, 32⟩
def F.FLT_MEM_DIG_LO_DIG (i : Nat) : Fld := ⟨(R.FLT_MEM_DIG_LO i), 0, 32⟩
def F.FLT_MEM_DIG_HI_DIG (i : Nat) : Fld := ⟨(R.FLT_MEM_DIG_HI i), 0, 32⟩
def F.FLT_FLEET_CFG_EN : Fld := ⟨R.FLT_FLEET_CFG, 0, 1⟩
def F.FLT_FLEET_CFG_FLEET_S : Fld := ⟨R.FLT_FLEET_CFG, 1, 10⟩
def F.FLT_FLEET_BASE_LO_ADDR : Fld := ⟨R.FLT_FLEET_BASE_LO, 7, 25⟩
def F.FLT_FLEET_BASE_HI_ADDR : Fld := ⟨R.FLT_FLEET_BASE_HI, 0, 32⟩
def F.FLT_FLEET_SIZE_LOG2 : Fld := ⟨R.FLT_FLEET_SIZE, 0, 4⟩
def F.FLT_FLEET_PTR_WPTR : Fld := ⟨R.FLT_FLEET_PTR, 0, 16⟩
def F.FLT_FLEET_PTR_RPTR : Fld := ⟨R.FLT_FLEET_PTR, 16, 16⟩
def F.FLT_FLEET_STAT_DROP : Fld := ⟨R.FLT_FLEET_STAT, 0, 16⟩
def F.FLT_FLEET_STAT_PEND : Fld := ⟨R.FLT_FLEET_STAT, 16, 4⟩
def F.FLT_FLEET_EPOCH_EPOCH : Fld := ⟨R.FLT_FLEET_EPOCH, 0, 32⟩
def F.FLT_FLEET_ROOT_LO_ROOT : Fld := ⟨R.FLT_FLEET_ROOT_LO, 0, 32⟩
def F.FLT_FLEET_ROOT_HI_ROOT : Fld := ⟨R.FLT_FLEET_ROOT_HI, 0, 32⟩
def F.FLT_PTP_CFG_EN : Fld := ⟨R.FLT_PTP_CFG, 0, 1⟩
def F.FLT_PTP_CFG_GMCAP : Fld := ⟨R.FLT_PTP_CFG, 1, 1⟩
def F.FLT_PTP_CFG_PRIO1 : Fld := ⟨R.FLT_PTP_CFG, 2, 8⟩
def F.FLT_PTP_CFG_SYNC : Fld := ⟨R.FLT_PTP_CFG, 10, 2⟩
def F.FLT_PTP_STAT_VALID : Fld := ⟨R.FLT_PTP_STAT, 0, 1⟩
def F.FLT_PTP_STAT_GM : Fld := ⟨R.FLT_PTP_STAT, 1, 1⟩
def F.FLT_PTP_STAT_SPORT : Fld := ⟨R.FLT_PTP_STAT, 2, 4⟩
def F.FLT_PTP_STAT_GMCLASS : Fld := ⟨R.FLT_PTP_STAT, 8, 8⟩
def F.FLT_PTP_OFS_OFS : Fld := ⟨R.FLT_PTP_OFS, 0, 32⟩
def F.FLT_ETH_CFG_EN (i : Nat) : Fld := ⟨(R.FLT_ETH_CFG i), 0, 1⟩
def F.FLT_ETH_CFG_MS (i : Nat) : Fld := ⟨(R.FLT_ETH_CFG i), 1, 1⟩
def F.FLT_ETH_CFG_ANN (i : Nat) : Fld := ⟨(R.FLT_ETH_CFG i), 2, 1⟩
def F.FLT_ETH_CFG_ALLMC (i : Nat) : Fld := ⟨(R.FLT_ETH_CFG i), 3, 1⟩
def F.FLT_ETH_CFG_CLASS (i : Nat) : Fld := ⟨(R.FLT_ETH_CFG i), 4, 3⟩
def F.FLT_ETH_STAT_LINK (i : Nat) : Fld := ⟨(R.FLT_ETH_STAT i), 0, 1⟩
def F.FLT_ETH_STAT_SPEED (i : Nat) : Fld := ⟨(R.FLT_ETH_STAT i), 1, 2⟩
def F.FLT_ETH_RX_BASE_LO_ADDR (i : Nat) : Fld := ⟨(R.FLT_ETH_RX_BASE_LO i), 11, 21⟩
def F.FLT_ETH_RX_BASE_HI_ADDR (i : Nat) : Fld := ⟨(R.FLT_ETH_RX_BASE_HI i), 0, 32⟩
def F.FLT_ETH_RX_SIZE_LOG2 (i : Nat) : Fld := ⟨(R.FLT_ETH_RX_SIZE i), 0, 4⟩
def F.FLT_ETH_RX_PTR_WPTR (i : Nat) : Fld := ⟨(R.FLT_ETH_RX_PTR i), 0, 16⟩
def F.FLT_ETH_RX_PTR_RPTR (i : Nat) : Fld := ⟨(R.FLT_ETH_RX_PTR i), 16, 16⟩
def F.FLT_ETH_TX_BASE_LO_ADDR (i : Nat) : Fld := ⟨(R.FLT_ETH_TX_BASE_LO i), 11, 21⟩
def F.FLT_ETH_TX_BASE_HI_ADDR (i : Nat) : Fld := ⟨(R.FLT_ETH_TX_BASE_HI i), 0, 32⟩
def F.FLT_ETH_TX_SIZE_LOG2 (i : Nat) : Fld := ⟨(R.FLT_ETH_TX_SIZE i), 0, 4⟩
def F.FLT_ETH_TX_PTR_WPTR (i : Nat) : Fld := ⟨(R.FLT_ETH_TX_PTR i), 0, 16⟩
def F.FLT_ETH_TX_PTR_RPTR (i : Nat) : Fld := ⟨(R.FLT_ETH_TX_PTR i), 16, 16⟩
def F.FLT_ETH_TXTS_LO_TS (i : Nat) : Fld := ⟨(R.FLT_ETH_TXTS_LO i), 0, 32⟩
def F.FLT_ETH_TXTS_HI_TS (i : Nat) : Fld := ⟨(R.FLT_ETH_TXTS_HI i), 0, 32⟩
def F.FLT_ETH_CNT_RXDROP (i : Nat) : Fld := ⟨(R.FLT_ETH_CNT i), 0, 12⟩
def F.FLT_ETH_CNT_TXERR (i : Nat) : Fld := ⟨(R.FLT_ETH_CNT i), 12, 12⟩
def F.FLT_ETH_CNT_FCSERR (i : Nat) : Fld := ⟨(R.FLT_ETH_CNT i), 24, 8⟩
def F.DSP_CTL_ON : Fld := ⟨R.DSP_CTL, 0, 1⟩
def F.DSP_CTL_OFF : Fld := ⟨R.DSP_CTL, 1, 1⟩
def F.DSP_STAT_STATE : Fld := ⟨R.DSP_STAT, 0, 2⟩
def F.DSP_STAT_HPD : Fld := ⟨R.DSP_STAT, 2, 1⟩
def F.DSP_STAT_TRAINED : Fld := ⟨R.DSP_STAT, 3, 1⟩
def F.DSP_STAT_UNDER : Fld := ⟨R.DSP_STAT, 16, 16⟩
def F.DSP_LINK_LANES : Fld := ⟨R.DSP_LINK, 0, 3⟩
def F.DSP_LINK_HBR : Fld := ⟨R.DSP_LINK, 3, 1⟩
def F.DSP_SEQ_CLRFR : Fld := ⟨R.DSP_SEQ, 0, 4⟩
def F.DSP_SEQ_BLDLY : Fld := ⟨R.DSP_SEQ, 8, 8⟩
def F.DSP_TIM_H_HACT : Fld := ⟨R.DSP_TIM_H, 0, 12⟩
def F.DSP_TIM_H_HTOT : Fld := ⟨R.DSP_TIM_H, 16, 12⟩
def F.DSP_TIM_V_VACT : Fld := ⟨R.DSP_TIM_V, 0, 12⟩
def F.DSP_TIM_V_VTOT : Fld := ⟨R.DSP_TIM_V, 16, 12⟩
def F.DSP_PCLK_KHZ : Fld := ⟨R.DSP_PCLK, 0, 18⟩
def F.DSP_FB_BASE_LO_ADDR : Fld := ⟨R.DSP_FB_BASE_LO, 6, 26⟩
def F.DSP_FB_BASE_HI_ADDR : Fld := ⟨R.DSP_FB_BASE_HI, 0, 32⟩
def F.DSP_FB_STRIDE_BYTES : Fld := ⟨R.DSP_FB_STRIDE, 0, 16⟩
def F.DSP_BL_DUTY : Fld := ⟨R.DSP_BL, 0, 16⟩
def F.DSP_LAMB_CFG_EN : Fld := ⟨R.DSP_LAMB_CFG, 0, 1⟩
def F.DSP_LAMB_CFG_X : Fld := ⟨R.DSP_LAMB_CFG, 1, 11⟩
def F.DSP_LAMB_CFG_Y : Fld := ⟨R.DSP_LAMB_CFG, 12, 10⟩
def F.DSP_LAMB_CFG_LBDUTY : Fld := ⟨R.DSP_LAMB_CFG, 22, 8⟩
def F.DSP_LAMB_BASE_LO_ADDR : Fld := ⟨R.DSP_LAMB_BASE_LO, 0, 32⟩
def F.DSP_LAMB_BASE_HI_ADDR : Fld := ⟨R.DSP_LAMB_BASE_HI, 0, 32⟩
def F.DSP_LAMB_PAL_RGB (i : Nat) : Fld := ⟨(R.DSP_LAMB_PAL i), 0, 24⟩
def F.CMP_STAT_RUN : Fld := ⟨R.CMP_STAT, 0, 1⟩
def F.CMP_STAT_WDRST : Fld := ⟨R.CMP_STAT, 1, 1⟩
def F.CMP_STAT_UNEMU : Fld := ⟨R.CMP_STAT, 2, 1⟩
def F.CMP_STAT_CODEWR : Fld := ⟨R.CMP_STAT, 3, 1⟩
def F.CMP_UNEMU_ADDR : Fld := ⟨R.CMP_UNEMU, 0, 32⟩
def F.CMP_TALLY_WDRST : Fld := ⟨R.CMP_TALLY, 0, 8⟩
def F.CMP_TALLY_UNEMU : Fld := ⟨R.CMP_TALLY, 8, 8⟩
def F.CAN_MEM_DATA (i : Nat) (j : Nat) : Fld := ⟨(R.CAN_MEM i j), 0, 32⟩

/-! ### The map itself: which offsets are defined, and each field's place and type code (R8, R536) -/

def regMapGLBA : List RegSpec := [
  ⟨0x0, [], [⟨0, 3, .ro⟩, ⟨3, 1, .ro⟩, ⟨4, 3, .ro⟩]⟩,
  ⟨0x4, [], [⟨0, 1, .w1c⟩, ⟨1, 1, .w1c⟩]⟩,
  ⟨0x8, [], [⟨0, 3, .wo⟩]⟩,
  ⟨0xc, [], [⟨0, 1, .ro⟩, ⟨1, 1, .w1c⟩, ⟨2, 1, .w1c⟩, ⟨3, 3, .ro⟩]⟩,
  ⟨0x10, [], [⟨0, 8, .rwl⟩, ⟨8, 8, .rwl⟩]⟩,
  ⟨0x14, [], [⟨0, 1, .wo⟩]⟩,
  ⟨0x18, [], [⟨0, 2, .ro⟩, ⟨2, 1, .ro⟩, ⟨3, 1, .ro⟩, ⟨4, 1, .ro⟩, ⟨5, 1, .ro⟩, ⟨6, 1, .ro⟩, ⟨7, 1, .ro⟩, ⟨8, 4, .ro⟩, ⟨16, 11, .ro⟩]⟩,
  ⟨0x20, [], [⟨6, 26, .rw⟩]⟩,
  ⟨0x24, [], [⟨0, 32, .rw⟩]⟩,
  ⟨0x28, [], [⟨0, 32, .rw⟩]⟩,
  ⟨0x2c, [], [⟨0, 1, .wo⟩, ⟨1, 1, .wo⟩, ⟨2, 1, .wo⟩, ⟨3, 1, .wo⟩, ⟨16, 16, .rw⟩]⟩,
  ⟨0x30, [], [⟨0, 32, .rw⟩]⟩,
  ⟨0x34, [], [⟨0, 32, .rw⟩]⟩,
  ⟨0x38, [], [⟨0, 1, .ro⟩, ⟨1, 1, .ro⟩, ⟨2, 1, .ro⟩, ⟨3, 1, .ro⟩, ⟨4, 1, .w1c⟩, ⟨5, 4, .ro⟩]⟩,
  ⟨0x3c, [], [⟨0, 32, .ro⟩]⟩,
  ⟨0x40, [], [⟨0, 32, .ro⟩]⟩,
  ⟨0x44, [], [⟨0, 16, .ro⟩, ⟨16, 16, .ro⟩]⟩,
  ⟨0x100, [], [⟨0, 16, .rw⟩]⟩,
  ⟨0x104, [], [⟨0, 31, .ro⟩, ⟨31, 1, .ro⟩]⟩,
  ⟨0x110, [], [⟨12, 20, .rw⟩]⟩]

def regMapGLBB : List RegSpec := [
  ⟨0x114, [], [⟨0, 32, .rw⟩]⟩,
  ⟨0x118, [], [⟨0, 1, .wo⟩, ⟨4, 12, .rw⟩]⟩,
  ⟨0x11c, [], [⟨0, 1, .w1c⟩, ⟨1, 1, .ro⟩, ⟨2, 1, .w1c⟩, ⟨16, 16, .ro⟩]⟩,
  ⟨0x120, [], [⟨0, 16, .ro⟩]⟩,
  ⟨0x124, [], [⟨0, 11, .ro⟩]⟩,
  ⟨0x200, [⟨8, 4⟩], [⟨0, 32, .w1c⟩]⟩,
  ⟨0x300, [⟨21, 4⟩], [⟨0, 1, .w1s⟩, ⟨1, 1, .w1c⟩]⟩,
  ⟨0x380, [], [⟨0, 21, .ro⟩, ⟨31, 1, .ro⟩]⟩,
  ⟨0x1000, [⟨256, 4⟩], [⟨0, 4, .rw⟩, ⟨4, 1, .rw⟩, ⟨5, 12, .rw⟩, ⟨17, 1, .rw⟩]⟩,
  ⟨0x1400, [⟨256, 4⟩], [⟨0, 32, .ro⟩]⟩]

def regMapGLB : List RegSpec := regMapGLBA ++ regMapGLBB

def regMapPWR : List RegSpec := [
  ⟨0x10000, [], [⟨0, 2, .ro⟩, ⟨2, 1, .ro⟩, ⟨3, 1, .w1c⟩, ⟨16, 10, .ro⟩]⟩,
  ⟨0x10004, [], [⟨0, 12, .ro⟩, ⟨16, 12, .ro⟩]⟩,
  ⟨0x10008, [], [⟨0, 4, .ro⟩, ⟨4, 4, .ro⟩, ⟨16, 10, .ro⟩]⟩,
  ⟨0x1000c, [], [⟨0, 1, .rw⟩, ⟨1, 1, .rw⟩, ⟨2, 1, .rw⟩, ⟨3, 1, .rw⟩]⟩,
  ⟨0x10010, [], [⟨0, 4, .ro⟩]⟩,
  ⟨0x10014, [], [⟨0, 13, .ro⟩, ⟨16, 13, .w1c⟩]⟩,
  ⟨0x10018, [], [⟨0, 8, .ro⟩, ⟨8, 8, .ro⟩, ⟨16, 16, .ro⟩]⟩,
  ⟨0x1001c, [], [⟨0, 8, .ro⟩, ⟨8, 8, .ro⟩, ⟨16, 8, .ro⟩, ⟨24, 8, .ro⟩]⟩]

def regMapCLK : List RegSpec := [
  ⟨0x20000, [], [⟨0, 4, .ro⟩, ⟨4, 4, .w1c⟩]⟩,
  ⟨0x20004, [], [⟨0, 2, .ro⟩, ⟨2, 1, .rw⟩]⟩,
  ⟨0x20100, [⟨17, 16⟩], [⟨0, 14, .rw⟩]⟩,
  ⟨0x20104, [⟨17, 16⟩], [⟨0, 1, .ro⟩, ⟨1, 1, .ro⟩, ⟨2, 1, .w1c⟩, ⟨3, 1, .w1c⟩]⟩,
  ⟨0x20400, [⟨21, 4⟩], [⟨0, 1, .rw⟩, ⟨1, 1, .rw⟩, ⟨2, 1, .rw⟩, ⟨3, 2, .ro⟩, ⟨8, 16, .rw⟩]⟩,
  ⟨0x20500, [], [⟨0, 5, .rw⟩, ⟨5, 1, .rw⟩, ⟨6, 1, .w1c⟩, ⟨16, 16, .rw⟩]⟩]

def regMapROOA : List RegSpec := [
  ⟨0x30000, [], [⟨0, 16, .ro⟩]⟩,
  ⟨0x30004, [], [⟨0, 16, .ro⟩]⟩,
  ⟨0x30008, [], [⟨0, 16, .ro⟩]⟩,
  ⟨0x30010, [], [⟨0, 16, .rw⟩]⟩,
  ⟨0x30014, [], [⟨0, 16, .rw⟩]⟩,
  ⟨0x30018, [], [⟨0, 16, .rw⟩]⟩,
  ⟨0x3001c, [], [⟨0, 1, .wo⟩, ⟨1, 1, .rw⟩]⟩,
  ⟨0x30020, [], [⟨0, 16, .rw⟩]⟩,
  ⟨0x30024, [], [⟨0, 16, .rw⟩]⟩,
  ⟨0x30028, [], [⟨0, 16, .rw⟩]⟩,
  ⟨0x3002c, [], [⟨0, 1, .w1c⟩, ⟨1, 1, .ro⟩, ⟨2, 1, .ro⟩, ⟨3, 1, .w1c⟩, ⟨4, 1, .w1c⟩, ⟨5, 1, .ro⟩]⟩,
  ⟨0x30030, [], [⟨0, 16, .ro⟩]⟩,
  ⟨0x30034, [], [⟨0, 16, .ro⟩]⟩,
  ⟨0x30038, [], [⟨0, 16, .ro⟩]⟩,
  ⟨0x3003c, [], [⟨0, 8, .rw⟩]⟩,
  ⟨0x30040, [⟨16, 4⟩], [⟨0, 32, .rw⟩]⟩,
  ⟨0x30100, [], [⟨0, 7, .rw⟩]⟩,
  ⟨0x30104, [], [⟨0, 7, .rw⟩]⟩,
  ⟨0x30108, [], [⟨0, 6, .rw⟩]⟩,
  ⟨0x3010c, [], [⟨0, 3, .rw⟩]⟩]

def regMapROOB : List RegSpec := [
  ⟨0x30110, [], [⟨0, 6, .rw⟩]⟩,
  ⟨0x30114, [], [⟨0, 5, .rw⟩]⟩,
  ⟨0x30118, [], [⟨0, 8, .rw⟩]⟩,
  ⟨0x3011c, [], [⟨0, 1, .w1c⟩]⟩]

def regMapROO : List RegSpec := regMapROOA ++ regMapROOB

def regMapHEN : List RegSpec := [
  ⟨0x40000, [], [⟨0, 16, .ro⟩, ⟨16, 1, .ro⟩, ⟨17, 15, .ro⟩]⟩,
  ⟨0x40004, [], [⟨0, 16, .rw⟩]⟩,
  ⟨0x40008, [], [⟨0, 32, .ro⟩]⟩,
  ⟨0x4000c, [], [⟨0, 32, .ro⟩]⟩,
  ⟨0x40010, [], [⟨0, 24, .ro⟩]⟩,
  ⟨0x40020, [], [⟨0, 32, .rw⟩]⟩,
  ⟨0x40024, [], [⟨0, 1, .ro⟩, ⟨1, 1, .w1c⟩]⟩,
  ⟨0x40028, [], [⟨0, 1, .wo⟩]⟩,
  ⟨0x40040, [⟨8, 4⟩], [⟨0, 32, .ro⟩]⟩,
  ⟨0x40080, [], [⟨6, 26, .rw⟩]⟩,
  ⟨0x40084, [], [⟨0, 32, .rw⟩]⟩,
  ⟨0x40088, [], [⟨0, 4, .rw⟩]⟩,
  ⟨0x4008c, [], [⟨0, 16, .ro⟩, ⟨16, 16, .rw⟩]⟩,
  ⟨0x40090, [], [⟨0, 1, .rw⟩]⟩,
  ⟨0x40094, [], [⟨0, 8, .ro⟩, ⟨8, 8, .ro⟩, ⟨16, 8, .ro⟩, ⟨24, 8, .ro⟩]⟩]

def regMapGOO : List RegSpec := [
  ⟨0x50000, [], [⟨0, 1, .ro⟩, ⟨1, 1, .ro⟩, ⟨2, 1, .ro⟩, ⟨3, 1, .ro⟩, ⟨4, 1, .ro⟩, ⟨5, 1, .ro⟩, ⟨6, 1, .ro⟩, ⟨7, 1, .ro⟩, ⟨8, 4, .ro⟩, ⟨16, 16, .ro⟩]⟩,
  ⟨0x50004, [], [⟨0, 1, .wo⟩, ⟨1, 1, .wo⟩]⟩,
  ⟨0x50008, [], [⟨1, 8, .ro⟩]⟩,
  ⟨0x5000c, [], [⟨0, 8, .ro⟩, ⟨8, 8, .ro⟩]⟩,
  ⟨0x50010, [], [⟨0, 4, .rwl⟩, ⟨4, 4, .rwl⟩, ⟨8, 16, .rwl⟩]⟩,
  ⟨0x50014, [], [⟨0, 16, .ro⟩, ⟨16, 1, .ro⟩]⟩,
  ⟨0x50018, [], [⟨0, 12, .rw⟩, ⟨12, 1, .rw⟩]⟩,
  ⟨0x50100, [⟨16, 4⟩], [⟨0, 1, .rwl⟩, ⟨1, 1, .rwl⟩, ⟨2, 11, .rwl⟩, ⟨13, 1, .rwl⟩, ⟨14, 8, .rwl⟩, ⟨22, 1, .rwl⟩, ⟨23, 1, .rwl⟩]⟩,
  ⟨0x50140, [⟨16, 4⟩], [⟨0, 1, .ro⟩, ⟨1, 1, .ro⟩, ⟨2, 1, .ro⟩, ⟨3, 1, .w1c⟩, ⟨4, 1, .w1c⟩]⟩,
  ⟨0x50200, [⟨8, 4⟩], [⟨0, 1, .rwl⟩, ⟨1, 2, .rwl⟩, ⟨3, 9, .rwl⟩, ⟨12, 1, .rwl⟩, ⟨13, 2, .rwl⟩, ⟨15, 10, .rwl⟩]⟩,
  ⟨0x50220, [], [⟨0, 8, .rw⟩]⟩,
  ⟨0x50240, [⟨8, 4⟩], [⟨0, 1, .ro⟩, ⟨1, 1, .ro⟩, ⟨2, 1, .w1c⟩, ⟨3, 1, .w1c⟩, ⟨4, 1, .w1c⟩, ⟨5, 1, .ro⟩]⟩,
  ⟨0x50300, [], [⟨0, 1, .ro⟩, ⟨1, 1, .ro⟩, ⟨2, 1, .ro⟩, ⟨3, 1, .ro⟩, ⟨8, 8, .ro⟩, ⟨16, 16, .ro⟩]⟩]

def regMapCTX : List RegSpec := [
  ⟨0x60000, [⟨4096, 32⟩], [⟨0, 32, .rw⟩]⟩,
  ⟨0x60004, [⟨4096, 32⟩], [⟨0, 32, .rw⟩]⟩,
  ⟨0x60008, [⟨4096, 32⟩], [⟨0, 4, .rw⟩, ⟨4, 4, .rw⟩, ⟨8, 3, .rw⟩, ⟨12, 4, .rw⟩, ⟨16, 1, .rw⟩]⟩,
  ⟨0x6000c, [⟨4096, 32⟩], [⟨0, 1, .wo⟩, ⟨1, 1, .wo⟩]⟩,
  ⟨0x60010, [⟨4096, 32⟩], [⟨0, 2, .ro⟩, ⟨2, 1, .w1c⟩, ⟨3, 3, .ro⟩, ⟨6, 1, .w1c⟩, ⟨7, 1, .w1c⟩, ⟨8, 1, .ro⟩, ⟨9, 11, .ro⟩]⟩,
  ⟨0x60014, [⟨4096, 32⟩], [⟨0, 16, .rw⟩, ⟨16, 16, .rw⟩]⟩,
  ⟨0x60018, [⟨4096, 32⟩], [⟨0, 32, .rw⟩]⟩,
  ⟨0x6001c, [⟨4096, 32⟩], [⟨0, 16, .ro⟩, ⟨16, 8, .ro⟩, ⟨24, 8, .ro⟩]⟩]

def regMapQOS : List RegSpec := [
  ⟨0x80000, [], [⟨0, 12, .rw⟩, ⟨16, 4, .rw⟩]⟩,
  ⟨0x80004, [], [⟨0, 32, .rw⟩]⟩,
  ⟨0x80008, [], [⟨0, 32, .ro⟩]⟩,
  ⟨0x8000c, [], [⟨0, 1, .ro⟩, ⟨1, 1, .w1c⟩, ⟨2, 1, .w1c⟩]⟩,
  ⟨0x80040, [⟨16, 4⟩], [⟨0, 32, .ro⟩]⟩,
  ⟨0x80100, [⟨8, 4⟩], [⟨0, 8, .rw⟩]⟩,
  ⟨0x80200, [⟨8, 4⟩], [⟨0, 8, .rw⟩, ⟨16, 8, .rw⟩]⟩,
  ⟨0x80220, [], [⟨0, 1, .w1c⟩, ⟨8, 8, .ro⟩]⟩,
  ⟨0x80300, [⟨8, 8⟩], [⟨0, 32, .ro⟩]⟩,
  ⟨0x80304, [⟨8, 8⟩], [⟨0, 16, .ro⟩, ⟨16, 16, .ro⟩]⟩,
  ⟨0x80400, [], [⟨0, 11, .ro⟩, ⟨16, 8, .ro⟩]⟩]

def regMapMORA : List RegSpec := [
  ⟨0xa0000, [⟨8, 4⟩], [⟨0, 16, .ro⟩, ⟨16, 8, .rw⟩]⟩,
  ⟨0xa0100, [], [⟨0, 12, .rw⟩]⟩,
  ⟨0xa0104, [], [⟨0, 8, .rw⟩, ⟨8, 8, .rw⟩, ⟨16, 8, .rw⟩, ⟨24, 8, .rw⟩]⟩,
  ⟨0xa0108, [], [⟨0, 3, .rw⟩, ⟨3, 1, .rw⟩, ⟨4, 1, .rw⟩, ⟨16, 16, .rw⟩]⟩,
  ⟨0xa010c, [], [⟨0, 1, .wo⟩, ⟨1, 1, .wo⟩]⟩,
  ⟨0xa0110, [], [⟨0, 1, .ro⟩, ⟨1, 1, .w1c⟩, ⟨2, 1, .w1c⟩, ⟨3, 1, .w1c⟩]⟩,
  ⟨0xa0114, [], [⟨0, 8, .ro⟩, ⟨8, 8, .ro⟩, ⟨16, 8, .ro⟩, ⟨24, 8, .ro⟩]⟩,
  ⟨0xa0118, [], [⟨0, 3, .ro⟩, ⟨3, 1, .ro⟩, ⟨4, 1, .ro⟩, ⟨16, 16, .ro⟩]⟩,
  ⟨0xa0200, [], [⟨0, 32, .ro⟩]⟩,
  ⟨0xa0204, [], [⟨0, 32, .ro⟩]⟩,
  ⟨0xa0208, [], [⟨0, 32, .ro⟩]⟩,
  ⟨0xa0210, [], [⟨0, 32, .ro⟩]⟩,
  ⟨0xa0214, [], [⟨0, 32, .ro⟩]⟩,
  ⟨0xa0218, [], [⟨0, 32, .ro⟩]⟩,
  ⟨0xa0220, [], [⟨0, 32, .rw⟩]⟩,
  ⟨0xa0224, [], [⟨0, 32, .rw⟩]⟩,
  ⟨0xa0228, [], [⟨0, 32, .rw⟩]⟩,
  ⟨0xa022c, [], [⟨0, 1, .wo⟩, ⟨1, 1, .wo⟩]⟩,
  ⟨0xa0230, [], [⟨0, 1, .ro⟩, ⟨1, 1, .ro⟩, ⟨2, 1, .w1c⟩, ⟨3, 1, .w1c⟩, ⟨4, 4, .ro⟩]⟩,
  ⟨0xa0240, [], [⟨0, 16, .ro⟩, ⟨16, 1, .ro⟩, ⟨17, 1, .ro⟩, ⟨18, 1, .ro⟩]⟩]

def regMapMORB : List RegSpec := [
  ⟨0xa0244, [], [⟨0, 3, .ro⟩, ⟨3, 2, .ro⟩, ⟨5, 3, .ro⟩, ⟨8, 5, .ro⟩, ⟨31, 1, .w1c⟩]⟩,
  ⟨0xa0250, [], [⟨0, 5, .rw⟩]⟩,
  ⟨0xa0254, [], [⟨0, 32, .ro⟩]⟩,
  ⟨0xa0258, [], [⟨0, 32, .ro⟩]⟩,
  ⟨0xa025c, [], [⟨0, 32, .ro⟩]⟩]

def regMapMOR : List RegSpec := regMapMORA ++ regMapMORB

def regMapTIL : List RegSpec := [
  ⟨0xc0000, [⟨128, 64⟩], [⟨0, 1, .ro⟩, ⟨1, 1, .w1c⟩, ⟨8, 8, .ro⟩]⟩,
  ⟨0xc0004, [⟨128, 64⟩], [⟨0, 32, .ro⟩]⟩,
  ⟨0xc0008, [⟨128, 64⟩], [⟨0, 32, .ro⟩]⟩,
  ⟨0xc000c, [⟨128, 64⟩], [⟨0, 32, .ro⟩]⟩,
  ⟨0xc0010, [⟨128, 64⟩], [⟨0, 9, .ro⟩]⟩]

def regMapCEN : List RegSpec := [
  ⟨0x100000, [], [⟨0, 13, .rw⟩]⟩,
  ⟨0x100004, [], [⟨0, 1, .wo⟩, ⟨1, 1, .wo⟩, ⟨2, 1, .wo⟩, ⟨3, 1, .wo⟩]⟩,
  ⟨0x100008, [], [⟨0, 1, .w1c⟩, ⟨1, 1, .w1c⟩, ⟨2, 3, .ro⟩, ⟨5, 1, .w1c⟩, ⟨6, 1, .w1c⟩]⟩,
  ⟨0x10000c, [], [⟨0, 24, .ro⟩]⟩,
  ⟨0x101000, [⟨512, 4⟩], [⟨0, 32, .rw⟩]⟩,
  ⟨0x102000, [⟨256, 4⟩], [⟨0, 32, .rw⟩]⟩,
  ⟨0x102400, [⟨256, 4⟩], [⟨0, 32, .ro⟩]⟩,
  ⟨0x120000, [⟨8192, 4⟩], [⟨0, 3, .ro⟩, ⟨3, 1, .ro⟩, ⟨4, 1, .ro⟩, ⟨5, 1, .ro⟩, ⟨6, 1, .ro⟩, ⟨8, 8, .ro⟩, ⟨20, 12, .ro⟩]⟩,
  ⟨0x128000, [⟨128, 4⟩], [⟨0, 10, .ro⟩, ⟨16, 7, .ro⟩]⟩,
  ⟨0x129000, [⟨256, 4⟩], [⟨0, 32, .ro⟩]⟩]

def regMapFUSA : List RegSpec := [
  ⟨0x140000, [], [⟨0, 2, .rw⟩]⟩,
  ⟨0x140004, [], [⟨0, 2, .ro⟩, ⟨2, 2, .ro⟩, ⟨4, 1, .w1c⟩, ⟨5, 1, .ro⟩]⟩,
  ⟨0x140008, [], [⟨0, 32, .ro⟩]⟩,
  ⟨0x14000c, [], [⟨0, 32, .ro⟩]⟩,
  ⟨0x140010, [], [⟨0, 32, .ro⟩]⟩,
  ⟨0x140014, [], [⟨0, 32, .ro⟩]⟩,
  ⟨0x140018, [], [⟨0, 32, .ro⟩]⟩,
  ⟨0x14001c, [], [⟨0, 32, .ro⟩]⟩,
  ⟨0x140100, [⟨16, 8⟩], [⟨0, 24, .rw⟩, ⟨31, 1, .rw⟩]⟩,
  ⟨0x140104, [⟨16, 8⟩], [⟨0, 27, .rw⟩]⟩,
  ⟨0x140180, [], [⟨0, 16, .w1c⟩]⟩,
  ⟨0x140200, [], [⟨0, 3, .rw⟩, ⟨3, 3, .rw⟩, ⟨6, 12, .rw⟩, ⟨18, 7, .rw⟩, ⟨25, 1, .rw⟩]⟩,
  ⟨0x140204, [], [⟨0, 32, .rw⟩]⟩,
  ⟨0x140208, [], [⟨0, 1, .ro⟩, ⟨1, 1, .ro⟩, ⟨2, 1, .ro⟩, ⟨16, 16, .ro⟩]⟩,
  ⟨0x141000, [⟨16, 16⟩], [⟨0, 16, .rw⟩, ⟨16, 1, .rw⟩, ⟨17, 1, .rw⟩, ⟨18, 4, .rw⟩, ⟨22, 1, .wo⟩, ⟨23, 1, .w1c⟩]⟩,
  ⟨0x141004, [⟨16, 16⟩], [⟨0, 16, .rw⟩, ⟨16, 16, .rw⟩]⟩,
  ⟨0x141008, [⟨16, 16⟩], [⟨0, 7, .rw⟩, ⟨7, 8, .rw⟩, ⟨15, 12, .rw⟩, ⟨27, 1, .rw⟩]⟩,
  ⟨0x14100c, [⟨16, 16⟩], [⟨0, 8, .ro⟩, ⟨8, 8, .ro⟩, ⟨16, 8, .ro⟩, ⟨24, 4, .ro⟩, ⟨28, 4, .ro⟩]⟩,
  ⟨0x142000, [], [⟨0, 32, .ro⟩]⟩,
  ⟨0x142004, [], [⟨0, 8, .rw⟩, ⟨8, 1, .rw⟩]⟩]

def regMapFUSB : List RegSpec := [
  ⟨0x142008, [], [⟨0, 32, .rw⟩]⟩,
  ⟨0x14200c, [], [⟨0, 1, .wo⟩, ⟨1, 1, .rw⟩, ⟨2, 1, .w1c⟩]⟩,
  ⟨0x143000, [], [⟨6, 26, .rw⟩]⟩,
  ⟨0x143004, [], [⟨0, 32, .rw⟩]⟩,
  ⟨0x143008, [], [⟨0, 4, .rw⟩]⟩,
  ⟨0x14300c, [], [⟨0, 16, .ro⟩, ⟨16, 16, .rw⟩]⟩,
  ⟨0x143010, [], [⟨0, 16, .ro⟩, ⟨16, 9, .ro⟩]⟩,
  ⟨0x143014, [], [⟨0, 1, .rw⟩, ⟨1, 1, .rw⟩, ⟨2, 1, .rw⟩, ⟨16, 16, .rw⟩]⟩,
  ⟨0x14c000, [], [⟨0, 1, .rw⟩, ⟨1, 1, .ro⟩, ⟨2, 1, .wo⟩, ⟨16, 16, .rw⟩]⟩,
  ⟨0x14c004, [], [⟨0, 16, .ro⟩]⟩,
  ⟨0x14c010, [⟨4, 4⟩], [⟨0, 16, .rw⟩]⟩,
  ⟨0x14c020, [], [⟨0, 8, .rw⟩, ⟨8, 8, .rw⟩, ⟨16, 16, .rw⟩]⟩,
  ⟨0x14c024, [], [⟨0, 16, .rw⟩]⟩,
  ⟨0x14c028, [], [⟨0, 16, .rw⟩, ⟨16, 16, .rw⟩]⟩,
  ⟨0x14c040, [⟨16, 4⟩], [⟨0, 1, .rw⟩, ⟨1, 1, .rw⟩, ⟨2, 1, .w1c⟩, ⟨16, 16, .rw⟩]⟩,
  ⟨0x14c080, [⟨4, 4⟩], [⟨0, 32, .rw⟩]⟩,
  ⟨0x14c090, [⟨4, 4⟩], [⟨0, 16, .rw⟩, ⟨16, 4, .rw⟩, ⟨31, 1, .rw⟩]⟩,
  ⟨0x14c100, [], [⟨0, 16, .rw⟩, ⟨16, 16, .rw⟩]⟩,
  ⟨0x14c104, [], [⟨0, 1, .rw⟩, ⟨16, 16, .rw⟩]⟩,
  ⟨0x14c108, [], [⟨6, 26, .rw⟩]⟩]

def regMapFUSC : List RegSpec := [
  ⟨0x14c10c, [], [⟨0, 32, .rw⟩]⟩,
  ⟨0x14c110, [], [⟨0, 4, .rw⟩]⟩,
  ⟨0x14c114, [], [⟨0, 16, .ro⟩, ⟨16, 16, .rw⟩]⟩,
  ⟨0x14c118, [], [⟨0, 16, .ro⟩, ⟨16, 7, .ro⟩]⟩]

def regMapFUS : List RegSpec := regMapFUSA ++ regMapFUSB ++ regMapFUSC

def regMapCAMA : List RegSpec := [
  ⟨0x160000, [], [⟨0, 1, .rw⟩]⟩,
  ⟨0x160004, [], [⟨0, 16, .ro⟩, ⟨16, 1, .w1c⟩]⟩,
  ⟨0x160010, [], [⟨0, 1, .rw⟩, ⟨1, 1, .rw⟩]⟩,
  ⟨0x160014, [], [⟨6, 26, .rw⟩]⟩,
  ⟨0x160018, [], [⟨0, 32, .rw⟩]⟩,
  ⟨0x16001c, [], [⟨0, 4, .rw⟩]⟩,
  ⟨0x160020, [], [⟨0, 16, .ro⟩, ⟨16, 16, .rw⟩]⟩,
  ⟨0x160024, [], [⟨0, 16, .ro⟩, ⟨16, 6, .ro⟩]⟩,
  ⟨0x161000, [⟨16, 256⟩], [⟨0, 1, .rw⟩, ⟨1, 3, .rw⟩, ⟨4, 4, .rw⟩, ⟨8, 6, .rw⟩, ⟨14, 2, .rw⟩, ⟨16, 2, .rw⟩, ⟨18, 2, .rw⟩]⟩,
  ⟨0x161004, [⟨16, 256⟩], [⟨0, 14, .rw⟩, ⟨16, 14, .rw⟩]⟩,
  ⟨0x161008, [⟨16, 256⟩], [⟨0, 16, .rw⟩, ⟨16, 8, .rw⟩, ⟨24, 8, .rw⟩]⟩,
  ⟨0x16100c, [⟨16, 256⟩], [⟨0, 16, .rw⟩, ⟨16, 16, .rw⟩]⟩,
  ⟨0x161010, [⟨16, 256⟩], [⟨0, 16, .rw⟩, ⟨16, 16, .rw⟩]⟩,
  ⟨0x161014, [⟨16, 256⟩], [⟨0, 16, .rw⟩, ⟨16, 2, .rw⟩]⟩,
  ⟨0x161018, [⟨16, 256⟩, ⟨2, 4⟩], [⟨0, 2, .rw⟩, ⟨2, 1, .rw⟩, ⟨3, 1, .rw⟩, ⟨4, 12, .rw⟩, ⟨16, 1, .w1c⟩]⟩,
  ⟨0x161020, [⟨16, 256⟩, ⟨8, 4⟩], [⟨0, 16, .rw⟩, ⟨16, 16, .rw⟩]⟩,
  ⟨0x161040, [⟨16, 256⟩], [⟨0, 7, .wo⟩, ⟨7, 1, .wo⟩, ⟨8, 16, .wo⟩, ⟨24, 8, .wo⟩]⟩,
  ⟨0x161044, [⟨16, 256⟩], [⟨0, 1, .ro⟩, ⟨1, 1, .w1c⟩, ⟨2, 1, .ro⟩, ⟨3, 1, .w1c⟩, ⟨4, 1, .w1c⟩, ⟨8, 8, .ro⟩]⟩,
  ⟨0x161048, [⟨16, 256⟩], [⟨0, 8, .ro⟩, ⟨8, 8, .ro⟩, ⟨16, 8, .ro⟩, ⟨24, 8, .ro⟩]⟩,
  ⟨0x16104c, [⟨16, 256⟩], [⟨0, 32, .ro⟩]⟩]

def regMapCAMB : List RegSpec := [
  ⟨0x170000, [⟨4, 4096⟩, ⟨256, 4⟩], [⟨0, 32, .ro⟩]⟩,
  ⟨0x170400, [⟨4, 4096⟩, ⟨256, 4⟩], [⟨0, 16, .ro⟩, ⟨16, 16, .ro⟩]⟩,
  ⟨0x170800, [⟨4, 4096⟩], [⟨0, 32, .ro⟩]⟩]

def regMapCAM : List RegSpec := regMapCAMA ++ regMapCAMB

def regMapGNS : List RegSpec := [
  ⟨0x180000, [], [⟨0, 1, .rw⟩, ⟨1, 2, .rw⟩, ⟨3, 1, .rw⟩, ⟨4, 1, .rw⟩, ⟨5, 7, .rw⟩]⟩,
  ⟨0x180004, [], [⟨0, 16, .rw⟩]⟩,
  ⟨0x180008, [], [⟨0, 32, .rw⟩]⟩,
  ⟨0x18000c, [], [⟨0, 32, .rw⟩]⟩,
  ⟨0x180010, [], [⟨0, 4, .rw⟩]⟩,
  ⟨0x180014, [], [⟨0, 3, .ro⟩, ⟨3, 6, .ro⟩, ⟨9, 6, .ro⟩, ⟨15, 1, .ro⟩, ⟨16, 1, .ro⟩, ⟨17, 1, .ro⟩, ⟨18, 1, .ro⟩, ⟨19, 1, .w1c⟩, ⟨20, 1, .w1c⟩]⟩,
  ⟨0x180018, [], [⟨0, 1, .rw⟩, ⟨1, 1, .rw⟩, ⟨2, 1, .rw⟩, ⟨3, 9, .rw⟩]⟩,
  ⟨0x18001c, [], [⟨0, 32, .ro⟩]⟩,
  ⟨0x180020, [], [⟨0, 16, .ro⟩, ⟨16, 16, .ro⟩]⟩,
  ⟨0x180030, [], [⟨7, 25, .rw⟩]⟩,
  ⟨0x180034, [], [⟨0, 32, .rw⟩]⟩,
  ⟨0x180038, [], [⟨0, 4, .rw⟩]⟩,
  ⟨0x18003c, [], [⟨0, 16, .ro⟩, ⟨16, 16, .rw⟩]⟩,
  ⟨0x180040, [], [⟨0, 16, .ro⟩, ⟨16, 10, .ro⟩]⟩,
  ⟨0x180044, [], [⟨0, 1, .rw⟩, ⟨1, 1, .rw⟩, ⟨2, 1, .rw⟩, ⟨3, 1, .rw⟩]⟩,
  ⟨0x180050, [], [⟨0, 32, .rw⟩]⟩,
  ⟨0x180054, [], [⟨0, 32, .rw⟩]⟩,
  ⟨0x180058, [], [⟨0, 32, .rw⟩]⟩,
  ⟨0x18005c, [], [⟨0, 3, .rw⟩, ⟨3, 1, .wo⟩, ⟨16, 16, .rw⟩]⟩,
  ⟨0x180100, [⟨96, 4⟩], [⟨0, 2, .ro⟩, ⟨2, 1, .ro⟩, ⟨3, 6, .ro⟩, ⟨16, 16, .ro⟩]⟩]

def regMapOX : List RegSpec := [
  ⟨0x190000, [], [⟨0, 16, .rw⟩]⟩,
  ⟨0x190004, [], [⟨0, 10, .ro⟩, ⟨10, 1, .ro⟩, ⟨11, 1, .ro⟩, ⟨12, 1, .ro⟩, ⟨13, 3, .ro⟩, ⟨16, 3, .ro⟩, ⟨19, 1, .w1c⟩, ⟨20, 1, .w1c⟩, ⟨21, 6, .ro⟩]⟩,
  ⟨0x190008, [], [⟨0, 16, .ro⟩, ⟨16, 16, .ro⟩]⟩,
  ⟨0x191000, [⟨48, 32⟩], [⟨0, 1, .rw⟩, ⟨1, 1, .rw⟩, ⟨2, 1, .rw⟩, ⟨3, 1, .rw⟩, ⟨4, 3, .rw⟩, ⟨8, 12, .rw⟩, ⟨20, 2, .rw⟩, ⟨22, 1, .w1c⟩]⟩,
  ⟨0x191004, [⟨48, 32⟩], [⟨0, 12, .rw⟩, ⟨12, 1, .rw⟩]⟩,
  ⟨0x191008, [⟨48, 32⟩], [⟨0, 10, .rw⟩, ⟨16, 12, .rw⟩]⟩,
  ⟨0x19100c, [⟨48, 32⟩], [⟨0, 9, .rw⟩, ⟨16, 8, .rw⟩]⟩,
  ⟨0x191010, [⟨48, 32⟩], [⟨0, 16, .rw⟩, ⟨16, 6, .rw⟩, ⟨24, 8, .rw⟩]⟩,
  ⟨0x191014, [⟨48, 32⟩], [⟨0, 2, .ro⟩, ⟨2, 1, .ro⟩, ⟨3, 1, .ro⟩, ⟨4, 1, .w1c⟩, ⟨5, 1, .w1c⟩, ⟨6, 1, .w1c⟩, ⟨7, 1, .w1c⟩, ⟨16, 16, .ro⟩]⟩,
  ⟨0x191018, [⟨48, 32⟩], [⟨0, 16, .ro⟩, ⟨16, 16, .ro⟩]⟩,
  ⟨0x19101c, [⟨48, 32⟩], [⟨0, 16, .ro⟩, ⟨16, 8, .ro⟩]⟩]

def regMapMUL : List RegSpec := [
  ⟨0x1a0000, [], [⟨0, 10, .ro⟩, ⟨10, 1, .ro⟩, ⟨11, 7, .ro⟩]⟩,
  ⟨0x1a0004, [], [⟨0, 16, .ro⟩, ⟨16, 16, .ro⟩]⟩,
  ⟨0x1a1000, [⟨64, 16⟩], [⟨0, 1, .rw⟩, ⟨1, 1, .rw⟩, ⟨2, 1, .rw⟩, ⟨3, 1, .rw⟩, ⟨4, 3, .rw⟩, ⟨8, 12, .rw⟩, ⟨20, 2, .rw⟩, ⟨22, 1, .w1c⟩]⟩,
  ⟨0x1a1004, [⟨64, 16⟩], [⟨0, 1, .rw⟩]⟩,
  ⟨0x1a1008, [⟨64, 16⟩], [⟨0, 2, .ro⟩, ⟨2, 1, .ro⟩, ⟨3, 1, .w1c⟩, ⟨4, 1, .w1c⟩, ⟨5, 1, .w1c⟩, ⟨6, 1, .ro⟩, ⟨7, 3, .ro⟩, ⟨16, 16, .ro⟩]⟩,
  ⟨0x1a100c, [⟨64, 16⟩], [⟨0, 8, .ro⟩, ⟨8, 8, .ro⟩, ⟨16, 16, .ro⟩]⟩]

def regMapCANA : List RegSpec := [
  ⟨0x1b0000, [⟨12, 4096⟩], [⟨0, 1, .rw⟩, ⟨1, 1, .rw⟩, ⟨2, 1, .rw⟩, ⟨3, 1, .rw⟩, ⟨4, 1, .rw⟩, ⟨5, 1, .rw⟩, ⟨6, 1, .rw⟩, ⟨7, 1, .rw⟩, ⟨8, 1, .rw⟩, ⟨9, 1, .rw⟩, ⟨10, 1, .rw⟩]⟩,
  ⟨0x1b0004, [⟨12, 4096⟩], [⟨0, 9, .rw⟩, ⟨9, 8, .rw⟩, ⟨17, 7, .rw⟩, ⟨24, 7, .rw⟩]⟩,
  ⟨0x1b0008, [⟨12, 4096⟩], [⟨0, 5, .rw⟩, ⟨5, 5, .rw⟩, ⟨10, 4, .rw⟩, ⟨14, 4, .rw⟩, ⟨18, 1, .rw⟩, ⟨19, 7, .rw⟩]⟩,
  ⟨0x1b000c, [⟨12, 4096⟩], [⟨0, 8, .ro⟩, ⟨8, 7, .ro⟩, ⟨15, 1, .ro⟩, ⟨16, 2, .ro⟩, ⟨18, 1, .ro⟩, ⟨19, 1, .w1c⟩, ⟨20, 1, .w1c⟩, ⟨21, 1, .w1c⟩]⟩,
  ⟨0x1b0010, [⟨12, 4096⟩], [⟨0, 3, .ro⟩, ⟨3, 2, .ro⟩, ⟨5, 1, .ro⟩]⟩,
  ⟨0x1b0014, [⟨12, 4096⟩], [⟨0, 8, .w1s⟩]⟩,
  ⟨0x1b0018, [⟨12, 4096⟩], [⟨0, 8, .w1c⟩]⟩,
  ⟨0x1b001c, [⟨12, 4096⟩], [⟨0, 8, .w1c⟩]⟩,
  ⟨0x1b0020, [⟨12, 4096⟩], [⟨0, 8, .w1s⟩]⟩,
  ⟨0x1b0024, [⟨12, 4096⟩], [⟨0, 16, .w1c⟩]⟩,
  ⟨0x1b0028, [⟨12, 4096⟩], [⟨0, 16, .w1c⟩]⟩,
  ⟨0x1b002c, [⟨12, 4096⟩], [⟨0, 4, .ro⟩, ⟨4, 4, .ro⟩, ⟨8, 1, .w1c⟩]⟩,
  ⟨0x1b0030, [⟨12, 4096⟩], [⟨0, 4, .rw⟩]⟩,
  ⟨0x1b0034, [⟨12, 4096⟩], [⟨0, 8, .rw⟩]⟩,
  ⟨0x1b0040, [⟨12, 4096⟩, ⟨16, 4⟩], [⟨0, 12, .rw⟩, ⟨12, 1, .rw⟩, ⟨13, 6, .rw⟩]⟩,
  ⟨0x1b0080, [⟨12, 4096⟩, ⟨8, 4⟩], [⟨0, 12, .rw⟩, ⟨12, 1, .rw⟩]⟩,
  ⟨0x1b00a0, [⟨12, 4096⟩], [⟨0, 1, .rw⟩, ⟨1, 1, .rw⟩, ⟨2, 3, .rw⟩, ⟨5, 6, .rw⟩, ⟨11, 16, .rw⟩, ⟨27, 1, .rw⟩]⟩,
  ⟨0x1b00a4, [⟨12, 4096⟩], [⟨0, 29, .rw⟩, ⟨29, 1, .rw⟩]⟩,
  ⟨0x1b00a8, [⟨12, 4096⟩], [⟨0, 6, .ro⟩, ⟨6, 1, .ro⟩, ⟨7, 2, .ro⟩, ⟨16, 16, .ro⟩]⟩,
  ⟨0x1b00b0, [⟨12, 4096⟩], [⟨0, 16, .ro⟩, ⟨16, 16, .ro⟩]⟩]

def regMapCANB : List RegSpec := [
  ⟨0x1b0100, [⟨12, 4096⟩, ⟨960, 4⟩], [⟨0, 32, .rw⟩]⟩]

def regMapCAN : List RegSpec := regMapCANA ++ regMapCANB

def regMapMBX : List RegSpec := [
  ⟨0x1c0000, [], [⟨0, 1, .w1c⟩, ⟨1, 6, .ro⟩, ⟨7, 1, .ro⟩, ⟨8, 4, .ro⟩, ⟨24, 8, .ro⟩]⟩,
  ⟨0x1c0100, [⟨64, 4⟩], [⟨0, 4, .rwl⟩, ⟨8, 4, .rwl⟩, ⟨16, 1, .rwl⟩]⟩,
  ⟨0x1c0200, [⟨64, 4⟩], [⟨0, 16, .rw⟩]⟩,
  ⟨0x1c1000, [⟨64, 256⟩, ⟨2, 128⟩, ⟨4, 4⟩], [⟨0, 32, .wo⟩]⟩,
  ⟨0x1c1010, [⟨64, 256⟩, ⟨2, 128⟩, ⟨4, 4⟩], [⟨0, 32, .ro⟩]⟩,
  ⟨0x1c1020, [⟨64, 256⟩, ⟨2, 128⟩], [⟨0, 16, .wo⟩]⟩,
  ⟨0x1c1024, [⟨64, 256⟩, ⟨2, 128⟩], [⟨0, 3, .ro⟩, ⟨3, 3, .ro⟩, ⟨6, 1, .w1c⟩, ⟨7, 1, .w1c⟩, ⟨8, 1, .ro⟩, ⟨9, 1, .w1c⟩, ⟨16, 8, .ro⟩, ⟨24, 8, .ro⟩]⟩,
  ⟨0x1c1028, [⟨64, 256⟩, ⟨2, 128⟩], [⟨0, 1, .rw⟩, ⟨1, 1, .rw⟩]⟩,
  ⟨0x1c1030, [⟨64, 256⟩, ⟨2, 128⟩, ⟨4, 4⟩], [⟨0, 16, .ro⟩, ⟨16, 8, .ro⟩, ⟨31, 1, .w1c⟩]⟩]

def regMapFLTA : List RegSpec := [
  ⟨0x1d0000, [], [⟨0, 32, .ro⟩]⟩,
  ⟨0x1d0004, [], [⟨0, 32, .ro⟩]⟩,
  ⟨0x1d0008, [], [⟨0, 32, .ro⟩]⟩,
  ⟨0x1d000c, [], [⟨0, 16, .ro⟩]⟩,
  ⟨0x1d0010, [⟨16, 4⟩], [⟨0, 32, .ro⟩]⟩,
  ⟨0x1d0080, [], [⟨0, 3, .ro⟩, ⟨3, 1, .ro⟩, ⟨4, 2, .ro⟩, ⟨6, 10, .ro⟩, ⟨16, 16, .ro⟩]⟩,
  ⟨0x1d0084, [], [⟨0, 32, .ro⟩]⟩,
  ⟨0x1d0088, [], [⟨0, 32, .ro⟩]⟩,
  ⟨0x1d0090, [⟨8, 4⟩], [⟨0, 32, .ro⟩]⟩,
  ⟨0x1d0100, [], [⟨0, 1, .rwl⟩, ⟨1, 4, .rwl⟩]⟩,
  ⟨0x1d0104, [], [⟨0, 29, .rwl⟩]⟩,
  ⟨0x1d0108, [], [⟨0, 32, .ro⟩]⟩,
  ⟨0x1d010c, [], [⟨0, 32, .ro⟩]⟩,
  ⟨0x1d0110, [], [⟨1, 31, .ro⟩]⟩,
  ⟨0x1d0220, [⟨31, 32⟩], [⟨0, 1, .rwl⟩, ⟨1, 1, .rwl⟩, ⟨2, 1, .rwl⟩, ⟨3, 4, .rwl⟩]⟩,
  ⟨0x1d0224, [⟨31, 32⟩], [⟨0, 32, .rwl⟩]⟩,
  ⟨0x1d0228, [⟨31, 32⟩], [⟨0, 16, .rwl⟩]⟩,
  ⟨0x1d022c, [⟨31, 32⟩], [⟨0, 32, .ro⟩]⟩,
  ⟨0x1d0230, [⟨31, 32⟩], [⟨0, 32, .ro⟩]⟩,
  ⟨0x1d0234, [⟨31, 32⟩], [⟨0, 32, .ro⟩]⟩]

def regMapFLTB : List RegSpec := [
  ⟨0x1d0600, [], [⟨0, 1, .rw⟩, ⟨1, 10, .rw⟩]⟩,
  ⟨0x1d0604, [], [⟨7, 25, .rw⟩]⟩,
  ⟨0x1d0608, [], [⟨0, 32, .rw⟩]⟩,
  ⟨0x1d060c, [], [⟨0, 4, .rw⟩]⟩,
  ⟨0x1d0610, [], [⟨0, 16, .ro⟩, ⟨16, 16, .rw⟩]⟩,
  ⟨0x1d0614, [], [⟨0, 16, .ro⟩, ⟨16, 4, .ro⟩]⟩,
  ⟨0x1d0618, [], [⟨0, 32, .rw⟩]⟩,
  ⟨0x1d061c, [], [⟨0, 32, .rw⟩]⟩,
  ⟨0x1d0620, [], [⟨0, 32, .rw⟩]⟩,
  ⟨0x1d0700, [], [⟨0, 1, .rwl⟩, ⟨1, 1, .rwl⟩, ⟨2, 8, .rwl⟩, ⟨10, 2, .rwl⟩]⟩,
  ⟨0x1d0704, [], [⟨0, 1, .ro⟩, ⟨1, 1, .ro⟩, ⟨2, 4, .ro⟩, ⟨8, 8, .ro⟩]⟩,
  ⟨0x1d0708, [], [⟨0, 32, .ro⟩]⟩,
  ⟨0x1d1000, [⟨9, 64⟩], [⟨0, 1, .rw⟩, ⟨1, 1, .rw⟩, ⟨2, 1, .rwl⟩, ⟨3, 1, .rw⟩, ⟨4, 3, .rw⟩]⟩,
  ⟨0x1d1004, [⟨9, 64⟩], [⟨0, 1, .ro⟩, ⟨1, 2, .ro⟩]⟩,
  ⟨0x1d1008, [⟨9, 64⟩], [⟨11, 21, .rw⟩]⟩,
  ⟨0x1d100c, [⟨9, 64⟩], [⟨0, 32, .rw⟩]⟩,
  ⟨0x1d1010, [⟨9, 64⟩], [⟨0, 4, .rw⟩]⟩,
  ⟨0x1d1014, [⟨9, 64⟩], [⟨0, 16, .ro⟩, ⟨16, 16, .rw⟩]⟩,
  ⟨0x1d1018, [⟨9, 64⟩], [⟨11, 21, .rw⟩]⟩,
  ⟨0x1d101c, [⟨9, 64⟩], [⟨0, 32, .rw⟩]⟩]

def regMapFLTC : List RegSpec := [
  ⟨0x1d1020, [⟨9, 64⟩], [⟨0, 4, .rw⟩]⟩,
  ⟨0x1d1024, [⟨9, 64⟩], [⟨0, 16, .rw⟩, ⟨16, 16, .ro⟩]⟩,
  ⟨0x1d1028, [⟨9, 64⟩], [⟨0, 32, .ro⟩]⟩,
  ⟨0x1d102c, [⟨9, 64⟩], [⟨0, 32, .ro⟩]⟩,
  ⟨0x1d1030, [⟨9, 64⟩], [⟨0, 12, .ro⟩, ⟨12, 12, .ro⟩, ⟨24, 8, .ro⟩]⟩]

def regMapFLT : List RegSpec := regMapFLTA ++ regMapFLTB ++ regMapFLTC

def regMapDSP : List RegSpec := [
  ⟨0x1e0000, [], [⟨0, 1, .wo⟩, ⟨1, 1, .wo⟩]⟩,
  ⟨0x1e0004, [], [⟨0, 2, .ro⟩, ⟨2, 1, .ro⟩, ⟨3, 1, .ro⟩, ⟨16, 16, .ro⟩]⟩,
  ⟨0x1e0008, [], [⟨0, 3, .rw⟩, ⟨3, 1, .rw⟩]⟩,
  ⟨0x1e000c, [], [⟨0, 4, .rw⟩, ⟨8, 8, .rw⟩]⟩,
  ⟨0x1e0010, [], [⟨0, 12, .rw⟩, ⟨16, 12, .rw⟩]⟩,
  ⟨0x1e0014, [], [⟨0, 12, .rw⟩, ⟨16, 12, .rw⟩]⟩,
  ⟨0x1e0018, [], [⟨0, 18, .rw⟩]⟩,
  ⟨0x1e0020, [], [⟨6, 26, .rw⟩]⟩,
  ⟨0x1e0024, [], [⟨0, 32, .rw⟩]⟩,
  ⟨0x1e0028, [], [⟨0, 16, .rw⟩]⟩,
  ⟨0x1e002c, [], [⟨0, 16, .rw⟩]⟩,
  ⟨0x1e0030, [], [⟨0, 1, .rw⟩, ⟨1, 11, .rw⟩, ⟨12, 10, .rw⟩, ⟨22, 8, .rw⟩]⟩,
  ⟨0x1e0034, [], [⟨0, 32, .rw⟩]⟩,
  ⟨0x1e0038, [], [⟨0, 32, .rw⟩]⟩,
  ⟨0x1e0040, [⟨8, 4⟩], [⟨0, 24, .rw⟩]⟩]

def regMapCMP : List RegSpec := [
  ⟨0x1f0000, [], [⟨0, 1, .ro⟩, ⟨1, 1, .w1c⟩, ⟨2, 1, .w1c⟩, ⟨3, 1, .w1c⟩]⟩,
  ⟨0x1f0004, [], [⟨0, 32, .ro⟩]⟩,
  ⟨0x1f0008, [], [⟨0, 8, .ro⟩, ⟨8, 8, .ro⟩]⟩]

/-! ### Reset values that are not zero (the Reset columns; R10) -/

def resetTableA : List ResetSpec := [
  ⟨0x0, [], 0x12⟩,
  ⟨0x10, [], 0x3c⟩,
  ⟨0x100, [], 0x3e8⟩,
  ⟨0x1000c, [], 0x1⟩,
  ⟨0x10014, [], 0x1⟩,
  ⟨0x20004, [], 0x4⟩,
  ⟨0x20104, [⟨17, 16⟩], 0x1⟩,
  ⟨0x20400, [⟨21, 4⟩], 0x10001⟩,
  ⟨0x20500, [], 0x13⟩,
  ⟨0x3002c, [], 0x7⟩,
  ⟨0x3010c, [], 0x1⟩,
  ⟨0x30110, [], 0x1⟩,
  ⟨0x30114, [], 0x1⟩,
  ⟨0x3011c, [], 0x1⟩,
  ⟨0x40004, [], 0x2710⟩,
  ⟨0x40088, [], 0x4⟩,
  ⟨0x50010, [], 0x10⟩,
  ⟨0x50100, [⟨16, 4⟩], 0x3fc190⟩,
  ⟨0x50200, [⟨8, 4⟩], 0x320640⟩,
  ⟨0x60008, [⟨4096, 32⟩], 0x744⟩]

def resetTableB : List ResetSpec := [
  ⟨0x60014, [⟨4096, 32⟩], 0x1⟩,
  ⟨0x60018, [⟨4096, 32⟩], 0xf4240⟩,
  ⟨0xa0104, [], 0xffffffff⟩,
  ⟨0xa0108, [], 0x7⟩,
  ⟨0xa0114, [], 0xffffffff⟩,
  ⟨0xa0118, [], 0x7⟩,
  ⟨0xc0010, [⟨128, 64⟩], 0x1c0⟩,
  ⟨0x140000, [], 0x3⟩,
  ⟨0x14000c, [], 0xffffffff⟩,
  ⟨0x140100, [⟨16, 8⟩], 0x8235⟩,
  ⟨0x140200, [], 0x8⟩,
  ⟨0x141000, [⟨16, 16⟩], 0xc0000⟩,
  ⟨0x141004, [⟨16, 16⟩], 0x12c00c8⟩,
  ⟨0x141008, [⟨16, 16⟩], 0x80⟩,
  ⟨0x143008, [], 0x4⟩,
  ⟨0x143014, [], 0x40000000⟩,
  ⟨0x14c000, [], 0x500000⟩,
  ⟨0x14c004, [], 0x4000⟩,
  ⟨0x14c020, [], 0x5aa2d00⟩,
  ⟨0x14c028, [], 0x7fff7fff⟩]

def resetTableC : List ResetSpec := [
  ⟨0x14c040, [⟨16, 4⟩], 0x4000000⟩,
  ⟨0x14c080, [⟨4, 4⟩], 0x10000⟩,
  ⟨0x14c110, [], 0x4⟩,
  ⟨0x16001c, [], 0x4⟩,
  ⟨0x161000, [⟨16, 256⟩], 0x2c02⟩,
  ⟨0x161004, [⟨16, 256⟩], 0x7d00fa0⟩,
  ⟨0x161008, [⟨16, 256⟩], 0xa640190⟩,
  ⟨0x180000, [], 0xbc⟩,
  ⟨0x180018, [], 0x320⟩,
  ⟨0x180038, [], 0x4⟩,
  ⟨0x190000, [], 0x1388⟩,
  ⟨0x191000, [⟨48, 32⟩], 0x14⟩,
  ⟨0x191008, [⟨48, 32⟩], 0x3e80000⟩,
  ⟨0x191010, [⟨48, 32⟩], 0x40a7fff⟩,
  ⟨0x1a1000, [⟨64, 16⟩], 0x4⟩,
  ⟨0x1b0000, [⟨12, 4096⟩], 0x41⟩,
  ⟨0x1b0004, [⟨12, 4096⟩], 0x1081e10⟩,
  ⟨0x1b0008, [⟨12, 4096⟩], 0x4448e1⟩,
  ⟨0x1b0034, [⟨12, 4096⟩], 0xfe⟩,
  ⟨0x1c0100, [⟨64, 4⟩], 0xf0f⟩]

def resetTableD : List ResetSpec := [
  ⟨0x1c0200, [⟨64, 4⟩], 0x64⟩,
  ⟨0x1d0600, [], 0x78⟩,
  ⟨0x1d060c, [], 0x4⟩,
  ⟨0x1d0700, [], 0x3e0⟩,
  ⟨0x1d1000, [⟨9, 64⟩], 0x70⟩,
  ⟨0x1d1010, [⟨9, 64⟩], 0x4⟩,
  ⟨0x1d1020, [⟨9, 64⟩], 0x4⟩,
  ⟨0x1e0008, [], 0xa⟩,
  ⟨0x1e000c, [], 0x3203⟩,
  ⟨0x1e0010, [], 0x8200780⟩,
  ⟨0x1e0014, [], 0x2ee02d0⟩,
  ⟨0x1e0018, [], 0x16da0⟩,
  ⟨0x1e0028, [], 0x1e00⟩,
  ⟨0x1e002c, [], 0x7fff⟩,
  ⟨0x1e0030, [], 0x8000000⟩]

def resetTable : List ResetSpec := resetTableA ++ resetTableB ++ resetTableC ++ resetTableD

end Sys2Proof.Machine
end

