-- ==== Sys2Proof/Machine/Ops.lean ====
section
/-!
DEFINITION. Machine/Ops.lean: the named operations over the state that every meaning shares: sparse
maps, bit fields, time, set-up registers, module DRAM, byte images and checks, free values.
-/

namespace Sys2Proof.Machine

/-! ### Sparse maps in canonical form -/

/-- What key `k` reads as, `d` where it is not listed. -/
def spGetD {α : Type} (d : α) : Sparse α → Nat → α
  | [], _ => d
  | (k', v) :: m, k => if k = k' then v else spGetD d m k

/-- Write `v` at key `k`; writing the value that an unlisted key reads as removes the entry. -/
def spSetD {α : Type} [DecidableEq α] (d : α) : Sparse α → Nat → α → Sparse α
  | [], k, v => if v = d then [] else [(k, v)]
  | (k', v') :: m, k, v =>
    if v = d then (if k = k' then spSetD d m k v else (k', v') :: spSetD d m k v)
    else if k < k' then (k, v) :: (k', v') :: m
    else if k = k' then (k, v) :: m
    else (k', v') :: spSetD d m k v

/-- `spGetD` with the type's default (zero, none, an empty record) for unlisted keys. -/
def spGet {α : Type} [Inhabited α] (m : Sparse α) (k : Nat) : α := spGetD default m k

/-- `spSetD` with the type's default for unlisted keys. -/
def spSet {α : Type} [Inhabited α] [DecidableEq α] (m : Sparse α) (k : Nat) (v : α) : Sparse α :=
  spSetD default m k v

/-- Apply `f` at key `k`. -/
def spMod {α : Type} [Inhabited α] [DecidableEq α] (m : Sparse α) (k : Nat) (f : α → α) : Sparse α :=
  spSet m k (f (spGet m k))

/-- The canonical form: keys strictly rising, no entry equal to what an unlisted key reads as. -/
def spWf {α : Type} [DecidableEq α] (d : α) : Sparse α → Bool
  | [] => true
  | [(_, v)] => decide (v ≠ d)
  | (k, v) :: (k', v') :: m => decide (v ≠ d) && decide (k < k') && spWf d ((k', v') :: m)

/-! ### Bit fields and numbers -/

/-- Bits [lo + width - 1 : lo] of a number. -/
def bitsOf (v lo width : Nat) : Nat := (v >>> lo) % 2 ^ width

/-- Bit `i` of a number. -/
def bitOf (v i : Nat) : Bool := v.testBit i

/-- The width-bit field `v` placed at bit `lo`. -/
def place (v lo width : Nat) : Nat := (v % 2 ^ width) <<< lo

/-- The register `w` with its field at `lo` of `width` bits replaced by `v` (R4). -/
def setBits (w : Word) (lo width v : Nat) : Word :=
  let mask := BitVec.ofNat 32 (place (2 ^ width - 1) lo width)
  (w &&& ~~~ mask) ||| BitVec.ofNat 32 (place v lo width)

/-- A number of `width` bits read as two's complement. -/
def toSigned (width v : Nat) : Int :=
  let x := v % 2 ^ width
  if 2 * x < 2 ^ width then (x : Int) else (x : Int) - ((2 ^ width : Nat) : Int)

/-- An integer kept in `width` bits, two's complement. -/
def ofSigned (width : Nat) (z : Int) : Nat := (z % ((2 ^ width : Nat) : Int)).toNat

/-- A number limited to the range lo to hi ("the nearer limit"). -/
def clampNat (lo hi v : Nat) : Nat := if v < lo then lo else if hi < v then hi else v

def clampInt (lo hi v : Int) : Int := if v < lo then lo else if hi < v then hi else v

/-- Saturate a count at the largest value of `width` bits. -/
def satBits (width v : Nat) : Nat := if v < 2 ^ width then v else 2 ^ width - 1

/-- a − b modulo 2^16, the arithmetic of ring pointers (R53, R224). -/
def sub16 (a b : Nat) : Nat := (a % 65536 + 65536 - b % 65536) % 65536

def boolNat (b : Bool) : Nat := if b then 1 else 0

/-- Round-half-up quotient of two numbers. -/
def roundDiv (a b : Nat) : Nat := (2 * a + b) / (2 * b)

/-- Round-half-up of an integer over a positive number, away from zero for halves of negatives. -/
def roundDivInt (a : Int) (b : Nat) : Int :=
  if 0 ≤ a then (roundDiv a.toNat b : Int) else - (roundDiv (-a).toNat b : Int)

/-! ### Byte images (R5) -/

/-- The `n` low bytes of `v`, least significant first. -/
def leBytes : Nat → Nat → List Byte
  | 0, _ => []
  | n + 1, v => BitVec.ofNat 8 v :: leBytes n (v / 256)

/-- The number whose bytes, least significant first, are `bs`. -/
def leNat : List Byte → Nat
  | [] => 0
  | b :: bs => b.toNat + 256 * leNat bs

/-- The `n` low bytes of `v`, most significant first. -/
def beBytes (n v : Nat) : List Byte := (leBytes n v).reverse

def beNat (bs : List Byte) : Nat := leNat bs.reverse

/-- One byte of the CRC-32 of R51: polynomial 0x04C1_1DB7, reflected. -/
def crc32Step (crc : BitVec 32) (b : Byte) : BitVec 32 :=
  let x := crc ^^^ b.setWidth 32
  let f := fun (y : BitVec 32) (_ : Nat) => if y.getLsbD 0 then (y >>> 1) ^^^ 0xEDB88320#32 else y >>> 1
  (List.range 8).foldl f x

/-- The CRC-32 of R51: initial value and final XOR 0xFFFF_FFFF. -/
def crc32 (bs : List Byte) : Nat := (bs.foldl crc32Step 0xFFFFFFFF#32 ^^^ 0xFFFFFFFF#32).toNat

/-! ### Time

`now` is the instant of the model's own timeline, in ps; module time is counted from `bootAt`. -/

/-- The instant of the next happening; the timeline never runs back (log entry 1). -/
def State.tick (s : State) (t : Nat) : State := { s with now := if s.now < t then t else s.now }

/-- Does a command that `p` gives an instant wait in the queue for the present one? Rules that order two
happenings of one instant look for the other there (log entry 29). -/
def State.waitsNow (s : State) (p : Instr → Option Nat) : Bool :=
  s.pending.any (fun i => match p i with
    | some t => decide (t ≤ s.now)
    | none => false)

def psPerMs : Nat := 1000000000
def psPerUs : Nat := 1000000
def psPerS : Nat := 1000000000000

/-- Module time in ps, 0 at BOOT entry (R400). -/
def State.modTime (s : State) : Nat := s.now - s.bootAt

def State.modNs (s : State) : Nat := s.modTime / 1000
def State.modUs (s : State) : Nat := s.modTime / psPerUs
def State.modMs (s : State) : Nat := s.modTime / psPerMs

/-- Module time is a whole multiple of `p` ps. -/
def State.atWhole (s : State) (p : Nat) : Bool := s.modTime % p == 0

/-! ### Set-up registers -/

/-- An offset belongs to an array register of these dimensions, counted from its first entry. -/
def inDims : List Dim → Nat → Bool
  | [], d => d == 0
  | ⟨n, st⟩ :: r, d => decide (d / st < n) && inDims r (d % st)

/-- Does the register or array register at `base` have an entry at offset `off`? -/
def covers (base : Nat) (dims : List Dim) (off : Nat) : Bool :=
  decide (base ≤ off) && inDims dims (off - base)

/-- The register map of one 64 KiB or larger block, by block start (R535, R536). -/
def regMapAt (off : Nat) : List RegSpec :=
  if off < 0x10000 then regMapGLB else if off < 0x20000 then regMapPWR
  else if off < 0x30000 then regMapCLK else if off < 0x40000 then regMapROO
  else if off < 0x50000 then regMapHEN else if off < 0x60000 then regMapGOO
  else if off < 0x80000 then regMapCTX else if off < 0xA0000 then regMapQOS
  else if off < 0xC0000 then regMapMOR else if off < 0x100000 then regMapTIL
  else if off < 0x140000 then regMapCEN else if off < 0x160000 then regMapFUS
  else if off < 0x180000 then regMapCAM else if off < 0x190000 then regMapGNS
  else if off < 0x1A0000 then regMapOX else if off < 0x1B0000 then regMapMUL
  else if off < 0x1C0000 then regMapCAN else if off < 0x1D0000 then regMapMBX
  else if off < 0x1E0000 then regMapFLT else if off < 0x1F0000 then regMapDSP
  else if off < 0x200000 then regMapCMP else []

/-- The register defined at an offset, none where the window holds no register (R7, R536). -/
def findReg (off : Nat) : Option RegSpec := (regMapAt off).find? (fun r => covers r.base r.dims off)

/-- Index in address-map order of the block that holds an offset (R274, R535). -/
def blockOf (off : Nat) : Nat :=
  if off < 0x60000 then off / 0x10000
  else if off < 0x80000 then 6 else if off < 0xA0000 then 7 else if off < 0xC0000 then 8
  else if off < 0x100000 then 9 else if off < 0x140000 then 10 else if off < 0x160000 then 11
  else if off < 0x180000 then 12 else off / 0x10000 - 0x18 + 13

/-- Start offset of a block (R535). -/
def blockBase (b : Nat) : Nat :=
  if b < 6 then b * 0x10000 else if b = 6 then 0x60000 else if b = 7 then 0x80000
  else if b = 8 then 0xA0000 else if b = 9 then 0xC0000 else if b = 10 then 0x100000
  else if b = 11 then 0x140000 else if b = 12 then 0x160000 else (b + 0x18 - 13) * 0x10000

/-- Size of a block (R535). -/
def blockSize (b : Nat) : Nat := blockBase (b + 1) - blockBase b

/-- The default FREQ of clock domain d, in units of 0.125 MHz (R427, R436). -/
def defaultFreq (d : Nat) : Nat :=
  if d < 4 then 10000 else if d = 4 then 12500 else if d = 5 then 16000 else if d = 6 then 3200
  else if d = 7 then 640 else if d = 8 then 8533 else if d = 9 then 4000 else if d = 10 then 640
  else if d = 11 then 8000 else if d = 12 then 1600 else if d = 13 then 2500 else if d = 14 then 800
  else if d = 15 then 1600 else 0

/-- Module capacity of quota kind k (R261). -/
def quotaCap (k : Nat) : Nat :=
  if k = 0 then 1024 else if k = 1 then 57344 else if k = 2 then 8192 else if k = 3 then 4096
  else if k = 4 then 64 else if k = 5 then 65535 else 0

/-- Reset values whose Function column gives them per entry (R278, R427, R436). -/
def resetSpecial (off : Nat) : Nat :=
  if 0x20100 ≤ off ∧ off < 0x20210 ∧ off % 16 = 0 then defaultFreq ((off - 0x20100) / 16)
  else if 0x80040 ≤ off ∧ off < 0x80080 then quotaCap ((off - 0x80040) / 4)
  else if 0x80118 ≤ off ∧ off < 0x80120 then 0x40
  else if 0x8020C ≤ off ∧ off < 0x80220 then 0x100000
  else if 0xA0000 ≤ off ∧ off < 0xA0020 then
    (if off = 0xA0008 then 10 else 0) + (if 0xA000C ≤ off then 0x100000 else 0)
  else if 0x20400 ≤ off ∧ off < 0x20454 ∧
      ((off - 0x20400) / 4 < 4 ∨ (off - 0x20400) / 4 = 5 ∨ (off - 0x20400) / 4 = 10
        ∨ (off - 0x20400) / 4 = 14 ∨ (off - 0x20400) / 4 = 15) then 6
  else if 0x1A1000 ≤ off ∧ off < 0x1A1400 ∧ off % 16 = 8 then
    (if (off - 0x1A1000) / 16 < 32 then 0x40 else 0)
  else if 0x161000 ≤ off ∧ off < 0x162000 ∧ 0x20 ≤ off % 256 ∧ off % 256 < 0x40 then
    (let i := (off % 256 - 0x20) / 4
     if i = 0 ∨ i = 5 then 0x7FFF else if i = 2 ∨ i = 7 then 0x7FFF0000 else 0)
  else if off = 0x1B00A0 ∨ off = 0x1B10A0 then 0x3E8 * 2 ^ 11
  else 0

/-- The reset value of the register at an offset (R10). -/
def regReset (off : Nat) : Word :=
  BitVec.ofNat 32 ((match resetTable.find? (fun r => covers r.base r.dims off) with
    | some r => r.value
    | none => 0) ||| resetSpecial off)

/-- The stored word of a register; an unlisted one holds its reset value. -/
def State.reg (s : State) (off : Nat) : Word := spGetD (regReset off) s.regs off

def State.setReg (s : State) (off : Nat) (w : Word) : State :=
  { s with regs := spSetD (regReset off) s.regs off w }

/-- The number a register field holds. -/
def State.fld (s : State) (f : Fld) : Nat := bitsOf (s.reg f.off).toNat f.lo f.width

/-- Set a register field, leaving the register's other bits. -/
def State.setFld (s : State) (f : Fld) (v : Nat) : State :=
  s.setReg f.off (setBits (s.reg f.off) f.lo f.width v)

/-- A one-bit field read as a truth value. -/
def State.flag (s : State) (f : Fld) : Bool := s.fld f == 1

def State.setFlag (s : State) (f : Fld) (b : Bool) : State := s.setFld f (boolNat b)

/-- A 64-bit value held in a LO and a HI register field that hold all its upper bits: LO's field
keeps its place in the value. -/
def State.pair (s : State) (lo hi : Fld) : Nat :=
  (s.fld lo <<< lo.lo) ||| (s.fld hi <<< (32 + hi.lo))

def State.setPair (s : State) (lo hi : Fld) (v : Nat) : State :=
  (s.setFld lo (v >>> lo.lo)).setFld hi (v >>> (32 + hi.lo))

/-! ### Module DRAM: 64 GiB of bytes (R14, R399) -/

/-- Bytes of module DRAM (R14): 64 GiB. -/
def dramSize : Nat := 2 ^ 36

/-- What a byte that nothing has written reads as (log entry 5). -/
def dramDefault : Byte := 0

/-- The canonical form of the memory list. -/
def dramWf (m : List Host.Cell) : Bool := spWf dramDefault m

def State.readByte (s : State) (a : Nat) : Byte := spGetD dramDefault s.dram a

/-- A byte stored outside module DRAM goes nowhere (log entry 12). -/
def dramPut (m : List Host.Cell) (a : Nat) (b : Byte) : List Host.Cell :=
  if a < dramSize then spSetD dramDefault m a b else m

def dramPutAll : List Host.Cell → Nat → List Byte → List Host.Cell
  | m, _, [] => m
  | m, a, b :: bs => dramPutAll (dramPut m a b) (a + 1) bs

def State.readBytes (s : State) (a n : Nat) : List Byte := (List.range n).map (fun i => s.readByte (a + i))

/-- Store bytes at consecutive addresses. -/
def State.writeBytes (s : State) (a : Nat) (bs : List Byte) : State :=
  { s with dram := dramPutAll s.dram a bs }

/-- A 128-bit word of module DRAM (R5). -/
def State.readFlit (s : State) (a : Nat) : Flit := BitVec.ofNat 128 (leNat (s.readBytes a 16))

/-- Does [a, a + n) lie wholly within module DRAM? -/
def inDram (a n : Nat) : Bool := decide (a + n ≤ dramSize)

/-! ### Values the spec leaves open (log entry 11) -/

/-- Draw a value of `w` bits that nothing constrains. -/
def State.drawFree (s : State) (w : Nat) : BitVec w × State :=
  (Config.freeValue w s.freeCtr, { s with freeCtr := s.freeCtr + 1 })

/-- A status word as it is read: its bits in `mask` show what is measured at that moment, which is open
(log entry 27). -/
def State.readMeasured (s : State) (mask w : Word) : Word × State :=
  if mask = 0 then (w, s)
  else
    let (x, s) := s.drawFree 32
    ((w &&& ~~~ mask) ||| (x &&& mask), s)

/-! ### Lists -/

/-- Replace the first element that meets `p`. -/
def updateFirst {α : Type} (p : α → Bool) (f : α → α) : List α → List α
  | [] => []
  | a :: l => if p a then f a :: l else a :: updateFirst p f l

/-- Drop the first element that meets `p`. -/
def removeFirst {α : Type} (p : α → Bool) : List α → List α
  | [] => []
  | a :: l => if p a then l else a :: removeFirst p l

/-- The smallest number from `n` on that is no key of the map, given its keys from there. -/
def firstGap {α : Type} : Nat → Sparse α → Nat
  | n, [] => n
  | n, (k, _) :: m => if n < k then n else if n = k then firstGap (n + 1) m else firstGap n m

end Sys2Proof.Machine
end

