-- ==== Sys2Proof/Machine/Flags.lean ====
section
/-!
DEFINITION. Machine/Flags.lean: what the blocks share to report: tally counters (R245), completion
rings and interrupt lines (R224 to R226, R242), events (R243), Hen records (R382 to R391), rings that
follow R53, and lock violations (R275).
-/

namespace Sys2Proof.Machine

/-! ### Tally counters (R245) -/

/-- The key of a tally field among the running counters. -/
def tallyKey (f : Fld) : Nat := 32 * f.off + f.lo

/-- Advance a period counter by `n`; counters saturate within a period (R245). -/
def State.bumpBy (s : State) (f : Fld) (n : Nat) : State :=
  { s with host := { s.host with
      tally := spMod s.host.tally (tallyKey f) (fun v => satBits f.width (v + n)) } }

def State.bump (s : State) (f : Fld) : State := s.bumpBy f 1

/-- Keep the largest value seen in the period, saturating. -/
def State.bumpMax (s : State) (f : Fld) (n : Nat) : State :=
  { s with host := { s.host with
      tally := spMod s.host.tally (tallyKey f) (fun v => max v (satBits f.width n)) } }

/-! ### Completion rings and interrupt lines -/

def State.ctxSt (s : State) (c : Nat) : CtxSt := spGet s.host.ctx c

def State.setCtx (s : State) (c : Nat) (x : CtxSt) : State :=
  { s with host := { s.host with ctx := spSet s.host.ctx c x } }

/-- CTX_STAT.STATE: 0 OFF, 1 ACTIVE, 2 HALTED, 3 DRAINING (R219). -/
def State.ctxState (s : State) (c : Nat) : Nat := s.fld (F.CTX_STAT_STATE c)

def State.sqSize (s : State) (c : Nat) : Nat := 2 ^ s.fld (F.CTX_CFG_SQ_LOG2 c)
def State.cqSize (s : State) (c : Nat) : Nat := 2 ^ s.fld (F.CTX_CFG_CQ_LOG2 c)

/-- Operations of a context in flight (R233). -/
def State.inflight (s : State) (c : Nat) : Nat := (s.host.ops.filter (fun o => o.ctx == c)).length

/-- Free completion slots of a context (R225). -/
def State.freeSlots (s : State) (c : Nat) : Nat :=
  s.cqSize c - sub16 (s.ctxSt c).cqTail (s.ctxSt c).cqHead - s.inflight c

/-- Does the condition of R242 hold for a context's interrupt line? -/
def State.lineWanted (s : State) (c : Nat) : Bool :=
  let x := s.ctxSt c
  let n := sub16 x.cqTail x.cqHead
  s.ctxState c != 0 && s.flag (F.CTX_CFG_IRQ_EN c) && n != 0 &&
    (decide (max x.cnt 1 ≤ n)
      || (x.timeUs != 0 && x.recs.any (fun r => decide (r.at_ + x.timeUs * psPerUs ≤ s.now)))
      || x.recs.any (fun r => r.now))

/-- Assert or release a context's line as R242 says. -/
def State.updateLine (s : State) (c : Nat) : State :=
  s.setCtx c { s.ctxSt c with line := s.lineWanted c }

/-- PHASE of a record written at pointer value p: 1 when p / size is even (R226). -/
def phaseBit (p size : Nat) : Nat := if (p / size) % 2 = 0 then 1 else 0

/-- Write a completion record (bits [126:0] given) at CQ_TAIL, advance CQ_TAIL and judge the
interrupt line; a new CTX_COAL value applies from here on (R223, R226, R242). -/
def State.writeRecord (s : State) (c body : Nat) (irq : Bool) : State :=
  let x := s.ctxSt c
  let size := s.cqSize c
  let addr := s.fld (F.CTX_CPL_BASE_ADDR c) * 4096 + (x.cqTail % size) * 16
  let s := s.writeBytes addr (leBytes 16 (body % 2 ^ 127 + phaseBit x.cqTail size * 2 ^ 127))
  let s := s.setCtx c { x with
    cqTail := (x.cqTail + 1) % 65536
    recs := x.recs ++ [⟨s.now, irq⟩]
    cnt := s.fld (F.CTX_COAL_CNT c)
    timeUs := s.fld (F.CTX_COAL_TIME_US c) }
  (s.bump (F.CTX_TALLY_CPL c)).updateLine c

/-- The 127 low bits of a completion record (R239). -/
def recordBody (tag code opcode detail result time evt : Nat) : Nat :=
  place tag 0 16 + place code 16 8 + place opcode 24 8 + place detail 32 32 + place result 64 32
    + place time 96 30 + place evt 126 1

/-! ### Events (R243, R244) -/

/-- Steps 1 and 2 of R243: latch the argument, advance the raise count, set the pending bit. -/
def State.latchEvent (s : State) (e arg : Nat) : State :=
  let s := { s with host := { s.host with
    raises := spMod s.host.raises e (fun n => (n + 1) % 2 ^ 32) } }
  let s := s.setFld (F.GLB_EVT_ARG_ARG e) arg
  s.setFld ⟨R.GLB_EVT_PEND (e / 32), e % 32, 1⟩ 1

/-- The event record of R244, in the ring of context c. -/
def State.eventRecord (s : State) (e arg c : Nat) : State :=
  s.writeRecord c (recordBody e 0 0 arg (spGet s.host.raises e) s.modUs 1) true

/-- Has the happening (e, k) been reported in this tally period? -/
def State.onceSeen (s : State) (e k : Nat) : Bool := s.host.once.contains (e, k)

def State.onceMark (s : State) (e k : Nat) : State :=
  { s with host := { s.host with once := (e, k) :: s.host.once } }

/-- Can a record be written to context c? Only while it is ACTIVE, HALTED or DRAINING (R243). -/
def State.ctxLive (s : State) (c : Nat) : Bool := s.ctxState c != 0

/-- Event 34: an event record of context c was not written; once per tally period for each context,
and never as a record into the ring whose loss caused it (R243). -/
def State.eventLost (s : State) (c : Nat) : State :=
  let s := s.bump (F.CTX_TALLY_EVLOST c)
  if s.onceSeen 34 c then s else
  let s := (s.onceMark 34 c).latchEvent 34 c
  let d := s.fld (F.GLB_EVT_RT_CTX 34)
  if !s.flag (F.GLB_EVT_RT_REC_EN 34) || d == c || !s.ctxLive d then s
  else if s.freeSlots d != 0 then s.eventRecord 34 c d
  else
    let s := s.bump (F.CTX_TALLY_EVLOST d)
    if s.onceSeen 34 d then s else (s.onceMark 34 d).latchEvent 34 d

/-- Raise event e (R243). -/
def State.raise (s : State) (e arg : Nat) : State :=
  let s := s.latchEvent e arg
  let c := s.fld (F.GLB_EVT_RT_CTX e)
  if !s.flag (F.GLB_EVT_RT_REC_EN e) || !s.ctxLive c then s
  else if s.freeSlots c != 0 then s.eventRecord e arg c
  else s.eventLost c

/-- Raise event e once per tally period for index k. -/
def State.raiseOnce (s : State) (e k arg : Nat) : State :=
  if s.onceSeen e k then s else (s.onceMark e k).raise e arg

/-! ### Overload thresholds of internal writers (R254) -/

/-- OPCODE, TAG and the other fields of descriptor word 0 (R231). -/
def Op.opcode (o : Op) : Nat := bitsOf o.w0.toNat 0 8
def Op.fence (o : Op) : Bool := bitOf o.w0.toNat 8
def Op.irq (o : Op) : Bool := bitOf o.w0.toNat 9
def Op.quiet (o : Op) : Bool := bitOf o.w0.toNat 10
def Op.tag (o : Op) : Nat := bitsOf o.w0.toNat 16 16
def Op.dline (o : Op) : Nat := bitsOf o.w0.toNat 32 32
def Op.buf (o : Op) : Nat := bitsOf o.w0.toNat 64 64

/-- Does the opcode take an operand buffer (R231)? -/
def takesBuf (opcode : Nat) : Bool :=
  opcode == 0x10 || opcode == 0x11 || opcode == 0x24 || opcode == 0x25 || opcode == 0x31
    || opcode == 0x32 || opcode == 0x34 || opcode == 0x41 || opcode == 0x49 || opcode == 0x50
    || opcode == 0x51 || opcode == 0x60 || opcode == 0x61 || opcode == 0x63 || opcode == 0x71

/-- Does an operation move data through DRAM: has it a buffer there (R254)? -/
def Op.movesData (o : Op) : Bool := takesBuf o.opcode && o.buf != 0

/-- The queue an operation enters: the DRAM class queue, or the input queue of its block, by the opcode
ranges of R236, of which the Ox stage and the Mule stage share one (R254). -/
def queueOf (o : Op) : Nat :=
  if o.movesData then 256 else if o.opcode / 16 = 4 then o.opcode / 8 else 2 * (o.opcode / 16)

/-- Entries of class k waiting in a queue: started operations that have not completed (log entry 13). -/
def State.queued (s : State) (k q : Nat) : Nat :=
  (s.host.ops.filter (fun o => o.cls == k && o.phase == .started && queueOf o == q)).length

/-- THR of a class 6 or 7; 0 is treated as 1 (R278). -/
def State.threshold (s : State) (k : Nat) : Nat := max 1 (s.fld (F.QOS_CLASS_CFG_THR k))

/-- Is a request of class k refused at its threshold (R254)? -/
def State.pastThreshold (s : State) (k q : Nat) : Bool :=
  (k == 6 || k == 7) && decide (s.threshold k < s.queued k q)

/-! ### Rings that follow R53 -/

/-- A module-written ring: offset of its BASE_LO register, record size, internal buffer size, the
class it is written in, its DROP counter, its PEND field, and the event of a discard. -/
structure RingDesc where
  off : Nat
  recSize : Nat
  cap : Nat
  cls : Nat
  drop : Option Fld
  pend : Option Fld
  event : Nat
  /-- the event is raised once per tally period -/
  once : Bool

def State.ring (s : State) (off : Nat) : RingSt := spGet s.rings off

def State.setRing (s : State) (off : Nat) (r : RingSt) : State :=
  { s with rings := spSet s.rings off r }

/-- The PTR register of a ring group: WPTR in [15:0], RPTR in [31:16] (R54). -/
def wptrOf (off : Nat) : Fld := ⟨off + 12, 0, 16⟩
def rptrOf (off : Nat) : Fld := ⟨off + 12, 16, 16⟩

/-- Step 2 of R53: sample BASE and SIZE and set both pointers to 0. -/
def State.ringSample (s : State) (off baseLo : Nat) : State :=
  let base := (s.fld ⟨off, baseLo, 32 - baseLo⟩ <<< baseLo) ||| (s.fld ⟨off + 4, 0, 32⟩ <<< 32)
  let s := s.setRing off { s.ring off with base := base, log2 := s.fld ⟨off + 8, 0, 4⟩ }
  s.setReg (off + 12) 0

/-- The ring is full when WPTR − RPTR, modulo 2^16, equals the size (R53). -/
def State.ringFull (s : State) (off : Nat) : Bool :=
  decide (2 ^ (s.ring off).log2 ≤ sub16 (s.fld (wptrOf off)) (s.fld (rptrOf off)))

/-- Write one record at slot WPTR mod size and advance WPTR. -/
def State.ringStore (s : State) (d : RingDesc) (rec : List Byte) : State :=
  let r := s.ring d.off
  let w := s.fld (wptrOf d.off)
  let s := s.writeBytes (r.base + (w % 2 ^ r.log2) * d.recSize) rec
  s.setFld (wptrOf d.off) (w + 1)

/-- Write waiting records, oldest first, while the ring has room and its class is not past the
threshold of R254. -/
def ringFlushN : Nat → RingDesc → State → State
  | 0, _, s => s
  | n + 1, d, s =>
    match (s.ring d.off).buf with
    | [] => s
    | rec :: rest =>
      if s.ringFull d.off then s
      else if s.pastThreshold d.cls 256 then s.raiseOnce 42 d.cls d.cls
      else
        let s := s.setRing d.off { s.ring d.off with buf := rest }
        ringFlushN n d (s.ringStore d rec)

/-- Show the number of waiting records in the ring's PEND field. -/
def State.ringPend (s : State) (d : RingDesc) : State :=
  match d.pend with
  | some f => s.setFld f (s.ring d.off).buf.length
  | none => s

def State.ringFlush (s : State) (d : RingDesc) : State :=
  (ringFlushN ((s.ring d.off).buf.length + 1) d s).ringPend d

/-- A record for a ring: written at once when the ring has room, else kept in the internal buffer,
whose oldest record is discarded, counted and reported when it is full (R53 steps 4 and 5). -/
def State.ringPush (s : State) (d : RingDesc) (rec : List Byte) (arg : Nat) : State :=
  let s := s.setRing d.off { s.ring d.off with buf := (s.ring d.off).buf ++ [rec] }
  let s := ringFlushN ((s.ring d.off).buf.length) d s
  let s := if d.cap < (s.ring d.off).buf.length then
      let s := s.setRing d.off { s.ring d.off with buf := (s.ring d.off).buf.drop 1 }
      let s := match d.drop with | some f => s.bump f | none => s
      if d.once then s.raiseOnce d.event 0 arg else s.raise d.event arg
    else s
  s.ringPend d

/-- A write to RPTR (R53 step 7): accepted only from RPTR up to WPTR; a write that fails the test
sets GLB_STATUS.RINGERR. -/
def State.rptrAccepted (s : State) (off v : Nat) : Bool :=
  decide (sub16 (s.fld (wptrOf off)) v ≤ sub16 (s.fld (wptrOf off)) (s.fld (rptrOf off)))

/-! ### Hen records (R382 to R391) -/

/-- The 32 bytes of a record; the CRC covers bytes 0 to 27 (R382). -/
def henBytes (r : HenRec) : List Byte :=
  let w0 := place r.seq 0 32 + place r.hours 32 24 + place r.pcyc 56 24 + place r.sev 80 2
    + place (boolNat r.host) 82 1 + place r.event 88 8 + place r.arg 96 32
  let body := leBytes 16 w0 ++ leBytes 12 (place r.time 32 32 + place r.repeats 64 16 + place r.delay 80 16)
  body ++ leBytes 4 (crc32 body)

/-- The export ring (R391). -/
def henExport : RingDesc :=
  ⟨R.HEN_EXP_BASE_LO, 32, 64, 6, some F.HEN_TALLY_EXPDROP, none, 220, true⟩

/-- The Hen's records in SEQ order: (slot index, slot). -/
def henStored (m : Sparse (Option HenSlot)) : List (Nat × HenSlot) :=
  m.filterMap (fun p => p.2.map (fun x => (p.1, x)))

/-- The slot that holds a SEQ. -/
def State.henFind (s : State) (seq : Nat) : Option (Nat × HenSlot) :=
  (henStored s.hen.slots).find? (fun p => p.2.record.seq == seq)

def State.henSetSlot (s : State) (k : Nat) (x : Option HenSlot) : State :=
  { s with hen := { s.hen with slots := spSet s.hen.slots k x } }

/-- Show the number of slots holding records (R394). -/
def State.henUsed (s : State) : State :=
  s.setFld F.HEN_STAT_USED (satBits 16 (henStored s.hen.slots).length)

/-- Has the write queue an entry for a write of class k? 256 entries, of which 16 are kept for
class 0 (R388). -/
def State.henEntry (s : State) (k : Nat) : Bool :=
  decide (s.hen.queue.length < 256) &&
    (k == 0 || decide ((s.hen.queue.filter (fun w => w.cls != 0)).length < 240))

/-- Put a write in the queue: by class, then by arrival. A class 6 or 7 writer past its threshold
raises event 42 and waits in this queue, its own buffer (R254, R388; log entry 13). -/
def State.henEnqueue (s : State) (w : HenWrite) : State :=
  let ahead := s.hen.queue.filter (fun x => decide (x.cls ≤ w.cls))
  let behind := s.hen.queue.filter (fun x => decide (w.cls < x.cls))
  let past := (w.cls == 6 || w.cls == 7) &&
    decide (s.threshold w.cls < (s.hen.queue.filter (fun x => x.cls == w.cls)).length)
  let s := { s with hen := { s.hen with queue := ahead ++ [w] ++ behind } }
  let s := s.bumpMax F.HEN_TALLY_QMAX s.hen.queue.length
  if past then s.raiseOnce 42 w.cls w.cls else s

/-- A write that finds no entry is lost (R388). -/
def State.henLost (s : State) (event : Nat) : State :=
  (s.bump F.HEN_TALLY_LOSTQ).raiseOnce 217 0 event

/-- The class of a record's writes: 0 for Goose events, the context's class for HEN_WRITE, else 6
(R388). -/
def henClass (event : Nat) (host : Option Nat) : Nat :=
  match host with
  | some k => k
  | none => if event < 16 then 0 else 6

/-- Close the open record (R386): its write goes to the queue and, while the export stream is on, its
export entry to the export ring with TIME zero (R391). -/
def State.henClose (s : State) : State :=
  match s.hen.openSeq with
  | none => s
  | some q =>
    let s := { s with hen := { s.hen with openSeq := none } }
    match s.henFind q with
    | none => s
    | some (_, x) =>
      let reps := s.hen.openRepeat
      let s := if s.henEntry x.cls then s.henEnqueue ⟨q, x.cls, some reps⟩ else s.henLost x.record.event
      if s.flag F.HEN_EXP_CTL_EN then
        s.ringPush henExport (henBytes { x.record with time := 0, repeats := reps }) 0
      else s

/-- Why a made record is or is not stored (R386 to R388). -/
inductive HenMade
  | absorbed | stored | lost
  deriving DecidableEq, Repr

/-- The victim of R387: among the stored records, the lowest severity, and of it the lowest SEQ. -/
def henVictim (xs : List (Nat × HenSlot)) : Option (Nat × HenSlot) :=
  xs.foldl (fun best x => match best with
    | none => some x
    | some b =>
      if x.2.record.sev < b.2.record.sev
          || (x.2.record.sev == b.2.record.sev && decide (x.2.record.seq < b.2.record.seq))
      then some x else some b) none

/-- The slot a new record of severity `sev` takes (R385, R387): a slot that failed the start scan
first, then the lowest empty slot, then the victim's; none when the record is discarded. -/
def State.henSlotFor (s : State) (sev : Nat) : Option Nat :=
  match s.hen.badSlots with
  | k :: _ => some k
  | [] =>
    let g := firstGap 0 s.hen.slots
    if g < 32768 then some g else
    match henVictim (henStored s.hen.slots) with
    | some (k, x) => if x.record.sev ≤ sev then some k else none
    | none => none

/-- Has a tally boundary come that has not been gone through yet? It closes the open record first (R392). -/
def State.boundaryPassed (s : State) : Bool :=
  s.host.tallyNext != 0 && decide (s.host.tallyNext * psPerMs ≤ s.modTime)

/-- Make a Hen record or absorb a repeat of the open one (R383 to R388). Answers the state, the SEQ
and what became of the record. `host` is the context's class for HEN_WRITE. -/
def State.henMakeSeq (s : State) (sev event arg : Nat) (host : Option Nat) : State × Nat × HenMade :=
  let k := henClass event host
  let same : Bool := match s.hen.openSeq with
    | none => false
    | some q => match s.henFind q with
      | none => false
      | some (_, x) => x.record.sev == sev && x.record.host == host.isSome
          && x.record.event == event % 256 && x.record.arg == arg % 2 ^ 32 && !s.boundaryPassed
  if same then
    let s := { s with hen := { s.hen with openRepeat := satBits 16 (s.hen.openRepeat + 1) } }
    (if s.hen.openRepeat = 65535 then s.henClose else s, s.hen.openSeq.getD 0, .absorbed)
  else
    let s := s.henClose
    let q := s.hen.nextSeq
    let s := { s with hen := { s.hen with nextSeq := (q + 1) % 2 ^ 32 } }
    if !s.henEntry k then (s.henLost event, q, .lost) else
    match s.henSlotFor sev with
    | none => ((s.bump F.HEN_TALLY_DISC).raiseOnce 216 0 q, q, .lost)
    | some slot =>
      let rec_ : HenRec := ⟨q, s.hen.hours / 10 % 2 ^ 24, s.hen.pcyc, sev, host.isSome, event % 256,
        arg % 2 ^ 32, s.modMs % 2 ^ 32, 0, 0⟩
      let gone := match spGet s.hen.slots slot with | some x => some x.record.seq | none => none
      let s := s.henSetSlot slot (some ⟨rec_, false, s.now, k⟩)
      let s := { s with hen := { s.hen with
        openSeq := some q, openRepeat := 0, openAt := s.now
        badSlots := s.hen.badSlots.filter (fun b => b != slot)
        queue := s.hen.queue.filter (fun w => some w.seq != gone) } }
      ((s.henUsed).henEnqueue ⟨q, k, none⟩, q, .stored)

/-- Make the Hen record that a rule states. -/
def State.henMake (s : State) (sev event arg : Nat) : State := (s.henMakeSeq sev event arg none).1

/-- Record severities (R382). -/
def sevNotice : Nat := 1
def sevWarning : Nat := 2
def sevError : Nat := 3

/-! ### Lock violations (R275) -/

/-- Is block b locked (R274)? -/
def State.locked (s : State) (b : Nat) : Bool := s.flag (F.GLB_LOCK_LOCK b)

/-- A lock violation at a register offset; `desc` when a descriptor caused it (R275). -/
def State.violate (s : State) (off : Nat) (desc : Bool) : State :=
  let s := s.setFlag (F.GLB_LOCK_LOCKV (blockOf off)) true
  let s := s.setReg R.GLB_LOCKV_ADDR (BitVec.ofNat 32 (off % 2 ^ 21 + boolNat desc * 2 ^ 31))
  let arg := off % 2 ^ 21 + boolNat desc * 2 ^ 31
  (s.raise 35 arg).henMake sevNotice 35 arg

/-- A bad access (R7, R228, R539). -/
def State.badAccess (s : State) : State := s.setFlag F.GLB_STATUS_BADACC true

end Sys2Proof.Machine
end

