-- ==== Sys2Proof/Machine/Mortar.lean ====
section
/-!
DEFINITION. Machine/Mortar.lean: the mortar's links and admission (R59, R60, R68), stream routes
(R71 to R76), packets that leave a source, configuration images and digests (R77 to R79), and the
configuration store (R444). The commands of chapter 3 stand in Routes.lean and Epoch.lean.
-/

namespace Sys2Proof.Machine

/-! ### Route entries (R88) -/

def RouteEntry.src (e : RouteEntry) : Nat := bitsOf e.w0.toNat 0 8
def RouteEntry.dsts (e : RouteEntry) : List Nat :=
  [bitsOf e.w0.toNat 8 8, bitsOf e.w0.toNat 16 8, bitsOf e.w0.toNat 24 8].filter (fun d => d != 255)
def RouteEntry.cls (e : RouteEntry) : Nat := bitsOf e.w1.toNat 0 3
/-- BOUND: true for a sample boundary. -/
def RouteEntry.bound (e : RouteEntry) : Bool := bitOf e.w1.toNat 3
def RouteEntry.en (e : RouteEntry) : Bool := bitOf e.w1.toNat 4
def RouteEntry.bw (e : RouteEntry) : Nat := bitsOf e.w1.toNat 16 16

/-- The reset value of an entry (R88). -/
def RouteEntry.initial : RouteEntry := ⟨0xFFFFFFFF, 7⟩

/-- Reserved bits of an entry are ignored (R9): bits [15:5] of the second word. -/
def RouteEntry.clean (e : RouteEntry) : RouteEntry := ⟨e.w0, e.w1 &&& 0xFFFF001F⟩

/-- Does the entry hold a reservation (R68)? CLASS alone decides (R72). -/
def RouteEntry.reserves (e : RouteEntry) : Bool := decide (e.cls < 3)

/-- A route as reset leaves it. -/
def RouteSt.initial : RouteSt :=
  { active := RouteEntry.initial, activeLinks := [], staged := RouteEntry.initial, stagedLinks := []
    pend := false, pendAt := 0, waiter := none, switched := false, rej := false, refused := false
    open_ := false, old := none, oldLinks := [], oldOpen := false, oldHeld := false, eosDue := []
    releasing := false, next := none, nextLinks := [], tat := 0 }

def State.route (s : State) (r : Nat) : RouteSt := (spGet s.mor.routes r).getD RouteSt.initial

def State.setRoute (s : State) (r : Nat) (x : RouteSt) : State :=
  { s with mor := { s.mor with
      routes := spSet s.mor.routes r (if x = RouteSt.initial then none else some x) } }

/-- The routes that have left their reset state: (index, route). -/
def State.routeList (s : State) : List (Nat × RouteSt) :=
  s.mor.routes.filterMap (fun p => p.2.map (fun x => (p.1, x)))

/-! ### Links (R59, R60)

A bundle is numbered 256 * kind + index: kind 0 and 1 an endpoint's port out and in, 2 and 3 a course
switch up to and down from its slab switch, 4 and 5 the hub to and from a slab switch, 6 and 7 the
ring from a slab switch to the next and to the previous one. -/

def bundleWidth (b : Nat) : Nat :=
  let k := b / 256
  let i := b % 256
  if k < 2 then (if i = 128 then 16 else if i = 129 then 8 else 1)
  else if k < 6 then 8 else 16

def slabOf (tile : Nat) : Nat := tile / 32
def courseOf (tile : Nat) : Nat := tile / 8

/-- The ring links from slab a to slab b: the shorter way; between opposite slabs, in the direction
of increasing slab number (R60). -/
def ringPath (a b : Nat) : List Nat :=
  let d := (b + 4 - a) % 4
  if d = 0 then [] else if d = 1 then [6 * 256 + a]
  else if d = 2 then [6 * 256 + a, 6 * 256 + (a + 1) % 4] else [7 * 256 + a]

/-- The bundles on the path from one endpoint to another (R59). -/
def pathTo (src dst : Nat) : List Nat :=
  let out := [src]
  let into := [256 + dst]
  if src < 128 then
    if dst < 128 then
      if courseOf src = courseOf dst then out ++ into
      else out ++ [2 * 256 + courseOf src] ++ ringPath (slabOf src) (slabOf dst)
        ++ [3 * 256 + courseOf dst] ++ into
    else out ++ [2 * 256 + courseOf src, 5 * 256 + slabOf src] ++ into
  else if dst < 128 then out ++ [4 * 256 + slabOf dst, 3 * 256 + courseOf dst] ++ into
  else out ++ into

/-- Hops from one endpoint to another: passes through switches (R59). -/
def hops (src dst : Nat) : Nat :=
  if src < 128 then
    if dst < 128 then
      if courseOf src = courseOf dst then 1
      else 3 + (ringPath (slabOf src) (slabOf dst)).length
    else 2
  else if dst < 128 then 2 else 0

/-- Every bundle a route uses, each counted once (R68). -/
def routeBundles (e : RouteEntry) : List Nat :=
  (e.dsts.flatMap (fun d => pathTo e.src d)).eraseDups

/-- What one entry, placed on its links, occupies: (bundle, link, class, reserved units). -/
def entryLoad (e : RouteEntry) (links : List (Nat × Nat)) : List (Nat × Nat × Nat × Nat) :=
  if e.en || e.reserves then links.map (fun p => (p.1, p.2, e.cls, if e.cls < 3 then e.bw else 0)) else []

/-- What a route occupies; `skipActive` leaves out its active entry. -/
def routeLoad (skipActive : Bool) (x : RouteSt) : List (Nat × Nat × Nat × Nat) :=
  (if skipActive then [] else entryLoad x.active x.activeLinks)
    ++ (match x.old with | some e => if x.oldHeld then entryLoad e x.oldLinks else [] | none => [])
    ++ (match x.next with | some e => entryLoad e x.nextLinks | none => [])
    ++ (if x.pend then entryLoad x.staged x.stagedLinks else [])

/-- Everything that occupies links, leaving out the active entry of route `r` when `skip` says so. -/
def State.linkLoads (s : State) (skip : Option Nat) : List (Nat × Nat × Nat × Nat) :=
  s.routeList.flatMap (fun p => routeLoad (skip == some p.1) p.2)

/-- Reserved units of class 0 to 2 on a link direction, with the digest sweep's 10 (R68). -/
def reservedOn (loads : List (Nat × Nat × Nat × Nat)) (b l : Nat) : Nat :=
  10 + ((loads.filter (fun x => x.1 == b && x.2.1 == l && decide (x.2.2.1 < 3))).map (fun x => x.2.2.2)).sum

/-- Routes on a link direction. -/
def routesOn (loads : List (Nat × Nat × Nat × Nat)) (b l : Nat) : Nat :=
  (loads.filter (fun x => x.1 == b && x.2.1 == l)).length

/-- The link with the smallest measure, the lowest-numbered on a tie. -/
def leastLink (n : Nat) (f : Nat → Nat) : Nat :=
  (List.range n).foldl (fun best l => if f l < f best then l else best) 0

/-- Place an entry on one link of every bundle of its path (R60). -/
def placeEntry (loads : List (Nat × Nat × Nat × Nat)) (e : RouteEntry) : List (Nat × Nat) :=
  (routeBundles e).map (fun b =>
    (b, leastLink (bundleWidth b) (fun l =>
      if e.cls < 3 then reservedOn loads b l else routesOn loads b l)))

/-- Is an entry admitted under R68 on the links it is placed on? -/
def admits (loads : List (Nat × Nat × Nat × Nat)) (e : RouteEntry) (links : List (Nat × Nat)) : Bool :=
  !e.reserves || (decide (e.bw ≤ 1000) && links.all (fun p => decide (reservedOn loads p.1 p.2 + e.bw ≤ 1000)))

/-- Are entries admitted one after another, each placed in its turn, on top of what `loads` occupies
(R60, R68)? -/
def admitsAll (loads : List (Nat × Nat × Nat × Nat)) (es : List RouteEntry) : Bool :=
  (es.foldl (fun (acc : List (Nat × Nat × Nat × Nat) × Bool) (e : RouteEntry) =>
    let links := placeEntry acc.1 e
    (acc.1 ++ entryLoad e links, acc.2 && admits acc.1 e links)) (loads, true)).2

/-- Routes that tile t would source with route r given entry `e` (R77). -/
def State.sourced (s : State) (t r : Nat) : Nat :=
  (s.routeList.filter (fun p => p.1 != r &&
    (p.2.active.src == t || (p.2.pend && p.2.staged.src == t)
      || (match p.2.next with | some e => e.src == t | none => false)))).length

/-- RESV of class c: its admitted reservation on the link direction where it is largest (R88). -/
def State.resvOf (s : State) (c : Nat) : Nat :=
  let loads := s.linkLoads none
  let units := loads.map (fun x =>
    ((loads.filter (fun y => y.1 == x.1 && y.2.1 == x.2.1 && y.2.2.1 == c)).map (fun y => y.2.2.2)).sum)
  if 3 ≤ c then 0 else units.foldl max 0 + (if c = 2 then 10 else 0)

/-! ### Committing a change (R72) -/

/-- The outcome of a commit. -/
inductive CommitResult
  | pending | refusedLink | refusedCount | alreadyPending
  deriving DecidableEq, Repr

/-- Check the staged entry of route r and, when it is admitted, set PEND. The old reservation is left
out of the check when the old entry's BOUND is sample (R72). -/
def State.commitRoute (s : State) (r : Nat) (waiter : Option (Nat × Nat)) : State × CommitResult :=
  let x := s.route r
  if x.pend then (s.setRoute r { x with rej := true }, .alreadyPending) else
  let e := x.staged
  let loads := s.linkLoads (if x.active.bound then some r else none)
  let links := placeEntry loads e
  if decide (e.src < 128) && decide (256 ≤ s.sourced e.src r) then
    (s.setRoute r { x with refused := true }, .refusedCount)
  else if !admits loads e links then (s.setRoute r { x with refused := true }, .refusedLink)
  else (s.setRoute r { x with
      pend := true, pendAt := s.now, stagedLinks := links, waiter := waiter, refused := false }, .pending)

/-! ### Packets (R60 to R65, R69) -/

/-- The header flit (R62). -/
def packetHeader (p : Packet) : Flit :=
  BitVec.ofNat 128 (place p.dst 0 8 + place p.src 8 8 + place p.cls 16 3 + place (boolNat p.vc) 19 1
    + place (boolNat p.dl) 20 1 + place p.typ 21 3 + place p.payload.length 24 5 + place (boolNat p.sof) 29 1
    + place (boolNat p.eof) 30 1 + place (boolNat p.spec) 31 1 + place p.stream 32 12 + place p.frame 48 16
    + place p.addr 64 64)

/-- The flits of a packet: header, then payload (R62). -/
def packetFlits (p : Packet) : List Flit := packetHeader p :: p.payload

/-- The dateline lies on the ring link between slab 3 and slab 0 (R65). -/
def crossesDateline (src dst : Nat) : Bool :=
  (pathTo src dst).any (fun b => b == 6 * 256 + 3 || b == 7 * 256)

/-- The packet as it arrives: moved to DL = 1 when its path crosses the dateline (R65). -/
def landed (p : Packet) : Packet := { p with dl := p.dl || crossesDateline p.src p.dst }

/-- The links of a packet that belongs to no route: link d mod k of each bundle of k links (R60). -/
def looseLinks (src dst : Nat) : List (Nat × Nat) :=
  (pathTo src dst).map (fun b => (b, dst % bundleWidth b))

/-- The links that a route's placement gives the way to one of its destinations (R60). -/
def pathLinks (links : List (Nat × Nat)) (src dst : Nat) : List (Nat × Nat) :=
  links.filter (fun l => (pathTo src dst).contains l.1)

/-- Put a packet on the mortar; it enters with DL = 0 and its flits are those it arrives with. -/
def State.fly (s : State) (p : Packet) (links : List (Nat × Nat)) (left : Nat) : State :=
  { s with mor := { s.mor with flight := s.mor.flight ++ [⟨packetFlits (landed p), p.stream, p.dst, links, left⟩] } }

/-- The flight of a packet that can arrive now: it has left its source, and no earlier packet of its route
on the same links is still on its way, for they stay in order (R60, R69). -/
def State.landing (s : State) (p : Packet) : Option Flight :=
  let mine := fun (f : Flight) => f.words == packetFlits p
  match s.mor.flight.find? mine with
  | none => none
  | some f =>
    let ahead := s.mor.flight.takeWhile (fun g => !mine g)
    if decide (f.left ≤ s.now) && !ahead.any (fun g => g.stream == f.stream && g.dst == f.dst && g.links == f.links)
    then some f else none

/-- May a packet arrive now? One on its way, when it can; a packet that no modelled source has sent comes
from its source as the command says (log entry 100). -/
def State.lands (s : State) (p : Packet) : Bool :=
  (s.landing p).isSome || !s.mor.flight.any (fun f => f.words == packetFlits p)

/-- Take a packet off the mortar at its destination. -/
def State.arrived (s : State) (p : Packet) : State :=
  { s with mor := { s.mor with flight := removeFirst (fun f => f.words == packetFlits p) s.mor.flight } }

/-- How long a flit of 128 bits takes at BW, ps (R68, R69); without bandwidth no flit beyond the allowance
leaves for months (log entry 101). -/
def RouteEntry.flitTime (e : RouteEntry) : Nat := if e.bw = 0 then 2 ^ 63 else 1280000 / e.bw

/-- Shaping of a packet of n flits at the source: when its header leaves, and the new `tat`. Class 0 to 2
keeps to BW with a burst of 17 flits; what exceeds it waits and is not dropped (R69). -/
def RouteEntry.shape (e : RouteEntry) (tat now n : Nat) : Nat × Nat :=
  if !e.reserves then (now, tat)
  else
    let left := max now (tat - (17 - n) * e.flitTime)
    (left, max left tat + n * e.flitTime)

/-- Send a packet of route r on an entry of it to some of its destinations: the switches copy it (R68). -/
def State.sendOn (s : State) (r : Nat) (e : RouteEntry) (links : List (Nat × Nat)) (dsts : List Nat)
    (p : Nat → Packet) : State :=
  let x := s.route r
  let (left, tat) := e.shape x.tat s.now ((p 0).payload.length + 1)
  let s := s.setRoute r { x with tat := tat }
  dsts.foldl (fun s d => s.fly (p d) (pathLinks links e.src d) left) s

/-- End-of-stream packets of route r to the destinations still owed one (R73). -/
def State.sendEos (s : State) (r : Nat) : State :=
  let x := s.route r
  match x.old with
  | none => s
  | some e =>
    let s := x.eosDue.foldl (fun s d =>
      s.sendOn r e x.oldLinks [d] (fun d => ⟨d, e.src, e.cls, false, false, 4, false, false, false, r, 0, 0, []⟩)) s
    s.setRoute r { s.route r with eosDue := [] }

/-! ### Boundaries and the switch (R71, R73) -/

/-- The entry that waits for a boundary, with its links: a committed change, else an activation's. -/
def RouteSt.target (x : RouteSt) : Option (RouteEntry × List (Nat × Nat)) :=
  if x.pend then some (x.staged, x.stagedLinks) else x.next.map (fun e => (e, x.nextLinks))

/-- The entry that defines the boundary: the active one while it has EN = 1, else the one that waits (R71). -/
def RouteSt.definer (x : RouteSt) : RouteEntry :=
  if x.active.en then x.active else (x.target.map (fun p => p.1)).getD x.staged

/-- A change waits, and was not committed in the present mortar cycle (R74). -/
def State.changeDue (s : State) (r : Nat) : Bool :=
  let x := s.route r
  x.target.isSome && (!x.pend || decide (x.pendAt / 640 < s.now / 640))

/-- Make an entry active on route r: a frame in flight stays on the old one, whose reservation is held until
its last end-of-stream packet has left, or ends now when no destination is dropped (R73). -/
def State.switchRoute (s : State) (r : Nat) (e : RouteEntry) (links : List (Nat × Nat)) : State :=
  let x := s.route r
  let due := if x.active.en then
      x.active.dsts.filter (fun d => !(e.en && e.dsts.contains d)) else []
  let keep := !due.isEmpty || x.open_
  let s := s.setRoute r { x with
    active := e, activeLinks := links, open_ := false
    old := if keep then some x.active else none
    oldLinks := if keep then x.activeLinks else []
    oldOpen := x.open_, oldHeld := !due.isEmpty
    eosDue := due }
  if x.open_ then s else s.sendEos r

/-! ### Configuration images and digests (R77, R78)

A configurable unit is numbered 5 * tile + unit for tile units, 640 + block for hub units. -/

/-- One byte of the CRC-64 of R78, most significant bit first. -/
def crc64Step (crc : BitVec 64) (b : Byte) : BitVec 64 :=
  let x := crc ^^^ (b.setWidth 64 <<< 56)
  let f := fun (y : BitVec 64) (_ : Nat) =>
    if y.getLsbD 63 then (y <<< 1) ^^^ 0x42F0E1EBA9EA3693#64 else y <<< 1
  (List.range 8).foldl f x

/-- CRC-64, ECMA-182 polynomial, initial value 0 (R78). -/
def crc64 (bs : List Byte) : Nat := (bs.foldl crc64Step 0#64).toNat

/-- A word of a loop-slot record (R94). -/
def State.recWord (s : State) (slot w : Nat) : Nat := spGet s.cen.record (128 * slot + w)

/-- How many of a record word's bits exist: words 8 to 15 and 19 to 31 are zero, word 16 ends with lane 6
[3:0] (R9, R94, R98). -/
def recWidth (w : Nat) : Nat := if w < 8 then 128 else if w < 16 then 0 else if w = 16 then 100 else if w < 19 then 128 else 0

def State.setRecWord (s : State) (slot w v : Nat) : State :=
  { s with cen := { s.cen with record := spSet s.cen.record (128 * slot + w) (v % 2 ^ recWidth w) } }

/-- Bits of a register that are RWL fields, the only ones in a hub unit's image (R77). -/
def rwlMask (off : Nat) : Word :=
  match findReg off with
  | none => 0
  | some r => BitVec.ofNat 32 ((r.fields.filter (fun f => f.ty == .rwl)).foldl
      (fun m f => m + place (2 ^ f.width - 1) f.lo f.width) 0)

/-- Tile unit 3: the segment allocation map (R77). -/
def segImage (segs : Sparse Hold) (t : Nat) : List Byte :=
  (List.range 448).flatMap (fun k =>
    let h := spGet segs (448 * t + k)
    leBytes 2 (if h.owner = 0 then 0 else (h.owner - 1) % 4096 + 32768))
  ++ List.replicate 128 0

/-- Tile unit 4: the entries of the routes the tile sources, in ascending index (R77). -/
def routeImage (entries : List (Nat × RouteEntry)) (t : Nat) : List Byte :=
  let mine := (entries.filter (fun p => p.2.src == t)).take 256
  let body := mine.flatMap (fun p =>
    leBytes 4 (p.1 % 65536) ++ leBytes 4 p.2.w0.toNat ++ leBytes 4 p.2.w1.toNat ++ leBytes 4 0)
  body ++ List.replicate (4096 - body.length) 0

/-- The active entry of a route as its unit's image holds it: from T_act the entry of E, even while a frame
route waits for its boundary (R86). -/
def RouteSt.shown (x : RouteSt) : RouteEntry := x.next.getD x.active

/-- The active entries of all routes, by index. -/
def State.activeEntries (s : State) : List (Nat × RouteEntry) := s.routeList.map (fun p => (p.1, p.2.shown))

/-- A calibration base value (R169). -/
def State.calBase (s : State) (p : Nat) : Nat := spGet s.fus.calBase p

/-- The active image of a configurable unit (R77). -/
def State.unitImage (s : State) (u : Nat) : List Byte :=
  if u < 640 then
    let t := u / 5
    match u % 5 with
    | 2 => (List.range 64).flatMap (fun k => (List.range 16).flatMap (fun w =>
        leBytes 16 (s.recWord (64 * t + k) w)))
    | 3 => segImage s.qos.segs t
    | 4 => routeImage s.activeEntries t
    | _ => spGet s.mor.images u
  else
    let b := u - 640
    let regs := (List.range (blockSize b / 4)).flatMap (fun i =>
      let off := blockBase b + 4 * i
      leBytes 4 (s.reg off &&& rwlMask off).toNat)
    if b = 11 then regs ++ (List.range 256).flatMap (fun p => leBytes 4 (s.calBase p)) else regs

/-- Number of bytes of a unit's image (R238). -/
def State.unitSize (s : State) (u : Nat) : Nat :=
  if u < 640 then
    match u % 5 with
    | 2 => 16384 | 3 => 1024 | 4 => 4096 | _ => (spGet s.mor.images u).length
  else blockSize (u - 640) + (if u = 651 then 1024 else 0)

/-- Does the unit hold any configuration of its own? A hub block with no RWL field has an empty image
and digest 0 (R77). -/
def unitEmpty (u : Nat) : Bool :=
  decide (640 ≤ u) && u != 651 &&
    (regMapAt (blockBase (u - 640))).all (fun r => r.fields.all (fun f => f.ty != .rwl))

/-- The staged entry of every route that the staged set changes, over the active ones (R83). -/
def State.stagedEntries (s : State) : List (Nat × RouteEntry) :=
  let changed := s.mor.stagedRoutes.filterMap (fun p => p.2.map (fun e => (p.1, e)))
  let kept := s.activeEntries.filter (fun p => !(changed.any (fun q => q.1 == p.1)))
  (kept ++ changed).mergeSort (fun a b => decide (a.1 ≤ b.1))

/-- The image of a unit in the staged configuration: the active one where E does not change it. -/
def State.stagedImage (s : State) (u : Nat) : List Byte :=
  if u < 640 && u % 5 == 4 then routeImage s.stagedEntries (u / 5)
  else (spGet s.mor.staged u).getD (s.unitImage u)

/-- Flip bits of a byte list: (byte offset, bits). -/
def flipByte (bs : List Byte) (i m : Nat) : List Byte :=
  bs.modify i (fun b => b ^^^ BitVec.ofNat 8 m)

/-- The image as its stored bits read: with the bits changed outside the paths of R79, and, for the
loop-slot records, the poisoned words exactly as they are read (R58, R79). -/
def State.storedImage (s : State) (u : Nat) : List Byte :=
  let bs := s.unitImage u
  let bs := (s.mor.upsets.filter (fun x => x.1 == u)).foldl (fun b x => flipByte b x.2.1 x.2.2) bs
  if u < 640 && u % 5 == 2 then
    let t := u / 5
    (s.mor.poison.filter (fun p => p.1 / 131072 == t && decide (15 * 8192 ≤ p.1 % 131072)
        && decide ((p.1 % 128) < 16))).foldl
      (fun b p =>
        let w := p.1 % 131072 - 15 * 8192
        let at_ := (w / 128) * 256 + (w % 128) * 16
        (List.range 16).foldl (fun b i => flipByte b (at_ + i) (p.2 >>> (8 * i))) b) bs
  else bs

/-- Digest of an image of unit u. -/
def digestOf (u : Nat) (bs : List Byte) : Nat := if unitEmpty u then 0 else crc64 bs

/-- The reference digest of a unit: over its image as the paths of R79 made it. -/
def State.refDigest (s : State) (u : Nat) : Nat := digestOf u (s.unitImage u)

/-- The digest a sweep recomputes from the stored image (R80). -/
def State.sweepDigest (s : State) (u : Nat) : Nat := digestOf u (s.storedImage u)

/-- A child record (R78). -/
def childRecord (index epoch digest : Nat) : List Byte :=
  leBytes 2 index ++ leBytes 2 0 ++ leBytes 4 epoch ++ leBytes 8 digest

/-- The digest of a node from its children's digests, all at one epoch (R78). -/
def nodeDigest (epoch first : Nat) (ds : List Nat) : Nat :=
  crc64 ((ds.zipIdx first).flatMap (fun p => childRecord p.2 epoch p.1))

def tileDigest (f : Nat → Nat) (epoch t : Nat) : Nat :=
  nodeDigest epoch 0 ((List.range 5).map (fun u => f (5 * t + u)))
def courseDigest (f : Nat → Nat) (epoch c : Nat) : Nat :=
  nodeDigest epoch 0 ((List.range 8).map (fun i => tileDigest f epoch (8 * c + i)))
def slabDigest (f : Nat → Nat) (epoch k : Nat) : Nat :=
  nodeDigest epoch 0 ((List.range 4).map (fun i => courseDigest f epoch (4 * k + i)))

/-- The root digest, given each unit's digest (R78). -/
def rootDigest (f : Nat → Nat) (epoch : Nat) : Nat :=
  nodeDigest epoch 0 ((List.range 4).map (slabDigest f epoch) ++ (List.range 21).map (fun b => f (640 + b)))

/-! ### The configuration store and changes of an image (R79, R444) -/

/-- The configuration store as the active configuration now stands (R444). -/
def State.snapshot (s : State) (localChg : Bool) : CfgStore :=
  { regs := s.regs.filterMap (fun p =>
      let m := rwlMask p.1
      if m = 0 then none else some (p.1, p.2 &&& m))
    cal := s.fus.calBase
    record := s.cen.record
    bank := s.cen.bank
    activeBank := s.regs.filterMap (fun p =>
      if decide (0x120000 ≤ p.1) && decide (p.1 < 0x128000) && p.2.getLsbD 3
      then some ((p.1 - 0x120000) / 4, 1) else none)
    routes := s.mor.routes.filterMap (fun p => p.2.map (fun x => (p.1, some x.shown)))
    segs := s.qos.segs
    epoch := s.fld F.MOR_EPOCH_EPOCH
    localChg := localChg }

def State.writeStore (s : State) (localChg : Bool) : State :=
  { s with nv := { s.nv with cfg := s.snapshot localChg } }

/-- An image changed by a path of R79 other than an activation: LOCALCHG is set and, unless only tile
unit 0 or 1 changed, the store written. -/
def State.imageChanged (s : State) (stored : Bool) : State :=
  let s := s.setFlag F.MOR_SWEEP_STAT_LOCALCHG true
  if stored then s.writeStore true else s

/-- A store write that sets no LOCALCHG: bank writes and bank exchanges (R444). -/
def State.storeBanks (s : State) : State := s.writeStore s.nv.cfg.localChg

/-! ### Brick errors (R58) -/

/-- Uncorrectable errors met in reads of brick words not yet poisoned (R58): the words are
poisoned, TIL_STAT.ECCFAIL is set and event 52 and an Error record name the tile and the word. -/
def State.eccErrors (s : State) (es : List BrickError) : State :=
  es.foldl (fun s e =>
    let s := { s with mor := { s.mor with
      poison := spSet s.mor.poison (131072 * e.tile + e.word % 131072) e.flips } }
    let s := s.setFlag (F.TIL_STAT_ECCFAIL (e.tile % 128)) true
    (s.raise 52 (e.tile % 128)).henMake sevError 52 (e.tile % 128)) s

/-! ### Register writes by type code (R8, R9, R275) -/

/-- What a field write leaves in the register word. -/
def writeField (locked : Bool) (v : Word) (w : Word) (f : FieldSpec) : Word :=
  let new := bitsOf v.toNat f.lo f.width
  match f.ty with
  | .rw => setBits w f.lo f.width new
  | .ro | .wo => w
  | .w1c => w &&& ~~~ BitVec.ofNat 32 (place new f.lo f.width)
  | .w1s => w ||| BitVec.ofNat 32 (place new f.lo f.width)
  | .rwl => if locked then w else setBits w f.lo f.width new

/-- Write a register's fields by their type codes; a write to a locked RWL field is a lock violation,
and a changed RWL field changes its block's image (R8, R79, R275). -/
def State.plainWrite (s : State) (off : Nat) (v : Word) : State :=
  match findReg off with
  | none => s.badAccess
  | some r =>
    let locked := s.locked (blockOf off)
    let old := s.reg off
    let s := s.setReg off (r.fields.foldl (writeField locked v) old)
    if r.fields.any (fun f => f.ty == .rwl) then
      if locked then s.violate off false
      else if (s.reg off &&& rwlMask off) != (old &&& rwlMask off) then s.imageChanged true else s
    else s

end Sys2Proof.Machine
end

