-- ==== Sys2Proof/Machine/Operands.lean ====
section
/-!
DEFINITION. Machine/Operands.lean: descriptor operands (R231, R236 to R240) and the life of an
operation: when it may start, how it completes, and the holdings and quotas it is tested against
(R232 to R235, R253 to R255, R261 to R268).
-/

namespace Sys2Proof.Machine

/-! ### Completion codes (R12) -/

def codeDone : Nat := 0x00
def codeDoneLate : Nat := 0x01
def codeRefusedCapacity : Nat := 0x10
def codeRefusedQuota : Nat := 0x11
def codeRefusedMode : Nat := 0x12
def codeRefusedLocked : Nat := 0x13
def codeCancelledCycle : Nat := 0x20
def codeCancelledHost : Nat := 0x21
def codeCancelledReset : Nat := 0x22
def codeFaultDescriptor : Nat := 0x30
def codeFaultAccess : Nat := 0x31

/-- DETAIL of a FAULT_DESCRIPTOR: word, lowest bit of the first offending field, kind (R240). -/
def faultDetail (word bit kind : Nat) : Nat := word % 4 + (bit % 128) * 4 + kind * 65536

def Mode.code : Mode → Nat
  | .backup => 0 | .standby => 1 | .boot => 2 | .recovery => 3
  | .compat => 4 | .field => 5 | .road => 6 | .service => 7

/-- Fields of descriptor word 1 (R237). -/
def Op.arg1 (o : Op) (lo width : Nat) : Nat := bitsOf o.w1.toNat lo width
def Op.arg2 (o : Op) (lo width : Nat) : Nat := bitsOf o.w2.toNat lo width

/-! ### Operations in flight (R232 to R235) -/

def State.findOp (s : State) (c tag : Nat) : Option Op :=
  s.host.ops.find? (fun o => o.ctx == c && o.tag == tag)

def State.setOps (s : State) (l : List Op) : State := { s with host := { s.host with ops := l } }

def State.modifyOp (s : State) (c tag : Nat) (f : Op → Op) : State :=
  s.setOps (updateFirst (fun o => o.ctx == c && o.tag == tag) f s.host.ops)

/-- Show the numbers of operations in flight in CTX_STAT and GLB_INFLIGHT (R233). -/
def State.showInflight (s : State) (c : Nat) : State :=
  (s.setFld (F.CTX_STAT_INFLIGHT c) (s.inflight c)).setFld F.GLB_INFLIGHT_COUNT s.host.ops.length

/-- Drop an operation from those in flight. -/
def State.dropOp (s : State) (c tag : Nat) : State :=
  (s.setOps (removeFirst (fun o => o.ctx == c && o.tag == tag) s.host.ops)).showInflight c

/-- The operations of context c read before the one with this tag. -/
def State.earlier (s : State) (c tag : Nat) : List Op :=
  (s.host.ops.filter (fun o => o.ctx == c)).takeWhile (fun o => o.tag != tag)

/-- Is an operation that has not started within its deadline? One of class 0 to 2 keeps waiting (R252, R253). -/
def State.inTime (s : State) (o : Op) : Bool := decide (o.cls < 3) || decide (s.now ≤ o.deadline)

/-- May the operation start (R231, R232, R253)? It is within its deadline, and every earlier operation of its
context has started, and, with FENCE, has completed. -/
def State.mayStart (s : State) (o : Op) : Bool :=
  let l := s.earlier o.ctx o.tag
  o.phase == .queued && s.inTime o && (if o.fence then l.isEmpty else l.all (fun e => e.phase == .started))

/-- Tally the outcome of a completion (R245, R249, R278). -/
def State.tallyCode (s : State) (c cls code : Nat) : State :=
  let s := if 0x10 ≤ code ∧ code ≤ 0x13 then s.bump (F.CTX_TALLY_REFUSED c) else s
  let s := if code = codeRefusedCapacity then s.bump (F.QOS_TALLY_CNT_REFUSED cls) else s
  let s := if code = codeDoneLate then s.bump (F.QOS_TALLY_CNT_LATE cls) else s
  if code = codeCancelledCycle then s.bump F.QOS_WAIT_STAT_CYCLES else s

/-- Complete an operation (R226, R233, R239, R253): a started operation whose completion comes after
its deadline reports DONE_LATE with the excess in µs; QUIET releases the slot without a record when
the code is DONE. -/
def State.finish (s : State) (o : Op) (code detail result : Nat) : State :=
  let late := code == codeDone && decide (o.deadline < s.now)
  let code' := if late then codeDoneLate else code
  let detail' := if late then satBits 32 ((s.now - o.deadline) / psPerUs) else detail
  let s := s.dropOp o.ctx o.tag
  let s := s.tallyCode o.ctx o.cls code'
  if o.quiet && code' == codeDone then s else
  s.writeRecord o.ctx (recordBody o.tag code' o.opcode detail' result s.modUs 0) o.irq

/-- An incoming request takes a block from SLEEP to RUN; its idle cycles count from the request (R431). -/
def State.wakeBlock (s : State) (b : Nat) : State :=
  let s := { s with clk := { s.clk with workAt := spSet s.clk.workAt b s.now } }
  if s.fld (F.CLK_GATE_STATE b) = 1 then s.setFld (F.CLK_GATE_STATE b) 0 else s

/-- The block that serves an opcode (R236, R535). -/
def opcodeBlock (opcode : Nat) : Nat :=
  if 0x48 ≤ opcode ∧ opcode < 0x50 then 15 else
  match opcode / 16 with
  | 1 => 8 | 2 => 10 | 3 => 7 | 4 => 14 | 5 => 16 | 6 => 18 | 7 => 4 | _ => 6

/-- Mark the operation started and note its delay between read and start (R278). -/
def State.startOp (s : State) (o : Op) : State :=
  (s.modifyOp o.ctx o.tag (fun x => { x with phase := .started, startAt := s.now })).bumpMax
    (F.QOS_TALLY_DLY_DELAYMAX o.cls) ((s.now - o.readAt) / psPerUs)

/-- The module serves rings in BOOT, COMPAT, FIELD, ROAD and SERVICE once host software runs (R220). -/
def State.servesRings (s : State) : Bool :=
  (s.mode == .boot || s.mode == .compat || s.mode == .field || s.mode == .road || s.mode == .service)
    && s.flag F.GLB_BOOT_STAT_READY

/-! ### Descriptor checks (R236 to R240) -/

/-- The bits of words 1 to 3 that an opcode defines; every other bit must be zero (R231). A list of
(lo, width) for each word; none where no chapter defines the opcode (R236). -/
def opcodeBits (opcode : Nat) : Option (List (Nat × Nat) × List (Nat × Nat) × List (Nat × Nat)) :=
  match opcode with
  | 0x00 => some ([], [], [])
  | 0x01 => some ([(0, 16)], [], [])
  | 0x10 => some ([(0, 13), (32, 80)], [], [])
  | 0x11 => some ([(0, 13), (32, 80)], [], [])
  | 0x12 => some ([(0, 12), (32, 32)], [(0, 64)], [])
  | 0x13 => some ([(0, 32)], [], [])
  | 0x20 => some ([(0, 13)], [], [])
  | 0x21 => some ([(0, 13)], [], [])
  | 0x22 => some ([(0, 13)], [], [])
  | 0x23 => some ([(0, 13)], [], [])
  | 0x24 => some ([(0, 13), (16, 13)], [], [])
  | 0x25 => some ([(0, 13)], [], [])
  | 0x30 => some ([(0, 12), (16, 4), (32, 32)], [], [])
  | 0x31 => some ([(0, 8), (16, 9)], [], [])
  | 0x32 => some ([(0, 9), (16, 7), (32, 9), (48, 16)], [], [])
  | 0x33 => some ([(0, 8), (16, 7), (48, 16)], [], [])
  | 0x34 => some ([(0, 7), (16, 7), (32, 9), (48, 16)], [], [])
  | 0x40 => some ([(0, 6)], [], [])
  | 0x41 => some ([], [], [])
  | 0x48 => some ([(0, 6)], [], [])
  | 0x49 => some ([], [], [])
  | 0x50 => some ([(0, 5)], [(32, 30), (64, 4), (72, 4)], [(0, 128)])
  | 0x51 => some ([(0, 8)], [], [])
  | 0x60 => some ([], [], [])
  | 0x61 => some ([], [], [])
  | 0x62 => some ([], [], [])
  | 0x63 => some ([], [], [])
  | 0x70 => some ([(0, 2), (8, 8), (32, 32)], [], [])
  | 0x71 => some ([(0, 48)], [], [])
  | 0x72 => some ([(0, 34)], [], [])
  | _ => none

/-- The lowest set bit of `v` outside the defined fields. -/
def strayBit (v : Nat) (defined : List (Nat × Nat)) : Option Nat :=
  (List.range 128).find? (fun i => v.testBit i &&
    !(defined.any (fun p => decide (p.1 ≤ i) && decide (i < p.1 + p.2))))

/-- Data length of a DLC: classical CAN stops at 8 (R347). -/
def canLength (fd : Bool) (dlc : Nat) : Nat :=
  if dlc ≤ 8 then dlc else if !fd then 8
  else if dlc = 9 then 12 else if dlc = 10 then 16 else if dlc = 11 then 20 else if dlc = 12 then 24
  else if dlc = 13 then 32 else if dlc = 14 then 48 else 64

/-- Bytes of BUF that an operation reaches. -/
def Op.bufLen (o : Op) : Nat :=
  match o.opcode with
  | 0x10 => o.arg1 96 16
  | 0x11 => o.arg1 96 16
  | 0x24 => 16 * o.arg1 22 7
  | 0x25 => 2048
  | 0x31 => 4096
  | 0x32 => 2 * o.arg1 32 9
  | 0x34 => o.arg1 48 16
  | 0x41 => 768
  | 0x49 => 1024
  | 0x50 => canLength (bitOf o.w2.toNat 65) (o.arg2 72 4)
  | 0x51 => 80 * o.arg1 4 4
  | 0x60 => 172
  | 0x61 => 128
  | 0x63 => 72
  | 0x71 => 32 * o.arg1 32 16
  | _ => 0

/-- A CAN_TX whose data stand in word 3 (R364). -/
def Op.inlineData (o : Op) : Bool :=
  o.opcode == 0x50 && decide (canLength (bitOf o.w2.toNat 65) (o.arg2 72 4) ≤ 16)

/-- The configurable unit that a descriptor addresses (R238). -/
def Op.unit (o : Op) : Nat :=
  if o.arg1 7 1 = 1 then 640 + o.arg1 8 5 else 5 * o.arg1 0 7 + o.arg1 8 5

/-- Does the KIND, COUNT or INDEX of an ACQUIRE or a RELEASE lie out of range (R269)? The lowest bits of the
fields that do. An ACQUIRE of kind 1 has a COUNT; every other request has an INDEX. -/
def Op.requestRange (o : Op) : List Nat :=
  let kind := o.arg1 0 8
  let count := o.arg1 32 9
  if kind < 1 ∨ 4 < kind then [0]
  else if o.opcode = 0x32 ∧ kind = 1 then (if count < 1 ∨ 448 < count then [32] else [])
  else if (if kind = 1 then 448 else quotaCap kind) ≤ o.arg1 48 16 then [48] else []

/-- The lowest bits of the fields of word 1 that are out of range (fault kind 3). -/
def Op.rangeBits (o : Op) : List Nat :=
  let bad := fun (b : Bool) (bit : Nat) => if b then [bit] else []
  match o.opcode with
  | 0x10 | 0x11 =>
    let len := o.arg1 96 16
    bad (decide ((if o.arg1 7 1 = 1 then 20 else 4) < o.arg1 8 5)) 8 ++ bad (o.arg1 64 32 % 16 != 0) 64
      ++ bad (len % 16 != 0 || decide (len < 16) || decide (4096 < len)) 96
  | 0x24 => bad (o.arg1 22 7 == 0 || decide (64 < o.arg1 16 6 + o.arg1 22 7)) 22
  | 0x30 => bad (decide (6 ≤ o.arg1 16 4)) 16
  | 0x31 => bad (decide (o.arg1 0 8 < 1) || decide (5 < o.arg1 0 8)) 0 ++ bad (decide (256 < o.arg1 16 9)) 16
  | 0x32 | 0x33 => o.requestRange
  | 0x34 =>
    let n := o.arg1 48 16
    bad (decide (448 ≤ o.arg1 32 9)) 32 ++ bad (n % 16 != 0 || decide (n < 16) || decide (4096 < n)) 48
  | 0x40 => bad (decide (48 ≤ o.arg1 0 6)) 0
  | 0x50 => bad (decide (12 ≤ o.arg1 0 4)) 0
  | 0x51 => bad (decide (12 ≤ o.arg1 0 4)) 0 ++ bad (o.arg1 4 4 == 0 || decide (8 < o.arg1 4 4)) 4
  | 0x71 => bad (o.arg1 32 16 == 0 || decide (4096 < o.arg1 32 16)) 32
  | _ => []

/-- The kind of fault that BUF has, if any: not aligned or not within module DRAM (5), missing where an
ACQUIRE of segments needs it (3), or set where nothing takes it (2). -/
def Op.bufFault (o : Op) : Option Nat :=
  if !(takesBuf o.opcode && !o.inlineData) then (if o.buf = 0 then none else some 2)
  else if o.buf = 0 ∧ (o.opcode = 0x31 ∨ o.opcode = 0x32) then
    (if o.opcode = 0x32 ∧ o.arg1 0 8 = 1 then some 3 else none)
  else if o.buf % 64 ≠ 0 ∨ !inDram o.buf o.bufLen then some 5 else none

/-- Every field of a descriptor that offends: word, lowest bit, kind of fault (R240). -/
def Op.faults (o : Op) : List (Nat × Nat × Nat) :=
  match opcodeBits o.opcode with
  | none => [(0, 0, 1)]
  | some (d1, d2, d3) =>
    let stray := fun (word v : Nat) (d : List (Nat × Nat)) =>
      ((strayBit v d).map (fun b => ((word, b, 2) : Nat × Nat × Nat))).toList
    let d3 := if o.opcode = 0x50 ∧ !o.inlineData then [] else d3
    stray 0 o.w0.toNat [(0, 11), (16, 112)] ++ stray 1 o.w1.toNat d1 ++ stray 2 o.w2.toNat d2
      ++ stray 3 o.w3.toNat d3 ++ (o.bufFault.map (fun k => (0, 64, k))).toList
      ++ o.rangeBits.map (fun b => (1, b, 3))

/-- DETAIL of the first offending field (R240). -/
def firstFault (l : List (Nat × Nat × Nat)) : Option Nat :=
  (l.foldl (fun (best : Option (Nat × Nat × Nat)) x => match best with
    | none => some x
    | some b => if 128 * x.1 + x.2.1 < 128 * b.1 + b.2.1 then some x else some b) none).map
    (fun x => faultDetail x.1 x.2.1 x.2.2)

/-- The fault of a descriptor whatever the module's state: DETAIL of its first offending field. -/
def Op.formFault (o : Op) : Option Nat := firstFault o.faults

/-- The fault of a descriptor: a CFG_WRITE or CFG_READ beyond its unit's image offends by OFFSET (R238). -/
def State.formFault (s : State) (o : Op) : Option Nat :=
  if (o.opcode = 0x10 ∨ o.opcode = 0x11) ∧ s.unitSize o.unit < o.arg1 64 32 + o.arg1 96 16
  then firstFault (o.faults ++ [(1, 64, 3)]) else o.formFault

/-! ### DRAM tokens (R259, R260) -/

/-- Does a class have DRAM tokens in service or waiting? -/
def State.dramBusy (s : State) (k : Nat) : Bool := decide (s.now < spGet s.qos.dramTo k)

/-- The time of one 64-byte token of class c, ps (log entry 114): by its reservation, or by its weighted share
of what the busy reservations leave of 273 GB/s. -/
def State.tokenTime (s : State) (c : Nat) : Nat :=
  let rsv := fun k => s.fld (F.QOS_DRAM_CFG_RSV k)
  let weight := fun k => max 1 (s.fld (F.QOS_DRAM_CFG_WEIGHT k))
  if c < 3 ∧ rsv c ≠ 0 then 64000 / rsv c else
  let left := 273 - (((List.range 3).filter s.dramBusy).map rsv).sum
  let busy := ([3, 4, 5, 6, 7].filter (fun k => k != c && s.dramBusy k)).map weight
  64000 * (busy.sum + weight c) / (max 1 left * weight c)

/-- A started operation takes the DRAM tokens of its buffer: they wait behind those of its class, and the
wait is reported (R259, R260, R278). -/
def State.takeTokens (s : State) (o : Op) : State :=
  if !o.movesData then s else
  let from_ := max s.now (spGet s.qos.dramTo o.cls)
  let to_ := from_ + (o.bufLen + 63) / 64 * s.tokenTime o.cls
  let s := { s with qos := { s.qos with dramTo := spSet s.qos.dramTo o.cls to_ } }
  (s.modifyOp o.ctx o.tag (fun x => { x with tokensAt := to_ })).bumpMax
    (F.QOS_TALLY_DLY_DELAYMAX o.cls) ((from_ - s.now) / psPerUs)

/-! ### Holdings, quotas and use (R261 to R268) -/

def quotaReset (c k : Nat) : Nat := if c = 0 then quotaCap k else 0

/-- The quota of context c and kind k; kinds 6 to 15 read 0 (R261, R263). -/
def State.quota (s : State) (c k : Nat) : Nat :=
  if 6 ≤ k then 0 else (spGet s.qos.quota (16 * c + k)).getD (quotaReset c k)

def State.setQuota (s : State) (c k v : Nat) : State :=
  { s with qos := { s.qos with
      quota := spSet s.qos.quota (16 * c + k) (if v = quotaReset c k then none else some v) } }

def heldBy (m : Sparse Hold) (c : Nat) : List (Nat × Hold) := m.filter (fun p => p.2.owner == c + 1)

/-- BW units that count for kind 5: those of held routes of class 0 to 2 (R261); a route that RECLAIM
ends keeps them until its last end-of-stream packet leaves the source (R267). -/
def State.bwOf (s : State) (r : Nat) : Nat :=
  let x := s.route r
  let e := if x.pend then x.staged else if x.releasing then x.old.getD x.active else x.shown
  if e.reserves then e.bw else 0

/-- The use count of context c and kind k (R261). -/
def State.use (s : State) (c k : Nat) : Nat :=
  match k with
  | 0 => s.inflight c
  | 1 => (heldBy s.qos.segs c).length
  | 2 => (heldBy s.qos.slots c).length
  | 3 => (heldBy s.qos.routes c).length
  | 4 => (heldBy s.qos.dma c).length
  | 5 => ((heldBy s.qos.routes c).map (fun p => s.bwOf p.1)).sum
  | _ => 0

/-- OVER: use above quota (R264). -/
def State.over (s : State) (c k : Nat) : Bool := decide (s.quota c k < s.use c k)

def State.overAny (s : State) (c : Nat) : Bool := (List.range 6).any (s.over c)

/-- Event 40 when a kind of a context entered OVER in a step from `before` (R264). -/
def State.reportOver (s before : State) (c k : Nat) : State :=
  if s.over c k && !before.over c k then s.raise 40 (c % 4096 + k * 65536) else s

/-- The grant test of R262. -/
def State.quotaAllows (s : State) (c k a : Nat) : Bool := decide (s.use c k + a ≤ s.quota c k)

def State.slotOwner (s : State) (slot : Nat) : Nat := (spGet s.qos.slots slot).owner
def State.routeOwner (s : State) (r : Nat) : Nat := (spGet s.qos.routes r).owner

def State.holdSlot (s : State) (slot c : Nat) : State :=
  { s with qos := { s.qos with slots := spSet s.qos.slots slot ⟨c + 1, s.modNs⟩ } }
def State.holdRoute (s : State) (r c : Nat) : State :=
  { s with qos := { s.qos with routes := spSet s.qos.routes r ⟨c + 1, s.modNs⟩ } }

/-- A route's holding ends, and with it the release that RECLAIM began (R267). -/
def State.freeRoute (s : State) (r : Nat) : State :=
  let s := { s with qos := { s.qos with routes := spSet s.qos.routes r ⟨0, 0⟩ } }
  if (s.route r).releasing then s.setRoute r { s.route r with releasing := false } else s

/-- Who may use an index: its holder, or, when no context holds it, a context whose quota of kind k
allows it; otherwise the completion that refuses it (R118, R262, R268). -/
def State.claim (s : State) (owner c k : Nat) : Option (Nat × Nat) :=
  if owner = c + 1 then none
  else if owner ≠ 0 then some (codeFaultAccess, 1)
  else if s.quotaAllows c k 1 then none else some (codeRefusedQuota, k)

/-- Free segments of a tile (R57). -/
def State.freeSegs (s : State) (t : Nat) : List Nat :=
  (List.range 448).filter (fun k => (spGet s.qos.segs (448 * t + k)).owner == 0)

/-- Show the number of free segments in TIL_SEG_FREE (R88). -/
def State.showSegs (s : State) (t : Nat) : State :=
  s.setFld (F.TIL_SEG_FREE_FREE t) (s.freeSegs t).length

/-! ### How an operation command begins

The command of an opcode names a context and a tag. It has its effect when that operation is in
flight, has that opcode and may start; a descriptor whose form is wrong completes with its fault. -/

/-- Is a class 6 or 7 operation that has started past its threshold (R254)? Itself it does not count. -/
def State.crowded (s : State) (o : Op) : Bool :=
  decide (6 ≤ o.cls) && decide (s.threshold o.cls < s.queued o.cls (queueOf o) - 1)

/-- Run `f` on the operation (c, tag) of this opcode when it may start; one that has not started by its
deadline is refused (R253). -/
def State.beginOp (s : State) (c tag opcode : Nat) (f : State → Op → State) : State :=
  match s.findOp c tag with
  | none => s
  | some o =>
    if o.opcode != opcode || !s.servesRings then s
    else if o.phase == .queued && !s.inTime o then s.finish o codeRefusedCapacity 19 0
    else if !s.mayStart o then s else
    let s := (s.startOp o).wakeBlock (opcodeBlock opcode)
    match s.formFault o with
    | some d => s.finish o codeFaultDescriptor d 0
    | none =>
      if s.crowded o then (s.finish o codeRefusedCapacity 18 0).raiseOnce 42 o.cls o.cls
      else f (s.takeTokens o) { o with phase := .started, startAt := s.now }

end Sys2Proof.Machine
end

