-- ==== Sys2Proof/Machine/Slots.lean ====
section
/-!
DEFINITION. Machine/Slots.lean: reading the loop-slot record (R94 to R99) and its timing (R90 to R92).
-/

namespace Sys2Proof.Machine

/-- A tile cycle, in ps (R90). -/
def tileCycle : Nat := 800
/-- A mortar cycle, in ps (R56). -/
def mortarCycle : Nat := 640

/-! ### The record -/

/-- A record read as words, so that the staged and the active record read alike. -/
abbrev Record := Nat → Nat

def State.record (s : State) (slot : Nat) : Record := fun w => s.recWord slot w

/-- Lane l of a 128-bit word as Q15 (R5, R6). -/
def lane (w l : Nat) : Int := toSigned 16 (bitsOf w (16 * l) 16)

def setLane (w l : Nat) (v : Int) : Nat :=
  w - place (bitsOf w (16 * l) 16) (16 * l) 16 + place (ofSigned 16 v) (16 * l) 16

def recPeriod (r : Record) : Nat := bitsOf (r 0) 0 24
def recSph (r : Record) : Nat := bitsOf (r 0) 24 24
def recOph (r : Record) : Nat := bitsOf (r 0) 48 24
def recLaw (r : Record) : Nat := bitsOf (r 0) 72 3
def recOrder (r : Record) : Nat := bitsOf (r 0) 75 4
def recShift (r : Record) : Nat := bitsOf (r 0) 79 4
def recClass (r : Record) : Nat := bitsOf (r 0) 83 3
def recNin (r : Record) : Nat := bitsOf (r 0) 86 4
def recNout (r : Record) : Nat := bitsOf (r 0) 90 3
def recOvrMax (r : Record) : Nat := bitsOf (r 0) 93 8
def recComp (r : Record) : Bool := bitOf (r 0) 101
def recRotary (r : Record) : Bool := bitOf (r 0) 102
def recRoadMode (r : Record) : Nat := bitsOf (r 0) 103 2
def recSpec (r : Record) : Bool := bitOf (r 0) 105
def recLead (r : Record) : Nat := bitsOf (r 0) 106 3
def recGroup (r : Record) : Nat := bitsOf (r 0) 109 12
def recTbln (r : Record) : Nat := bitsOf (r 0) 121 7

/-- Input binding k (R96). -/
def recBind (r : Record) (k : Nat) : Nat := bitsOf (r (1 + k / 4)) (32 * (k % 4)) 32
def bindKind (b : Nat) : Nat := bitsOf b 0 2
def bindRoute (b : Nat) : Nat := bitsOf b 2 12
def bindLane (b : Nat) : Nat := bitsOf b 14 2
def bindStation (b : Nat) : Nat := bitsOf b 2 3
def bindLead (b : Nat) : Nat := bitsOf b 5 14
def bindSlot (b : Nat) : Nat := bitsOf b 2 6
def bindOut (b : Nat) : Nat := bitsOf b 8 2
def bindPred (b : Nat) : Nat := bitsOf b 19 2
def bindAgeMax (b : Nat) : Nat := bitsOf b 24 8

/-- The outputs, limits and clamp of words 3 to 7 (R97). -/
def recTol (r : Record) (k : Nat) : Nat := bitsOf (r 3) (16 * k) 16
def recSafeOut (r : Record) (j : Nat) : Int := lane (r 4) j
def recRoadLim (r : Record) (j : Nat) : Nat := bitsOf (r 4) (16 * (4 + j)) 16
def recOutMin (r : Record) (j : Nat) : Int := lane (r 5) j
def recOutMax (r : Record) (j : Nat) : Int := lane (r 5) (4 + j)
def recOutRoute (r : Record) (j : Nat) : Nat := bitsOf (r 6) (16 * j) 12
def recOutEn (r : Record) (j : Nat) : Bool := bitOf (r 6) (16 * j + 15)
def recCompIn (r : Record) : Nat := bitsOf (r 6) 64 3
def recImin (r : Record) : Int := lane (r 7) 0
def recImax (r : Record) : Int := lane (r 7) 1

/-- SAFE_OUT as it is put out: unused outputs are zero (R120). -/
def safeOuts (r : Record) : List Int := (List.range 4).map (fun j => if j < recNout r then recSafeOut r j else 0)

/-- Sample period in ps. -/
def recPeriodPs (r : Record) : Nat := recPeriod r * psPerUs

/-- Does the record carry a period at all? -/
def recTimed (r : Record) : Bool := recPeriod r != 0

/-- Is module time `m` (ps) a sample instant of the record (R91)? -/
def isSampleInstant (r : Record) (m : Nat) : Bool :=
  recTimed r && decide (recSph r * tileCycle ≤ m) && (m - recSph r * tileCycle) % recPeriodPs r == 0

/-- The sample number of the sample instant at or before module time `m` (R91). -/
def sampleNumber (r : Record) (m : Nat) : Nat := (m - recSph r * tileCycle) / recPeriodPs r

/-- The first sample number whose instant is at or after `m`. -/
def firstSampleFrom (r : Record) (m : Nat) : Nat :=
  if m ≤ recSph r * tileCycle then 0
  else (m - recSph r * tileCycle + recPeriodPs r - 1) / recPeriodPs r

/-- The instant of sample n in ps of module time (R91). -/
def sampleInstant (r : Record) (n : Nat) : Nat := n * recPeriodPs r + recSph r * tileCycle

/-- T_act, ps of module time: of the arm in force, else as MOR_ACT_TIME holds it (R84). -/
def State.tAct (s : State) : Nat :=
  1000 * (if s.flag F.MOR_ACT_STAT_ARMED then s.mor.actAt else s.pair F.MOR_ACT_TIME_LO_TIME F.MOR_ACT_TIME_HI_TIME)

/-! ### The running side -/

def SlotSt.initial : SlotSt :=
  { samples := [], notBefore := 0, quietTo := 0, latchAt := 0, faultDue := none
    lastIns := [], ages := List.replicate 8 0, counts := List.replicate 8 0
    staleEp := List.replicate 8 false, frames := [], tagDropped := []
    last := none, prevOut := none, lastAt := 0, outCount := 0, swapAt := 0, swapWaiter := none
    disabling := false, disableWaiters := [], satPrev := false, lastSample := none, bound := 0
    cum := [0, 0, 0, 0], live := [0, 0, 0, 0, 0], word98 := 0
    zeroState := false, returning := false, commits := [] }

def State.slot (s : State) (g : Nat) : SlotSt := (spGet s.cen.slot g).getD SlotSt.initial

def State.setSlot (s : State) (g : Nat) (x : SlotSt) : State :=
  { s with cen := { s.cen with
      slot := spSet s.cen.slot g (if x = SlotSt.initial then none else some x) } }

def State.modSlot (s : State) (g : Nat) (f : SlotSt → SlotSt) : State := s.setSlot g (f (s.slot g))

/-- LSTATE: 0 OFF, 1 RUN, 2 FAULTED, 3 SAFE (R125). -/
def State.lstate (s : State) (g : Nat) : Nat := s.fld (F.CEN_LSTAT_LSTATE g)

/-- The slots of the module that are not OFF, lowest number first. -/
def State.enabledSlots (s : State) : List Nat :=
  (s.cen.slot.map (fun p => p.1)).filter (fun g => s.lstate g != 0)

def State.enabledOn (s : State) (tile : Nat) : List Nat :=
  s.enabledSlots.filter (fun g => g / 64 == tile)

/-- Does the slot name route r in an OUTRT entry with EN = 1 (R71, R97)? -/
def outputsOn (rec_ : Record) (r : Nat) : Bool :=
  (List.range 4).any (fun j => recOutEn rec_ j && recOutRoute rec_ j == r)

/-- Does the slot bind route r through a KIND 1 input (R71, R96)? -/
def readsRoute (rec_ : Record) (r : Nat) : Bool :=
  (List.range (recNin rec_)).any (fun k =>
    bindKind (recBind rec_ k) == 1 && bindRoute (recBind rec_ k) == r)

/-- The loop slot whose sample instant is the boundary of a sample route: the lowest that outputs on it, else
the lowest that binds it (R71). -/
def State.boundarySlot (s : State) (r : Nat) : Option Nat :=
  let e := (s.route r).definer
  match s.enabledSlots.filter (fun g => g / 64 == e.src && outputsOn (s.record g) r) with
  | g :: _ => some g
  | [] => (s.enabledSlots.filter (fun g => readsRoute (s.record g) r)).head?

/-- Sources whose packets the model itself emits: camera taps, the Ox stage and the CAN controllers. -/
def emitsItself (src : Nat) : Bool :=
  (decide (130 ≤ src) && decide (src ≤ 145)) || src == 147 || src == 150

/-- Can the present instant be a boundary of route r (R71)? On a sample route that a loop slot bounds, its
sample instant; without one, a packet of the source, or a whole millisecond while the active entry has
EN = 0; on a frame route, a frame's SOF. The emission of a source that the model does not itself emit for is
the command (log entry 4). -/
def State.boundaryNow (s : State) (r : Nat) : Bool :=
  let x := s.route r
  if !x.definer.bound then !emitsItself x.definer.src
  else match s.boundarySlot r with
    | some g => isSampleInstant (s.record g) s.modTime
    | none => if x.active.en then !emitsItself x.active.src else s.atWhole psPerMs

/-- Does the mortar cycle of the present instant hold a boundary that a loop slot gives (R74)? -/
def State.boundaryInCycle (s : State) (r : Nat) : Bool :=
  let lo := s.modTime / mortarCycle * mortarCycle
  (s.route r).definer.bound && (match s.boundarySlot r with
    | some g =>
      let rec_ := s.record g
      recTimed rec_ && decide (sampleInstant rec_ (firstSampleFrom rec_ lo) < lo + mortarCycle)
    | none => false)

/-- Does a packet that `src` emits on route r mark its boundary (R71)? -/
def State.emissionBounds (s : State) (r src : Nat) (sof : Bool) : Bool :=
  let x := s.route r
  s.changeDue r && x.definer.src == src &&
    (if !x.definer.bound then sof else x.active.en && (s.boundarySlot r).isNone)

/-- The switch of R73: the waiting entry becomes active; a committed one sets SWITCHED, and the
ROUTE_COMMIT that waits for it reports the first frame on the new route (R237). -/
def State.takeTarget (s : State) (r frame : Nat) : State :=
  let x := s.route r
  match x.target with
  | none => s
  | some (e, links) =>
    let s := s.switchRoute r e links
    let s := s.setRoute r { s.route r with
      pend := false, switched := x.switched || x.pend, waiter := none, stagedLinks := [], next := none, nextLinks := [] }
    let s := if x.pend then s.imageChanged true else s
    match x.waiter with
    | none => s
    | some (c, tag) => match s.findOp c tag with
      | some o => s.finish o codeDone 0 (if e.en then frame % 65536 else 0)
      | none => s

/-- The entry that carries a packet of `src` on a route, with its links, and whether it is the old one (R71,
R73): a frame in flight stays on the old entry; of a frame route only what follows an SOF is carried. -/
def RouteSt.carrier (x : RouteSt) (src : Nat) (sof : Bool) : Option (RouteEntry × List (Nat × Nat) × Bool) :=
  match (if x.oldOpen && !sof then x.old else none) with
  | some e => if e.src = src then some (e, x.oldLinks, true)
              else if x.active.en && x.active.src == src && x.open_ then some (x.active, x.activeLinks, false) else none
  | none => if x.active.en && x.active.src == src && (sof || x.open_) then some (x.active, x.activeLinks, false) else none

/-- The switch that a packet of `src` brings about, when it marks the route's boundary (R71, R73). -/
def State.atEmission (s : State) (src r frame : Nat) (sof : Bool) : State :=
  if s.emissionBounds r src sof then s.takeTarget r frame else s

/-- `src` emits a stream-data packet (TYPE 3) on route r: one copy to each destination of the entry that
carries it. A packet that marks the boundary switches the route first (R71, R73). The answer says whether
the packet is carried. -/
def State.emitOn (s : State) (src r frame addr : Nat) (sof eof : Bool) (payload : List Flit) : State × Bool :=
  let s := s.atEmission src r frame sof
  match (s.route r).carrier src sof with
  | none => (s, false)
  | some (e, links, old) =>
    let s := s.sendOn r e links e.dsts (fun d =>
      ⟨d, e.src, e.cls, false, false, 3, sof, eof, false, r, frame % 65536, addr, payload⟩)
    if !old then (s.setRoute r { s.route r with open_ := !eof }, true)
    else if !eof then (s, true)
    else
      let s := s.setRoute r { s.route r with oldOpen := false }
      if (s.route r).eosDue.isEmpty then (s.setRoute r { s.route r with old := none, oldLinks := [] }, true)
      else (s.sendEos r, true)

def State.emit (s : State) (src r frame addr : Nat) (sof eof : Bool) (payload : List Flit) : State :=
  (s.emitOn src r frame addr sof eof payload).1

end Sys2Proof.Machine
end

