-- ==== Sys2Proof/Machine/LoopLaw.lean ====
section
/-!
DEFINITION. Machine/LoopLaw.lean: the control engine's arithmetic and laws (R102 to R110) and the
evaluation costs (R114).
-/

namespace Sys2Proof.Machine

/-! ### Arithmetic (R102, R103) -/

/-- A 40-bit accumulator value, and whether a saturation has occurred on the way (R102). -/
abbrev Acc := Int × Bool

/-- Saturate to 40 bits, noting it. -/
def sat40 (v : Int) (b : Bool) : Acc :=
  if v < -(2 ^ 39) then (-(2 ^ 39), true) else if 2 ^ 39 - 1 < v then (2 ^ 39 - 1, true) else (v, b)

/-- Saturate to Q15; these saturations are not counted (R102, R103). -/
def sat16 (v : Int) : Int := clampInt (-32768) 32767 v

/-- A shifted product: shifted left by SHIFT bits, then saturated to 40 bits (R102). -/
def shiftMul (shift : Nat) (a b : Int) : Acc := sat40 (a * b * 2 ^ shift) false

/-- An addition into an accumulator (R102). -/
def accAdd (x y : Acc) : Acc := sat40 (x.1 + y.1) (x.2 || y.2)

/-- Rounding to Q15 (R103): floor((v + 2^14) / 2^15), saturated. -/
def round15 (v : Int) : Int := sat16 (Int.fdiv (v + 2 ^ 14) (2 ^ 15))

/-- Arithmetic shift right by 15: an unshifted coefficient's product (R103). -/
def shr15 (v : Int) : Int := Int.fdiv v (2 ^ 15)

/-! ### Banks (R110) -/

/-- Word w of the slot's bank b. -/
def State.bankWord (s : State) (slot b w : Nat) : Nat := spGet s.cen.bank (128 * slot + 64 * b + w)

/-- The bank in use: word by word. -/
abbrev Bank := Nat → Nat

def State.activeBank (s : State) (slot : Nat) : Bank :=
  fun w => s.bankWord slot (s.fld (F.CEN_LSTAT_BANK slot)) w

/-- Entry i of the compensation table (R110). -/
def compEntry (b : Bank) (i : Nat) : Int := lane (b (32 + i / 8)) (i % 8)
/-- Breakpoint k of a table slot (R110). -/
def tableX (b : Bank) (k : Nat) : Int := lane (b (32 + k / 4)) (2 * (k % 4))
def tableY (b : Bank) (k : Nat) : Int := lane (b (32 + k / 4)) (2 * (k % 4) + 1)

/-! ### Laws -/

/-- Value of input k. -/
def inVal (ins : List LoopIn) (k : Nat) : Int := (ins.getD k default).val

/-- PID (R104): the output, I and D. State: word 17 holds I in [39:0] and D in [103:64]; lane 4 of
word 16 is Y_PREV. -/
def pidLaw (r : Record) (b : Bank) (w16 w17 : Nat) (ins : List LoopIn) : Int × Nat × Int × Bool :=
  let sh := recShift r
  let kp := lane (b 0) 0
  let ki := lane (b 0) 1
  let kd := lane (b 0) 2
  let ad := lane (b 0) 3
  let kff := lane (b 0) 4
  let rr := inVal ins 0
  let y := inVal ins 1
  let e := sat16 (rr - y)
  let i0 := toSigned 40 (bitsOf w17 0 40)
  let d0 := toSigned 40 (bitsOf w17 64 40)
  let p := shiftMul sh kp e
  let iSum := accAdd (i0, false) (shiftMul sh ki e)
  let i := clampInt (recImin r * 2 ^ 15) (recImax r * 2 ^ 15) iSum.1
  let d := accAdd (shr15 (ad * d0), false) (shiftMul sh kd (sat16 (lane w16 4 - y)))
  let ff : Acc := if 3 ≤ recNin r then shiftMul sh kff (inVal ins 2) else (0, false)
  let sum := accAdd (accAdd (accAdd p (i, iSum.2)) d) ff
  (round15 sum.1, place (ofSigned 40 i) 0 40 + place (ofSigned 40 d.1) 64 40, y, sum.2)

/-- One biquad section (R105): coefficients in word `k` of the bank, state x1, x2, y1, y2. -/
def biquadSection (sh : Nat) (c : Nat) (x : Int) (st : List Int) : Int × List Int × Bool :=
  let g := fun i => st.getD i 0
  let t := fun (l : Nat) (v : Int) => shiftMul sh (lane c l) v
  let neg := fun (a : Acc) => ((-a.1, a.2) : Acc)
  let acc := accAdd (accAdd (accAdd (accAdd (t 0 x) (t 1 (g 0))) (t 2 (g 1))) (neg (t 3 (g 2)))) (neg (t 4 (g 3)))
  let yo := round15 acc.1
  (yo, [x, g 0, yo, g 2], acc.2)

/-- The biquad chain (R105), section by section. -/
def biquadChain (sh : Nat) (b : Bank) : List (List Int) → Nat → Int → Int × List (List Int) × Bool
  | [], _, x => (x, [], false)
  | st :: rest, k, x =>
    let (y, st', f) := biquadSection sh (b k) x st
    let (u, more, g) := biquadChain sh b rest (k + 1) y
    (u, st' :: more, f || g)

/-- State of section k in words 17 and 18 (R98). -/
def sectionState (w17 w18 k : Nat) : List Int :=
  let w := if k < 2 then w17 else w18
  (List.range 4).map (fun i => lane w (4 * (k % 2) + i))

/-- A 128-bit word from its lanes. -/
def ofLanes (l : List Int) : Nat := (l.zipIdx.map (fun p => place (ofSigned 16 p.1) (16 * p.2) 16)).sum

/-- An output flit (R120): four values, VALID bits, HOLD, SAFE, the number in lanes 5 and 6, lane 7. -/
def outFlit (outs : List Int) (valid : Nat) (hold safe : Bool) (n lane7 : Nat) : Flit :=
  BitVec.ofNat 128 (ofLanes ((List.range 4).map (fun j => outs.getD j 0))
    + place (valid % 16 + 16 * boolNat hold + 32 * boolNat safe) 64 16
    + place n 80 32 + place lane7 112 16)

/-- One row: coefficients of two words over state and inputs, in one accumulator (R106). -/
def rowSum (sh : Nat) (wx : Nat) (xs : List Int) (wu : Nat) (us : List Int) : Acc :=
  let a := xs.zipIdx.foldl (fun acc p => accAdd acc (shiftMul sh (lane wx p.2) p.1)) ((0, false) : Acc)
  us.zipIdx.foldl (fun acc p => accAdd acc (shiftMul sh (lane wu p.2) p.1)) a

/-- State space (R106): outputs, next state, saturation. -/
def stateSpace (r : Record) (b : Bank) (w17 : Nat) (ins : List LoopIn) : List Int × List Int × Bool :=
  let sh := recShift r
  let n := recOrder r
  let xs := (List.range n).map (fun i => lane w17 i)
  let us := (List.range (recNin r)).map (inVal ins)
  let ys := (List.range (recNout r)).map (fun j => rowSum sh (b (16 + j)) xs (b (20 + j)) us)
  let nx := (List.range n).map (fun i => rowSum sh (b i) xs (b (8 + i)) us)
  (ys.map (fun a => round15 a.1), nx.map (fun a => round15 a.1), ys.any (fun a => a.2) || nx.any (fun a => a.2))

/-- The segment of a table slot that encloses x0, if any: the first in order (R107). -/
def tableSegment (b : Bank) (n : Nat) (x0 : Int) : Option Nat :=
  (List.range n).find? (fun k => decide (tableX b k < tableX b (k + 1)) &&
    decide (tableX b k ≤ x0) && decide (x0 ≤ tableX b (k + 1)))

/-- Table lookup (R107): output, whether a segment encloses x0, saturation. -/
def tableLaw (r : Record) (b : Bank) (ins : List LoopIn) : Int × Bool × Bool :=
  let n := recTbln r
  let x0 := inVal ins 0
  let (y, ok) := match tableSegment b n x0 with
    | some k =>
      let dx := tableX b (k + 1) - tableX b k
      let dy := tableY b (k + 1) - tableY b k
      (tableY b k + Int.fdiv (2 * dy * (x0 - tableX b k) + dx) (2 * dx), true)
    | none => (if x0 < tableX b 0 then tableY b 0 else tableY b n, false)
  if 2 ≤ recNin r then
    let a := shiftMul (recShift r) y (inVal ins 1)
    (round15 a.1, ok, a.2)
  else (y, ok, false)

/-- Position compensation (R108). -/
def compensation (r : Record) (b : Bank) (posPrev p : Int) : Int :=
  let a := (p + 32768).toNat
  let i := a / 256
  let f : Int := (a % 256 : Nat)
  let t := compEntry b i
  let nx := if i = 255 then (if recRotary r then compEntry b 0 else compEntry b 255) else compEntry b (i + 1)
  let c := t + Int.fdiv ((nx - t) * f + 128) 256
  let fc := lane (b 30) 0
  let fdb := lane (b 30) 1
  let dp := if recRotary r then toSigned 16 (ofSigned 16 (p - posPrev)) else sat16 (p - posPrev)
  sat16 (c + (if fdb < dp then fc else if dp < -fdb then -fc else 0))

/-- Form output j from the law's result (R109). -/
def formOutput (r : Record) (road : Bool) (j : Nat) (u c : Int) : Int :=
  let v := clampInt (recOutMin r j) (recOutMax r j) (sat16 (u + c))
  if road && recRoadMode r == 2 then
    clampInt (-(recRoadLim r j : Int)) (recRoadLim r j : Int) v
  else v

/-- One evaluation (R104 to R109) on inputs, a start state (words 16 to 18) and a bank. -/
def evaluate (r : Record) (b : Bank) (road : Bool) (w16 w17 w18 : Nat) (ins : List LoopIn) : EvalOut :=
  let nin := recNin r
  let allValid := (List.range nin).all (fun k => (ins.getD k default).valid)
  let pos := inVal ins (recCompIn r)
  let c := if recComp r then compensation r b (lane w16 5) pos else 0
  let (us, w17', w18', y, ok, sat) : List Int × Nat × Nat × Int × Bool × Bool :=
    match recLaw r with
    | 0 => let (u, w, y, f) := pidLaw r b w16 w17 ins
           ([u], w, w18, y, true, f)
    | 1 =>
      let x := if 2 ≤ nin then sat16 (inVal ins 0 - inVal ins 1) else inVal ins 0
      let sts := (List.range (recOrder r)).map (sectionState w17 w18)
      let (u, sts', f) := biquadChain (recShift r) b sts 0 x
      let lanes := (sts' ++ ((List.range 4).drop (recOrder r)).map (sectionState w17 w18)).flatten
      ([u], ofLanes (lanes.take 8), ofLanes ((lanes.drop 8).take 8), lane w16 4, true, f)
    | 2 => let (ys, xs, f) := stateSpace r b w17 ins
           (ys, ofLanes xs, w18, lane w16 4, true, f)
    | _ => let (u, ok, f) := tableLaw r b ins
           ([u], w17, w18, lane w16 4, ok, f)
  let outs := (List.range 4).map (fun j =>
    if j < us.length then formOutput r road j (us.getD j 0) c else 0)
  let valids := (List.range 4).map (fun j => decide (j < us.length) && allValid && ok)
  let vmask := (valids.zipIdx.map (fun p => if p.1 then 2 ^ p.2 else 0)).sum
  { outs := outs, valids := valids
    w16 := ofLanes (outs ++ [y, if recComp r then pos else lane w16 5, (vmask : Int)])
    w17 := w17', w18 := w18', sat := sat }

/-! ### Costs (R114) -/

def ceilDiv (a b : Nat) : Nat := (a + b - 1) / b

/-- E, in tile cycles. -/
def evalCost (r : Record) : Nat :=
  let n := recOrder r
  let m := recNin r
  let p := recNout r
  (match recLaw r with
    | 0 => 40
    | 1 => 20 + 16 * n
    | 2 => 28 + 2 * ceilDiv (n * (n + m)) 8 + 2 * ceilDiv (p * (n + m)) 8
    | _ => 48) + (if recComp r then 12 else 0)

/-- E' for admission: twice E with SPEC = 1. -/
def admitCost (r : Record) : Nat := if recSpec r then 2 * evalCost r else evalCost r

end Sys2Proof.Machine
end

