-- ==== Sys2Proof/Machine/Motion.lean ====
section
/-!
DEFINITION. Machine/Motion.lean: the machine's propagated motion (R158 to R161): the pose on the Earth's
sphere, the cutter-bar centre, and the motion at an instant (log entries 95 and 96).
-/

namespace Sys2Proof.Machine

/-- A calibration parameter's in-use value (R169). -/
def State.calUseOf (s : State) (p : Nat) : Int := toSigned 32 (spGet s.fus.calUse p)

/-! ### Sine and cosine of an angle in 10^-9 degree, as 30-bit fractions -/

/-- The angle in rad as a 30-bit fraction: π / 180 × 2^30 × 10^-9 of it. -/
def radian (a : Int) : Int := a * 18740330145169471 / 1000000000000000000

/-- The sine's series to the ninth power; `r` is an angle within ±π/2, rad as a 30-bit fraction. -/
def sinSeries (r : Int) : Int :=
  let q := 2 ^ 30
  let r2 := r * r / q
  let r3 := r2 * r / q
  let r5 := r3 * r2 / q
  let r7 := r5 * r2 / q
  r - r3 / 6 + r5 / 120 - r7 / 5040 + r7 * r2 / q / 362880

/-- The sine of an angle in 10^-9 degree. -/
def sinOf (a : Int) : Int :=
  let x := a % 360000000000
  sinSeries (radian (if x ≤ 90000000000 then x else if x ≤ 270000000000 then 180000000000 - x else x - 360000000000))

def cosOf (a : Int) : Int := sinOf (a + 90000000000)

/-! ### The pose -/

/-- Metres along a great circle: nm in a degree (WGS 84 equatorial radius). -/
def nmPerDegree : Int := 111319490793274

/-- The pose moved by nm forward and nm to the right of its heading (R161). -/
def movedBy (p : Pose) (forward right : Int) : Pose :=
  let c := cosOf p.heading
  let n := sinOf p.heading
  let north := (forward * c - right * n) / 2 ^ 30
  let east := (forward * n + right * c) / 2 ^ 30
  let shrink := max 1 (cosOf (p.lat / 100))
  { p with lat := p.lat + north * 100000000000 / nmPerDegree
           lon := p.lon + east * 100000000000 * 2 ^ 30 / (nmPerDegree * shrink) }

/-- The cutter-bar centre: the origin moved ahead by parameter 135 (R161, R169). -/
def State.cutterBar (s : State) (p : Pose) : Pose := movedBy p (1000000 * s.calUseOf 135) 0

/-- The machine origin of a solution: the antenna's place less its offset in the machine frame, parameters
128 to 130 (R161, R169). -/
def State.originOf (s : State) (lat lon height : Int) (heading : Nat) : Pose :=
  let p : Pose := ⟨lat * 10000, lon * 10000, height - s.calUseOf 130, heading * 10000000⟩
  movedBy p (-(1000000 * s.calUseOf 128)) (-(1000000 * s.calUseOf 129))

/-- One millisecond of the propagation (R160, R161): the travel of ego-motion lane 0 (0.5 mm/s) corrected
for the slip, and the turn of lane 1 (2^-15 rad/s). -/
def State.propagated (s : State) : Pose :=
  let p := s.fus.pose
  let d := s.fus.ego.getD 0 0 * 500
  let k := 1000000 + s.fus.slip
  let d := if 0 < k then roundDivInt (d * 1000000) k.toNat else d
  let turn := roundDivInt (s.fus.ego.getD 1 0 * 57295779513) 32768000
  let p := movedBy p d 0
  { p with heading := ((p.heading + turn) % 360000000000).toNat }

/-! ### The motion at an instant -/

/-- Age of the last GNSS solution in ms, saturating at 16 bits. -/
def State.solAge (s : State) : Nat := satBits 16 ((s.modTime - s.gns.solAt) / psPerMs)

/-- The motion as it stands now. -/
def State.motion (s : State) : Motion := ⟨s.modNs, s.fus.ego, s.fus.pose, s.gns.fix, s.solAge⟩

/-- The motion at an instant (ns): the newest sample taken by then, the oldest kept where all are later,
the present one where none is kept. -/
def State.motionAt (s : State) (ns : Nat) : Motion :=
  ((s.fus.hist.find? (fun m => decide (m.at_ ≤ ns))).orElse (fun _ => s.fus.hist.getLast?)).getD s.motion

/-- The value a fraction num/den of the way from a to b. -/
def lerp (a b : Int) (num den : Nat) : Int := a + roundDivInt ((b - a) * num) den

/-- The shorter turn from one heading to another. -/
def turnBetween (a b : Nat) : Int :=
  let d := ((b : Int) - a) % 360000000000
  if d ≤ 180000000000 then d else d - 360000000000

/-- Ego-motion and pose interpolated linearly to an instant (R163 step 3); after the newest sample, the
newest. -/
def State.motionBetween (s : State) (ns : Nat) : Motion :=
  let a := s.motionAt ns
  match (s.fus.hist.filter (fun m => decide (ns < m.at_))).getLast? with
  | none => a
  | some b =>
    if b.at_ ≤ a.at_ then a else
    let n := ns - a.at_
    let d := b.at_ - a.at_
    { a with
      at_ := ns
      ego := (List.range 4).map (fun i => lerp (a.ego.getD i 0) (b.ego.getD i 0) n d)
      pose := ⟨lerp a.pose.lat b.pose.lat n d, lerp a.pose.lon b.pose.lon n d, lerp a.pose.height b.pose.height n d,
        ((a.pose.heading + roundDivInt (turnBetween a.pose.heading b.pose.heading * n) d) % 360000000000).toNat⟩ }

/-- Distance travelled in (from, to], mm, from the ego-motion samples of each millisecond (R48). -/
def State.travelled (s : State) (fromNs toNs : Nat) : Nat :=
  roundDiv ((s.fus.hist.filter (fun m => decide (fromNs < m.at_) && decide (m.at_ ≤ toNs))).map
    (fun m => (m.ego.getD 0 0).natAbs * 500)).sum 1000000

end Sys2Proof.Machine
end

