-- ==== Sys2Proof/Machine/Crop.lean ====
section
/-!
DEFINITION. Machine/Crop.lean: the crop chain (R33 to R53): piezo impacts, mass flow, moisture, loss
estimate, forecast frames and their readout, yield cells.
-/

namespace Sys2Proof.Machine

def psPer100Ms : Nat := 100 * psPerMs

/-- The modes in which forecast frames are published and yield cells made (R32, R42, R47). -/
def Mode.harvests (m : Mode) : Bool := m == .field || m == .service

def State.piezo (s : State) (c : Nat) : PiezoSt := spGet s.crop.piezo c
def State.setPiezo (s : State) (c : Nat) (x : PiezoSt) : State :=
  { s with crop := { s.crop with piezo := spSet s.crop.piezo c x } }

/-! ### Piezo loss (R34, R35) -/

/-- A sample of a piezo channel: 4 µs (R34, R156). -/
def piezoSample : Nat := 4 * psPerUs

/-- PIEZO_IMPACT: the envelope rises through THRESH at a sample instant, a whole 4 µs of module time
(R34 steps 2 and 3, R156). -/
def opPiezoImpact (c : Nat) (s : State) : State :=
  if !s.flag (F.FUS_PIEZO_CFG_EN c) || s.flag (F.FUS_PIEZO_CFG_FAULT c) || !s.atWhole piezoSample then s else
  let x := s.piezo c
  match x.windowEnd with
  | none => s.setPiezo c { x with windowEnd := some (s.modTime + 240 * piezoSample), crossings := [s.modTime] }
  | some e =>
    let e' := if x.crossings.length = 1 then s.modTime + 256 * piezoSample else e
    s.setPiezo c { x with windowEnd := some e', crossings := x.crossings ++ [s.modTime] }

def execPiezoImpact (t : Nat) (ch : Fin 16) (s : State) : Host.Outcome State Fault Refusal :=
  .next (opPiezoImpact ch.val (s.tick t))

/-- The class a single impact gets from its two scores in percent: 0 grain, 1 chaff, 2 unresolved
(R34 step 4). DESIGN CHOICE (log entry 85): of two equal scores of 75 or more the spec names no class; the
model takes chaff. -/
def impactClass (grain chaff : Nat) : Nat :=
  if max grain chaff < 75 then 2 else if chaff < grain then 0 else 1

/-- PIEZO_WINDOW_CLOSE: each impact is counted in the interval of its crossing (R34 step 5). -/
def opPiezoClose (c grain chaff : Nat) (s : State) : State :=
  let x := s.piezo c
  match x.windowEnd with
  | none => s
  | some e =>
    if s.modTime < e then s else
    let k := if x.crossings.length = 1 then impactClass grain chaff else 2
    let s := { s with crop := { s.crop with
      impacts := s.crop.impacts ++ x.crossings.map (fun a => (a / psPer100Ms, c, k)) } }
    s.setPiezo c { x with windowEnd := none, crossings := [] }

def execPiezoWindowClose (t : Nat) (ch : Fin 16) (grain chaff : Nat) (s : State) :
    Host.Outcome State Fault Refusal :=
  .next (opPiezoClose ch.val grain chaff (s.tick t))

/-- PIEZO_BIAS_FAULT: the bias has been out of range since `began` (ps of module time); the fault
holds from the interval in which it began (R35). -/
def opPiezoBias (c began : Nat) (s : State) : State :=
  if s.modTime < began + 10 * psPerMs || s.flag (F.FUS_PIEZO_CFG_FAULT c) then s else
  let x := s.piezo c
  let s := s.setPiezo c { windowEnd := none, crossings := [], backFrom := x.backFrom
                          faultFrom := some (match x.faultFrom with
                            | some f => min f (began / psPer100Ms) | none => began / psPer100Ms) }
  (s.setFlag (F.FUS_PIEZO_CFG_FAULT c) true).raise 97 c

def execPiezoBiasFault (t : Nat) (ch : Fin 16) (began : Nat) (s : State) :
    Host.Outcome State Fault Refusal :=
  .next (opPiezoBias ch.val began (s.tick t))

/-- Host software cleared FAULT. Whether the bias is within range at that moment no command says: with the
bias still out of range FAULT is set again at once and the channel stays silent; else the channel counts
again from the first interval that starts after (R35, log entry 86). -/
def State.piezoCleared (s : State) (c : Nat) : State :=
  let (out, s) := s.drawFree 1
  if out.getLsbD 0 then s.setFlag (F.FUS_PIEZO_CFG_FAULT c) true
  else s.setPiezo c { s.piezo c with faultFrom := none, backFrom := s.modTime / psPer100Ms + 1 }

/-- Does a channel count in interval i (R35)? -/
def State.piezoActive (s : State) (i c : Nat) : Bool :=
  let x := s.piezo c
  decide (x.backFrom ≤ i) && (match x.faultFrom with | none => true | some f => decide (i < f))

/-! ### Loss estimate (R39) -/

/-- Impacts of interval i, channel in `cs`, of one class. -/
def State.impactCount (s : State) (i : Nat) (cs : List Nat) (k : Nat) : Nat :=
  (s.crop.impacts.filter (fun x => x.1 == i && cs.contains x.2.1 && x.2.2 == k)).length

/-- Kernel mass in µg: the tank camera's, or KMASS_MG (R39). -/
def State.kernelMass (s : State) : Nat :=
  match s.crop.tank with
  | some (_, _, m) => m
  | none => 1000 * s.fld F.FUS_CROP_KMASS_MG

/-- The total grain flow w of interval i, µg/s (R36, R39). DESIGN CHOICE (log entry 87): the spec does not
say which of an interval's ten samples w is; the model takes the newest one that ends in the interval. -/
def State.grainFlow (s : State) (i : Nat) : Nat :=
  ((s.crop.mass.find? (fun m => decide (m.at10 ≤ 10 * (i + 1)))).map (fun m => m.flow)).getD 0

/-- Loss rate (µg/s) and loss (10^-6) of group g over interval i; none where invalid (R39). -/
def State.lossOf (s : State) (g i : Nat) : Option Nat × Option Nat :=
  let en := (List.range 16).filter (fun c => s.flag (F.FUS_PIEZO_CFG_EN c) && s.fld (F.FUS_PIEZO_CFG_GROUP c) == g)
  let act := en.filter (s.piezoActive i)
  if act.isEmpty then (none, none) else
  let ng := s.impactCount i act 0
  let nc := s.impactCount i act 1
  let nu := s.impactCount i act 2
  let d := if ng + nc = 0 then 1 else ng + nc
  let grain := if ng + nc = 0 then 0 else ng * (ng + nc) + ng * nu
  let cover := max 1 (if g = 0 then s.fld F.FUS_LOSS_CFG_COVER_SEP else s.fld F.FUS_LOSS_CFG_COVER_CLN)
  let num := grain * s.kernelMass * en.length * 327680
  let den := d * act.length * cover
  let w := s.grainFlow i
  (some (roundDiv num den), if w = 0 then none else some (roundDiv (num * 1000000) (den * w)))

/-- The mean over the last ten intervals, valid when all ten are. DESIGN CHOICE (log entry 88): the spec
does not say what is published before ten intervals have passed since the start; the model publishes no
valid value. -/
def meanOfTen (xs : List (Option Nat)) : Option Nat :=
  if xs.length = 10 ∧ xs.all (fun x => x.isSome) then some (roundDiv (xs.filterMap id).sum 10) else none

/-- LOSS_INTERVAL: evaluate the oldest finished interval whose windows are all closed (R39). -/
def opLossInterval (s : State) : State :=
  let i := s.crop.lossNext
  let busy := s.crop.piezo.any (fun p => p.2.crossings.any (fun a => a / psPer100Ms == i))
  if s.modTime < (i + 1) * psPer100Ms || busy then s else
  let l0 := ((s.lossOf 0 i) :: s.crop.loss0).take 10
  let l1 := ((s.lossOf 1 i) :: s.crop.loss1).take 10
  let p := ((i + 1) * 100, meanOfTen (l0.map (fun x => x.2)), meanOfTen (l1.map (fun x => x.2)))
  { s with crop := { s.crop with
      lossNext := i + 1, loss0 := l0, loss1 := l1
      impacts := s.crop.impacts.filter (fun x => decide (i < x.1))
      published := (p :: s.crop.published).take 600
      rate0 := meanOfTen (l0.map (fun x => x.1)), rate1 := meanOfTen (l1.map (fun x => x.1)) } }

def execLossInterval (t : Nat) (s : State) : Host.Outcome State Fault Refusal :=
  .next (opLossInterval (s.tick t))

/-! ### Mass flow (R36) -/

def State.mfEnabled (s : State) (c : Nat) : Bool := s.flag (F.FUS_MFLOW_SPD_EN c)

/-- ±20 mV in nV (R36). -/
def bridgeSpan : Int := 20000000

/-- W of one channel in µg/s, and whether the sample is suspect: K × (u − u0) × VNOM / v (R36). The
bridge mean u is in nV, K in (kg/s)/mV as 16.16. With v = 0 and VNOM = 0 the quotient has no value
(`State.massOf` leaves it free). -/
def massFlow (k : Nat) (u u0 : Int) (vnom v : Nat) : Nat × Bool :=
  if 2 * v < vnom then (0, true) else
  let du := clampInt (-bridgeSpan) bridgeSpan u - u0
  (if du ≤ 0 then 0 else roundDiv (k * du.toNat * 1000 * vnom) (65536 * v), u < -bridgeSpan || bridgeSpan < u)

/-- K in force for the samples being taken. -/
def State.massKOf (s : State) (c : Nat) : Nat :=
  let x := spGet s.crop.massK c
  if x = 0 then s.fld (F.FUS_MFLOW_K_K c) else x - 1

/-- The mean of samples, rounded half away from zero; 0 of none. -/
def meanInt (xs : List Int) : Int := if xs.isEmpty then 0 else roundDivInt xs.sum xs.length

/-- W and the suspect mark of channel c from its bridge mean and elevator speed (R36); 0 of a channel that
is not enabled, and free where VNOM and v are both 0 (log entry 89). -/
def State.massOf (s : State) (c : Nat) (u : Int) (v : Nat) : (Nat × Bool) × State :=
  let vnom := s.fld (F.FUS_MFLOW_SPD_VNOM c)
  let w := massFlow (s.massKOf c) u (spGet s.crop.u0 c) vnom v
  if !s.mfEnabled c then ((0, false), s)
  else if vnom == 0 && v == 0 then
    let (x, s) := s.drawFree 64
    ((x.toNat, w.2), s)
  else (w, s)

/-- MASS_FLOW_INTERVAL, at every whole 10 ms: the samples of the four bridges in nV (2 kS/s), and the
speeds in 0.01 Hz on the sixteen frequency inputs, of the 10 ms that end now; channel c takes the input
that FIN selects (R33, R36, R156). -/
def opMassFlow (u : List (List Int)) (v : List Nat) (s : State) : State :=
  if !s.atWhole (10 * psPerMs) then s else
  let us := (List.range 4).map (fun c => meanInt (u.getD c []))
  let vs := (List.range 4).map (fun c => v.getD (s.fld (F.FUS_MFLOW_SPD_FIN c)) 0)
  let (w0, s) := s.massOf 0 (us.getD 0 0) (vs.getD 0 0)
  let (w1, s) := s.massOf 1 (us.getD 1 0) (vs.getD 1 0)
  let (w2, s) := s.massOf 2 (us.getD 2 0) (vs.getD 2 0)
  let (w3, s) := s.massOf 3 (us.getD 3 0) (vs.getD 3 0)
  let cs := List.range 4
  let m : MassSample := {
    at10 := s.modMs / 10
    flow := w0.1 + w1.1 + w2.1 + w3.1
    suspect := w0.2 || w1.2 || w2.2 || w3.2
    ks := cs.map s.massKOf
    ens := cs.map s.mfEnabled
    us := us
    fast := cs.map (fun c => decide (s.fld (F.FUS_MFLOW_SPD_VNOM c) ≤ 2 * vs.getD c 0)) }
  { s with crop := { s.crop with
      mass := (m :: s.crop.mass).take 4500
      massK := cs.foldl (fun a c => spSet a c (s.fld (F.FUS_MFLOW_K_K c) + 1)) s.crop.massK } }

def execMassFlowInterval (t : Nat) (u : List (List Int)) (v : List Nat) (s : State) :
    Host.Outcome State Fault Refusal :=
  .next (opMassFlow u v (s.tick t))

/-- Since when the work condition of R47 has been false, ps of module time; none while it holds. -/
def State.idleSince (s : State) : Option Nat :=
  match s.crop.workFrom, s.crop.workTo with
  | none, _ => some s.crop.workEnd
  | some _, some e => some (1000 * e)
  | some _, none => none

/-- MASS_FLOW_ZERO_UPDATE, at every whole second: the mean of u over the preceding 5 s becomes u0 of
each channel whose elevator runs at speed, once the work condition has been false long enough (R36). -/
def opMassZero (s : State) : State :=
  let quiet := s.fld F.FUS_YIELD_CFG_DLY_MASS_MS * psPerMs + 5 * psPerS
  let long := match s.idleSince with | some e => decide (e + quiet ≤ s.modTime) | none => false
  if !s.atWhole psPerS || !long then s else
  let last := s.crop.mass.filter (fun m => decide (s.modMs / 10 < m.at10 + 500))
  match last with
  | [] => s
  | m :: _ =>
    let cs := (List.range 4).filter (fun c => s.mfEnabled c && m.fast.getD c false)
    { s with crop := { s.crop with
        u0 := cs.foldl (fun a c =>
          spSet a c (meanInt (last.map (fun x => x.us.getD c 0)))) s.crop.u0 } }

def execMassFlowZeroUpdate (t : Nat) (s : State) : Host.Outcome State Fault Refusal :=
  .next (opMassZero (s.tick t))

/-! ### Moisture and feedrate through table-lookup slots (R37, R38) -/

/-- What table-lookup slot g makes of one value: its output 0, limited as R109 says; none where the output
is invalid, as with no segment that encloses the value (R107, R109). -/
def State.tableRead (s : State) (g : Nat) (x : Int) : Option Int :=
  let r := s.record g
  let (y, ok, _) := tableLaw r (s.activeBank g) [⟨x, true, 0, []⟩]
  if ok then some (formOutput r (s.mode == .road) 0 y 0) else none

/-- MOISTURE_INTERVAL, at every whole 100 ms: for each of the two sensors that is connected the slot whose
table converts it and the capacitance samples of the interval on the table's scale; their mean is
converted. A capacitance below the first entry is invalid (R33, R37). -/
def opMoisture (conv : List (Nat × List Int)) (s : State) : State :=
  if !s.atWhole psPer100Ms then s else
  let read := (conv.take 2).filterMap (fun p => (s.tableRead p.1 (meanInt p.2)).map Int.toNat)
  let rs := read.map (fun v => (s.modMs, v))
  { s with crop := { s.crop with
      moist := (rs ++ s.crop.moist).take 1200
      lastMoist := match read.getLast? with | some v => some v | none => s.crop.lastMoist } }

def execMoistureInterval (t : Nat) (conv : List (Nat × List Int)) (s : State) :
    Host.Outcome State Fault Refusal :=
  .next (opMoisture conv (s.tick t))

/-- Measured feedrate on the FS_KGS scale: the table's feedrate at nominal chain speed, times measured over
nominal chain speed (R38). -/
def State.feedRead (s : State) (d : DrumRead) : Option Nat :=
  if d.nominal = 0 then none
  else (s.tableRead d.slot d.lift).map (fun y => roundDiv (y.toNat * d.chain) d.nominal)

/-- The mean measured feedrate of an interval, from its readings (R46); none where none is valid. -/
def State.meanFeed (s : State) (ds : List DrumRead) : Option Nat :=
  let ok := ds.filterMap s.feedRead
  if ok.isEmpty then none else some (roundDiv ok.sum ok.length)

/-! ### Forecast (R42 to R46) -/

/-- The readout of a frame at cutter-bar time τ (ps of module time): FEED and CONF, interpolated
between the enclosing steps (R44). DESIGN CHOICE (log entry 90): the spec gives an interpolated value no
confidence; the model takes the lower of the two steps'. -/
def frameRead (f : FcFrame) (tau : Int) : Nat × Nat :=
  let step : Int := psPer100Ms
  let d := tau - f.t0 * psPerMs
  if d < 0 then (f.feed.getD 0 0, 0)
  else if 95 * step < d then (f.feed.getD 95 0, 0)
  else
    let i := (d / step).toNat
    let r := (d % step).toNat
    let a := f.feed.getD i 0
    let b := f.feed.getD (i + 1) 0
    if r = 0 then (a, f.conf.getD i 0)
    else ((roundDivInt ((a : Int) * (psPer100Ms - r) + (b : Int) * r) psPer100Ms).toNat,
      min (f.conf.getD i 0) (f.conf.getD (i + 1) 0))

/-- Station readout with lead L ms at the present instant from a given frame (R44). -/
def stationRead (f : FcFrame) (station leadMs at_ : Nat) : Nat × Nat :=
  frameRead f ((at_ : Int) + ((leadMs : Int) - (f.dly.getD station 0 : Int)) * psPerMs)

/-- Do the readouts hold their last value (R45)? -/
def State.forecastHolds (s : State) : Bool :=
  !s.flag F.FUS_FCST_CFG_EN || s.flag F.FUS_FCST_CFG_STALE || s.crop.frames.isEmpty

/-- The corrected model gain (R46); 0x4000 is 1.0. Quantities are on the FS_KGS scale. -/
def correctedGain (gain meas fcst conf : Nat) : Nat :=
  if decide (32768 ≤ 20 * meas) && decide (32768 ≤ 20 * fcst) && decide (16384 ≤ conf) then
    clampNat 0x2000 0x8000 (roundDiv (63 * gain * fcst + meas * 16384) (64 * fcst))
  else gain

/-- The enabled network that feeds the forecast (R166). -/
def State.fcstNet (s : State) : Option Nat :=
  (List.range 16).find? (fun k => s.flag (F.FUS_NET_CFG_EN k) && s.flag (F.FUS_NET_CFG_FCST k))

/-- FS_KGS, where 0 is treated as 1 (R54), in g/s. -/
def State.fullScale (s : State) : Nat := 1000 * max 1 (s.fld F.FUS_FCST_CFG_FS_KGS)

/-- What a value read at the start of second `sec`, from the notes of the seconds in which it changed
(R49): 0 FUS_CROP, 1 FUS_CUTW, 2 the epoch; `now` where it has not changed since. -/
def State.atSecondStart (s : State) (key sec now : Nat) : Nat :=
  let later := s.crop.atSecond.filter (fun n => n.1 == key && decide (sec ≤ n.2.1))
  match later.getLast? with
  | some n => n.2.2
  | none => now

/-- The effective cut width: a write takes effect at the next whole second (R54). -/
def State.cutWidth (s : State) : Nat := s.atSecondStart 1 (s.modTime / psPerS) (s.fld F.FUS_CUTW_WIDTH_CM)

/-- FORECAST_FRAME_PUBLISH: the feedrates in g/s of the 96 steps that the network yields before the gain,
how many of them the cameras cover, and the drum-lift readings of the previous interval (R42, R43, R46,
R166). DESIGN CHOICE (log entry 91): the spec does not say how a FEED value is rounded after the gain; the
model cuts the fraction off. -/
def opForecastPublish (feed conf : List Nat) (covered : Nat) (meas : List DrumRead) (s : State) : State :=
  let k := s.modMs / 100
  let late := s.modTime - k * psPer100Ms
  let dup := s.crop.frames.any (fun f => f.k == k % 2 ^ 32)
  if !s.flag F.FUS_FCST_CFG_EN || !s.mode.harvests || decide (30 * psPerMs < late) || dup then s else
  let oldGain := s.fld F.FUS_FCST_GAIN_GAIN
  let start := (k - 1) * psPer100Ms
  let gain := match s.meanFeed meas, s.crop.frames.find? (fun f => decide (f.at_ ≤ start)) with
    | some m, some f =>
      let (v, c) := stationRead f 1 0 (start + 50 * psPerMs)
      correctedGain oldGain m v c
    | _, _ => oldGain
  let src := s.fcstNet.map (fun n => spGet s.fus.net n)
  let newest := src.bind (fun n => n.done.find? (fun d => decide (d.1 < (k * 100 + 20) * 1000000)))
  let n := min covered 96
  let fed := (s.crop.frames.head?.map (fun f => f.fed)).getD 0
  let frame : FcFrame := {
    k := k % 2 ^ 32, t0 := (k : Int) * 100 - 2400, at_ := s.modTime
    gap := (newest.map (fun d => d.2.2.1)).getD false
    reset := (src.map (fun x => x.resets != fed)).getD false
    dly := (List.range 4).map (fun i => if i = 0 then 0 else s.fld (F.FUS_STATION_DLY_DLY_MS i))
    speed := ((s.fus.ego.getD 0 0) / 2).toNat
    width := s.cutWidth
    gain := gain
    calver := (newest.map (fun d => d.2.2.2.1 % 65536)).getD 0
    feed := (List.range 96).map (fun i =>
      min 32767 (feed.getD (if i < n then i else n - 1) 0 * gain * 2 / s.fullScale))
    conf := (List.range 96).map (fun i => if i < n then min 32767 (conf.getD i 0) else 0)
    fed := (newest.map (fun d => d.2.2.2.2)).getD fed }
  let s := s.setFld F.FUS_FCST_GAIN_GAIN gain
  let s := s.setFlag F.FUS_FCST_CFG_STALE false
  { s with crop := { s.crop with frames := (frame :: s.crop.frames).take 8 } }

def execForecastFramePublish (t : Nat) (feed conf : List Nat) (covered : Nat) (meas : List DrumRead)
    (s : State) : Host.Outcome State Fault Refusal :=
  .next (opForecastPublish feed conf covered meas (s.tick t))

/-- The 26 words of a forecast frame, as stored (R42). -/
def forecastBytes (f : FcFrame) : List Byte :=
  let w0 := place (ofSigned 64 (f.t0 * 1000000)) 0 64 + place f.k 64 32 + place 96 96 8 + place 100 104 8
    + place 4 112 8 + place (boolNat f.gap) 120 1 + place (boolNat f.reset) 121 1
  leBytes 16 w0 ++ f.dly.flatMap (leBytes 2) ++ leBytes 2 f.speed ++ leBytes 2 f.width ++ leBytes 2 f.gain
    ++ leBytes 2 f.calver ++ f.feed.flatMap (leBytes 2) ++ f.conf.flatMap (leBytes 2)

/-- FORECAST_STALE: the newest frame's nominal instant is more than 500 ms old (R45). DESIGN CHOICE (log
entry 92): with no frame published since BOOT there is no newest frame and the stream does not go stale. -/
def opForecastStale (s : State) : State :=
  match s.crop.frames with
  | [] => s
  | f :: _ =>
    let nominal : Int := (f.t0 + 2400) * psPerMs
    if s.flag F.FUS_FCST_CFG_EN && !s.flag F.FUS_FCST_CFG_STALE
        && decide (nominal + 500 * psPerMs < s.modTime)
    then (s.setFlag F.FUS_FCST_CFG_STALE true).raise 96 0 else s

def execForecastStale (t : Nat) (s : State) : Host.Outcome State Fault Refusal :=
  .next (opForecastStale (s.tick t))

/-- FUS_FCST_GAINRST: a write to FUS_FCST_CFG with GAINRST = 1 (R46). -/
def opFcstCfgWrite (v : Word) (s : State) : State :=
  let s := s.plainWrite R.FUS_FCST_CFG v
  if v.getLsbD 2 then s.setFld F.FUS_FCST_GAIN_GAIN 0x4000 else s

def execFusFcstGainrst (t : Nat) (v : Word) (s : State) : Host.Outcome State Fault Refusal :=
  .next (opFcstCfgWrite (v ||| 4#32) (s.tick t))

/-- Keep what a value read at the start of this second before it changes (R49): 0 FUS_CROP,
1 FUS_CUTW, 2 the epoch. -/
def State.noteSecond (s : State) (key old : Nat) : State :=
  let sec := s.modTime / psPerS
  if s.crop.atSecond.any (fun n => n.1 == key && n.2.1 == sec) then s
  else { s with crop := { s.crop with atSecond := ((key, sec, old) :: s.crop.atSecond).take 64 } }

/-- FUS_CROP_WRITE (R46, R49). -/
def opCropWrite (v : Word) (s : State) : State :=
  let s := s.noteSecond 0 (s.reg R.FUS_CROP).toNat
  (s.plainWrite R.FUS_CROP v).setFld F.FUS_FCST_GAIN_GAIN 0x4000

def execFusCropWrite (t : Nat) (v : Word) (s : State) : Host.Outcome State Fault Refusal :=
  .next (opCropWrite v (s.tick t))

/-! ### Yield cells (R47 to R53) -/

/-- The cell ring (R53, R54). -/
def yieldRing : RingDesc :=
  ⟨R.FUS_YIELD_BASE_LO, 64, 64, 6, some F.FUS_YIELD_STAT_DROP, some F.FUS_YIELD_STAT_PEND, 98, false⟩

/-- Does the work condition hold, but for the header height (R47)? -/
def State.workReady (s : State) : Bool :=
  s.mode.harvests && s.flag F.GOO_STAT_HDRENG && s.flag F.FUS_YIELD_CTL_EN

/-- Note the instant at which the mode, the header's engagement or EN ends a running working part (R47). -/
def State.workCheck (s : State) : State :=
  if s.crop.workFrom.isSome && s.crop.workTo.isNone && !s.workReady then
    { s with crop := { s.crop with workTo := some s.modNs } } else s

/-- A running working part ends at `toNs`: its cell (R47 to R49). -/
def State.closeCell (s : State) (fromNs toNs : Nat) : State :=
  let sec := fromNs / 1000000000
  let crop := s.atSecondStart 0 sec (s.reg R.FUS_CROP).toNat
  let m := s.motionAt ((fromNs + toNs) / 2)
  let cut := s.cutterBar m.pose
  let dist := s.travelled fromNs toNs
  let cell : YieldCell := {
    second := sec, fromNs := fromNs, toNs := toNs, seq := s.crop.cellSeq
    width := s.atSecondStart 1 sec (s.fld F.FUS_CUTW_WIDTH_CM), dist := dist
    lat := roundDivInt cut.lat 10000, lon := roundDivInt cut.lon 10000
    heading := m.pose.heading / 10000000, fix := m.fix
    isPartial := fromNs % 1000000000 != 0 || toNs != (sec + 1) * 1000000000 || decide (dist < 100)
    degraded := decide (m.fix < 2) || decide (200 < m.age)
    safeStop := (s.flag F.GOO_STAT_SAFESTOP && decide (s.goo.stopFromNs < toNs)) || decide (fromNs < s.goo.stopEndNs)
    crop := crop % 256, stdMoist := crop / 65536
    epoch := s.atSecondStart 2 sec (s.fld F.MOR_EPOCH_EPOCH)
    dm := s.fld F.FUS_YIELD_CFG_DLY_MASS_MS, dw := s.fld F.FUS_YIELD_CFG_DLY_MOIST_MS }
  { s with crop := { s.crop with
      cells := s.crop.cells ++ [cell], cellSeq := (s.crop.cellSeq + 1) % 2 ^ 32, workEnd := 1000 * toNs } }

/-- The interval in which the work condition holds begins at `f`, or none is open. -/
def State.workSince (s : State) (f : Option Nat) : State :=
  { s with crop := { s.crop with workFrom := f, workTo := none } }

/-- Work since instant `f` in ns, cut at the whole second that ends its second (R47): the cell up to there, or
up to the end of the work, is made once that instant has come. -/
def State.cutWork (s : State) (work : Bool) (f second : Nat) : State :=
  let ended := if work then s.crop.workTo else some (s.crop.workTo.getD s.modNs)
  let stop := min second (ended.getD s.modNs)
  if ended.isNone && decide (s.modNs < second) then s else
  let s := if f < stop then s.closeCell f stop else s
  match ended with
  | some e => if second < e then { s with crop := { s.crop with workFrom := some second, workTo := some e } }
              else s.workSince (if work then some s.modNs else none)
  | none => s.workSince (some second)

/-- YIELD_CELL_CLOSE: at a whole second, or where the work condition starts or ends, with F01's measured
header height in mm (R47). A part that an earlier event ended closes at that event. -/
def opYieldClose (height : Int) (s : State) : State :=
  let work := s.workReady && decide (height < s.fld F.FUS_YIELD_CTL_HWORK)
  match s.crop.workFrom with
  | none => if work then s.workSince (some s.modNs) else s
  | some f => s.cutWork work f ((f / 1000000000 + 1) * 1000000000)

def execYieldCellClose (t : Nat) (height : Int) (s : State) : Host.Outcome State Fault Refusal :=
  .next (opYieldClose height (s.tick t))

/-- Mean of numbers, rounded half up. -/
def meanNat (xs : List Nat) : Nat := if xs.isEmpty then 0 else roundDiv xs.sum xs.length

/-- Dry-equivalent yield in kg/ha (R50); none where the formula has no value. -/
def yieldOf (c : YieldCell) (wetUg moist : Nat) : Option Nat :=
  if c.dist < 100 then some 0
  else if 10000 ≤ c.stdMoist || c.width == 0 || decide (10000 < moist) then none
  else some (min 65535 (roundDiv (wetUg * (10000 - moist)) ((10000 - c.stdMoist) * c.dist * c.width)))

/-- A loss field of the record: the mean of the valid published values in 0.01 %. DESIGN CHOICE (log entry
93): where none is valid or none has been published in the window, the spec gives no value and the field is
free. -/
def State.lossField (s : State) (xs : List (Option Nat)) : Nat × State :=
  let ok := xs.filterMap id
  if ok.isEmpty then
    let (v, s) := s.drawFree 16
    (v.toNat, s)
  else (min 65535 (roundDiv ok.sum (100 * ok.length)), s)

/-- The 64 bytes of a cell record (R51). -/
def cellBytes (c : YieldCell) (flags wetG moist yield lossS lossC : Nat) : List Byte :=
  let w0 := place c.fromNs 0 64 + place c.seq 64 32 + place c.width 96 16 + place c.dist 112 16
  let w1 := place (ofSigned 32 c.lat) 0 32 + place (ofSigned 32 c.lon) 32 32 + place c.heading 64 16
    + place c.fix 80 8 + place flags 88 8 + place c.crop 96 8 + place c.stdMoist 112 16
  let w2 := place wetG 0 32 + place moist 32 16 + place yield 48 16 + place lossS 64 16 + place lossC 80 16
    + place c.dm 96 16 + place c.dw 112 16
  let body := leBytes 16 w0 ++ leBytes 16 w1 ++ leBytes 16 w2 ++ leBytes 12 c.epoch
  body ++ leBytes 4 (crc32 body)

/-- Is an instant in ms inside the cell's interval shifted by `d` ms? -/
def inShifted (c : YieldCell) (d ms : Nat) : Bool :=
  decide (c.fromNs + d * 1000000 < ms * 1000000) && decide (ms * 1000000 ≤ c.toNs + d * 1000000)

/-- YIELD_CELL_WRITE: the oldest cell whose delays have passed is computed and handed to the ring
(R48 to R53). DESIGN CHOICE (log entries 93, 94): a loss window that has not wholly passed when the cell is
written counts with the part seen, and LOSS_INVALID marks it only where it is empty or holds an invalid
value; MOIST_HELD is set also where STDMOIST stands in for a reading. -/
def opYieldWrite (s : State) : State :=
  match s.crop.cells with
  | [] => s
  | c :: rest =>
    if s.modTime < (c.second + 1) * psPerS + max c.dm c.dw * psPerMs then s else
    let mass := s.crop.mass.filter (fun m => inShifted c c.dm (m.at10 * 10))
    let wetUg := (mass.map (fun m => m.flow)).sum / 100
    let ms := s.crop.moist.filter (fun m => inShifted c c.dw m.1)
    let held := ms.isEmpty
    let moist := if held then s.crop.lastMoist.getD c.stdMoist else meanNat (ms.map (fun m => m.2))
    let dl := s.fld (F.FUS_STATION_DLY_DLY_MS 3) + 1000
    let ls := s.crop.published.filter (fun p => inShifted c dl p.1)
    let (l0, s) := s.lossField (ls.map (fun p => p.2.1))
    let (l1, s) := s.lossField (ls.map (fun p => p.2.2))
    let (y, s) := match yieldOf c wetUg moist with
      | some y => (y, s)
      | none => let (v, s) := s.drawFree 16
                (v.toNat, s)
    let calchg := match mass with
      | [] => false
      | m :: more => (List.range 4).any (fun q => mass.any (fun x => x.ens.getD q false)
          && more.any (fun x => x.ks.getD q 0 != m.ks.getD q 0))
    let flags := boolNat c.isPartial + 2 * boolNat held + 4 * boolNat (mass.any (fun m => m.suspect))
      + 8 * boolNat calchg + 16 * boolNat c.degraded + 32 * boolNat c.safeStop
      + 64 * boolNat (ls.isEmpty || ls.any (fun p => p.2.1.isNone || p.2.2.isNone))
    let s := { s with crop := { s.crop with cells := rest } }
    s.ringPush yieldRing (cellBytes c flags (roundDiv wetUg 1000000) moist y l0 l1) 0

def execYieldCellWrite (t : Nat) (s : State) : Host.Outcome State Fault Refusal :=
  .next (opYieldWrite (s.tick t))

/-- FUS_YIELD_ENABLE: a write to FUS_YIELD_CTL; EN from 0 to 1 samples the ring (R53 step 2). -/
def opYieldCtlWrite (v : Word) (s : State) : State :=
  let was := s.flag F.FUS_YIELD_CTL_EN
  let s := s.plainWrite R.FUS_YIELD_CTL v
  let on := s.flag F.FUS_YIELD_CTL_EN
  if !was && on then (s.ringSample R.FUS_YIELD_BASE_LO 6).ringFlush yieldRing
  else s.workCheck

def execFusYieldEnable (t : Nat) (v : Word) (s : State) : Host.Outcome State Fault Refusal :=
  .next (opYieldCtlWrite v (s.tick t))

end Sys2Proof.Machine
end

