-- ==== Sys2Proof/Machine/Fusion.lean ====
section
/-!
DEFINITION. Machine/Fusion.lean: the timebase and its reference, ego-motion and pose, the fusion
networks, and calibration (R149 to R174). The triggers stand in Camera.lean.
-/

namespace Sys2Proof.Machine

/-! ### Timebase (R149 to R155) -/

/-- FUS_TB_STAT.STATE: 0 FREE, 1 ACQUIRE, 2 LOCKED, 3 HOLDOVER. -/
def State.tbState (s : State) : Nat := s.fld F.FUS_TB_STAT_STATE

/-- FUS_TB_OFS, ns, signed (R150). -/
def State.tbOfs (s : State) : Int := toSigned 64 (s.pair F.FUS_TB_OFS_LO_OFS F.FUS_TB_OFS_HI_OFS)

def State.setTbOfs (s : State) (v : Int) : State :=
  s.setPair F.FUS_TB_OFS_LO_OFS F.FUS_TB_OFS_HI_OFS (ofSigned 64 v)

/-- FUS_TB_PHERR, ns, signed. -/
def State.pherr (s : State) : Int := toSigned 32 (s.fld F.FUS_TB_PHERR_PHERR)

/-- ERREST as it reads now, in µs, rounded up (R151). -/
def State.errest (s : State) : Nat :=
  let grown := s.fus.bound + (s.modNs - s.fus.lastEdge) / 1000000
  let up := fun ns => min 0xFFFFFFFF ((ns + 999) / 1000)
  match s.tbState with
  | 0 => 0xFFFFFFFF
  | 1 => if s.fus.held then up grown else 0xFFFFFFFF
  | 2 => up (s.pherr.natAbs + 50)
  | _ => up grown

/-- Show ERREST in its register. -/
def State.showErrest (s : State) : State := s.setFld F.FUS_TB_ERREST_ERREST s.errest

/-- Leave LOCKED or ACQUIRE for want of the reference: HOLDOVER once a reference has been held, else
FREE (R151, R154). Entering HOLDOVER raises event 99. -/
def State.loseReference (s : State) : State :=
  let s := { s with fus := { s.fus with gnssRun := ⟨0, 0⟩, asRun := ⟨0, 0⟩ } }
  let s := (s.setFld F.FUS_TB_STAT_SRCUSED 0).setFlag F.FUS_TB_STAT_SLEW false
  let s := { s with fus := { s.fus with slewErr := 0 } }
  if s.fus.held then ((s.setFld F.FUS_TB_STAT_STATE 3).raise 99 0).showErrest
  else (s.setFld F.FUS_TB_STAT_STATE 0).showErrest

/-- The GPS-scale reference time of an edge: 802.1AS time less 19 s (R150). -/
def gpsScale (as : Bool) (ref : Nat) : Int := if as then (ref : Int) - 19000000000 else (ref : Int)

/-- Convert a kept arm's reference time at the first entry to LOCKED (R456). -/
def State.convertArm (s : State) : State :=
  match s.boot.toConvert with
  | none => s
  | some r =>
    let due := r - s.tbOfs
    let t := if due < s.modNs then s.modNs else due.toNat
    let s := { s with boot := { s.boot with toConvert := none, updAt := t } }
    s.setPair F.GLB_UPD_TIME_LO_TIME F.GLB_UPD_TIME_HI_TIME t

/-- A qualified reference puts the timebase into LOCKED (R152). -/
def State.enterLocked (s : State) (as : Bool) (ref : Int) : State :=
  let e := ref - s.modNs - s.tbOfs
  let fresh := !s.fus.held || decide (1000000 < e.natAbs)
  let s := if fresh then
      ((s.setTbOfs (ref - s.modNs)).setFlag F.FUS_TB_STAT_OFSCHG true).raise 101 0
    else s.setFlag F.FUS_TB_STAT_SLEW (e != 0)
  let pe : Int := if fresh then 0 else e
  let s := { s with fus := { s.fus with
    held := true, lastEdge := s.modNs, bound := pe.natAbs + 50, captured := fresh, slewErr := pe
    slewEnd := if fresh then 0 else ((s.modNs : Int) + 20000 * e.natAbs + e).toNat } }
  let s := s.setFld F.FUS_TB_PHERR_PHERR (ofSigned 32 pe)
  let s := (s.setFld F.FUS_TB_STAT_SRCUSED (if as then 2 else 1)).setFld F.FUS_TB_STAT_STATE 2
  ((s.raise 100 0).showErrest).convertArm

/-- Does SRC let a reference in (R150)? -/
def State.srcAllows (s : State) (as : Bool) : Bool :=
  let k := s.fld F.FUS_TB_CFG_SRC
  k == 3 || (k == 2 && as) || (k == 1 && !as)

/-- Is the interval since the run's last edge 1 s ± 1 µs (R152)? -/
def EdgeRun.continues (r : EdgeRun) (now : Nat) : Bool :=
  r.count != 0 && decide (r.last + 999999000 ≤ now) && decide (now ≤ r.last + 1000001000)

/-- ±50 ppm in 10^-9 (R149). -/
def rateBound : Int := 50000

/-- The rate correction in force, 10^-9 (R149, R151, R152): 50 ppm while an error is slewed out, else the
learnt one. -/
def State.rateNow (s : State) : Int :=
  if s.flag F.FUS_TB_STAT_SLEW then (if 0 ≤ s.fus.slewErr then rateBound else -rateBound) else s.fus.rate

/-- Learn the rate from the phase error gained since the last edge (log entry 97); it stays within ±50 ppm
(R149). -/
def State.learnRate (s : State) (pe : Int) : State :=
  let ns := s.modNs - s.fus.lastEdge
  let gained := if ns = 0 then 0 else roundDivInt ((pe - s.pherr) * 1000000000) ns
  if s.flag F.FUS_TB_STAT_SLEW then s
  else { s with fus := { s.fus with rate := clampInt (-rateBound) rateBound (s.fus.rate + gained) } }

/-- The phase error that an edge leaves: on a GNSS reference the servo holds it within 50 ns but during a
slew (R153, log entry 97). -/
def State.heldError (s : State) (as : Bool) (pe : Int) : Int :=
  if as || s.flag F.FUS_TB_STAT_SLEW then pe else clampInt (-50) 50 pe

/-- TIMEBASE_REFERENCE_EDGE: an edge of the GNSS or the 802.1AS reference, with the reference time of
the whole second it marks, in ns (R152). A GNSS edge is one that the baseband has just generated (R209). -/
def opEdge (as : Bool) (ref : Nat) (s : State) : State :=
  let live := if as then s.flag F.FLT_PTP_STAT_VALID
    else s.flag F.GNS_STAT_TIMEVALID && s.gns.due == some (s.modNs, ref / 1000000000)
  if !s.srcAllows as || !live || ref % 1000000000 != 0 then s else
  let s := if as then s else { s with gns := { s.gns with due := none } }
  let r := gpsScale as ref
  if s.tbState = 2 then
    if (s.fld F.FUS_TB_STAT_SRCUSED == 2) != as then s else
    let raw := r - s.modNs - s.tbOfs
    let pe := s.heldError as raw
    let s := s.learnRate raw
    let s := { s with fus := { s.fus with lastEdge := s.modNs, bound := pe.natAbs + 50, captured := false } }
    (s.setFld F.FUS_TB_PHERR_PHERR (ofSigned 32 pe)).showErrest
  else
    let run := if as then s.fus.asRun else s.fus.gnssRun
    let good := run.continues s.modNs
    let fails := run.count != 0 && !good
    let run' : EdgeRun := ⟨if good then run.count + 1 else 1, s.modNs⟩
    let other := if as then s.fus.gnssRun else s.fus.asRun
    let s := if fails && s.tbState == 1 && s.fus.held && other.count == 0 then
        (s.setFld F.FUS_TB_STAT_STATE 3).raise 99 0 else s
    let s := { s with fus := if as then { s.fus with asRun := run' } else { s.fus with gnssRun := run' } }
    let s := (s.setFld F.FUS_TB_STAT_STATE 1).showErrest
    let gnssFirst := as && decide (3 ≤ s.fus.gnssRun.count) && decide (s.modNs ≤ s.fus.gnssRun.last + 1000001000)
    if run'.count < 4 || gnssFirst then s else s.enterLocked as r

def execTimebaseReferenceEdge (t : Nat) (as : Bool) (ref : Nat) (s : State) :
    Host.Outcome State Fault Refusal :=
  .next (opEdge as ref (s.tick t))

/-- TIMEBASE_HOLDOVER: no edge of the reference in use for 2.5 s, or no edge of a candidate within
1 s + 1 µs (R152, R154). -/
def opHoldover (s : State) : State :=
  if s.tbState = 2 then
    if s.modNs < s.fus.lastEdge + 2500000000 then s else s.loseReference
  else if s.tbState = 1 then
    let late := fun (r : EdgeRun) => r.count == 0 || decide (r.last + 1000001000 < s.modNs)
    if late s.fus.gnssRun && late s.fus.asRun then s.loseReference else s
  else s

def execTimebaseHoldover (t : Nat) (s : State) : Host.Outcome State Fault Refusal :=
  .next (opHoldover (s.tick t))

/-- TIMEBASE_SLEW_END: the error is slewed out at 50 ppm (R152). -/
def opSlewEnd (s : State) : State :=
  if s.flag F.FUS_TB_STAT_SLEW && decide (s.fus.slewEnd ≤ s.modNs) then
    { s with fus := { s.fus with slewErr := 0 } }.setFlag F.FUS_TB_STAT_SLEW false else s

def execTimebaseSlewEnd (t : Nat) (s : State) : Host.Outcome State Fault Refusal :=
  .next (opSlewEnd (s.tick t))

/-- FUS_TB_SRC_WRITE: the write is a loss of the reference in use (R155). -/
def opTbSrcWrite (v : Word) (s : State) : State :=
  let s := s.plainWrite R.FUS_TB_CFG v
  if s.tbState = 2 ∨ s.tbState = 1 then s.loseReference else s

def execFusTbSrcWrite (t : Nat) (v : Word) (s : State) : Host.Outcome State Fault Refusal :=
  .next (opTbSrcWrite v (s.tick t))

/-- FUS_TB_NOW_READ: reading LO latches HI (R175). -/
def opTbNowRead (hi : Bool) (s : State) : State :=
  if hi then { s with busData := s.reg R.FUS_TB_NOW_HI }
  else
    let s := s.setFld F.FUS_TB_NOW_HI_NOW (s.modNs / 2 ^ 32)
    { s with busData := BitVec.ofNat 32 s.modNs }

def execFusTbNowRead (t : Nat) (hi : Bool) (s : State) : Host.Outcome State Fault Refusal :=
  .next (opTbNowRead hi (s.tick t))

/-- The timebase applies an edge's picosecond correction when it comes within 900 ms (R153). -/
def State.correctEdge (s : State) (edgeNs : Nat) (qerrPs : Int) : State :=
  if s.tbState != 2 || s.fld F.FUS_TB_STAT_SRCUSED != 1 || s.fus.lastEdge != edgeNs
      || decide (edgeNs + 900000000 < s.modNs) then s else
  let c := - roundDivInt qerrPs 1000
  if s.fus.captured then s.setTbOfs (s.tbOfs + c)
  else
    let pe := s.heldError false (s.pherr + c)
    let s := { s with fus := { s.fus with bound := pe.natAbs + 50 } }
    (s.setFld F.FUS_TB_PHERR_PHERR (ofSigned 32 pe)).showErrest

/-! ### The fusion output ring (R173, R174) -/

def fusionRing : RingDesc :=
  ⟨R.FUS_OUT_BASE_LO, 64, 256, 4, some F.FUS_OUT_STAT_DROP, some F.FUS_OUT_STAT_PEND, 107, true⟩

/-- A record with its CRC in word 3, bits [127:96]; event 107 only once per tally period (R173, R174). -/
def State.fusionRecord (s : State) (w0 w1 w2 w3 : Nat) : State :=
  let body := leBytes 16 w0 ++ leBytes 16 w1 ++ leBytes 16 w2 ++ leBytes 12 w3
  s.ringPush fusionRing (body ++ leBytes 4 (crc32 body)) 0

/-! ### Calibration (R169 to R172) -/

/-- The refinement bound of a parameter; none where it is not refined (R169). -/
def calBound (p : Nat) : Option Nat :=
  if p < 128 then (if p % 8 < 3 then some 8727 else if p % 8 < 6 then some 20 else none)
  else if 131 ≤ p ∧ p ≤ 133 then some 8727 else if p = 134 then some 20000 else none

/-- Is a parameter listed in R169? -/
def calListed (p : Nat) : Bool := if p < 128 then p % 8 != 7 else decide (p ≤ 135)

/-- The base value as last published, the middle of the parameter's bounds (R170, R171). -/
def State.calHostOf (s : State) (p : Nat) : Int := toSigned 32 (spGet s.fus.calHost p)

/-- The listed indices from `lo` below `hi` that meet `f`, as a bit map. -/
def calMap (lo hi : Nat) (f : Nat → Bool) : Nat :=
  ((List.range (hi - lo)).map (fun i => if calListed (lo + i) && f (lo + i) then 2 ^ i else 0)).sum

/-- Publish the in-use values: version, record, event 104 (R172). -/
def State.publishCal (s : State) (refined : Bool) : State :=
  let changed := fun p => spGet s.fus.calUse p != spGet s.fus.calPub p
  let bound := fun p => s.fus.atBound.contains p
  let ver := (s.fld F.FUS_CAL_VER_VERSION + 1) % 2 ^ 32
  let w0 := place s.modNs 0 64 + place 3 64 8 + place (boolNat refined) 72 8 + place ver 96 32
  let w1 := place (calMap 0 32 changed) 0 32 + place (calMap 128 160 changed) 32 32
    + place (calMap 128 160 bound) 64 32
  let hi := calMap 32 128 changed
  let w2 := place hi 0 64 + place (calMap 0 64 bound) 64 64
  let w3 := place (hi / 2 ^ 64) 0 32 + place (calMap 64 128 bound) 32 64
  let s := s.setFld F.FUS_CAL_VER_VERSION ver
  let s := { s with fus := { s.fus with calPub := s.fus.calUse } }
  let s := if s.flag F.FUS_OUT_CTL_EN then s.fusionRecord w0 w1 w2 w3 else s
  s.raise 104 0

/-- One refined parameter: kept within base ± bound; at the bound it is reported once (R170). -/
def State.refineOne (s : State) (p : Nat) (est : Int) : State :=
  match calBound p with
  | none => s
  | some b =>
    let v := clampInt (s.calHostOf p - b) (s.calHostOf p + b) est
    let s := { s with fus := { s.fus with calUse := spSet s.fus.calUse p (ofSigned 32 v) } }
    if (v - s.calHostOf p).natAbs = b then
      let s := s.setFlag F.FUS_CAL_CTL_ATBOUND true
      if s.fus.atBound.contains p then s
      else { s with fus := { s.fus with atBound := p :: s.fus.atBound } }.raise 105 0
    else s

/-- Does some in-use value differ from the published one by a sixteenth of its bound (R170)? -/
def State.calDrifted (s : State) : Bool :=
  (List.range 136).any (fun p => match calBound p with
    | none => false
    | some b => decide (b ≤ 16 * (s.calUseOf p - toSigned 32 (spGet s.fus.calPub p)).natAbs))

/-- Ground speed above 1 m/s: lane 0 is in units of 0.5 mm/s (R158). -/
def State.rolling (s : State) : Bool := decide (2000 < (s.fus.ego.getD 0 0).natAbs)

/-- CAL_REFINE, every 10 s: the estimates of the bounded parameters (R170). -/
def opCalRefine (est : List (Nat × Int)) (s : State) : State :=
  if !s.flag F.FUS_CAL_CTL_REFINE || !s.atWhole (10 * psPerS) || !s.rolling || decide (s.gns.fix < 2) then s
  else
    let s := est.foldl (fun s p => s.refineOne p.1 p.2) s
    if s.calDrifted then s.publishCal true else s

def execCalRefine (t : Nat) (est : List (Nat × Int)) (s : State) : Host.Outcome State Fault Refusal :=
  .next (opCalRefine est (s.tick t))

def State.netSt (s : State) (k : Nat) : NetSt := spGet s.fus.net k
def State.modNet (s : State) (k : Nat) (f : NetSt → NetSt) : State :=
  { s with fus := { s.fus with net := spMod s.fus.net k f } }

/-- Note a reset cause of every network (R167). -/
def State.allNetsCause (s : State) (c : Nat) : State :=
  (List.range 16).foldl (fun s k => s.modNet k (fun n =>
    { n with causes := if n.causes.contains c then n.causes else c :: n.causes })) s

/-- FUS_CAL_PUBLISH: a write to FUS_CAL_CTL with PUBLISH = 1 (R171, R172). -/
def opCalPublish (v : Word) (s : State) : State :=
  let s := s.plainWrite R.FUS_CAL_CTL v
  if !v.getLsbD 0 then s else
  let s := { s with fus := { s.fus with calUse := s.fus.calBase, calHost := s.fus.calBase, atBound := [] } }
  (s.publishCal false).allNetsCause 3

def execFusCalPublish (t : Nat) (v : Word) (s : State) : Host.Outcome State Fault Refusal :=
  .next (opCalPublish (v ||| 1#32) (s.tick t))

/-- A write to FUS_CAL_VAL sets a listed parameter's base value while BASE = 1 (R169, R171). -/
def opCalValWrite (v : Word) (s : State) : State :=
  let p := s.fld F.FUS_CAL_SEL_PARAM
  if !s.flag F.FUS_CAL_SEL_BASE || !calListed p then s
  else { s with fus := { s.fus with calBase := spSet s.fus.calBase p v.toNat } }.imageChanged true

/-- What FUS_CAL_VAL reads. -/
def State.calVal (s : State) : Nat :=
  let p := s.fld F.FUS_CAL_SEL_PARAM
  if !calListed p then 0 else if s.flag F.FUS_CAL_SEL_BASE then s.calBase p else spGet s.fus.calUse p

/-! ### Ego-motion and pose (R158 to R161) -/

/-- One millisecond of a complementary filter with a 2 s time constant: `rate` in µrad/s, the angle that the
accelerations show in µrad, the filter's angle in 10^-9 rad (R158, log entry 96). -/
def complementary (angle rate acc : Int) : Int := roundDivInt (2000 * (angle + rate) + 1000 * acc) 2001

/-- Pitch and roll on their Q15 scale: +1.0 is 0.5 rad (R158). -/
def tiltLane (angle : Int) : Int := sat16 (roundDivInt (angle * 65536) 1000000000)

/-- EGO_MOTION_SAMPLE, every whole millisecond: the counts of the eight encoders and which of them report a
fault, what the inertial sensor gives, and whether all its samples are valid and present (R156, R158,
R159). -/
def opEgo (enc : List Int) (encBad : Byte) (imu : Inertial) (imuOk : Bool) (s : State) : State :=
  if !s.flag F.FUS_EGO_CFG_EN || !s.atWhole psPerMs then s else
  let l := s.fld F.FUS_EGO_CFG_ENC_L
  let r := s.fld F.FUS_EGO_CFG_ENC_R
  let encOk := !encBad.getLsbD l && !encBad.getLsbD r
  let s := (s.setFlag F.FUS_EGO_STAT_ENC_OK encOk).setFlag F.FUS_EGO_STAT_IMU_OK imuOk
  let ok := encOk && imuOk
  let s := if ok then
      let nm := (enc.getD l 0 + enc.getD r 0) * s.fld F.FUS_EGO_SCALE_NM * (1000000 + s.calUseOf 134)
      let pitch := complementary s.fus.pitch imu.pitchRate imu.pitch
      let roll := complementary s.fus.roll imu.rollRate imu.roll
      let lanes := [sat16 (roundDivInt nm (2 * 1000000 * 500)),
        sat16 (roundDivInt ((imu.yaw1 + imu.yaw2) * 32768) 2000000), tiltLane pitch, tiltLane roll]
      { s with fus := { s.fus with ego := lanes, egoBad := 0, pitch := pitch, roll := roll } }.setFlag
        F.FUS_EGO_STAT_VALID true
    else
      let first := s.fus.egoBad = 0
      let s := s.setFlag F.FUS_EGO_STAT_VALID false
      if first then { s with fus := { s.fus with egoBad := s.modNs + 1 } }.raise 106 0
      else if s.fus.egoBad + 100000000 < s.modNs + 1 then s.allNetsCause 5 else s
  s.emit (s.fld F.FUS_EGO_CFG_TILE) (s.fld F.FUS_EGO_CFG_ROUTE) s.modMs 0 true true
    [outFlit s.fus.ego (if ok then 15 else 0) false false s.modMs 0]

def execEgoMotionSample (t : Nat) (enc : List Int) (encBad : Byte) (yaw1 yaw2 : Int) (pitch roll : Tilt)
    (imuValid imuAll : Bool) (s : State) : Host.Outcome State Fault Refusal :=
  .next (opEgo enc encBad ⟨yaw1, yaw2, pitch.rate, roll.rate, pitch.angle, roll.angle⟩ (imuValid && imuAll) (s.tick t))

/-- SLIP_UPDATE, every second: wheel speed less GNSS speed over GNSS speed, through a 10 s filter (R160, log
entry 96). -/
def opSlip (s : State) : State :=
  if !s.atWhole psPerS || decide (s.gns.fix < 2) || decide (s.gns.speed ≤ 1000)
      || !s.flag F.FUS_EGO_STAT_VALID then s
  else
    let wheel := s.fus.ego.getD 0 0
    let now := roundDivInt ((wheel - 2 * (s.gns.speed : Int)) * 1000000) (2 * s.gns.speed)
    let slip := s.fus.slip + roundDivInt (now - s.fus.slip) 10
    { s with fus := { s.fus with slip := slip } }.setFld F.FUS_EGO_STAT_SLIP
      (ofSigned 16 (sat16 (roundDivInt slip 1000)))

def execSlipUpdate (t : Nat) (_ : Unit) (s : State) : Host.Outcome State Fault Refusal :=
  .next (opSlip (s.tick t))

/-- POSE_PROPAGATE, every whole millisecond: the pose moves on, and the motion is kept for the yield cells
and the fusion steps (R48, R161, R163). -/
def opPose (s : State) : State :=
  if !s.atWhole psPerMs then s else
  let s := { s with fus := { s.fus with pose := s.propagated } }
  { s with fus := { s.fus with hist := (s.motion :: s.fus.hist).take 8000 } }

def execPosePropagate (t : Nat) (_ : Unit) (s : State) : Host.Outcome State Fault Refusal :=
  .next (opPose (s.tick t))

/-- POSE_RECORD, every 10 ms with POSE = 1 (R161, R174). -/
def opPoseRecord (s : State) : State :=
  if !s.atWhole (10 * psPerMs) || !s.flag F.FUS_OUT_CTL_POSE || !s.flag F.FUS_OUT_CTL_EN then s else
  let p := s.fus.pose
  let cut := s.cutterBar p
  let speed := ((s.fus.ego.getD 0 0) / 2).toNat
  let yaw := roundDivInt (s.fus.ego.getD 1 0 * 1000) 32768
  let w0 := place s.modNs 0 64 + place 1 64 8 + place s.gns.fix 72 8 + place s.solAge 80 16
    + place (s.fld F.FUS_CAL_VER_VERSION) 96 32
  let w1 := place (ofSigned 32 (roundDivInt p.lat 10000)) 0 32 + place (ofSigned 32 (roundDivInt p.lon 10000)) 32 32
    + place (ofSigned 32 p.height) 64 32 + place (p.heading / 10000000) 96 16 + place speed 112 16
  let w2 := place (ofSigned 32 (roundDivInt cut.lat 10000)) 0 32 + place (ofSigned 32 (roundDivInt cut.lon 10000)) 32 32
    + place (s.fld F.FUS_EGO_STAT_SLIP) 64 16 + place (ofSigned 16 yaw) 80 16
  s.fusionRecord w0 w1 w2 0

def execPoseRecord (t : Nat) (s : State) : Host.Outcome State Fault Refusal :=
  .next (opPoseRecord (s.tick t))

/-! ### Networks (R162 to R168) -/

def portsOf (mask : Nat) : List Nat := (List.range 16).filter (fun n => bitOf mask n)

/-- Is a write that sets EN refused (R162)? `mask` and `fcst` are those of the write. -/
def State.netRejects (s : State) (k mask : Nat) (fcst : Bool) : Bool :=
  let ps := portsOf mask
  let same := fun p q => s.fld (F.FUS_TRG_CFG_PERIOD_US p) == s.fld (F.FUS_TRG_CFG_PERIOD_US q)
    && s.fld (F.FUS_TRG_PH_PHASE p) == s.fld (F.FUS_TRG_PH_PHASE q)
  ps.any (fun p => !s.flag (F.FUS_TRG_CFG_EN p) || ps.any (fun q => !same p q))
    || s.fld F.FUS_CAL_VER_VERSION == 0
    || (fcst && (List.range 16).any (fun j => j != k && s.flag (F.FUS_NET_CFG_EN j) && s.flag (F.FUS_NET_CFG_FCST j)))
    || decide (128 < s.fld (F.FUS_NET_TILES_FIRST k) + s.fld (F.FUS_NET_TILES_COUNT k))

def State.addCause (s : State) (k c : Nat) : State :=
  s.modNet k (fun n => { n with causes := if n.causes.contains c then n.causes else c :: n.causes })

/-- A write to FUS_NET_CFG[k] (R162, R167). An excluded write of EN = 1 has no effect but REJ. Cause 1 stands
for EN going from 0 to 1 (log entry 98). -/
def opNetCfgWrite (k : Nat) (v : Word) (s : State) : State :=
  if v.getLsbD 16 && s.netRejects k (bitsOf v.toNat 0 16) (v.getLsbD 17) then
    s.setFlag (F.FUS_NET_CFG_REJ k) true
  else
    let was := s.flag (F.FUS_NET_CFG_EN k)
    let s := s.plainWrite (R.FUS_NET_CFG k) v
    let s := if v.getLsbD 22 then s.addCause k 7 else s
    if !v.getLsbD 16 then s.modNet k (fun n => { n with steps := [] })
    else if was then s else s.addCause k 1

/-- FUS_NET_ENABLE: a write that sets EN to 1. -/
def execFusNetEnable (t : Nat) (k : Fin 16) (v : Word) (s : State) : Host.Outcome State Fault Refusal :=
  .next (opNetCfgWrite k.val (v ||| 0x10000#32) (s.tick t))

/-- FUS_NET_RST: a write with RST = 1 (R167). -/
def execFusNetRst (t : Nat) (k : Fin 16) (v : Word) (s : State) : Host.Outcome State Fault Refusal :=
  .next (opNetCfgWrite k.val (v ||| 0x400000#32) (s.tick t))

/-- Each network that takes port n begins a step at the trigger instant (R163). -/
def State.beginSteps (s : State) (n k : Nat) : State :=
  (List.range 16).foldl (fun s q =>
    if s.flag (F.FUS_NET_CFG_EN q) && bitOf (s.fld (F.FUS_NET_CFG_CAMMASK q)) n
        && !((s.netSt q).steps.any (fun x => x.at_ == s.modNs)) then
      s.modNet q (fun x => { x with
        steps := x.steps ++ [⟨s.modNs, k, 0, false, 0, false, false, s.fld F.FUS_CAL_VER_VERSION, []⟩] })
    else s) s

/-- A port's frame of trigger instant T has arrived at a tile (R163, R191): it counts for the step of T
of every network that takes the port and has the tile in its range, or late when the step has started. -/
def State.frameArrived (s : State) (n atNs tile : Nat) : State :=
  (List.range 16).foldl (fun s q =>
    let first := s.fld (F.FUS_NET_TILES_FIRST q)
    if !s.flag (F.FUS_NET_CFG_EN q) || !bitOf (s.fld (F.FUS_NET_CFG_CAMMASK q)) n
        || decide (tile < first) || decide (first + s.fld (F.FUS_NET_TILES_COUNT q) ≤ tile) then s else
    match (s.netSt q).steps.find? (fun x => x.at_ == atNs) with
    | some x =>
      if bitOf x.arrived n then s
      else if x.started then s.bump (F.FUS_NET_STAT_LATEFRM q)
      else s.modNet q (fun y => { y with
        steps := updateFirst (fun z => z.at_ == atNs) (fun z => { z with arrived := z.arrived + 2 ^ n }) y.steps })
    | none => s.bump (F.FUS_NET_STAT_LATEFRM q)) s

/-- MAXGAP, where 0 is treated as 1 (R175). -/
def State.maxGap (s : State) (k : Nat) : Nat := max 1 (s.fld (F.FUS_NET_CFG_MAXGAP k))

/-- The reset causes in force at the start of a step (R167), lowest first. Cause 6 waits for the first
step after the return to FIELD or SERVICE. -/
def State.resetCauses (s : State) (k : Nat) (eccHit : Bool) : List Nat :=
  let n := s.netSt k
  let missed := decide (s.maxGap k ≤ n.missed)
    || (match n.lastDone with | some d => decide (d + 1000000000 < s.modNs) | none => false)
  [1, 2, 3, 4, 5, 6, 7, 8].filter (fun c =>
    if c = 4 then missed || n.causes.contains 4
    else if c = 6 then n.causes.contains 6 && s.mode.harvests
    else if c = 8 then eccHit || n.causes.contains 8 else n.causes.contains c)

/-- The oldest step of network k that has not started, if it may: every frame has arrived, or ASM has passed
(R163). -/
def State.readyStep (s : State) (k : Nat) : Option FusionStep :=
  match (s.netSt k).steps.find? (fun x => !x.started) with
  | none => none
  | some x =>
    let all := (portsOf (s.fld (F.FUS_NET_CFG_CAMMASK k))).all (fun p => bitOf x.arrived p)
    if s.flag (F.FUS_NET_CFG_EN k) && (all || decide (x.at_ + s.fld (F.FUS_NET_TIM_ASM k) * 100000 ≤ s.modNs))
    then some x else none

/-- The deadline of a step of network k, ns (R163). -/
def State.stepDeadline (s : State) (k : Nat) (x : FusionStep) : Nat := x.at_ + s.fld (F.FUS_NET_TIM_DL k) * 100000

/-- Do two networks share a tile (R162)? -/
def State.netsShare (s : State) (a b : Nat) : Bool :=
  let first := fun k => s.fld (F.FUS_NET_TILES_FIRST k)
  let past := fun k => s.fld (F.FUS_NET_TILES_FIRST k) + s.fld (F.FUS_NET_TILES_COUNT k)
  decide (first a < past b) && decide (first b < past a)

/-- Does a step with an earlier deadline that may start go first on a shared tile (R162)? Of equal deadlines
the lower network goes first (log entry 98). -/
def State.stepWaits (s : State) (k : Nat) (x : FusionStep) : Bool :=
  (List.range 16).any (fun q => q != k && s.netsShare k q && (match s.readyStep q with
    | some y => decide (s.stepDeadline q y < s.stepDeadline k x)
        || (s.stepDeadline q y == s.stepDeadline k x && decide (q < k))
    | none => false))

/-- The committed recurrent state (R164). -/
def NetSt.committed (n : NetSt) : List Byte := if n.buffer then n.state1 else n.state0

/-- The recurrent state is set to zero, every track ID ends (R167, R168). -/
def NetSt.zeroed (n : NetSt) : NetSt :=
  let zero := n.committed.map (fun _ => (0 : Byte))
  { n with
    ids := [], tracks := [], resets := n.resets + 1, missed := 0, lastDone := none
    state0 := if n.buffer then n.state0 else zero, state1 := if n.buffer then zero else n.state1 }

/-- The motion that a step reads for each frame present: interpolated to the trigger instant plus the
camera's latency (R157, R163 step 3). -/
def State.stepViews (s : State) (x : FusionStep) (ports : List Nat) : List (Nat × Motion) :=
  ports.map (fun p => (p, s.motionBetween (((x.at_ : Int) + 1000 * s.calUseOf (8 * p + 6)).toNat)))

/-- FUSION_STEP_START: network k starts its oldest assembled step. `bad` are the frames in which a poisoned
word is found, by port, `ecc` the errors in the read of the recurrent state (R58, R163, R167). -/
def opStepStart (k : Nat) (bad : List (Nat × BrickError)) (ecc : List BrickError) (s : State) : State :=
  match s.readyStep k with
  | none => s
  | some x =>
    if s.stepWaits k x then s else
    let mask := s.fld (F.FUS_NET_CFG_CAMMASK k)
    let s := s.eccErrors (bad.map (fun p => p.2) ++ ecc)
    let ports := (portsOf mask).filter (fun p => bitOf x.arrived p && !bad.any (fun q => q.1 == p))
    let present := (ports.map (fun p => 2 ^ p)).sum
    let gap := decide (present ≠ mask)
    let causes := s.resetCauses k (!ecc.isEmpty)
    let started := { x with
      started := true, present := present, gap := gap, wasReset := !causes.isEmpty, views := s.stepViews x ports }
    let s := s.modNet k (fun n => { n with
      causes := if causes.contains 6 || s.mode.harvests then [] else n.causes.filter (fun c => c == 6)
      steps := updateFirst (fun y => !y.started) (fun _ => started) n.steps })
    let s := if gap then s.bump (F.FUS_NET_STAT_GAPS k) else s
    match causes with
    | [] => s
    | c :: _ =>
      let s := s.modNet k NetSt.zeroed
      let s := (s.setFld (F.FUS_NET_STAT_LASTRST k) c).bump (F.FUS_NET_STAT_RESETS k)
      s.raise 103 (k + 16 * c)

def execFusionStepStart (t : Nat) (k : Fin 16) (bad : List (Nat × BrickError)) (ecc : List BrickError) (s : State) :
    Host.Outcome State Fault Refusal :=
  .next (opStepStart k.val bad ecc (s.tick t))

/-- One track that a completed step reports: its slot keeps, gains or loses its ID (R168). -/
def State.trackNote (s : State) (k : Nat) (o : TrackOut) : State :=
  let ids := (s.netSt k).ids
  if o.conf < s.fld F.FUS_OUT_CTL_MINCONF then
    s.modNet k (fun n => { n with ids := spSet ids o.slot 0, tracks := spSet n.tracks o.slot default })
  else
    let s := s.modNet k (fun n => { n with tracks := spSet n.tracks o.slot o })
    if spGet ids o.slot ≠ 0 then s
    else { s with fus := { s.fus with nextTrack := s.fus.nextTrack + 1 } }.modNet k
      (fun n => { n with ids := spSet ids o.slot (s.fus.nextTrack + 1) })

/-- The track record of a slot that holds an ID (R174); `was` are the IDs before the step. A slot that the
step does not report keeps what it last reported (log entry 98). -/
def State.trackRecord (s : State) (k : Nat) (x : FusionStep) (was : Sparse Nat) (slot id : Nat) : State :=
  let o := spGet (s.netSt k).tracks slot
  let flags := boolNat x.gap + 2 * boolNat x.wasReset + 4 * boolNat (spGet was slot == 0)
  let w0 := place x.at_ 0 64 + place 2 64 8 + place o.kind 72 8 + place flags 80 16 + place (id - 1) 96 32
  let w1 := place (ofSigned 32 o.x) 0 32 + place (ofSigned 32 o.y) 32 32 + place o.extX 64 16
    + place o.extY 80 16 + place (ofSigned 16 o.speed) 96 16 + place o.conf 112 16
  s.fusionRecord w0 w1 (place x.k 0 32 + place k 32 4) 0

/-- The tank camera's outputs of a completed step of network k, taken once per second; a step of the same
network that yields none leaves no estimate (R39, R40, log entry 99). -/
def State.tankTaken (s : State) (k : Nat) (v : Option (Nat × Nat × Nat)) : State :=
  let sec := s.modTime / psPerS + 1
  if s.crop.tankAt = sec || (v.isNone && s.crop.tankNet != k + 1) then s
  else { s with crop := { s.crop with tank := v, tankAt := sec, tankNet := k + 1 } }

/-- The lanes of a completed step's flit: those of R165, or, of the network that yields the tank camera's
outputs, those outputs as R40 lets loops bind them, the kernel mass on a scale of 100 mg (log entry 99). -/
def State.stepLanes (s : State) (k : Nat) (o : StepOut) : List Int × Nat :=
  if s.crop.tankNet = k + 1 then
    match s.crop.tank with
    | some (b, m, w) => ([min 32767 b, min 32767 m, min 32767 (w * 32768 / 100000), 0], 7)
    | none => ([0, 0, 0, 0], 0)
  else (o.lanes, o.valid)

/-- FUSION_STEP_COMPLETE: the oldest step, once started, completes before its deadline, exchanges the state
buffers and publishes (R163 to R168, R40). -/
def opStepComplete (k : Nat) (o : StepOut) (s : State) : State :=
  match (s.netSt k).steps with
  | [] => s
  | x :: rest =>
    if !x.started || decide (s.stepDeadline k x ≤ s.modNs) then s else
    let was := (s.netSt k).ids
    let s := s.modNet k (fun n => { n with
      steps := rest, missed := 0, lastDone := some s.modNs, abandonEp := false, buffer := !n.buffer
      state0 := if n.buffer then o.state else n.state0, state1 := if n.buffer then n.state1 else o.state
      done := ((s.modNs, x.k, x.gap, x.calver, n.resets) :: n.done).take 16 })
    let s := s.tankTaken k o.tank
    let s := if s.flag (F.FUS_NET_TILES_GEN k) then
        let (lanes, valid) := s.stepLanes k o
        s.emit (s.fld (F.FUS_NET_TILES_FIRST k)) (s.fld (F.FUS_NET_TILES_GROUTE k)) x.k 0 true true
          [outFlit lanes valid false false x.k 0]
      else s
    let s := o.tracks.foldl (fun s y => s.trackNote k y) s
    if !s.flag F.FUS_OUT_CTL_TRK || !s.flag F.FUS_OUT_CTL_EN then s
    else (s.netSt k).ids.foldl (fun s p => s.trackRecord k x was p.1 p.2) s

def execFusionStepComplete (t : Nat) (k : Fin 16) (out : StepOut) (s : State) :
    Host.Outcome State Fault Refusal :=
  .next (opStepComplete k.val out (s.tick t))

/-- FUSION_STEP_ABANDON: the oldest step of network k is not complete at T + DL × 100 µs (R163). -/
def opStepAbandon (k : Nat) (s : State) : State :=
  let n := s.netSt k
  match n.steps with
  | [] => s
  | x :: rest =>
    if s.modNs < s.stepDeadline k x then s else
    let s := s.modNet k (fun n => { n with steps := rest, missed := n.missed + 1, abandonEp := true })
    let s := s.bump (F.FUS_NET_STAT_ABANDONED k)
    if n.abandonEp then s else s.raise 102 k

def execFusionStepAbandon (t : Nat) (k : Fin 16) (s : State) : Host.Outcome State Fault Refusal :=
  .next (opStepAbandon k.val (s.tick t))

end Sys2Proof.Machine
end

