-- ==== Sys2Proof/Machine/Camera.lean ====
section
/-!
DEFINITION. Machine/Camera.lean: trigger generators (R156, R157), camera ports, the image pipeline,
taps and statistics (R177 to R199).
-/

namespace Sys2Proof.Machine

def State.port (s : State) (n : Nat) : PortSt := spGet s.cam.port n
def State.setPort (s : State) (n : Nat) (x : PortSt) : State :=
  { s with cam := { s.cam with port := spSet s.cam.port n x } }
def State.modPort (s : State) (n : Nat) (f : PortSt → PortSt) : State := s.setPort n (f (s.port n))

/-- The modes in which the pipeline runs (R183). -/
def Mode.images (m : Mode) : Bool := m == .field || m == .road || m == .service

def State.camWidth (s : State) (n : Nat) : Nat := s.fld (F.CAM_PORT_FMT_WIDTH n)
def State.camHeight (s : State) (n : Nat) : Nat := s.fld (F.CAM_PORT_FMT_HEIGHT n)

/-- Size and deadline of a frame, as its Frame Start latched them (R193). -/
def CamFrame.width (f : CamFrame) : Nat := bitsOf f.fmt 0 14
def CamFrame.height (f : CamFrame) : Nat := bitsOf f.fmt 16 14
/-- The deadline, ps of module time (R192). -/
def CamFrame.deadline (f : CamFrame) : Nat := f.at_ * 1000 + bitsOf f.tim 0 16 * 100 * psPerUs
/-- The deadline has come; it wins in its own mortar cycle (R197). -/
def CamFrame.overdue (f : CamFrame) (m : Nat) : Bool := decide (f.deadline / mortarCycle ≤ m / mortarCycle)

/-! ### Pipeline stages (R187 to R189) -/

/-- Class of a photosite: 0 red, 1 green or clear, 2 blue, 3 infrared (R188). -/
def mosaicClass (mosaic x y : Nat) : Nat :=
  match mosaic with
  | 3 => 1
  | 2 =>
    match y % 4, x % 4 with
    | 0, 0 => 2 | 0, 2 => 0 | 2, 0 => 0 | 2, 2 => 2
    | 0, _ => 1 | 2, _ => 1
    | _, 1 => 3 | _, 3 => 3 | _, _ => 1
  | _ => if x % 2 = 0 ∧ y % 2 = 0 then 0 else if x % 2 = 1 ∧ y % 2 = 1 then 2 else 1

/-- Mirror an index at the frame's borders: the border photosite is not repeated. -/
def mirror (n : Nat) (i : Int) : Nat :=
  if i < 0 then (-i).toNat else if (n : Int) ≤ i then (2 * ((n : Int) - 1) - i).toNat else i.toNat

/-- An image in work: size, mosaic with its offset, the setting words, and the photosites. -/
structure ImageIn where
  w : Nat
  h : Nat
  mosaic : Nat
  mpx : Nat
  mpy : Nat
  set : List Nat
  lines : List (List Nat)

def ImageIn.cls (m : ImageIn) (x y : Nat) : Nat := mosaicClass m.mosaic (x + m.mpx) (y + m.mpy)

/-- The offsets of the 5 × 5 neighbourhood by rising distance. -/
def ringOffsets : List (Nat × List (Int × Int)) :=
  [1, 2, 4, 5, 8].map (fun d => (d,
    ([-2, -1, 0, 1, 2] : List Int).flatMap (fun dy => ([-2, -1, 0, 1, 2] : List Int).filterMap (fun dx =>
      if (dx * dx + dy * dy).toNat = d then some (dx, dy) else none))))

/-- The photosite of an offset, mirrored at the borders. -/
def ImageIn.atOff (m : ImageIn) (x y : Nat) (o : Int × Int) : Nat × Nat :=
  (mirror m.w (x + o.1), mirror m.h (y + o.2))

/-- Receive stage: the photosite on the 16-bit scale. -/
def ImageIn.p0 (m : ImageIn) (x y : Nat) : Nat := (m.lines.getD y []).getD x 0

/-- Black level of a class (R187). -/
def ImageIn.black (m : ImageIn) (c : Nat) : Nat := bitsOf (m.set.getD (c / 2) 0) (16 * (c % 2)) 16

def ImageIn.lessBlack (m : ImageIn) (x y : Nat) : Nat := m.p0 x y - m.black (m.cls x y)

/-- Black-level stage with defect correction (R187). -/
def ImageIn.p1 (m : ImageIn) (x y : Nat) : Nat :=
  let v := m.lessBlack x y
  let thr := bitsOf (m.set.getD 2 0) 0 16
  if thr = 0 then v else
  let c := m.cls x y
  let near := ((ringOffsets.flatMap (fun r => r.2.map (m.atOff x y))).filter (fun p => m.cls p.1 p.2 == c)).take 4
  let vs := near.map (fun p => m.lessBlack p.1 p.2)
  if vs.all (fun u => decide (u + thr < v)) || vs.all (fun u => decide (v + thr < u)) then
    let q := vs.mergeSort (fun a b => decide (a ≤ b))
    (q.getD 1 0 + q.getD 2 0) / 2
  else v

/-- Lane c of reconstruction (R188). -/
def ImageIn.p2 (m : ImageIn) (x y c : Nat) : Nat :=
  if m.cls x y = c then m.p1 x y else
  match ringOffsets.find? (fun r => r.2.any (fun o =>
      let p := m.atOff x y o
      m.cls p.1 p.2 == c)) with
  | none => 0
  | some r =>
    let ps := (r.2.map (m.atOff x y)).filter (fun p => m.cls p.1 p.2 == c)
    (ps.map (fun p => m.p1 p.1 p.2)).sum / max 1 ps.length

/-- Coefficient M[r][c] (R189). -/
def ImageIn.coef (m : ImageIn) (r c : Nat) : Int :=
  toSigned 16 (bitsOf (m.set.getD (5 + 2 * r + c / 2) 0) (16 * (c % 2)) 16)

/-- Row r of the colour matrix (R189): 0 R', 1 G', 2 B', 3 Y. -/
def ImageIn.p3 (m : ImageIn) (x y r : Nat) : Nat :=
  let csh := bitsOf (m.set.getD 2 0) 16 2
  let sum := ((List.range 4).map (fun c => m.coef r c * m.p2 x y c)).sum
  (clampInt 0 65535 (Int.fdiv (sum * 2 ^ csh) 32768)).toNat

/-- The image of a frame. -/
def CamFrame.image (f : CamFrame) : ImageIn :=
  { w := f.width, h := f.height, mosaic := bitsOf f.cfg 14 2, mpx := bitsOf f.cfg 16 2, mpy := bitsOf f.cfg 18 2
    set := f.settings, lines := f.lines }

/-! ### The input buffers (R184) -/

/-- Share what capacity is left among the ports with a backlog, round by round. -/
def shareOut : Nat → Nat → List Nat → List Nat
  | 0, _, l => l
  | n + 1, left, l =>
    let k := (l.filter (fun x => x != 0)).length
    let q := left / max 1 k
    if k = 0 ∨ q = 0 then l
    else shareOut n (left - (l.map (min q)).sum) (l.map (fun x => x - q))

/-- Serve the input buffers up to now, `w` photosites having come in at port n since: every port at its
guaranteed rate, ports with a backlog in turn at what is left of 3.84 Gpixel/s. DESIGN CHOICE (log entry
103): the capacity flows evenly over the time since the last packet, whichever line comes first. -/
def State.serveCams (s : State) (n w : Nat) : State :=
  let dt := s.modNs - s.cam.servedAt
  let want := (List.range 16).map (fun i => (s.port i).fill + (if i = n then w else 0))
  let base := dt * (if s.flag F.CAM_GLB_CFG_WIDE then 24 else 96) / 100
  let left := dt * 384 / 100 - (want.map (min base)).sum
  let fills := shareOut 16 left (want.map (fun x => x - base))
  let s := fills.zipIdx.foldl (fun s p => s.modPort p.2 (fun x => { x with fill := p.1 })) s
  { s with cam := { s.cam with servedAt := s.modNs } }

/-- Lines of a frame that have been through the pipeline: the newest photosites wait. -/
def PortSt.ready (p : PortSt) (f : CamFrame) : Nat :=
  let later := ((p.frames.filter (fun g => decide (f.at_ < g.at_))).map (fun g => (g.lines.map List.length).sum)).sum
  f.lines.length - (p.fill - later + f.width - 1) / max 1 f.width

/-! ### Taps (R190 to R192) -/

/-- The setting word of tap A or B. -/
def CamFrame.tapWord (f : CamFrame) (b : Bool) : Nat := f.settings.getD (if b then 4 else 3) 0
def CamFrame.tapOn (f : CamFrame) (b : Bool) : Bool := bitOf (f.tapWord b) 3
def CamFrame.tapRoute (f : CamFrame) (b : Bool) : Nat := bitsOf (f.tapWord b) 4 12
def CamFrame.tapPoint (f : CamFrame) (b : Bool) : Nat := bitsOf (f.tapWord b) 0 2
def CamFrame.sent (f : CamFrame) (b : Bool) : Nat := if b then f.sentB else f.sentA
def CamFrame.begun (f : CamFrame) (b : Bool) : Bool := if b then f.begunB else f.begunA
def CamFrame.carried (f : CamFrame) (b : Bool) : Nat := if b then f.linesB else f.linesA
def CamFrame.done (f : CamFrame) (b : Bool) : Bool := if b then f.doneB else f.doneA
def CamFrame.cause (f : CamFrame) (b : Bool) : Nat := if b then f.causeB else f.causeA

/-- Lanes per pixel (R190). -/
def CamFrame.lanes (f : CamFrame) (b : Bool) : Nat :=
  if f.tapPoint b < 2 then 1 else if f.tapPoint b = 3 && bitOf (f.tapWord b) 2 then 1 else 4

/-- LB: bytes of a line, padded to 16 (R190). -/
def lineBytes (w lanes : Nat) : Nat := (2 * w * lanes + 15) / 16 * 16

/-- The lane values of line y at the tap's point. -/
def tapLine (m : ImageIn) (f : CamFrame) (b : Bool) (y : Nat) : List Nat :=
  (List.range m.w).flatMap (fun x =>
    match f.tapPoint b with
    | 0 => [m.p0 x y]
    | 1 => [m.p1 x y]
    | 2 => (List.range 4).map (m.p2 x y)
    | _ => if f.lanes b = 1 then [m.p3 x y 3] else (List.range 4).map (m.p3 x y))

/-- Flits of eight lanes each. -/
def flitsOf : Nat → List Nat → List Flit
  | 0, _ => []
  | n + 1, l => BitVec.ofNat 128 (((l.take 8).zipIdx.map (fun p => place p.1 (16 * p.2) 16)).sum) :: flitsOf n (l.drop 8)

/-- Cut a list into pieces of `k`. -/
def pieces {α : Type} (k : Nat) : Nat → List α → List (List α)
  | 0, _ => []
  | n + 1, l => if l.isEmpty then [] else l.take k :: pieces k n (l.drop k)

/-- Is the tap's route usable (R190)? By the entry that would carry the packet, else the active one. -/
def State.tapUsable (s : State) (n r : Nat) (sof : Bool) : Bool :=
  let e := match (s.route r).carrier (130 + n) sof with
    | some p => p.1
    | none => (s.route r).active
  e.cls == 5 && e.dsts.all (fun d => decide (d < 128))

/-- A route that is not usable: TAPERR and event 120. -/
def State.tapError (s : State) (n : Nat) (b : Bool) : State :=
  (s.setFlag (F.CAM_PORT_TAP_TAPERR n (boolNat b)) true).raise 120 n

def CamFrame.setTap (f : CamFrame) (b : Bool) (sent : Nat) (done : Bool) (cause : Nat) : CamFrame :=
  if b then { f with sentB := sent, doneB := done, causeB := cause }
  else { f with sentA := sent, doneA := done, causeA := cause }

/-- A tap has emitted: it has begun the frame, and one more line was carried when `line` says so. -/
def CamFrame.note (f : CamFrame) (b line : Bool) : CamFrame :=
  if b then { f with begunB := true, linesB := f.linesB + boolNat line }
  else { f with begunA := true, linesA := f.linesA + boolNat line }

def State.setFrame (s : State) (n : Nat) (f : CamFrame) : State :=
  s.modPort n (fun p => { p with frames := updateFirst (fun x => x.f == f.f && x.at_ == f.at_) (fun _ => f) p.frames })

/-- A frame of which nothing is left to do leaves the pipeline. -/
def CamFrame.finished (f : CamFrame) : Bool :=
  f.closed && f.doneA && f.doneB && (f.statsDone || f.damage != 0)

def State.dropFinished (s : State) (n : Nat) : State :=
  s.modPort n (fun p => { p with frames := p.frames.filter (fun f => !f.finished) })

/-- The status packet of one tap (R191). -/
def State.tapStatus (s : State) (n : Nat) (f : CamFrame) (b : Bool) : State :=
  if f.done b then s else
  let cause := if f.cause b != 0 then f.cause b else f.damage
  let s := s.setFrame n (f.setTap b (f.sent b) true (f.cause b))
  if !f.tapOn b then s else
  let sof := !f.begun b
  let s := s.atEmission (130 + n) (f.tapRoute b) f.f sof
  if !s.tapUsable n (f.tapRoute b) sof then s.tapError n b else
  let lat := min 4095 ((s.modNs - f.at_) / 100000)
  let pay := place f.at_ 0 64 + place f.f 64 32 + place (f.carried b) 96 14 + place cause 110 4
    + place (f.tapPoint b) 114 2 + place lat 116 12
  s.emit (130 + n) (f.tapRoute b) f.f (2 ^ 64 - 1) sof true [BitVec.ofNat 128 pay]

/-- Both taps close a frame. -/
def State.tapsClose (s : State) (n : Nat) (f : CamFrame) : State :=
  let s := s.tapStatus n f false
  let f' := { f with doneA := true }
  s.tapStatus n f' true

/-- A dropped frame is counted once per port, and event 117 raised once per episode (R192). -/
def State.noteDrop (s : State) (n : Nat) (f : CamFrame) : State :=
  let s := if f.counted then s else (s.setFrame n { f with counted := true }).bump (F.CAM_PORT_CNT_DROPPED n)
  if (s.port n).dropEp then s else (s.modPort n (fun p => { p with dropEp := true })).raise 117 n

/-- One tap drops the remainder of a frame (R192). -/
def State.tapDrop (s : State) (n : Nat) (f : CamFrame) (b : Bool) (cause : Nat) : State :=
  if f.done b || !f.tapOn b then s else
  let f' := { f.setTap b (f.sent b) false cause with counted := true }
  ((s.noteDrop n f).setFrame n f').tapStatus n f' b

/-- Look a frame up again after a change. -/
def State.frameAt (s : State) (n : Nat) (f : CamFrame) : CamFrame :=
  ((s.port n).frames.find? (fun x => x.f == f.f && x.at_ == f.at_)).getD f

/-- Cause 3: both taps drop the remainder, the frame has no statistics (R194), and what waits in the input
buffer goes. -/
def State.dropBoth (s : State) (n : Nat) (f : CamFrame) : State :=
  let f' := { f with statsDone := true }
  let s := (s.setFrame n f').noteDrop n f'
  let s := s.tapDrop n (s.frameAt n f') false 3
  let s := s.tapDrop n (s.frameAt n f') true 3
  s.modPort n (fun p => { p with fill := 0 })

/-- The open frame of a port. -/
def PortSt.open_ (p : PortSt) : Option CamFrame := p.frames.find? (fun f => !f.closed)

/-- Damage the open frame (R186). -/
def State.camDamage (s : State) (n cause : Nat) : State :=
  match (s.port n).open_ with
  | none => s
  | some f =>
    let f' := { f with damage := cause, closed := true }
    let s := (s.setFrame n f').bump (F.CAM_PORT_CNT_DAMAGED n)
    let s := s.setFld (F.CAM_PORT_LAST_F n) f.f
    let s := if (s.port n).damageEp then s else (s.modPort n (fun p => { p with damageEp := true })).raise 114 n
    (s.tapsClose n f').dropFinished n

/-- Show the enabled ports in ACTIVE. -/
def State.showActive (s : State) : State :=
  s.setFld F.CAM_GLB_STAT_ACTIVE
    (((List.range 16).map (fun n => if s.flag (F.CAM_PORT_CFG_EN n) then 2 ^ n else 0)).sum)

/-- Disable a port: an open frame closes with cause 9 (R186). -/
def State.portOff (s : State) (n : Nat) : State :=
  let s := (s.camDamage n 9).setFlag (F.CAM_PORT_CFG_EN n) false
  (s.modPort n (fun p => { p with orphan := false })).showActive

/-- The mode leaves FIELD, ROAD and SERVICE (R197). -/
def State.camModeLeft (s : State) : State := (List.range 16).foldl (fun s n => s.portOff n) s

/-! ### Triggers (R156, R157, R179) -/

/-- PERIOD and PHASE of a generator, ns; PHASE modulo the period. -/
def State.trgPeriod (s : State) (n : Nat) : Nat := max 1 (s.fld (F.FUS_TRG_CFG_PERIOD_US n)) * 1000
def State.trgPhase (s : State) (n : Nat) : Nat := (s.fld (F.FUS_TRG_PH_PHASE n) * 10) % s.trgPeriod n

/-- Does generator n fire at the present instant (R157)? -/
def State.trgFires (s : State) (n : Nat) : Bool :=
  s.flag (F.FUS_TRG_CFG_EN n) && s.atWhole 1000 && decide (s.trgPhase n ≤ s.modNs)
    && (s.modNs - s.trgPhase n) % s.trgPeriod n == 0 && decide (spGet s.fus.trgFrom n ≤ s.modNs)

/-- CAMERA_TRIGGER: generator n fires at an instant of its grid (R157, R186 cause 7). A port whose link is
up sends its pulse, and a frame may open for the instant (R179, R181). -/
def opTrigger (n : Nat) (s : State) : State :=
  if !s.trgFires n then s else
  let k := (s.modNs - s.trgPhase n) / s.trgPeriod n
  let s := s.camDamage n 7
  let s := if s.flag (F.CAM_PORT_STAT_LINK n) then
      s.modPort n (fun x => { x with
        trigs := (s.modNs, k) :: x.trigs.filter (fun q => decide (s.modNs < q.1 + 26000000))
        pulse := some (s.modNs, s.modNs + max 1 (s.fld (F.CAM_PORT_TIM_TPW n)) * 1000) })
    else s
  s.beginSteps n k

def execCameraTrigger (t : Nat) (n : Fin 16) (s : State) : Host.Outcome State Fault Refusal :=
  .next (opTrigger n.val (s.tick t))

/-- FUS_TRG_WRITE: a write to FUS_TRG_CFG[n] or FUS_TRG_PH[n]; excluded while EN = 1 (R157). -/
def opTrgWrite (n : Nat) (phase : Bool) (v : Word) (s : State) : State :=
  if s.flag (F.FUS_TRG_CFG_EN n) then s.setFlag ⟨R.FUS_TRG_STAT, n, 1⟩ true
  else if phase then s.plainWrite (R.FUS_TRG_PH n) v
  else
    let s := s.plainWrite (R.FUS_TRG_CFG n) v
    let s := s.setFld (F.FUS_TRG_CFG_PERIOD_US n) (clampNat 1000 1000000 (s.fld (F.FUS_TRG_CFG_PERIOD_US n)))
    if v.getLsbD 31 then { s with fus := { s.fus with trgFrom := spSet s.fus.trgFrom n (s.modNs + 1000000) } } else s

def execFusTrgWrite (t : Nat) (n : Fin 16) (phase : Bool) (v : Word) (s : State) :
    Host.Outcome State Fault Refusal :=
  .next (opTrgWrite n.val phase v (s.tick t))

/-! ### Port configuration (R180 to R183, R193) -/

/-- CAM_WIDE_WRITE (R182). EN of the statistics ring, which has no effect before, takes effect with WIDE
(R196; log entry 104). -/
def opWideWrite (v : Word) (s : State) : State :=
  if (List.range 16).any (fun n => s.flag (F.CAM_PORT_CFG_EN n)) then s.setFlag F.CAM_GLB_STAT_WIDEREJ true
  else
    let was := s.flag F.CAM_GLB_CFG_WIDE
    let s := s.plainWrite R.CAM_GLB_CFG v
    if !was && v.getLsbD 0 && s.flag F.CAM_ST_CTL_EN then s.ringSample R.CAM_ST_BASE_LO 6 else s

def execCamWideWrite (t : Nat) (v : Word) (s : State) : Host.Outcome State Fault Refusal :=
  .next (opWideWrite v (s.tick t))

/-- Bits per photosite of a data type (R177). -/
def dtBits (dt : Nat) : Nat := if dt = 0x2A then 8 else if dt = 0x2B then 10 else if dt = 0x2C then 12
  else if dt = 0x2D then 14 else 16

/-- Gear rate in Mbit/s (R177). -/
def gearRate (g : Nat) : Nat := if g = 1 then 2000 else if g = 2 then 4000 else if g = 3 then 8000
  else if g = 4 then 12000 else 16000

/-- Is an enable with this configuration word refused (R183)? -/
def State.enableRefused (s : State) (n : Nat) (v : Word) : Bool :=
  let wide := s.flag F.CAM_GLB_CFG_WIDE
  let w := s.camWidth n
  let h := s.camHeight n
  let p := max 1 (s.fld (F.FUS_TRG_CFG_PERIOD_US n))
  let gear := bitsOf v.toNat 1 3
  let dt := bitsOf v.toNat 8 6
  (!wide && decide (4 ≤ n))
    || decide ((if wide then 240 else 960) < w * h / p)
    || decide (9 * gearRate gear * p < 10 * (w * h * dtBits dt))
    || decide (gear < 1) || decide (5 < gear) || decide (dt < 0x2A) || decide (0x2E < dt)
    || decide (w < 64) || decide (8192 < w) || w % 4 != 0 || decide (h < 16) || decide (8192 < h)
    || !s.mode.images

/-- A write to CAM_PORT_CFG[n] (R183, R193). -/
def opPortCfgWrite (n : Nat) (v : Word) (s : State) : State :=
  let off := R.CAM_PORT_CFG n
  if s.flag (F.CAM_PORT_CFG_EN n) then
    let s := if bitsOf v.toNat 1 19 != bitsOf (s.reg off).toNat 1 19 then
      s.setFlag (F.CAM_PORT_STAT_CFGREJ n) true else s
    if v.getLsbD 0 then s else s.portOff n
  else if v.getLsbD 0 && s.enableRefused n v then
    let s := s.plainWrite off (v &&& 0xFFFFFFFE#32)
    (s.setFlag (F.CAM_PORT_STAT_REFUSED n) true).raise 119 n
  else (s.plainWrite off v).showActive

/-- CAM_PORT_ENABLE: a write with EN = 1. -/
def execCamPortEnable (t : Nat) (n : Fin 16) (v : Word) (s : State) : Host.Outcome State Fault Refusal :=
  .next (opPortCfgWrite n.val (v ||| 1#32) (s.tick t))

/-- A write to CAM_PORT_FMT or CAM_PORT_TIM is excluded while EN = 1 (R193). -/
def opPortFixedWrite (n off : Nat) (v : Word) (s : State) : State :=
  if s.flag (F.CAM_PORT_CFG_EN n) then s.setFlag (F.CAM_PORT_STAT_CFGREJ n) true else s.plainWrite off v

/-- CAM_SETTING_WRITE: setting word i, at +0x0C + 4 i; it applies from the next Frame Start (R193). The word
before is kept for a Frame Start in the cycle of the write (R197). -/
def opSettingWrite (n i : Nat) (v : Word) (s : State) : State :=
  let off := R.CAM_PORT_BLK0 n + 4 * i
  let s := s.modPort n (fun p =>
    let now := p.held.filter (fun h => h.2.2 / mortarCycle == s.modTime / mortarCycle)
    { p with held := if now.any (fun h => h.1 == i) then now else (i, (s.reg off).toNat, s.modTime) :: now })
  s.plainWrite off v

/-- The setting words that a Frame Start at the present instant latches. -/
def State.latchSettings (s : State) (n : Nat) : List Nat :=
  (List.range 13).map (fun i =>
    match (s.port n).held.find? (fun h => h.1 == i && h.2.2 / mortarCycle == s.modTime / mortarCycle) with
    | some h => h.2.1
    | none => (s.reg (R.CAM_PORT_BLK0 n + 4 * i)).toNat)

def execCamSettingWrite (t : Nat) (n : Fin 16) (i : Fin 13) (v : Word) (s : State) :
    Host.Outcome State Fault Refusal :=
  .next (opSettingWrite n.val i.val v (s.tick t))

/-- CAM_I2C_START (R180). -/
def opI2cStart (n : Nat) (v : Word) (s : State) : State :=
  if s.flag (F.CAM_PORT_STAT_I2CBUSY n) then s.setFlag (F.CAM_PORT_STAT_CFGREJ n) true
  else (s.setFlag (F.CAM_PORT_STAT_I2CBUSY n) true).modPort n (fun p => { p with i2c := some v.toNat })

def execCamI2cStart (t : Nat) (n : Fin 16) (v : Word) (s : State) : Host.Outcome State Fault Refusal :=
  .next (opI2cStart n.val v (s.tick t))

/-- CAM_I2C_DONE: the transfer ends, acknowledged or not (R180). -/
def opI2cDone (n : Nat) (ack : Bool) (byte : Byte) (s : State) : State :=
  match (s.port n).i2c with
  | none => s
  | some w =>
    let s := (s.setFlag (F.CAM_PORT_STAT_I2CBUSY n) false).modPort n (fun p => { p with i2c := none })
    if !ack then s.setFlag (F.CAM_PORT_STAT_I2CNACK n) true
    else if bitOf w 7 then s.setFld (F.CAM_PORT_STAT_RDATA n) byte.toNat else s

def execCamI2cDone (t : Nat) (n : Fin 16) (ack : Bool) (byte : Byte) (s : State) :
    Host.Outcome State Fault Refusal :=
  .next (opI2cDone n.val ack byte (s.tick t))

/-- CAM_LINK_LOST (R181). -/
def opLinkLost (n : Nat) (s : State) : State :=
  if (s.port n).linkEp then s else
  let s := s.setFlag (F.CAM_PORT_STAT_LINK n) false
  let s := (s.modPort n (fun p => { p with linkEp := true, trigs := [] })).raise 112 n
  s.camDamage n 8

def execCamLinkLost (t : Nat) (n : Fin 16) (s : State) : Host.Outcome State Fault Refusal :=
  .next (opLinkLost n.val (s.tick t))

/-- CAM_LINK_RESTORED (R181). -/
def opLinkRestored (n : Nat) (s : State) : State :=
  if s.flag (F.CAM_PORT_STAT_LINK n) then s else
  let s := s.setFlag (F.CAM_PORT_STAT_LINK n) true
  (s.modPort n (fun p => { p with linkEp := false })).raise 113 n

def execCamLinkRestored (t : Nat) (n : Fin 16) (s : State) : Host.Outcome State Fault Refusal :=
  .next (opLinkRestored n.val (s.tick t))

/-! ### Frames (R185, R186) -/

/-- CSI_FRAME_START (R185). DEDUCED (log entry 105): where the windows of several triggers hold it, it
belongs to the newest, as in the 10 ns step of a trigger (R197). -/
def opFrameStart (n : Nat) (s : State) : State :=
  let p := s.port n
  if !s.flag (F.CAM_PORT_CFG_EN n) || !s.flag (F.CAM_PORT_STAT_LINK n) then s else
  let win := s.fld (F.CAM_PORT_TIM_FSWIN n) * 100000 + 9
  match (if p.open_.isNone && !p.orphan then p.trigs.find? (fun q => decide (s.modNs ≤ q.1 + win)) else none) with
  | some (T, k) =>
    let set := s.latchSettings n
    let on := fun i => bitOf (set.getD i 0) 3
    let f : CamFrame := { at_ := T, f := k % 2 ^ 32, cfg := (s.reg (R.CAM_PORT_CFG n)).toNat
                          fmt := (s.reg (R.CAM_PORT_FMT n)).toNat, tim := (s.reg (R.CAM_PORT_TIM n)).toNat
                          settings := set, lines := [], closed := false
                          damage := 0, begunA := false, begunB := false, linesA := 0, linesB := 0
                          sentA := 0, sentB := 0, doneA := !on 3, doneB := !on 4
                          causeA := 0, causeB := 0, counted := false, statsDone := false }
    s.setPort n { p with frames := p.frames ++ [f], trigs := p.trigs.filter (fun q => q.1 != T) }
  | none => ((s.setPort n { p with orphan := true }).bump (F.CAM_PORT_CNT_ORPHAN n)).raiseOnce 118 n n

def execCsiFrameStart (t : Nat) (n : Fin 16) (s : State) : Host.Outcome State Fault Refusal :=
  .next (opFrameStart n.val (s.tick t))

/-- The tap's 1 MiB output buffer has no room for the frame's next line: the lines in it, of every frame of
the port that the tap has not done with, and that one (R192). -/
def PortSt.tapFull (p : PortSt) (b : Bool) : Bool :=
  decide (2 ^ 20 < ((p.frames.filter (fun f => !f.done b)).map (fun f =>
    (f.lines.length + boolNat (!f.closed) - f.sent b) * lineBytes f.width (f.lanes b))).sum)

/-- CSI_LONG_PACKET: a long packet of virtual channel `vc` and data type `dt` with its photosites (R178, R184,
R186, R187, R192). Of causes that come together the lower code counts (R197). -/
def opLongPacket (n vc dt : Nat) (badHeader badCrc : Bool) (sites : List Nat) (s : State) : State :=
  let p := s.port n
  if !s.flag (F.CAM_PORT_CFG_EN n) then s
  else if !badHeader && (vc != s.fld (F.CAM_PORT_CFG_VC n) || dt != s.fld (F.CAM_PORT_CFG_DT n)) then
    s.bump (F.CAM_PORT_CNT_FOREIGN n)
  else if p.orphan then s else
  match p.open_ with
  | none => s
  | some f =>
    if f.statsDone then s
    else if badHeader then s.camDamage n 4
    else
    let s := s.serveCams n sites.length
    let p := s.port n
    let s := if p.tapFull false then s.tapDrop n f false 1 else s
    let f := s.frameAt n f
    let s := if p.tapFull true then s.tapDrop n f true 1 else s
    let f := s.frameAt n f
    if 2 ^ 20 < p.fill then s.dropBoth n f
    else if badCrc then s.camDamage n 5
    else if sites.length ≠ f.width ∨ f.height ≤ f.lines.length then s.camDamage n 6
    else
      let bits := dtBits dt
      s.setFrame n { f with lines := f.lines ++ [sites.map (fun v => (v % 2 ^ bits) * 2 ^ (16 - bits))] }

/-- A single-bit error of the header (`oneFlip`) is corrected and has no effect (R186). -/
def execCsiLongPacket (t : Nat) (n : Fin 16) (vc dt : Nat) (badHeader badCrc _oneFlip : Bool)
    (sites : List Nat) (s : State) : Host.Outcome State Fault Refusal :=
  .next (opLongPacket n.val vc dt badHeader badCrc sites (s.tick t))

/-- The last line of a closed frame has left a tap: its status packet follows (R191). -/
def State.tapMayClose (s : State) (n : Nat) (f : CamFrame) (b : Bool) : State :=
  if f.closed && decide (f.height ≤ f.sent b) then
    let s := s.tapStatus n f b
    let f := s.frameAt n f
    if f.doneA && f.doneB && f.causeA == 0 && f.causeB == 0 then s.modPort n (fun p => { p with dropEp := false })
    else s
  else s

/-- Lines that must be in before line y of the frame has its values at the tap's point (R187, R188): two
more for each stage that looks at neighbours. -/
def CamFrame.needs (f : CamFrame) (b : Bool) (y : Nat) : Nat :=
  let mono := bitsOf f.cfg 14 2 == 3
  let defects := f.tapPoint b != 0 && bitsOf (f.settings.getD 2 0) 0 16 != 0
  let below := (if defects then (if mono then 1 else 2) else 0) + (if decide (2 ≤ f.tapPoint b) && !mono then 2 else 0)
  min (y + 1 + below) f.height

/-- The flits of line y at the tap's point; free values while its lower neighbours have not arrived (log
entry 16). -/
def State.lineFlits (s : State) (f : CamFrame) (b : Bool) (y : Nat) : List Flit × State :=
  let k := lineBytes f.width (f.lanes b) / 16
  if decide (f.needs b y ≤ f.lines.length) then (flitsOf k (tapLine f.image f b y), s)
  else (List.range k).foldl (fun (a : List Flit × State) _ =>
    let (v, s) := a.2.drawFree 128
    (a.1 ++ [v], s)) ([], s)

/-- TAP_LINE_SEND: a tap hands its next line that has been through the pipeline to the mortar (R184, R190).
At the deadline the frame's remainder is dropped instead (R192, R197). -/
def opTapLine (n : Nat) (b : Bool) (s : State) : State :=
  let s := s.serveCams n 0
  match (s.port n).frames.find? (fun f => !f.done b) with
  | none => s
  | some f =>
    let y := f.sent b
    let r := f.tapRoute b
    let sof := !f.begun b
    if (s.port n).ready f ≤ y then s
    else if f.overdue s.modTime then (s.tapDrop n f b 2).dropFinished n
    else
      let s := s.atEmission (130 + n) r f.f sof
      if !s.tapUsable n r sof then
        let f' := f.setTap b (y + 1) false (f.cause b)
        (((s.setFrame n f').tapError n b).tapMayClose n f' b).dropFinished n
      else
        let (flits, s) := s.lineFlits f b y
        let (s, carried) := ((pieces 16 (flits.length + 1) flits).zipIdx).foldl (fun (a : State × Bool) p =>
          a.1.emitOn (130 + n) r f.f (y * lineBytes f.width (f.lanes b) + 256 * p.2) (sof && p.2 == 0) false p.1) (s, false)
        let f' := (f.setTap b (y + 1) false (f.cause b)).note b carried
        ((s.setFrame n f').tapMayClose n f' b).dropFinished n

def execTapLineSend (t : Nat) (n : Fin 16) (tapB : Bool) (s : State) : Host.Outcome State Fault Refusal :=
  .next (opTapLine n.val tapB (s.tick t))

/-- CSI_FRAME_END (R185, R186 causes 6 and 7). -/
def opFrameEnd (n : Nat) (s : State) : State :=
  let p := s.port n
  if p.orphan then s.setPort n { p with orphan := false } else
  match p.open_ with
  | none => s
  | some f =>
    if f.lines.length ≠ f.height && !f.statsDone then s.camDamage n 6
    else if s.trgFires n && decide (f.at_ < s.modNs) then s.camDamage n 7
    else
    let f' := { f with closed := true }
    let s := (s.setFrame n f').setFld (F.CAM_PORT_LAST_F n) f.f
    let s := s.modPort n (fun p => { p with damageEp := false })
    let s := s.tapMayClose n f' false
    let s := s.tapMayClose n (s.frameAt n f') true
    s.dropFinished n

def execCsiFrameEnd (t : Nat) (n : Fin 16) (s : State) : Host.Outcome State Fault Refusal :=
  .next (opFrameEnd n.val (s.tick t))

/-- A tap that has not sent a frame's last line at its deadline drops the remainder. -/
def State.tapLate (s : State) (n : Nat) (f : CamFrame) (b : Bool) : State :=
  if f.sent b < f.height then s.tapDrop n f b 2 else s

def State.frameLate (s : State) (n : Nat) (f : CamFrame) : State :=
  let s := s.tapLate n f false
  s.tapLate n (s.frameAt n f) true

/-- CAM_FRAME_DEADLINE: a frame's last data flit has not been handed over by T + DL × 100 µs (R192). -/
def opFrameDeadline (n : Nat) (s : State) : State :=
  let due := (s.port n).frames.filter (fun f => f.overdue s.modTime)
  (due.foldl (fun s f => s.frameLate n f) s).dropFinished n

def execCamFrameDeadline (t : Nat) (n : Fin 16) (s : State) : Host.Outcome State Fault Refusal :=
  .next (opFrameDeadline n.val (s.tick t))

/-! ### Statistics (R194 to R196) -/

/-- The statistics ring (R195). -/
def camRing : RingDesc :=
  ⟨R.CAM_ST_BASE_LO, 2112, 32, 5, some F.CAM_ST_STAT_DROP, some F.CAM_ST_STAT_PEND, 116, true⟩

def pixels (m : ImageIn) : List (Nat × Nat) :=
  (List.range m.h).flatMap (fun y => (List.range m.w).map (fun x => (x, y)))

/-- 256 bins of Y / 256. -/
def histogram (m : ImageIn) : List Nat :=
  let ys := (pixels m).map (fun p => m.p3 p.1 p.2 3 / 256)
  (List.range 256).map (fun b => ys.count b)

/-- Floored means of R', G', B' and Y of zone z. -/
def zoneMeans (m : ImageIn) (z : Nat) : List Nat :=
  let zw := m.w / 16
  let zh := m.h / 8
  let inZone := fun (p : Nat × Nat) => min 15 (p.1 / max 1 zw) == z % 16 && min 7 (p.2 / max 1 zh) == z / 16
  let ps := (pixels m).filter inZone
  (List.range 4).map (fun r => (ps.map (fun p => m.p3 p.1 p.2 r)).sum / max 1 ps.length)

/-- The statistics record (R195). -/
def statsBytes (m : ImageIn) (f : CamFrame) (n : Nat) : List Byte :=
  let cause := if f.tapOn false then f.causeA else f.causeB
  let body := leBytes 16 (place f.at_ 0 64 + place f.f 64 32 + place n 96 4 + place cause 100 4)
    ++ leBytes 16 (m.w * m.h)
    ++ (histogram m).flatMap (leBytes 4)
    ++ (List.range 128).flatMap (fun z => (zoneMeans m z).flatMap (leBytes 2))
    ++ List.replicate 28 0
  body ++ leBytes 4 (crc32 body)

/-- The compact bank of a port (R196). -/
def State.writeBank (s : State) (n : Nat) (m : ImageIn) : State :=
  let s := ((histogram m).zipIdx).foldl (fun s p => s.setFld (F.CAM_ST_HIST_COUNT n p.2) p.1) s
  let s := (List.range 128).foldl (fun s z =>
    let v := zoneMeans m z
    let s := (s.setFld (F.CAM_ST_ZONE_LO n (2 * z)) (v.getD 0 0)).setFld (F.CAM_ST_ZONE_HI n (2 * z)) (v.getD 1 0)
    (s.setFld (F.CAM_ST_ZONE_LO n (2 * z + 1)) (v.getD 2 0)).setFld (F.CAM_ST_ZONE_HI n (2 * z + 1)) (v.getD 3 0)) s
  s.setFld (F.CAM_ST_PIX_PIXELS n) (m.w * m.h)

/-- CAM_STATS_READY: the statistics of the oldest whole frame (R194 to R196). -/
def opStatsReady (n : Nat) (s : State) : State :=
  match (s.port n).frames.find? (fun f => f.closed && f.damage == 0 && !f.statsDone) with
  | none => s
  | some f =>
    let m := f.image
    let s := (s.setFrame n { f with statsDone := true }).dropFinished n
    if s.flag F.CAM_GLB_CFG_WIDE then
      if s.flag F.CAM_ST_CTL_EN then s.ringPush camRing (statsBytes m f n) 0 else s
    else if s.flag F.CAM_ST_CTL_HOLD && s.cam.holdAt / mortarCycle != s.modTime / mortarCycle then
      s.bump F.CAM_ST_STAT_DROP
    else if n < 4 then (s.writeBank n m).raise 115 n else s

def execCamStatsReady (t : Nat) (n : Fin 16) (s : State) : Host.Outcome State Fault Refusal :=
  .next (opStatsReady n.val (s.tick t))

end Sys2Proof.Machine
end

