-- ==== Sys2Proof/Machine/Admission.lean ====
section
/-!
DEFINITION. Machine/Admission.lean: admission of a loop slot (R116, R117, R145, R146) and its states
OFF, RUN, FAULTED and SAFE (R124 to R126).
-/

namespace Sys2Proof.Machine

/-! ### Record checks (REASON 3 and 6) -/

/-- The fields that R96 and R97 call zero: bits [23:21] of every binding, [14:12] of every OUTRT entry, and
the spare bits of words 6 and 7. -/
def spareZero (r : Record) : Bool :=
  (List.range 8).all (fun k => bitsOf (recBind r k) 21 3 == 0)
    && (List.range 4).all (fun j => bitsOf (r 6) (16 * j + 12) 3 == 0)
    && bitsOf (r 6) 67 61 == 0 && bitsOf (r 7) 32 96 == 0

/-- The fields of R95 to R97 within their ranges, and the further conditions of REASON 3 (R117). -/
def recordValid (r : Record) : Bool :=
  let p := recPeriod r
  let top := min (p * 1250 - 1) (2 ^ 24 - 1)
  let nin := recNin r
  let nout := recNout r
  decide (25 ≤ p) && decide (p ≤ 10000000)
    && decide (recSph r ≤ top) && decide (64 ≤ recOph r) && decide (recOph r ≤ top)
    && decide (recLaw r ≤ 3)
    && (recLaw r != 1 || (decide (1 ≤ recOrder r) && decide (recOrder r ≤ 4)))
    && (recLaw r != 2 || (decide (1 ≤ recOrder r) && decide (recOrder r ≤ 8)))
    && decide (1 ≤ recClass r) && decide (recClass r ≤ 3)
    && decide (1 ≤ nin) && decide (nin ≤ 8)
    && (if recLaw r = 2 then decide (1 ≤ nout) && decide (nout ≤ 4) else nout == 1)
    && decide (1 ≤ recOvrMax r) && recRoadMode r != 3
    && decide (recLead r ≤ 4) && (recLaw r != 3 || recTbln r != 0)
    && (recLaw r != 0 || decide (2 ≤ nin))
    && decide (recImin r ≤ recImax r)
    && (List.range nout).all (fun j => decide (recOutMin r j ≤ recOutMax r j))
    && !(recComp r && recLaw r == 3)
    && (!recComp r || decide (recCompIn r < nin)) && spareZero r
    && (List.range nin).all (fun k =>
        let b := recBind r k
        bindKind b != 0 && (bindKind b != 2 || (decide (bindStation b ≤ 3) && decide (bindLead b ≤ 10000))))

/-- The slot that a PRED 2 binding of slot g reads (R140): the named slot of the tile, or the enabled
slot that sources the route. -/
def State.predSource (s : State) (g b : Nat) : Option Nat :=
  if bindKind b = 3 then some (64 * (g / 64) + bindSlot b)
  else if bindKind b = 1 then
    let e := (s.route (bindRoute b)).active
    (s.enabledOn e.src).find? (fun h => outputsOn (s.record h) (bindRoute b))
  else none

/-- Conditions of R146 on a slot with SPEC = 1. A same-sample edge needs the source's output phase before the
reader's sample instant, so along such edges SPH rises by at least 64 cycles and no cycle can close. -/
def State.specValid (s : State) (g : Nat) : Bool :=
  let r := s.record g
  let ks := List.range (recNin r)
  let forecast := ks.any (fun k => bindKind (recBind r k) == 2)
  decide (1 ≤ recLead r) && (List.range 8).all (fun k => decide (recTol r k < 32768))
    && ks.all (fun k =>
      (match bindPred (recBind r k) with
        | 0 => true
        | 1 => forecast
        | 2 => recGroup r != 0 && (match s.predSource g (recBind r k) with
            | none => false
            | some h => s.lstate h != 0 && recSpec (s.record h) && recGroup (s.record h) == recGroup r
                && recPeriod (s.record h) == recPeriod r && recLead (s.record h) == recLead r)
        | _ => false))

/-! ### Timing (R116, R145) -/

/-- A sum of fractions as numerator and denominator. -/
def addFrac (x y : Nat × Nat) : Nat × Nat := (x.1 * y.2 + y.1 * x.2, x.2 * y.2)

/-- Σ E'_j / (PERIOD_US_j × 1,250) over records. -/
def utilisation (rs : List Record) : Nat × Nat :=
  rs.foldl (fun a r => addFrac a (admitCost r, max 1 (recPeriod r * 1250))) (0, 1)

/-- L_s over the other enabled records of the tile; `span` stands for OPH_s (R116, R145). -/
def loopBound (r : Record) (others : List Record) (span : Nat) : Nat :=
  admitCost r
    + ((others.filter (fun j => decide (recClass j ≤ recClass r))).map (fun j =>
        admitCost j * (1 + span / (recPeriod j * 1250)))).sum
    + ((others.filter (fun j => decide (recClass r < recClass j))).map admitCost).foldl max 0

/-- The span that enters the check of a slot. -/
def boundSpan (r : Record) : Nat := if recSpec r then recPeriod r * 1250 else recOph r

/-- The second condition of R116 for one slot of class 1 or 2. -/
def boundHolds (r : Record) (others : List Record) : Bool :=
  decide (3 ≤ recClass r) ||
    (if recSpec r then decide (loopBound r others (boundSpan r) ≤ recPeriod r * 1250) && decide (80 ≤ recOph r)
     else decide (loopBound r others (boundSpan r) + 8 ≤ recOph r))

/-- A list with each element beside the others. -/
def withOthers {α : Type} : List α → List α → List (α × List α)
  | _, [] => []
  | before, a :: rest => (a, before ++ rest) :: withOthers (before ++ [a]) rest

/-- SAFE causes of a slot (R125). -/
def State.safeStop (s : State) : Bool := s.flag F.GOO_STAT_SAFESTOP

def Mode.runsLoops (m : Mode) : Bool := m == .field || m == .road || m == .service

def State.safeCause (s : State) (r : Record) : Bool :=
  s.safeStop || !s.mode.runsLoops || (s.mode == .road && recRoadMode r == 1)

/-- The domain of tile t is set below 1,250 MHz, or is relocking to such a frequency (R90). -/
def State.slowTile (s : State) (t : Nat) : Bool := decide (s.fld (F.CLK_DOM_CFG_FREQ (slabOf t)) < 10000)

/-- The REASON of a refused ENABLE or REARM, 0 when it is admitted; conditions in the order
5, 4, 3, 6, 7, 2, 1 (R117). -/
def State.admitReason (s : State) (g : Nat) (rearm : Bool) : Nat :=
  let r := s.record g
  let others := ((s.enabledOn (g / 64)).filter (fun h => h != g)).map s.record
  let all := r :: others
  let u := utilisation all
  if !s.mode.runsLoops then 5
  else if s.lstate g ≠ (if rearm then 2 else 0) then 4
  else if !recordValid r then 3
  else if recSpec r && !s.specValid g then 6
  else if s.slowTile (g / 64) then 7
  else if 9 * u.2 < 10 * u.1 then 2
  else if (withOthers [] all).all (fun p => boundHolds p.1 p.2) then 0 else 1

/-- The bound L that CEN_ADM shows: 0 for class 3 (R128). -/
def State.admitBound (s : State) (g : Nat) : Nat :=
  let r := s.record g
  let others := ((s.enabledOn (g / 64)).filter (fun h => h != g)).map s.record
  if 3 ≤ recClass r then 0 else loopBound r others (boundSpan r)

/-- Show CEN_TILE_UTIL of a tile (R128). -/
def State.showUtil (s : State) (t : Nat) : State :=
  let gs := s.enabledOn t
  let u := utilisation (gs.map s.record)
  (s.setFld (F.CEN_TILE_UTIL_UTIL t) (1000 * u.1 / u.2)).setFld (F.CEN_TILE_UTIL_SLOTS t) gs.length

def State.setFaultBit (s : State) (g : Nat) (b : Bool) : State :=
  s.setFld ⟨R.CEN_FAULTMAP (g / 32), g % 32, 1⟩ (boolNat b)

/-! ### State changes -/

/-- OUT_LAST set to SAFE_OUT and VALID_LAST to 0; with `zero` also Y_PREV and POS_PREV (R124, R125). -/
def State.resetOut (s : State) (g : Nat) (zero : Bool) : State :=
  let r := s.record g
  let w := s.recWord g 16
  let outs := safeOuts r
  s.setRecWord g 16 (ofLanes (outs ++ [if zero then 0 else lane w 4, if zero then 0 else lane w 5, 0]))

def State.zeroLaw (s : State) (g : Nat) : State := (s.setRecWord g 17 0).setRecWord g 18 0

def State.clearConsec (s : State) (g : Nat) : State :=
  (s.setFld (F.CEN_LSTAT_CONSEC g) 0).setFlag (F.CEN_LSTAT_HOLD g) false

/-- The 10 µs after which a slot's first sample instant is evaluated (R124, R125). -/
def startDelay : Nat := 10 * psPerUs

/-- What an admitted ENABLE does (R125). The slot belongs to the context that enabled it (R118); LAST_N stays
(R99). -/
def State.enableSlot (s : State) (g c : Nat) : State :=
  let b := s.admitBound g
  let s := s.setFld (F.CEN_LSTAT_LSTATE g) (if s.safeCause (s.record g) then 3 else 1)
  let s := s.setFld (F.CEN_LSTAT_CTX g) c
  let s := if s.slotOwner g = c + 1 then s else s.holdSlot g c
  let s := (s.resetOut g false).clearConsec g
  let s := s.setFlag (F.CEN_LSTAT_INSTALE g) false
  let safe : LoopOut :=
    ⟨safeOuts (s.record g), List.replicate 4 false, false, true, 0⟩
  let s := s.modSlot g (fun x => { SlotSt.initial with
    last := some safe, prevOut := x.last, lastAt := x.lastAt, outCount := x.outCount
    swapAt := x.swapAt, swapWaiter := x.swapWaiter
    live := x.live, word98 := x.word98, lastSample := x.lastSample
    notBefore := s.modTime + startDelay, quietTo := s.modTime + startDelay, bound := b })
  s.showUtil (g / 64)

/-- What an admitted REARM does (R124). -/
def State.rearmSlot (s : State) (g : Nat) : State :=
  let b := s.admitBound g
  let s := s.setFld (F.CEN_LSTAT_LSTATE g) (if s.safeCause (s.record g) then 3 else 1)
  let s := ((s.resetOut g true).zeroLaw g).clearConsec g
  let s := s.setFaultBit g false
  let s := s.modSlot g (fun x => { x with
    notBefore := s.modTime + startDelay, quietTo := 0, bound := b, frames := []
    tagDropped := [], cum := [0, 0, 0, 0], returning := false, satPrev := false })
  s.showUtil (g / 64)

/-- The number of the first sample evaluated after an admission, modulo 2^32 (R237). -/
def State.firstSample (s : State) (g : Nat) : Nat :=
  firstSampleFrom (s.record g) (s.modTime + startDelay) % 2 ^ 32

end Sys2Proof.Machine
end

