-- ==== Sys2Proof/Machine/Spec.lean ====
section
/-!
DEFINITION. Machine/Spec.lean: what a loop input reads (R119 step 3), poisoned words a sample reads
(R122), speculative frames: prediction, drop, replay and their packets (R130 to R144).
-/

namespace Sys2Proof.Machine

/-- The tile cycle that holds an instant of module time (R90). -/
def cycleOf (ps : Nat) : Nat := ps / tileCycle

/-- A record given as its first words. -/
def wordsRecord (ws : List Nat) : Record := fun w => ws.getD w 0

/-- Guard of sample n of a record, module time (R92). -/
def guardInstant (r : Record) (n : Nat) : Nat := sampleInstant r n + (recOph r - 8) * tileCycle

/-! ### What an input reads at an instant (R119 step 3, R120) -/

/-- A value with its validity from an output flit: lane and VALID bit, and the sample number (R120). -/
def flitInput (f : Flit) (l : Nat) : LoopIn :=
  ⟨lane f.toNat l, bitOf f.toNat (64 + l), bitsOf f.toNat 80 32, []⟩

/-- The last value of a stream whose final flit was written before the present tile cycle, and how many
deliveries the tile has seen by then (R119, R127). -/
def State.streamInput (s : State) (tile r l : Nat) : LoopIn × Nat :=
  match spGet s.mor.streams (4096 * tile + r) with
  | none => (⟨0, false, 0, []⟩, 0)
  | some x =>
    let seen := decide (cycleOf x.at_ < cycleOf s.modTime)
    match (if seen then some x.flit else x.prev) with
    | some f => (flitInput f l, if seen then x.count else x.count - 1)
    | none => (⟨0, false, 0, []⟩, 0)

/-- Output j of a local slot's output register, as visible before the present tile cycle (R119). -/
def State.localInput (s : State) (h j : Nat) : LoopIn × Nat :=
  let x := s.slot h
  let seen := decide (cycleOf x.lastAt < cycleOf s.modTime) || x.prevOut.isNone
  match (if seen then x.last else x.prevOut) with
  | some o => (⟨o.vals.getD j 0, o.valids.getD j false, o.sample, []⟩, if seen then x.outCount else x.outCount - 1)
  | none => (⟨0, false, 0, []⟩, 0)

/-- The forecast readout for an instant (R44): held with confidence 0 while readouts hold (R45). -/
def State.forecastInput (s : State) (station lead at_ : Nat) (held : LoopIn) (count : Nat) : LoopIn × Nat :=
  if s.forecastHolds then ({ held with valid := false }, count) else
  match s.crop.frames with
  | [] => ({ held with valid := false }, count)
  | f :: _ =>
    let (v, c) := stationRead f station lead at_
    (⟨(v : Int), c != 0, 0, []⟩, f.k + 1)

/-- What binding k of slot g delivers for the sample instant `at_`. -/
def State.inputOf (s : State) (r : Record) (g k at_ : Nat) : LoopIn × Nat :=
  let b := recBind r k
  let x := s.slot g
  match bindKind b with
  | 1 => s.streamInput (g / 64) (bindRoute b) (bindLane b)
  | 2 => s.forecastInput (bindStation b) (bindLead b) at_ (x.lastIns.getD k default) (x.counts.getD k 0)
  | 3 => s.localInput (64 * (g / 64) + bindSlot b) (bindOut b)
  | _ => (⟨0, false, 0, []⟩, 0)

/-- One input as a latch would take it: value marked invalid while stale, the deliveries seen, the age,
and whether it is stale (R119, R121). -/
structure Latched where
  input : LoopIn
  count : Nat
  age : Nat
  stale : Bool

def State.latchOne (s : State) (r : Record) (g k at_ : Nat) : Latched :=
  let (v, c) := s.inputOf r g k at_
  let x := s.slot g
  let age := if c != x.counts.getD k 0 then 0 else x.ages.getD k 0 + 1
  let limit := bindAgeMax (recBind r k)
  let stale := decide (0 < limit) && decide (limit ≤ age)
  ⟨{ v with valid := v.valid && !stale }, c, age, stale⟩

/-! ### Poisoned words (R58, R122) -/

/-- A 16-byte word of a tile's bricks is poisoned. -/
def State.poisoned (s : State) (tile word : Nat) : Bool := spGet s.mor.poison (131072 * tile + word) != 0

def State.unpoison (s : State) (tile word : Nat) : State :=
  { s with mor := { s.mor with poison := spSet s.mor.poison (131072 * tile + word) 0 } }

/-- Index in a tile's bricks of word w of the record, and of word w of bank b, of slot g (R94, R110). -/
def recBrick (g w : Nat) : Nat := 15 * 8192 + 128 * (g % 64) + w
def bankBrick (g b w : Nat) : Nat := 14 * 8192 + 128 * (g % 64) + 64 * b + w

/-- The words of the active bank that a sample reads (R122). -/
def bankReads (r : Record) (ins : List LoopIn) : List Nat :=
  let n := recOrder r
  let law := match recLaw r with
    | 0 => [0]
    | 1 => List.range n
    | 2 => List.range n ++ (List.range n).map (· + 8)
        ++ (List.range (recNout r)).flatMap (fun j => [16 + j, 20 + j])
    | _ => (List.range (recTbln r / 4 + 1)).map (· + 32)
  let comp := if recComp r then
      let i := (inVal ins (recCompIn r) + 32768).toNat / 256
      let nx := if i = 255 then (if recRotary r then 0 else 255) else i + 1
      [30, 32 + i / 8, 32 + nx / 8]
    else []
  law ++ comp

/-- Reads of words already poisoned find their errors again (R58): `ws` are word indices of tile t. -/
def State.rereads (s : State) (t : Nat) (ws : List Nat) : State :=
  (ws.eraseDups.filter (fun w => s.poisoned t w)).foldl (fun s _ =>
    ((s.setFlag (F.TIL_STAT_ECCFAIL t) true).raise 52 t).henMake sevError 52 t) s

/-- The words that the evaluation of a sample on these inputs reads, beside words 0 to 7 of the record,
which the sample has read. `copy` is the working copy it starts from. -/
def State.evalWords (s : State) (g : Nat) (r : Record) (ins : List LoopIn) (copy : Option Nat) : List Nat :=
  let own := (List.range 16).map (· + 16)
    ++ (match copy with | some n => (List.range 16).map (· + 32 + 16 * (n % 4)) | none => [])
  own.map (recBrick g) ++ (bankReads r ins).map (bankBrick g (s.fld (F.CEN_LSTAT_BANK g)))

/-! ### Frames -/

def Frame.fresh (n : Nat) (replay : Bool) : Frame :=
  ⟨n, replay, !replay, none, false, false, [], [], default, none, false, false⟩

/-- The frame has been started, and not dropped; it may wait to be computed again (R86, R113). -/
def Frame.live (f : Frame) : Bool := f.startedAt.isSome || f.recompute

/-- The record that a frame for a sample at module time `at_` is computed on: the staged one when an
armed activation precedes the sample (R86). -/
def State.recordAt (s : State) (g at_ : Nat) : Record :=
  if s.flag F.MOR_ACT_STAT_ARMED && decide (s.tAct ≤ at_) then
    match spGet s.mor.staged (5 * (g / 64) + 2) with
    | some img => fun w => if w < 16 then leNat ((img.drop (256 * (g % 64) + 16 * w)).take 16) else s.recWord g w
    | none => s.record g
  else s.record g

/-- Is the law type, or the order of a law that uses it, the same (R86)? -/
def sameLaw (a b : Record) : Bool := recLaw a == recLaw b && recOrder a == recOrder b

/-- The sample of slot h that a PRED 2 binding of this kind reads for the instant `at_` (R140). -/
def sourceSample (r : Record) (kind at_ : Nat) : Option Nat :=
  let base := (recSph r + recOph r) * tileCycle
  let top := if kind = 1 then at_ + 1 - psPerUs else at_
  if !recTimed r || decide (top ≤ base) then none else some ((top - 1 - base) / recPeriodPs r)

/-- The prediction of one input: `none` when the frame must wait for a member's frame. -/
abbrev Prediction := Option LoopIn

/-- PRED 0: what the latch would take in the present cycle (R132). -/
def State.predictLast (s : State) (r : Record) (g k : Nat) : LoopIn := (s.latchOne r g k s.modTime).input

/-- Is slot h a member of the reader's speculation group (R140, R143)? -/
def State.sameGroup (s : State) (r : Record) (h : Nat) : Bool :=
  recGroup r != 0 && recSpec (s.record h) && recGroup (s.record h) == recGroup r

/-- PRED 2 (R140): the committed output, a member frame's output with its tag, or as for PRED 0. -/
def State.predictMember (s : State) (r : Record) (g k : Nat) (f : Frame) (at_ : Nat) : Prediction :=
  let b := recBind r k
  let plain : Prediction := some (s.predictLast r g k)
  match s.predSource g b with
  | none => plain
  | some h =>
    match sourceSample (s.record h) (bindKind b) at_ with
    | none => plain
    | some m =>
      let frame := if s.sameGroup r h then (s.slot h).frames.find? (fun q => q.sample == m) else none
      if bindKind b = 3 then
        if (s.slot h).lastSample == some m then
          let w := s.recWord h 16
          some ⟨lane w (bindOut b), bitOf w (96 + bindOut b), m, []⟩
        else match frame with
          | none => plain
          | some q =>
            if q.complete then some ⟨q.out.outs.getD (bindOut b) 0, q.out.valids.getD (bindOut b) false, m, [(h, m)]⟩
            else if q.released || f.replay then none else plain
      else
        let (v, _) := s.streamInput (g / 64) (bindRoute b) (bindLane b)
        if v.sample = m % 2 ^ 32 && (spGet s.mor.streams (4096 * (g / 64) + bindRoute b)).isSome then some { v with tags := [] }
        else match (if s.sameGroup r h then s.cen.spec.find? (fun p => p.1 == g / 64 && p.2.1 == h && p.2.2.1 == m % 2 ^ 32)
            else none) with
          | some p => some { p.2.2.2.getD (bindLane b) default with tags := [(h, m)] }
          | none => match frame with
            | none => plain
            | some q => if q.released || f.replay then none else plain

/-- The predicted value of input k for a frame (R132). -/
def State.predict (s : State) (r : Record) (g : Nat) (f : Frame) (k : Nat) : Prediction :=
  let at_ := sampleInstant r f.sample
  match bindPred (recBind r k) with
  | 1 =>
    match (List.range (recNin r)).find? (fun i => bindKind (recBind r i) == 2) with
    | some i => some (s.inputOf r g i at_).1
    | none => some (s.predictLast r g k)
  | 2 => s.predictMember r g k f at_
  | _ => some (s.predictLast r g k)

/-- All predictions of a frame, none while one of them must wait. -/
def State.predictAll (s : State) (r : Record) (g : Nat) (f : Frame) : Option (List LoopIn) :=
  (List.range (recNin r)).foldl (fun acc k => match acc, s.predict r g f k with
    | some l, some v => some (l ++ [v])
    | _, _ => none) (some [])

/-- A released frame can start: the frame before it is complete and no member frame must be awaited
(R131, R140). -/
def State.frameReady (s : State) (g : Nat) (f : Frame) : Bool :=
  let r := s.recordAt g (sampleInstant (s.record g) f.sample)
  f.released && f.startedAt.isNone
    && (match (s.slot g).frames.find? (fun q => q.sample + 1 == f.sample) with
        | some q => q.complete
        | none => true)
    && (s.predictAll r g f).isSome

/-! ### SPEC and DROP packets (R142) -/

/-- Does a member on tile t bind route r with PRED 2 to slot g? -/
def State.specReader (s : State) (t r g : Nat) : Bool :=
  (s.enabledOn t).any (fun q =>
    let e := s.record q
    recSpec e && (List.range (recNin e)).any (fun k =>
      let b := recBind e k
      bindKind b == 1 && bindRoute b == r && bindPred b == 2 && s.predSource q b == some g && s.sameGroup e g))

/-- The routes of slot g that carry its SPEC and DROP packets, with the destinations that read them. -/
def State.specRoutes (s : State) (g : Nat) : List (Nat × List Nat) :=
  let r := s.record g
  let routes := (((List.range 4).filter (recOutEn r)).map (recOutRoute r)).eraseDups
  (routes.map (fun x => (x, (s.route x).active.dsts.filter (fun d => decide (d < 128) && s.specReader d x g)))).filter
    (fun p => !p.2.isEmpty && (s.route p.1).active.en && (s.route p.1).active.src == g / 64)

/-- Send a SPEC or DROP packet of slot g on its routes to the tiles that read it. -/
def State.sendSpec (s : State) (g n : Nat) (flit : Flit) : State :=
  (s.specRoutes g).foldl (fun s p =>
    let x := s.route p.1
    s.sendOn p.1 x.active x.activeLinks p.2 (fun d =>
      ⟨d, g / 64, x.active.cls, false, false, 3, true, true, true, p.1, n % 65536, 0, [flit]⟩)) s

/-- VALID bits as a mask. -/
def maskOf (l : List Bool) : Nat := (l.zipIdx.map (fun p => if p.1 then 2 ^ p.2 else 0)).sum

def specFlit (g n : Nat) (o : EvalOut) : Flit := outFlit o.outs (maskOf o.valids) false false n g

def dropFlit (g n : Nat) : Flit :=
  BitVec.ofNat 128 (2 ^ 70 + place n 80 32 + place g 112 13)

/-! ### Dropping frames (R138) -/

/-- Put a pass on the latched inputs into the queue (R136). -/
def Sample.queuePass (x : Sample) (at_ : Nat) : Sample :=
  { x with eval := some ⟨true, at_, none, false, default⟩, awaits := false }

/-- The frame of sample n of slot g is dropped or discarded: DROP packets go out (R142). A reader does not
count it when a recomputation causes it (R139). -/
def State.sendDrop (s : State) (g n : Nat) (counted : Bool) : State :=
  let sent := ((s.specRoutes g).flatMap (fun p => p.2)).map (fun d => (d, g, n % 2 ^ 32, counted))
  let s := s.sendSpec g n (dropFlit g n)
  { s with cen := { s.cen with drops := s.cen.drops ++ sent } }

/-- Does the frame hold one of the tags? -/
def Frame.holds (f : Frame) (tags : List (Nat × Nat)) : Bool := f.startedAt.isSome && f.tags.any (fun x => tags.contains x)

/-- Drop the live frames of slot g for samples from `n0` on. A frame whose sample instant has passed is not
replayed; when it was confirmed, a correction pass joins the queue (R147). A sample whose frame held one of
the `tags` is noted when `counted`; `forget` drops without replay. -/
def State.dropFrom (s : State) (g n0 : Nat) (tags : List (Nat × Nat)) (forget counted : Bool) : State :=
  let x := s.slot g
  let hit := x.frames.filter (fun f => decide (n0 ≤ f.sample) && f.live)
  let isNow := fun n => x.samples.any (fun m => !m.guarded && m.n == n)
  let frames := x.frames.filterMap (fun f =>
    if f.sample < n0 then some f
    else if forget || isNow f.sample then none
    else if !f.live then some f
    else some (Frame.fresh f.sample true))
  let marked := if counted then (hit.filter (fun f => f.holds tags)).map (fun f => f.sample) else []
  let samples := x.samples.map (fun m =>
    if !m.guarded && hit.any (fun f => f.sample == m.n && f.confirmed) then m.queuePass s.modTime else m)
  let s := s.setSlot g { x with
    frames := frames, samples := samples, tagDropped := (x.tagDropped ++ marked).eraseDups }
  hit.foldl (fun s f => s.sendDrop g f.sample counted) s

/-- The tags of the live frames that cuts (slot, first sample) drop. -/
def State.cutTags (s : State) (cuts : List (Nat × Nat)) : List (Nat × Nat) :=
  cuts.flatMap (fun c => ((s.slot c.1).frames.filter (fun f => decide (c.2 ≤ f.sample) && f.live)).map (fun f => (c.1, f.sample)))

/-- The cuts that tags make on tile t beside those there are: a slot is cut at its first frame that holds one
(R138). -/
def State.tagCuts (s : State) (t : Nat) (tags cuts : List (Nat × Nat)) : List (Nat × Nat) :=
  let more := (s.enabledOn t).flatMap (fun g =>
    ((s.slot g).frames.filter (fun f => f.holds tags)).map (fun f => (g, f.sample)))
  let all := cuts ++ more
  ((all.map (fun c => c.1)).eraseDups).map (fun g =>
    (g, ((all.filter (fun c => c.1 == g)).map (fun c => c.2)).foldl min (2 ^ 64)))

/-- All cuts that follow from some tags and cuts, with all tags dropped: a tile has at most 5 frames in each of
its 64 slots, and every round that changes anything drops one more. -/
def dropClosure : Nat → State → Nat → List (Nat × Nat) → List (Nat × Nat) → List (Nat × Nat) × List (Nat × Nat)
  | 0, _, _, tags, cuts => (tags, cuts)
  | n + 1, s, t, tags, cuts =>
    let tags' := (tags ++ s.cutTags cuts).eraseDups
    let cuts' := s.tagCuts t tags' cuts
    if cuts' = cuts then (tags', cuts) else dropClosure n s t tags' cuts'

/-- Drop, on tile t, every frame that holds one of the tags, every later frame of its slot, and so on
through the tags of the frames dropped (R138); `cuts` are drops of frames of a slot to begin with, and the
slots of `gone` do not replay theirs. -/
def State.dropAll (s : State) (t : Nat) (tags cuts : List (Nat × Nat)) (gone : List Nat) (counted : Bool) : State :=
  let (tags, cuts) := dropClosure 330 s t tags cuts
  cuts.foldl (fun s c => s.dropFrom c.1 c.2 tags (gone.contains c.1) counted) s

/-- Drop the frames of slot g from sample n0 on, and every frame of its tile that holds a tag of them. -/
def State.dropFrames (s : State) (g n0 : Nat) (forget : Bool) : State :=
  s.dropAll (g / 64) [] [(g, n0)] (if forget then [g] else []) true

/-- Discard the frame of sample n alone, and every frame of the tile that holds its tag. -/
def State.discardFrame (s : State) (g n : Nat) : State :=
  let x := s.slot g
  match x.frames.find? (fun f => f.sample == n) with
  | none => s
  | some f =>
    let s := s.setSlot g { x with frames := x.frames.filter (fun q => q.sample != n) }
    if f.live then (s.sendDrop g n true).dropAll (g / 64) [(g, n)] [] [] true else s

/-- Discard the started frames of slot g for samples from instant `from_` on and compute them again
(R86, R113). Readers keep the value they hold until the recomputed output is known. -/
def State.recomputeFrames (s : State) (g from_ : Nat) : State :=
  let r := s.record g
  s.modSlot g (fun x => { x with frames := x.frames.map (fun f =>
    if f.startedAt.isSome && decide (from_ ≤ sampleInstant r f.sample) then
      { f with startedAt := none, complete := false, confirmed := false, recompute := true }
    else f) })

/-! ### Leaving RUN (R125 to R127) -/

/-- Abandon the evaluations of a slot and let every sample in progress put SAFE_OUT out. -/
def State.abandon (s : State) (g : Nat) : State :=
  let r := s.record g
  let safe : LoopOut := ⟨safeOuts r, List.replicate 4 false, false, true, 0⟩
  let s := s.modSlot g (fun x => { x with samples := x.samples.map (fun m =>
    { m with idle := true, eval := none, awaits := false, loaded := { safe with sample := m.n } }) })
  s.dropFrames g 0 true

/-- Entry to SAFE: CONSEC and HOLD clear (R125). -/
def State.enterSafe (s : State) (g : Nat) : State :=
  let s := (s.abandon g).clearConsec g
  (s.setFld (F.CEN_LSTAT_LSTATE g) 3).modSlot g (fun x => { x with returning := false })

/-- Bring one slot in line with its SAFE causes: RUN to SAFE when one holds; a SAFE slot starts to
return, at the first sample instant at least 10 µs on, when none does (R125). A slot that has become FAULTED
at the guard of this instant is SAFE, and event 64 is not raised (R127). -/
def State.settleSlot (s : State) (g : Nat) : State :=
  let cause := s.safeCause (s.record g)
  if s.lstate g = 1 && cause then s.enterSafe g
  else if s.lstate g = 2 && cause && (s.slot g).faultDue == some s.modTime then
    ((s.setFaultBit g false).modSlot g (fun x => { x with faultDue := none })).enterSafe g
  else if s.lstate g = 3 then
    s.modSlot g (fun x =>
      if cause then { x with returning := false }
      else if x.returning then x
      else { x with returning := true, notBefore := max x.notBefore (s.modTime + startDelay) })
  else s

/-- Safe stop, the mode or a record has changed: every enabled slot follows (R125, R126). -/
def State.settleSlots (s : State) : State := s.enabledSlots.foldl (fun s g => s.settleSlot g) s

end Sys2Proof.Machine
end

