-- ==== Sys2Proof/Machine/Sample.lean ====
section
/-!
DEFINITION. Machine/Sample.lean: the happenings of a loop sample (R114, R115, R119 to R123, R134 to
R142). Every one of them names its slot; it has its effect at the instant the rules fix for it.
-/

namespace Sys2Proof.Machine

/-! ### Samples in progress -/

/-- Replace the sample that began at instant `at_`. -/
def State.setSample (s : State) (g : Nat) (m : Sample) : State :=
  s.modSlot g (fun x => { x with samples := x.samples.map (fun y => if y.at_ = m.at_ then m else y) })

def Sample.guardAt (m : Sample) : Nat := m.at_ + (recOph (wordsRecord m.words) - 8) * tileCycle
def Sample.outAt (m : Sample) : Nat := m.at_ + recOph (wordsRecord m.words) * tileCycle

/-- A sample that evaluates nothing and puts SAFE_OUT out. -/
def Sample.safe (n at_ : Nat) (r : Record) : Sample :=
  { n := n, at_ := at_, words := (List.range 8).map r, idle := true, guarded := false, inputs := []
    poisoned := false, eval := none, awaits := false, disagreed := false
    loaded := ⟨safeOuts r, List.replicate 4 false, false, true, n⟩ }

/-- Advance the running counters of word 98: OVR, MISP, CORR, SAT (16 bits), SAMPLES (32 bits). -/
def bumpLive (l : List Nat) (i : Nat) : List Nat :=
  l.modify i (fun v => satBits (if i = 4 then 32 else 16) (v + 1))
def bumpCum (l : List Nat) (i : Nat) : List Nat := l.modify i (fun v => satBits 32 (v + 1))

/-! ### LOOP_SAMPLE_INSTANT (R119 steps 1 to 4) -/

/-- Complete the operation (c, tag), if it is in flight. -/
def State.finishWaiter (s : State) (w : Option (Nat × Nat)) (code detail result : Nat) : State :=
  match w with
  | none => s
  | some (c, tag) => match s.findOp c tag with
    | some o => s.finish o code detail result
    | none => s

/-- The bank exchange of R111, of a request made in an earlier tile cycle (R127). -/
def State.exchangeBanks (s : State) (g n : Nat) : State :=
  let x := s.slot g
  if !s.flag (F.CEN_LSTAT_SWPEND g) || decide (cycleOf s.modTime ≤ cycleOf x.swapAt) then s else
  let s := s.setFld (F.CEN_LSTAT_BANK g) (1 - s.fld (F.CEN_LSTAT_BANK g))
  let s := s.setFlag (F.CEN_LSTAT_SWPEND g) false
  let s := s.recomputeFrames g s.modTime
  let s := (s.modSlot g (fun y => { y with swapWaiter := none })).storeBanks
  s.finishWaiter x.swapWaiter codeDone 0 (n % 2 ^ 32)

/-- Latch every bound input: values, ages, stale episodes (R119 step 3, R121). -/
def State.latch (s : State) (g : Nat) (r : Record) : State :=
  let ls := (List.range (recNin r)).map (fun k => s.latchOne r g k s.modTime)
  let x := s.slot g
  let put := fun {α : Type} (old : List α) (new : List α) => new ++ old.drop new.length
  let began := (ls.zipIdx.filter (fun p => p.1.stale && !x.staleEp.getD p.2 false)).length
  let stales := (ls.filter (fun l => l.stale)).length
  let s := s.setSlot g { x with
    lastIns := ls.map (fun l => l.input)
    ages := put x.ages (ls.map (fun l => l.age))
    counts := put x.counts (ls.map (fun l => l.count))
    staleEp := put x.staleEp (ls.map (fun l => l.stale))
    cum := x.cum.modify 3 (fun v => satBits 32 (v + stales)) }
  let s := s.setFlag (F.CEN_LSTAT_INSTALE g) (stales != 0)
  (List.range began).foldl (fun s _ => s.raise 66 g) s

/-- A sample of a slot in RUN (R119 steps 3 and 4; R136 for SPEC = 1). A frame that is to be computed again
under R86 or R113 counts as outstanding. -/
def State.beginSample (s : State) (g n : Nat) (r : Record) : State :=
  let s := if recSpec r then s.modSlot g (fun x => { x with latchAt := s.modTime + 1 }) else s
  let s := if (s.slot g).zeroState then
      let s := (List.range 16).foldl (fun s i => s.setRecWord g (16 + i) 0) s
      s.modSlot g (fun x => { x with zeroState := false })
    else s
  let s := s.latch g r
  let m : Sample := { Sample.safe n s.modTime r with
    idle := false, inputs := (s.slot g).lastIns
    poisoned := (List.range 8).any (fun w => s.poisoned (g / 64) (recBrick g w)) }
  let push := fun (s : State) (m : Sample) =>
    s.modSlot g (fun x => { x with samples := x.samples ++ [m] })
  if !recSpec r then push s { m with eval := some ⟨false, s.modTime, none, false, default⟩ }
  else
    let there := (s.slot g).frames.any (fun f =>
      f.sample == n && ((f.startedAt.isSome && (!f.replay || f.complete)) || f.recompute))
    if there then push s { m with awaits := true }
    else push (s.discardFrame g n) (m.queuePass (s.modTime + tileCycle))

def opSampleInstant (g : Nat) (ecc : List BrickError) (s : State) : State :=
  let r := s.record g
  let m := s.modTime
  let n := sampleNumber r m
  if !isSampleInstant r m || (s.slot g).samples.any (fun y => y.at_ == m) then s else
  let s := s.exchangeBanks g n
  if s.lstate g = 0 then s else
  let known := ((List.range 8).map (recBrick g)).filter (fun w => s.poisoned (g / 64) w)
  let s := (s.eccErrors ecc).settleSlot g
  let x := s.slot g
  let push := fun (s : State) => s.modSlot g (fun x => { x with samples := x.samples ++ [Sample.safe n m r] })
  let s := if s.lstate g = 3 && x.returning && decide (x.notBefore ≤ m) then
      let s := ((s.setFld (F.CEN_LSTAT_LSTATE g) 1).zeroLaw g).resetOut g false
      s.modSlot g (fun x => { x with returning := false, satPrev := false })
    else s
  if x.disabling then push s
  else if m < x.quietTo then s
  else if s.lstate g ≠ 1 ∨ m < x.notBefore then push s
  else (s.beginSample g n r).rereads (g / 64) known

def execLoopSampleInstant (t : Nat) (slot : Fin 8192) (ecc : List BrickError) (s : State) :
    Host.Outcome State Fault Refusal :=
  .next (opSampleInstant slot.val ecc (s.tick t))

/-! ### EVALUATION_START and SPEC_FRAME_START (R115, R131, R133) -/

/-- A ready evaluation of a tile (R115, R133). -/
structure Ready where
  replay : Bool
  cls : Nat
  guard : Nat
  frame : Bool
  pass : Bool
  slot : Nat
  sample : Nat
  deriving DecidableEq, Repr

/-- The order of the queue up to equal guards: replayed frames last, then class, then guard. -/
def Ready.key (x : Ready) : List Nat := [boolNat x.replay, x.cls, x.guard]

def lexLess : List Nat → List Nat → Bool
  | a :: as, b :: bs => decide (a < b) || (a == b && lexLess as bs)
  | _, _ => false

def State.readyOn (s : State) (t : Nat) : List Ready :=
  (s.enabledOn t).flatMap (fun g =>
    let x := s.slot g
    let evals := x.samples.filterMap (fun m => match m.eval with
      | some e => if e.startedAt.isNone && decide (e.readyAt ≤ s.modTime) && !m.guarded
          then some ⟨false, recClass (wordsRecord m.words), m.guardAt, false, e.pass, g, m.n⟩ else none
      | none => none)
    let frames := x.frames.filterMap (fun f =>
      if s.frameReady g f then
        some ⟨f.replay, recClass (s.record g), guardInstant (s.record g) f.sample, true, false, g, f.sample⟩
      else none)
    evals ++ frames)

/-- The engine of tile t runs an evaluation. -/
def State.engineBusy (s : State) (t : Nat) : Bool :=
  (s.enabledOn t).any (fun g =>
    (s.slot g).samples.any (fun m => match m.eval with
      | some e => e.startedAt.isSome && !e.complete
      | none => false)
    || (s.slot g).frames.any (fun f => f.startedAt.isSome && !f.complete))

/-- The least of some evaluations by a key, the first of equals. -/
def leastReady (key : Ready → List Nat) (l : List Ready) : Option Ready :=
  l.foldl (fun best x => match best with
    | none => some x
    | some b => if lexLess (key x) (key b) then some x else some b) none

/-- The evaluation that the engine starts next: of those with the least key, the one of the lowest slot; a pass
goes before a frame, which then waits (R115, R133; log entry 107). -/
def State.nextReady (s : State) (t : Nat) : Option Ready :=
  match leastReady Ready.key (s.readyOn t) with
  | none => none
  | some b =>
    let tied := (s.readyOn t).filter (fun x => x.key == b.key)
    let first := if tied.any (fun x => x.pass) then tied.filter (fun x => !x.frame) else tied
    leastReady (fun x => [x.slot]) first

/-- The brick words that a sample's evaluation reads. -/
def Sample.evalReads (m : Sample) (s : State) (g : Nat) (e : Eval) : List Nat :=
  s.evalWords g (wordsRecord m.words) m.inputs (if e.pass then some m.n else none)

/-- Working copy n mod 4 is written anew: its words are no longer poisoned (R58, R131). -/
def State.writeCopy (s : State) (g n : Nat) : State :=
  (List.range 16).foldl (fun s i => s.unpoison (g / 64) (recBrick g (32 + 16 * (n % 4) + i))) s

/-- Start the evaluation of a sample: copy the committed state, compute, and note poisoned reads
(R119 steps 5 and 6, R122). The result counts once the evaluation completes. -/
def State.startEval (s : State) (g : Nat) (m : Sample) (e : Eval) : State :=
  let r := wordsRecord m.words
  let out := evaluate r (s.activeBank g) (s.mode == .road) (s.recWord g 16) (s.recWord g 17) (s.recWord g 18) m.inputs
  let s := s.setSample g { m with
    eval := some { e with startedAt := some s.modTime, out := out }
    poisoned := m.poisoned || (m.evalReads s g e).any (fun w => s.poisoned (g / 64) w) }
  if e.pass then s.writeCopy g m.n else s

def opEvaluationStart (tile : Nat) (ecc : List BrickError) (s : State) : State :=
  if s.engineBusy tile then s else
  match s.nextReady tile with
  | none => s
  | some x =>
    if x.frame then s else
    match (s.slot x.slot).samples.find? (fun m => m.n == x.sample && !m.guarded) with
    | none => s
    | some m => match m.eval with
      | some e => ((s.rereads tile (m.evalReads s x.slot e)).eccErrors ecc).startEval x.slot m e
      | none => s

def execEvaluationStart (t : Nat) (tile : Fin 128) (ecc : List BrickError) (s : State) :
    Host.Outcome State Fault Refusal :=
  .next (opEvaluationStart tile.val ecc (s.tick t))

/-- Start a frame (R131, R132): from the post-state of the frame before it, or the committed state; from
zero when the staged record that first applies to it changes the law (R86). A frame that reads a poisoned
word makes its sample an overrun (R122). -/
def State.startFrame (s : State) (g : Nat) (f : Frame) (ecc : List BrickError) : State :=
  let at_ := sampleInstant (s.record g) f.sample
  let r := s.recordAt g at_
  match s.predictAll r g f with
  | none => s
  | some ins =>
    let prev := (s.slot g).frames.find? (fun q => q.sample + 1 == f.sample)
    let w := fun i => match prev with
      | some q => if i = 16 then q.out.w16 else if i = 17 then q.out.w17 else q.out.w18
      | none => s.recWord g i
    let before := s.recordAt g (at_ - recPeriodPs (s.record g))
    let st := if sameLaw before r then w else fun _ => 0
    let out := evaluate r (s.activeBank g) (s.mode == .road) (st 16) (st 17) (st 18) ins
    let ws := (List.range 8).map (recBrick g) ++ s.evalWords g r ins (prev.map (fun q => q.sample))
    let s := (s.rereads (g / 64) ws).eccErrors ecc
    let f' : Frame := { f with
      startedAt := some s.modTime, complete := false, confirmed := false, inputs := ins
      tags := (ins.flatMap (fun i => i.tags)).eraseDups, out := out
      poisoned := ws.any (fun w => s.poisoned (g / 64) w) }
    (s.modSlot g (fun x => { x with frames := x.frames.map (fun q => if q.sample = f.sample then f' else q) })).writeCopy
      g f.sample

def opSpecFrameStart (g n : Nat) (ecc : List BrickError) (s : State) : State :=
  if s.engineBusy (g / 64) then s else
  match s.nextReady (g / 64), (s.slot g).frames.find? (fun f => f.sample == n) with
  | some x, some f => if x.frame && x.slot == g && x.sample == n then s.startFrame g f ecc else s
  | _, _ => s

def execSpecFrameStart (t : Nat) (slot : Fin 8192) (n : FrameStart) (s : State) :
    Host.Outcome State Fault Refusal :=
  .next (opSpecFrameStart slot.val n.n n.ecc (s.tick t))

/-! ### EVALUATION_COMPLETE and SPEC_FRAME_COMPLETE (R114, R142) -/

/-- The evaluation of a sample of the slot ends exactly E tile cycles after its start. -/
def opEvaluationComplete (g : Nat) (s : State) : State :=
  s.modSlot g (fun x => { x with samples := x.samples.map (fun m => match m.eval with
    | some e => match e.startedAt with
      | some a =>
        if a + evalCost (wordsRecord m.words) * tileCycle = s.modTime then
          { m with eval := some { e with complete := true } }
        else m
      | none => m
    | none => m) })

def execEvaluationComplete (t : Nat) (slot : Fin 8192) (s : State) : Host.Outcome State Fault Refusal :=
  .next (opEvaluationComplete slot.val (s.tick t))

/-- A frame completes: one SPEC packet to the members that read it on other tiles. A recomputed frame
sends nothing when its output is the one already sent, and a DROP packet first when it differs; readers
on its own tile that hold another value are dropped then, without a count (R139, R142). -/
def opSpecFrameComplete (g n : Nat) (s : State) : State :=
  match (s.slot g).frames.find? (fun f => f.sample == n) with
  | none => s
  | some f =>
    let r := s.recordAt g (sampleInstant (s.record g) n)
    match f.startedAt with
    | none => s
    | some a =>
      if f.complete || a + evalCost r * tileCycle ≠ s.modTime then s else
      let same := match f.sentOut with
        | some o => o.outs == f.out.outs && o.valids == f.out.valids
        | none => false
      let s := s.modSlot g (fun x => { x with frames := x.frames.map (fun q =>
        if q.sample = n then { q with complete := true, recompute := false, sentOut := some q.out } else q) })
      if f.recompute && same then s
      else
        let s := if f.recompute && f.sentOut.isSome then
            (s.sendDrop g n false).dropAll (g / 64) [(g, n)] [] [] false
          else s
        s.sendSpec g n (specFlit g n f.out)

def execSpecFrameComplete (t : Nat) (slot : Fin 8192) (n : Nat) (s : State) :
    Host.Outcome State Fault Refusal :=
  .next (opSpecFrameComplete slot.val n (s.tick t))

/-! ### CONFIRM_RESULT (R134, R135) -/

/-- How many SPEC slots of the tile with a lower number latched in the same tile cycle (R134). -/
def State.confirmRank (s : State) (g at_ : Nat) : Nat :=
  (((s.cen.slot.map (fun p => p.1)).filter (fun h => decide (h / 64 = g / 64) && decide (h < g))).filter (fun h =>
    (s.slot h).latchAt != 0 && cycleOf ((s.slot h).latchAt - 1) == cycleOf at_)).length

/-- Is a member frame known at slot g's tile to be committed without correction and without a drop? -/
def State.tagCommitted (s : State) (g b : Nat) (latched : LoopIn) (tag : Nat × Nat) : Bool :=
  if bindKind b = 3 then (s.slot tag.1).commits.contains tag.2
  else latched.sample == tag.2 % 2 ^ 32 && !s.cen.dropped.contains (g / 64, tag.1, tag.2 % 2 ^ 32)

/-- Does input k agree (R135)? -/
def State.agrees (s : State) (r : Record) (g k at_ : Nat) (p l : LoopIn) : Bool :=
  let b := recBind r k
  p.valid == l.valid
    && (!p.valid || decide ((p.val - l.val).natAbs ≤ recTol r k))
    && (bindPred b != 2 ||
      (p.tags.all (s.tagCommitted g b l)
        && (bindKind b != 1 ||
          match (s.predSource g b).bind (fun h => sourceSample (s.record h) 1 at_) with
          | some m => l.sample == m % 2 ^ 32
          | none => false)))

/-- The confirm result of the sample that slot g latched, before its guard (R134, R136). -/
def opConfirm (g : Nat) (s : State) : State :=
  match (s.slot g).samples.find? (fun m => m.awaits && !m.guarded) with
  | none => s
  | some m =>
    let r := wordsRecord m.words
    if s.modTime ≠ m.at_ + (8 + s.confirmRank g m.at_) * tileCycle ∨ m.guardAt ≤ s.modTime then s else
    match (s.slot g).frames.find? (fun f => f.sample == m.n) with
    | none => s.setSample g (m.queuePass s.modTime)
    | some f =>
      if f.startedAt.isNone then (s.discardFrame g m.n).setSample g (m.queuePass s.modTime) else
      let ok := (List.range (recNin r)).all (fun k =>
        s.agrees r g k m.at_ (f.inputs.getD k default) (m.inputs.getD k default))
      if ok then
        let s := s.setSample g { m with awaits := false }
        s.modSlot g (fun x => { x with frames := x.frames.map (fun q =>
          if q.sample = m.n then { q with confirmed := true } else q) })
      else
        let s := s.setSample g { m.queuePass s.modTime with disagreed := true }
        (s.discardFrame g m.n).dropFrames g (m.n + 1) false

def execConfirmResult (t : Nat) (slot : Fin 8192) (s : State) : Host.Outcome State Fault Refusal :=
  .next (opConfirm slot.val (s.tick t))

/-! ### LOOP_GUARD (R119 steps 7 and 8, R122, R123, R130, R137, R139) -/

/-- What a sample has to commit at its guard: the result, and whether it comes from a frame. An ordinary
evaluation that ends with the guard's cycle is complete (R116 admits it); a correction pass must be complete
before it (R136), and a frame as well (R147). -/
def State.sampleResult (s : State) (g : Nat) (m : Sample) : Option (EvalOut × Bool) :=
  if m.poisoned then none else
  match m.eval with
  | some e =>
    (match e.startedAt with
      | some a => if e.complete && decide (a + evalCost (wordsRecord m.words) * tileCycle + boolNat e.pass ≤ m.guardAt)
          then some (e.out, false) else none
      | none => none)
  | none => match (s.slot g).frames.find? (fun f => f.sample == m.n) with
    | some f => (match f.startedAt with
      | some a => if f.confirmed && f.complete && !f.poisoned
            && decide (a + evalCost (wordsRecord m.words) * tileCycle < m.guardAt)
          then some (f.out, true) else none
      | none => none)
    | none => none

/-- Acceptance: the working copy becomes the committed state (R119 step 7, R137). -/
def State.accept (s : State) (g : Nat) (m : Sample) (o : EvalOut) (fromFrame : Bool) : State :=
  let s := ((s.setRecWord g 16 o.w16).setRecWord g 17 o.w17).setRecWord g 18 o.w18
  let s := (List.range 16).foldl (fun s i => s.unpoison (g / 64) (recBrick g (16 + i))) s
  let s := s.clearConsec g
  let was := (s.slot g).satPrev
  let s := s.setSample g { m with
    guarded := true, awaits := false, loaded := ⟨o.outs, o.valids, false, false, m.n⟩ }
  let s := s.modSlot g (fun x => { x with
    lastSample := some m.n, satPrev := o.sat
    live := bumpLive (if o.sat then bumpLive x.live 3 else x.live) 4
    cum := if o.sat then bumpCum x.cum 1 else x.cum
    commits := if fromFrame then (m.n :: x.commits).take 8 else x.commits })
  if o.sat && !was then s.raise 67 g else s

/-- An overrun: OUT_LAST is held, or SAFE_OUT put out when CONSEC reaches OVR_MAX (R122, R123); when a SAFE cause
holds at that guard, the slot is SAFE and not FAULTED (R127). Event 64 follows within its 1 µs (R243), at the
output phase. -/
def State.overrun (s : State) (g : Nat) (m : Sample) : State :=
  let r := wordsRecord m.words
  let w := s.recWord g 16
  let held : LoopOut :=
    ⟨(List.range 4).map (fun j => if j < recNout r then lane w j else 0), (List.range 4).map (fun j => bitOf w (96 + j)),
      true, false, m.n⟩
  let c := satBits 8 (s.fld (F.CEN_LSTAT_CONSEC g) + 1)
  let s := s.setFlag (F.CEN_LSTAT_HOLD g) true
  let s := s.setFld (F.CEN_LSTAT_CONSEC g) c
  let s := s.modSlot g (fun x => { x with
    live := bumpLive x.live 0, cum := bumpCum x.cum 0, satPrev := false })
  let s := s.setSample g { m with guarded := true, awaits := false, eval := none, loaded := held }
  let s := if c = 1 then s.raise 65 g else s
  if c < recOvrMax r then s
  else if s.safeCause r then s.enterSafe g
  else
    let s := (s.setFld (F.CEN_LSTAT_LSTATE g) 2).setFaultBit g true
    let s := s.setSample g { m with
      guarded := true, awaits := false, eval := none, loaded := ⟨safeOuts r, List.replicate 4 false, false, true, m.n⟩ }
    (s.dropFrames g 0 true).modSlot g (fun x => { x with faultDue := some s.modTime })

/-- Count MISP and CORR of the sample that its guard settles; one whose confirm result came too late counts in
neither (R134, R139). -/
def State.countSpec (s : State) (g : Nat) (m : Sample) (fromFrame late : Bool) : State :=
  s.modSlot g (fun x =>
    let misp := (m.disagreed || x.tagDropped.contains m.n) && !fromFrame && !late
    let corr := match m.eval with
      | some e => e.pass && e.startedAt.isSome
      | none => false
    let live := if misp then bumpLive x.live 1 else x.live
    { x with
      live := if corr then bumpLive live 2 else live
      cum := if misp then bumpCum x.cum 2 else x.cum
      tagDropped := x.tagDropped.filter (fun k => decide (m.n < k)) })

/-- Release the frame for sample n + LEAD, and the replayed frames that a drop left waiting (R130,
R138). -/
def State.releaseFrames (s : State) (g n : Nat) (r : Record) : State :=
  s.modSlot g (fun x =>
    let kept := (x.frames.filter (fun f => decide (n < f.sample))).map (fun f => { f with released := true })
    let next := n + recLead r
    { x with frames := if kept.any (fun f => f.sample == next) then kept else kept ++ [Frame.fresh next false] })

def opLoopGuard (g : Nat) (s : State) : State :=
  match (s.slot g).samples.find? (fun m => !m.guarded && m.guardAt == s.modTime) with
  | none => s
  | some m =>
    if m.idle then s.setSample g { m with guarded := true } else
    let r := wordsRecord m.words
    let late := m.awaits
    let res := s.sampleResult g m
    let fromFrame := match res with | some (_, b) => b | none => false
    let s := if recSpec r then s.countSpec g m fromFrame late else s
    let s := match res with
      | some (o, b) => s.accept g m o b
      | none => s.overrun g m
    if !recSpec r then s else
    let s := if fromFrame then
        s.modSlot g (fun x => { x with frames := x.frames.filter (fun f => f.sample != m.n) })
      else (s.discardFrame g m.n).dropFrames g (m.n + 1) false
    if s.lstate g = 1 && !(s.slot g).disabling then s.releaseFrames g m.n r else s

def execLoopGuard (t : Nat) (slot : Fin 8192) (s : State) : Host.Outcome State Fault Refusal :=
  .next (opLoopGuard slot.val (s.tick t))

/-! ### LOOP_OUTPUT_PHASE (R119 step 9, R120, R93) -/

/-- The slot becomes OFF; the LOOP_DISABLE that waits for it completes (R125, R237). -/
def State.slotOff (s : State) (g : Nat) : State :=
  let ws := (s.slot g).disableWaiters
  let s := (s.setFld (F.CEN_LSTAT_LSTATE g) 0).setFaultBit g false
  let s := s.modSlot g (fun x => { x with
    disabling := false, disableWaiters := [], samples := [], frames := [], returning := false })
  ws.foldl (fun s w => s.finishWaiter (some w) codeDone 0 0) (s.showUtil (g / 64))

/-- Emit the output flit of a loaded register on every route of OUTRT whose EN = 1. -/
def State.emitOutput (s : State) (g : Nat) (r : Record) (o : LoopOut) : State :=
  let flit := outFlit o.vals (maskOf o.valids) o.hold o.safe o.sample g
  let routes := (((List.range 4).filter (recOutEn r)).map (recOutRoute r)).eraseDups
  routes.foldl (fun s x => s.emit (g / 64) x o.sample 0 true true [flit]) s

def opOutputPhase (g : Nat) (s : State) : State :=
  match (s.slot g).samples.find? (fun m => m.guarded && m.outAt == s.modTime) with
  | none => s
  | some m =>
    let s := if (s.slot g).faultDue.isSome then (s.modSlot g (fun x => { x with faultDue := none })).raise 64 g else s
    let s := s.emitOutput g (wordsRecord m.words) m.loaded
    let s := s.modSlot g (fun x => { x with
      samples := x.samples.filter (fun y => y.at_ != m.at_)
      last := some m.loaded, prevOut := x.last, lastAt := s.modTime, outCount := x.outCount + 1 })
    if (s.slot g).disabling then s.slotOff g else s

def execLoopOutputPhase (t : Nat) (slot : Fin 8192) (s : State) : Host.Outcome State Fault Refusal :=
  .next (opOutputPhase slot.val (s.tick t))

/-! ### SPEC_PACKET_RECEIVE and DROP_PACKET_RECEIVE (R138, R142, R144) -/

/-- Is the packet a SPEC or DROP packet for a tile, and which (R142)? The source slot and sample. -/
def specPacket (p : Packet) : Option (Bool × Nat × Nat × Flit) :=
  match p.payload with
  | [f] =>
    if p.spec && p.typ == 3 && p.sof && p.eof && decide (p.dst < 128) then
      some (bitOf f.toNat 70, bitsOf f.toNat 112 13, bitsOf f.toNat 80 32, f)
    else none
  | _ => none

/-- Event 69, with the receiving tile, once per tally period (R144). -/
def State.specUnread (s : State) (t : Nat) : State := s.raiseOnce 69 t t

/-- A SPEC packet at its tile: the value for the predicted-input registers. -/
def State.takeSpec (s : State) (p : Packet) : State :=
  match specPacket p with
  | some (false, h, n, f) =>
    if !s.specReader p.dst p.stream h then s.specUnread p.dst else
    let vals := (List.range 4).map (fun j => flitInput f j)
    let same := fun (q : Nat × Nat × Nat × List LoopIn) => q.1 == p.dst && q.2.1 == h
    let mine := (s.cen.spec.filter (fun q => same q && q.2.2.1 != n)).take 3
    { s with cen := { s.cen with
        spec := ((p.dst, h, n, vals) :: mine) ++ s.cen.spec.filter (fun q => !same q)
        dropped := s.cen.dropped.filter (fun d => d != (p.dst, h, n)) } }
  | _ => s

def opSpecPacket (p : Packet) (s : State) : State :=
  match specPacket p with
  | some (false, _) => if s.lands p then (s.arrived p).takeSpec p else s
  | _ => s

def execSpecPacketReceive (t : Nat) (p : Packet) (s : State) : Host.Outcome State Fault Refusal :=
  .next (opSpecPacket p (s.tick t))

/-- A DROP packet: the frame's value goes, and every frame on the tile that holds its tag. It does not
count where the source computes the frame again (R139). -/
def State.takeDrop (s : State) (p : Packet) : State :=
  match specPacket p with
  | some (true, h, n, _) =>
    let of_ := fun (d : Nat × Nat × Nat × Bool) => d.1 == p.dst && d.2.1 == h && d.2.2.1 == n
    let counted := match s.cen.drops.find? of_ with | some d => d.2.2.2 | none => true
    let s := { s with cen := { s.cen with drops := removeFirst of_ s.cen.drops } }
    if !s.specReader p.dst p.stream h then s.specUnread p.dst else
    let mine := fun (d : Nat × Nat × Nat) => d.1 == p.dst && d.2.1 == h
    let s := { s with cen := { s.cen with
      spec := s.cen.spec.filter (fun q => !(q.1 == p.dst && q.2.1 == h && q.2.2.1 == n))
      dropped := (p.dst, h, n) :: ((s.cen.dropped.filter (fun d => mine d && d.2.2 != n)).take 7
        ++ s.cen.dropped.filter (fun d => !mine d)) } }
    let tags := ((s.enabledOn p.dst).flatMap (fun g => (s.slot g).frames.flatMap (fun f =>
      f.tags.filter (fun x => x.1 == h && x.2 % 2 ^ 32 == n)))).eraseDups
    s.dropAll p.dst tags [] [] counted
  | _ => s

def opDropPacket (p : Packet) (s : State) : State :=
  match specPacket p with
  | some (true, _) => if s.lands p then (s.arrived p).takeDrop p else s
  | _ => s

def execDropPacketReceive (t : Nat) (p : Packet) (s : State) : Host.Outcome State Fault Refusal :=
  .next (opDropPacket p (s.tick t))

end Sys2Proof.Machine
end

