-- ==== Sys2Proof/Machine/Cen.lean ====
section
/-!
DEFINITION. Machine/Cen.lean: the control engine's commands through set-up registers (R100, R101,
R111, R112, R116 to R118, R124, R125) and through descriptors (R237).
-/

namespace Sys2Proof.Machine

/-! ### The record and the banks as windows -/

/-- The slot that the command registers act on. -/
def State.selSlot (s : State) : Nat := s.fld F.CEN_SEL_SLOT

/-- The bits of a committed-state word that the slot's law lists; the others are zero (R98). -/
def stateMask (r : Record) (w : Nat) : Nat :=
  let lanes := fun (n : Nat) => 2 ^ (16 * n) - 1
  if w = 17 then
    (match recLaw r with
      | 0 => place (2 ^ 40 - 1) 0 40 + place (2 ^ 40 - 1) 64 40
      | 1 => lanes (4 * min 2 (recOrder r))
      | 2 => lanes (min 8 (recOrder r))
      | _ => 0)
  else if w = 18 then (if recLaw r = 1 then lanes (4 * (min 4 (recOrder r) - 2)) else 0)
  else 2 ^ 128 - 1

/-- Word w of a slot's record as it reads (R94, R98, R99, R143). -/
def State.recImageWord (s : State) (g w : Nat) : Nat :=
  let x := s.slot g
  if w < 32 then s.recWord g w &&& stateMask (s.record g) w
  else if w = 96 then (s.reg (R.CEN_LSTAT g)).toNat + place (x.lastSample.getD 0) 32 32
  else if w = 97 then (x.cum.zipIdx.map (fun p => place p.1 (32 * p.2) 32)).sum
  else if w = 98 then x.word98 + place (s.fld F.GLB_TALLY_SEQ_SEQ) 96 32
  else 0

def setPart (w i v : Nat) : Nat := w - place (bitsOf w (32 * i) 32) (32 * i) 32 + place v (32 * i) 32

/-- May word w of the slot's record be written (R100)? -/
def State.recWritable (s : State) (g w : Nat) : Bool :=
  if w < 16 then s.lstate g == 0 || s.lstate g == 2 else if w < 32 then s.lstate g == 0 else false

/-- Write a record word that R100 permits: the word is no longer poisoned; words 0 to 15 are tile unit
2's image (R79), the state words only the store's (R444). -/
def State.putRecWord (s : State) (g w v : Nat) : State :=
  let s := (s.setRecWord g w v).unpoison (g / 64) (recBrick g w)
  if w < 16 then s.imageChanged true else s.storeBanks

def State.setBankWord (s : State) (g b w v : Nat) : State :=
  let s := { s with cen := { s.cen with bank := spSet s.cen.bank (128 * g + 64 * b + w) (v % 2 ^ 128) } }
  s.unpoison (g / 64) (bankBrick g b w)

def State.inactiveBank (s : State) (g : Nat) : Nat := 1 - s.fld (F.CEN_LSTAT_BANK g)

/-! ### CEN_SEL_WRITE, CEN_REC_READ, CEN_REC_WRITE, CEN_BANK_WRITE -/

/-- A write to CEN_SEL selects a slot and clears the shadow (R101). -/
def opCenSel (v : Word) (s : State) : State :=
  let s := s.setFld F.CEN_SEL_SLOT v.toNat
  { s with cen := { s.cen with shadow := 0 } }

def execCenSelWrite (t : Nat) (v : Word) (s : State) : Host.Outcome State Fault Refusal :=
  .next (opCenSel v (s.tick t))

/-- A read of bits [31:0] of a word latches the whole word; the other parts come from the shadow
(R101). -/
def opRecRead (i : Nat) (s : State) : State :=
  let s := if i % 4 = 0 then
      { s with cen := { s.cen with shadow := s.recImageWord s.selSlot (i / 4) } } else s
  { s with busData := BitVec.ofNat 32 (bitsOf s.cen.shadow (32 * (i % 4)) 32) }

def execCenRecRead (t : Nat) (i : Fin 512) (s : State) : Host.Outcome State Fault Refusal :=
  .next (opRecRead i.val (s.tick t))

/-- A write through the record window: where R100 permits it, else CFGREJ. -/
def opRecWrite (i : Nat) (v : Word) (s : State) : State :=
  let g := s.selSlot
  let w := i / 4
  if s.recWritable g w then s.putRecWord g w (setPart (s.recWord g w) (i % 4) v.toNat)
  else s.setFlag F.CEN_CMD_STAT_CFGREJ true

def execCenRecWrite (t : Nat) (i : Fin 512) (v : Word) (s : State) : Host.Outcome State Fault Refusal :=
  .next (opRecWrite i.val v (s.tick t))

/-- A write to the inactive bank, or BANKREJ while SWPEND = 1 (R112). -/
def opBankWrite (i : Nat) (v : Word) (s : State) : State :=
  let g := s.selSlot
  if s.flag (F.CEN_LSTAT_SWPEND g) then s.setFlag F.CEN_CMD_STAT_BANKREJ true
  else
    let b := s.inactiveBank g
    (s.setBankWord g b (i / 4) (setPart (s.bankWord g b (i / 4)) (i % 4) v.toNat)).storeBanks

def execCenBankWrite (t : Nat) (i : Fin 256) (v : Word) (s : State) : Host.Outcome State Fault Refusal :=
  .next (opBankWrite i.val v (s.tick t))

/-! ### ENABLE, REARM, DISABLE and SWAP as shared operations -/

/-- Admit slot g for context c: for ENABLE or REARM (R116, R124, R125); CEN_ADM shows the bound. -/
def State.admitSlot (s : State) (g c : Nat) (rearm : Bool) : State :=
  if rearm then s.rearmSlot g else s.enableSlot g c

/-- DISABLE (R125, R127): evaluations and frames are abandoned and one output phase carries SAFE_OUT.
A slot whose record has no valid timing has no output phase and is OFF at once. -/
def State.disableSlot (s : State) (g : Nat) (waiter : List (Nat × Nat)) : State :=
  let s := (s.abandon g).modSlot g (fun x => { x with disabling := true, disableWaiters := waiter })
  if recTimed (s.record g) || !(s.slot g).samples.isEmpty then s else s.slotOff g

/-- A swap request sets SWPEND (R111). -/
def State.requestSwap (s : State) (g : Nat) (waiter : Option (Nat × Nat)) : State :=
  (s.setFlag (F.CEN_LSTAT_SWPEND g) true).modSlot g (fun x => { x with
    swapAt := s.modTime, swapWaiter := waiter })

/-- ENABLE or REARM written to CEN_CTL: for context 0, never tested against its quota (R117, R118,
R268). -/
def opCenAdmit (rearm : Bool) (s : State) : State :=
  let g := s.selSlot
  let reason := s.admitReason g rearm
  if reason ≠ 0 then
    let s := (s.setFlag F.CEN_CMD_STAT_REFUSED true).setFld F.CEN_CMD_STAT_REASON reason
    (s.setFlag F.CEN_CMD_STAT_DONE false).raise 68 g
  else
    let before := s
    let s := (s.admitSlot g 0 rearm).setFlag F.CEN_CMD_STAT_DONE true
    (s.setFlag F.CEN_CMD_STAT_REFUSED false).reportOver before 0 2

def execCenEnable (t : Nat) (s : State) : Host.Outcome State Fault Refusal :=
  .next (opCenAdmit false (s.tick t))

def execCenRearm (t : Nat) (s : State) : Host.Outcome State Fault Refusal :=
  .next (opCenAdmit true (s.tick t))

def opCenDisable (s : State) : State :=
  let g := s.selSlot
  if s.lstate g = 0 || (s.slot g).disabling then s else s.disableSlot g []

def execCenDisable (t : Nat) (s : State) : Host.Outcome State Fault Refusal :=
  .next (opCenDisable (s.tick t))

def opCenSwap (s : State) : State :=
  let g := s.selSlot
  if s.flag (F.CEN_LSTAT_SWPEND g) then s.setFlag F.CEN_CMD_STAT_BANKREJ true
  else s.requestSwap g none

def execCenSwap (t : Nat) (s : State) : Host.Outcome State Fault Refusal :=
  .next (opCenSwap (s.tick t))

/-! ### Descriptors (R117, R118, R237) -/

def Op.slot (o : Op) : Nat := o.arg1 0 13

/-- How a refused LOOP_ENABLE or LOOP_REARM completes: the code that R117 gives the REASON, and the same REASON
in DETAIL (log entry 49). -/
def admitCode (reason : Nat) : Nat × Nat :=
  (if reason = 5 then codeRefusedMode else if reason = 4 then codeRefusedLocked
    else if reason = 3 ∨ reason = 6 then codeFaultDescriptor else codeRefusedCapacity, reason)

/-- LOOP_ENABLE and LOOP_REARM. An index that no context holds is acquired by an ENABLE (R268). -/
def opLoopAdmit (rearm : Bool) (s : State) (o : Op) : State :=
  let g := o.slot
  let refusal := if rearm then
      (if s.slotOwner g = o.ctx + 1 ∨ o.ctx = 0 then none else some (codeFaultAccess, 1))
    else if o.ctx = 0 && s.slotOwner g ≠ 0 then none else s.claim (s.slotOwner g) o.ctx 2
  match refusal with
  | some (code, d) => s.finish o code d 0
  | none =>
    let s := if s.slotOwner g = 0 && !rearm then s.holdSlot g o.ctx else s
    let reason := s.admitReason g rearm
    if reason ≠ 0 then
      let (code, d) := admitCode reason
      (s.raise 68 g).finish o code d 0
    else
      let s := s.admitSlot g o.ctx rearm
      s.finish o codeDone 0 (s.firstSample g)

def execLoopEnable (t : Nat) (c : Fin 4096) (tag : Nat) (s : State) :
    Host.Outcome State Fault Refusal :=
  .next ((s.tick t).beginOp c.val tag 0x20 (opLoopAdmit false))

def execLoopRearm (t : Nat) (c : Fin 4096) (tag : Nat) (s : State) :
    Host.Outcome State Fault Refusal :=
  .next ((s.tick t).beginOp c.val tag 0x22 (opLoopAdmit true))

/-- Run `f` when the context owns the slot; context 0 may act on any (R118). -/
def State.ownSlot (s : State) (o : Op) (f : State → State) : State :=
  if s.slotOwner o.slot = o.ctx + 1 ∨ o.ctx = 0 then f s else s.finish o codeFaultAccess 1 0

/-- LOOP_DISABLE completes when the slot is OFF; at once when it is OFF already. -/
def opLoopDisable (s : State) (o : Op) : State :=
  s.ownSlot o (fun s =>
    if s.lstate o.slot = 0 then s.finish o codeDone 0 0
    else if (s.slot o.slot).disabling then
      s.modSlot o.slot (fun x => { x with disableWaiters := x.disableWaiters ++ [(o.ctx, o.tag)] })
    else s.disableSlot o.slot [(o.ctx, o.tag)])

def execLoopDisable (t : Nat) (c : Fin 4096) (tag : Nat) (s : State) :
    Host.Outcome State Fault Refusal :=
  .next ((s.tick t).beginOp c.val tag 0x21 opLoopDisable)

/-- LOOP_SWAP completes at the exchange (R111, R112). -/
def opLoopSwap (s : State) (o : Op) : State :=
  s.ownSlot o (fun s =>
    if s.flag (F.CEN_LSTAT_SWPEND o.slot) then s.finish o codeRefusedLocked 3 0
    else s.requestSwap o.slot (some (o.ctx, o.tag)))

def execLoopSwap (t : Nat) (c : Fin 4096) (tag : Nat) (s : State) : Host.Outcome State Fault Refusal :=
  .next ((s.tick t).beginOp c.val tag 0x23 opLoopSwap)

/-- Store words in a bank, the data being 16 bytes a word. -/
def putBankWords : List Byte → Nat → Nat → Nat → Nat → State → State
  | _, _, _, _, 0, s => s
  | bs, g, b, w, n + 1, s => putBankWords (bs.drop 16) g b (w + 1) n (s.setBankWord g b w (leNat (bs.take 16)))

/-- LOOP_BANK_WRITE: words of the inactive bank from BUF (R112). -/
def opLoopBankWrite (ecc : Bool) (s : State) (o : Op) : State :=
  let first := o.arg1 16 6
  let count := o.arg1 22 7
  s.ownSlot o (fun s =>
    if s.flag (F.CEN_LSTAT_SWPEND o.slot) then s.finish o codeRefusedLocked 3 0
    else if ecc then s.finish o codeFaultAccess 2 0
    else
      let s := putBankWords (s.readBytes o.buf (16 * count)) o.slot (s.inactiveBank o.slot) first count s
      s.storeBanks.finish o codeDone 0 0)

def execLoopBankWrite (t : Nat) (c : Fin 4096) (tag : Nat) (ecc : Bool) (s : State) :
    Host.Outcome State Fault Refusal :=
  .next ((s.tick t).beginOp c.val tag 0x24 (opLoopBankWrite ecc))

/-- LOOP_READ: the record to BUF, the working copies as zero (R143). -/
def opLoopRead (ecc : Bool) (s : State) (o : Op) : State :=
  s.ownSlot o (fun s =>
    if ecc then s.finish o codeFaultAccess 2 0 else
    let s := s.writeBytes o.buf ((List.range 128).flatMap (fun w => leBytes 16 (s.recImageWord o.slot w)))
    s.finish o codeDone 0 (s.fld (F.CEN_LSTAT_BANK o.slot)))

def execLoopRead (t : Nat) (c : Fin 4096) (tag : Nat) (ecc : Bool) (s : State) :
    Host.Outcome State Fault Refusal :=
  .next ((s.tick t).beginOp c.val tag 0x25 (opLoopRead ecc))

end Sys2Proof.Machine
end

