-- ==== Sys2Proof/Machine/Ox.lean ====
section
/-!
DEFINITION. Machine/Ox.lean: the Ox proportional valve drive (R280 to R304).
-/

namespace Sys2Proof.Machine

/-- A PWM period: 50 µs; the phase step of neighbouring channels: 6.25 µs (R282). -/
def pwmPeriod : Nat := 50 * psPerUs
def pwmPhase (n : Nat) : Nat := (n % 8) * 6250000

def State.oxCh (s : State) (n : Nat) : OxCh := spGet s.ox.ch n
def State.setOxCh (s : State) (n : Nat) (x : OxCh) : State :=
  { s with ox := { s.ox with ch := spSet s.ox.ch n x } }
def State.modOxCh (s : State) (n : Nat) (f : OxCh → OxCh) : State := s.setOxCh n (f (s.oxCh n))

/-- Does channel n, or the pair it belongs to, form a pair (R289)? Pairing is off in COMPAT (R467). -/
def State.oxPaired (s : State) (n : Nat) : Bool :=
  s.flag (F.OX_CH_CFG_PAIR (n - n % 2)) && s.mode != .compat

/-- The channel whose configuration and state count for n: the even one of a pair. -/
def State.oxBase (s : State) (n : Nat) : Nat := if s.oxPaired n then n - n % 2 else n

/-- Tokens that a pull-in of channel n takes (R292). -/
def State.oxNeed (s : State) (n : Nat) : Nat := if s.oxPaired n then 2 else 1

/-- Tokens that the channel keeps reserved (R293). -/
def State.oxReserved (s : State) (n : Nat) : Nat :=
  if s.oxBase n = n && s.flag (F.OX_CH_CFG_PIG n) then s.oxNeed n else 0

def State.oxReservedAll (s : State) : Nat := ((List.range 48).map s.oxReserved).sum

/-- Reserved tokens of channel n that are out. -/
def State.oxReservedOut (s : State) (n : Nat) : Nat := (s.ox.out.filter (fun k => k.reserved && k.ch == n)).length

/-- Shared tokens that are free: six, less those kept for PIG channels, those shared ones out, and reserved ones
still out of a channel that keeps none any more (R292, R293). -/
def State.oxSharedFree (s : State) : Nat :=
  6 - ((List.range 48).map (fun n => max (s.oxReserved n) (s.oxReservedOut n))).sum
    - (s.ox.out.filter (fun k => !k.reserved)).length

/-- Waiting requests (R294). -/
def State.oxWaiting (s : State) : List Nat :=
  (s.ox.ch.filter (fun p => p.2.req.isSome && !p.2.granted && p.2.begun.isNone)).map (fun p => p.1)

/-- Does the Goose cut the channel (R298, R340)? In COMPAT as if its GCUT were 1 (R464). -/
def State.oxCut (s : State) (n : Nat) : Bool :=
  (s.flag (F.OX_CH_CFG_GCUT n) || s.mode == .compat) && (s.flag F.GOO_STAT_SAFESTOP || s.flag F.GOO_STAT_OXCUT)

/-- Does the mode drive the channel (R280)? -/
def State.oxMode (s : State) (n : Nat) : Bool :=
  match s.mode with
  | .field | .road | .service => true
  | .compat => decide (n < 16)
  | _ => false

def State.oxFaulted (s : State) (n : Nat) : Bool :=
  s.flag (F.OX_CH_STAT_SHORT n) || s.flag (F.OX_CH_STAT_OVERTEMP n)

/-- May the channel drive? -/
def State.oxDrives (s : State) (n : Nat) : Bool :=
  let x := s.oxCh n
  x.live && s.oxMode n && !s.oxFaulted n && !s.flag F.OX_GLB_STAT_SUPLOW && !s.oxCut n
    && !x.timedOut && !x.needCmd

/-- STATE: 0 disabled, 1 driving, 2 faulted, 3 forced off (R303). -/
def State.oxState (s : State) (n : Nat) : Nat :=
  if !(s.oxCh n).live then 0 else if s.oxFaulted n then 2 else if s.oxDrives n then 1 else 3

/-- OX_GLB_STAT with the tokens that are free now; VBOOST shows the last measurement. -/
def State.oxGlbStat (s : State) : Word := setBits (s.reg R.OX_GLB_STAT) 13 3 s.oxSharedFree

/-- Bring the registers that mirror the channel's state up to date. -/
def State.showOx (s : State) (n : Nat) : State :=
  let s := s.setFld (F.OX_CH_STAT_STATE n) (s.oxState n)
  let s := s.setFlag (F.OX_CH_STAT_QUEUED n) (s.oxWaiting.contains n)
  let s := if s.oxPaired n then s.setReg (R.OX_CH_STAT (n + 1)) (s.reg (R.OX_CH_STAT n)) else s
  let s := s.setFld F.OX_GLB_STAT_QUEUE s.oxWaiting.length
  let s := s.setFld F.OX_GLB_STAT_TOKFREE s.oxSharedFree
  s.setFld F.OX_GLB_STAT_PIGRSV s.oxReservedAll

/-- End a pull-in or withdraw a request: tokens of a grant that has not begun return at once (R294,
R301). -/
def State.oxWithdraw (s : State) (n : Nat) : State :=
  let x := s.oxCh n
  let s := s.setOxCh n { x with req := none, granted := false, begun := none }
  if x.granted && x.begun.isNone then
    { s with ox := { s.ox with out := s.ox.out.filter (fun k => !(k.ch == n && k.returnAt.isNone)) } }
  else s

/-- Switch a channel off at once (R286, R290, R296, R298, R299). With `restart` it starts again with a pull-in;
otherwise with one where R291 asks for it. -/
def State.oxForceOff (s : State) (n : Nat) (restart : Bool) : State :=
  let s := (s.oxWithdraw n).modOxCh n (fun x => { x with
    cutShort := x.cutShort || x.duty != 0, duty := 0, restart := x.restart || restart })
  s.showOx n

/-! ### Duty -/

/-- A Q15 duty as 5 ns steps, with dither amplitude `a` in 0.1 % (R282, R287). -/
def dutySteps (v : Nat) (a : Int) : Nat :=
  (roundDivInt ((v : Int) * 10000 * (1000 + a)) (32768 * 1000)).toNat

/-- Steps as a Q15 duty. -/
def dutyQ15 (steps : Nat) : Nat := min 32767 (roundDiv (steps * 32768) 10000)

/-- Half a dither period, in PWM periods (R287). -/
def dithHalf (freq : Nat) : Nat := roundDiv 10000 freq

def OxCh.sign (x : OxCh) : Int := if x.dFreq = 0 then 0 else if x.dIdx < dithHalf x.dFreq then 1 else -1

/-- Dither moves on by one period: within its period, into the next one, on or off (R285, R287).
`scale` is the lane value of 1 mA. -/
def State.oxDither (s : State) (n scale : Nat) : State :=
  let f := s.fld (F.OX_CH_DITH_DFREQ n)
  let a := s.fld (F.OX_CH_DITH_DAMP n)
  s.modOxCh n (fun x =>
    if x.dFreq = 0 then
      if f = 0 then { x with r := 0 }
      else { x with dFreq := f, dAmp := a, dIdx := 0, dNew := false, posSum := 0, negSum := 0, r := 0 }
    else
      let half := dithHalf x.dFreq
      if x.dIdx + 1 < 2 * half then { x with dIdx := x.dIdx + 1 }
      else { x with
        dFreq := f, dAmp := a, dIdx := 0, dNew := false, posSum := 0, negSum := 0
        r := if x.dNew ∨ f = 0 then 0
          else roundDivInt (((x.posSum : Int) - x.negSum) * scale) (2 * half) })

/-- The measurement flit of the period that has ended (R284, R285). -/
def State.oxMeasure (s : State) (n k cur vb scale : Nat) : State :=
  if !s.flag (F.OX_CH_MRT_EN n) then s else
  let x := s.oxCh n
  let lane1 := min 32767 (cur * scale)
  let lane0 := sat16 ((lane1 : Int) - x.r * x.sign)
  let st := s.fld (F.OX_CH_STAT_STATE n)
  let flit := outFlit [lane0, (lane1 : Int), (min 32767 (roundDiv (vb * 32768) 640) : Nat), (dutyQ15 x.duty : Nat)]
    (if st = 1 then 15 else 0) false (decide (2 ≤ st)) k n
  s.emit 147 (s.fld (F.OX_CH_MRT_ROUTE n)) k 0 true true [flit]

/-- Close the period that has ended: CURR, DUTY, dither sums, the OPEN condition, the flit. -/
def State.oxClose (s : State) (n k cur vb : Nat) : State :=
  let scale := if s.oxPaired n then 4 else 8
  let x := s.oxCh n
  let s := s.setFld (F.OX_CH_STAT_CURR n) (satBits 16 cur)
  let s := s.setFld (F.OX_CH_MON_DUTY n) (dutyQ15 x.duty)
  let s := if s.oxPaired n then s.setFld (F.OX_CH_MON_DUTY (n + 1)) (dutyQ15 x.duty) else s
  let s := s.oxMeasure n (k - 1) cur vb scale
  let s := s.setOxCh n { x with
    posSum := if x.sign = 1 then x.posSum + cur else x.posSum
    negSum := if x.sign = -1 then x.negSum + cur else x.negSum
    offPeriods := if x.duty = 0 && !x.cutShort then x.offPeriods + 1 else 0
    cutShort := false
    openCnt := if decide (1000 ≤ x.duty) && decide (cur < 20) then x.openCnt + 1 else 0 }
  s.oxDither n scale

/-- Apply the latest command that arrived at least 1 µs before the period start (R283, R286, R298). -/
def State.oxApply (s : State) (n : Nat) : State :=
  let x := s.oxCh n
  let due := x.queue.filter (fun q => decide (q.1 + psPerUs ≤ s.modTime))
  let x := { x with queue := x.queue.filter (fun q => decide (s.modTime < q.1 + psPerUs)) }
  match due.getLast? with
    | none => s.setOxCh n { x with noCmd := x.noCmd + 1 }
    | some (_, none) => s.setOxCh n { x with noCmd := 0 }
    | some (_, some v) =>
      s.setOxCh n { x with
        cmd := v, noCmd := 0, timedOut := false
        restart := x.restart || x.needCmd
        needCmd := x.needCmd && s.oxCut n }

/-- A granted pull-in begins (R292, R294): its tokens return 2 ms from now, the delay is recorded. -/
def State.oxBegin (s : State) (n : Nat) : State :=
  let x := s.oxCh n
  let us := (s.modTime - x.req.getD s.modTime) / psPerUs
  let s := s.setOxCh n { x with begun := some s.modTime, req := none, granted := false, duty := 10000, restart := false }
  let s := { s with ox := { s.ox with out := s.ox.out.map (fun (k : OxToken) =>
    if k.ch = n ∧ k.returnAt = none then { k with returnAt := some (s.modTime + 2 * psPerMs) } else k) } }
  let s := s.setFld (F.OX_CH_DLY_LAST n) (satBits 16 us)
  let s := s.bumpMax (F.OX_CH_DLY_MAX n) us
  let s := s.bumpMax F.OX_GLB_TALLY_DLYMAX us
  let s := s.bump (F.OX_CH_MON_PULLINS n)
  let s := if s.oxPaired n then
      ((s.bump (F.OX_CH_MON_PULLINS (n + 1))).setFld (F.OX_CH_DLY_LAST (n + 1)) (satBits 16 us)).bumpMax
        (F.OX_CH_DLY_MAX (n + 1)) us
    else s
  let s := s.bump F.OX_GLB_TALLY_PULLINS
  if s.fld F.OX_GLB_CFG_PIDLYMAX < us then s.raise 141 n else s

/-- The duty of a driving period on the supply: command, dither, clamp and limit (R282, R287, R288). -/
def State.oxSupplyDuty (s : State) (n : Nat) : Nat :=
  let x := s.oxCh n
  let d := min 9800 (dutySteps x.cmd.toNat (x.sign * x.dAmp))
  if s.flag (F.OX_CH_STAT_DLIMACT n) then min d (dutySteps (s.fld (F.OX_CH_LIM_DLIM n)) 0) else d

/-- Choose what the channel does in the period that starts: off, pull-in, waiting or on the supply
(R290 to R294). `cur` is the current of the last period. -/
def State.oxRun (s : State) (n cur : Nat) : State :=
  let x := s.oxCh n
  let d := if s.oxDrives n then s.oxSupplyDuty n else 0
  if d = 0 then (s.oxWithdraw n).modOxCh n (fun y => { y with duty := 0 })
  else if x.begun.isSome then s.modOxCh n (fun y => { y with duty := 10000 })
  else if x.granted then s.oxBegin n
  else if x.req.isSome then s.modOxCh n (fun y => { y with duty := 0 })
  else if s.fld (F.OX_CH_PI_PI_US n) ≠ 0 ∧ (x.restart ∨ (1 ≤ x.offPeriods ∧ cur < 50)) then
    s.modOxCh n (fun y => { y with req := some s.modTime, duty := 0 })
  else s.modOxCh n (fun y => { y with duty := d, restart := false })

/-! ### OX_PWM_PERIOD (R282) -/

/-- The length of an HM-330 PWM period, 5 ns steps. -/
def LegacyValve.steps (v : LegacyValve) : Nat := if v.period = 0 then 10000 else v.period

/-- A PWM period in COMPAT, whose length the legacy core sets (R467): the channel follows the legacy
fields as they stand at its start and, after a cut, does so again from here (R464). The duty that the
power-stage controller's own current loop yields is free, at most 0.98 of the period (log entry 20). Pull-in, pairing, duty limit, timeout
and boost tokens take no part. -/
def opLegacyPeriod (n cur vb : Nat) (s : State) : State :=
  let x := s.oxCh n
  if 16 ≤ n ∨ s.now < x.legacyAt + 5000 * x.legacyRun.steps then s else
  let s := s.setFld F.OX_GLB_STAT_VBOOST (min vb 1023)
  let share := x.duty * 10000 / x.legacyRun.steps
  let s := s.setFld (F.OX_CH_STAT_CURR n) (satBits 16 cur)
  let s := s.setFld (F.OX_CH_MON_DUTY n) (dutyQ15 share)
  let s := s.setOxCh n { x with
    live := true, timedOut := false, needCmd := x.needCmd && s.oxCut n
    openCnt := if decide (1000 ≤ share) && decide (cur < 20) then x.openCnt + 1 else 0
    legacyRun := x.legacy, legacyAt := s.now }
  let (v, s) := s.drawFree 32
  let s := s.modOxCh n (fun y => { y with
    duty := if s.oxDrives n && decide (y.legacy.ma ≠ 0) then min (98 * y.legacy.steps / 100) v.toNat else 0 })
  s.showOx n

/-- The start of PWM period k of channel n: `cur` is the mean current of the period that has ended, in
mA (a pair's total), `vb` the rail voltage in 0.1 V. The odd channel of a pair follows the even one. -/
def opPwmPeriod (n cur vb : Nat) (s : State) : State :=
  if s.mode = .compat then opLegacyPeriod n cur vb s else
  if s.modTime < pwmPhase n ∨ (s.modTime - pwmPhase n) % pwmPeriod ≠ 0 ∨ s.oxBase n ≠ n then s else
  let k := (s.modTime - pwmPhase n) / pwmPeriod
  let s := s.setFld F.OX_GLB_STAT_VBOOST (min vb 1023)
  let s := if k = 0 then s else s.oxClose n k cur vb
  let s := s.modOxCh n (fun x => { x with live := s.flag (F.OX_CH_CFG_EN n) })
  let s := if (s.oxCh n).live then s.oxApply n else s.modOxCh n (fun x => { x with noCmd := 0 })
  let s := s.oxRun n cur
  let s := s.modOxCh n (fun x => { x with acc := x.acc + x.duty })
  s.showOx n

def execOxPwmPeriod (t : Nat) (n : Fin 48) (cur vb : Nat) (s : State) :
    Host.Outcome State Fault Refusal :=
  .next (opPwmPeriod n.val cur vb (s.tick t))

/-! ### OX_COMMAND_FLIT (R283, R297) -/

/-- The stage receives an output flit: every channel bound to its route takes its lane. The first flit
of a new source slot is discarded. -/
def State.oxFlit (s : State) (route : Nat) (f : Flit) : State :=
  let src := bitsOf f.toNat 112 13 + 1
  (List.range 48).foldl (fun s n =>
    if s.fld (F.OX_CH_CFG_ROUTE n) = route && s.oxBase n == n then
      s.modOxCh n (fun x =>
        let v := if x.src ≠ 0 ∧ x.src ≠ src then none else some (lane f.toNat (s.fld (F.OX_CH_CFG_LANE n)))
        { x with src := src, queue := x.queue ++ [(s.modTime, v)] })
    else s) s

/-- A command flit for the stage: a stream-data packet of one flit to endpoint 147. -/
def State.takeOxFlit (s : State) (p : Packet) : State :=
  match p.payload with
  | [f] => if p.dst = 147 && p.typ == 3 && !p.spec then s.oxFlit p.stream f else s
  | _ => s

def opOxCommandFlit (p : Packet) (s : State) : State :=
  if p.dst = 147 && p.typ == 3 && s.lands p then (s.arrived p).takeOxFlit p else s

def execOxCommandFlit (t : Nat) (p : Packet) (s : State) : Host.Outcome State Fault Refusal :=
  .next (opOxCommandFlit p (s.tick t))

/-! ### OX_COMMAND_TIMEOUT (R286) -/

def opOxTimeout (n : Nat) (s : State) : State :=
  let x := s.oxCh n
  let tmo := s.fld (F.OX_CH_LIM_TMO n)
  if s.oxBase n ≠ n ∨ !x.live ∨ tmo = 0 ∨ x.noCmd < tmo ∨ x.timedOut ∨ s.mode = .compat then s else
  let s := s.setFlag (F.OX_CH_STAT_TIMEOUT n) true
  let s := (s.modOxCh n (fun y => { y with timedOut := true })).oxForceOff n false
  s.raise 139 n

def execOxCommandTimeout (t : Nat) (n : Fin 48) (s : State) : Host.Outcome State Fault Refusal :=
  .next (opOxTimeout n.val (s.tick t))

/-! ### OX_DUTY_LIMIT_EVAL (R288) -/

/-- Every 10 ms: the mean applied duty over DWIN seconds against DLIM. Periods before enable and before
a restart of the window count as duty 0. -/
def opDutyLimit (n : Nat) (s : State) : State :=
  if !s.atWhole (10 * psPerMs) || s.oxBase n != n || s.mode == .compat then s else
  let x := s.oxCh n
  let win := (x.acc :: x.win).take 6000
  let s := s.setOxCh n { x with win := win, acc := 0 }
  let spans := 100 * s.fld (F.OX_CH_LIM_DWIN n)
  let sum := ((win.take spans).sum : Nat)
  let lim := s.fld (F.OX_CH_LIM_DLIM n)
  let full := spans * 200 * 10000
  if !s.flag (F.OX_CH_STAT_DLIMACT n) then
    if lim * full ≤ sum * 32768 then
      ((s.setFlag (F.OX_CH_STAT_DLIMACT n) true).showOx n).raise 140 n
    else s
  else if (sum : Int) * 32768 * 20 < ((lim : Int) * 20 - 32768) * full then
    (s.setFlag (F.OX_CH_STAT_DLIMACT n) false).showOx n
  else s

def execOxDutyLimitEval (t : Nat) (n : Fin 48) (s : State) : Host.Outcome State Fault Refusal :=
  .next (opDutyLimit n.val (s.tick t))

/-! ### OX_PAIR_WRITE and OX_PIG_WRITE (R289, R293): a write to OX_CH_CFG -/

/-- The configuration fields that EN = 1 protects, as (lowest bit, width) (R303). -/
def oxFixed : List (Nat × Nat) := [(1, 1), (3, 1), (4, 3), (8, 12), (20, 2)]

/-- PAIR of channel n is written with another value: pairing is refused while a channel of the pair is
enabled (R289), unpairing while the even channel is (R303). -/
def State.oxWritePair (s : State) (n : Nat) (b : Bool) : State :=
  let after := s.setFlag (F.OX_CH_CFG_PAIR n) b
  if b && (s.flag (F.OX_CH_CFG_EN n) || s.flag (F.OX_CH_CFG_EN (n + 1)) || decide (6 < after.oxReservedAll)) then
    (s.setFlag F.OX_GLB_STAT_PAIRREJ true).raise 145 n
  else if s.flag (F.OX_CH_CFG_EN n) then s
  else after

/-- PIG of channel n is written with another value. -/
def State.oxWritePig (s : State) (n : Nat) (b : Bool) : State :=
  let after := s.setFlag (F.OX_CH_CFG_PIG n) b
  if b && decide (6 < after.oxReservedAll) then (s.setFlag F.OX_GLB_STAT_PIGREJ true).raise 144 n else after

/-- Does the channel serve the legacy core (R463)? -/
def State.oxLegacy (s : State) (n : Nat) : Bool := s.mode == .compat && decide (n < 16)

/-- A write to OX_CH_CFG[n]. Fields that keep their value are not written (log entry 17). -/
def opOxCfgWrite (n : Nat) (v : Word) (s : State) : State :=
  if s.oxLegacy n then s.setFlag (F.OX_CH_CFG_CFGREJ n) true else
  let old := (s.reg (R.OX_CH_CFG n)).toNat
  let en := s.flag (F.OX_CH_CFG_EN n)
  let pairOff := n % 2 = 1
  let changed := oxFixed.any (fun f => bitsOf v.toNat f.1 f.2 != bitsOf old f.1 f.2 && !(pairOff && f.1 == 1))
  let s := if bitOf v.toNat 22 then s.setFlag (F.OX_CH_CFG_CFGREJ n) false else s
  let s := if en then
      let s := if changed then s.setFlag (F.OX_CH_CFG_CFGREJ n) true else s
      if bitOf v.toNat 1 != bitOf old 1 && !pairOff then s.oxWritePair n (bitOf v.toNat 1) else s
    else
      let s := s.setFld (F.OX_CH_CFG_CLASS n) (bitsOf v.toNat 4 3)
      let s := s.setFld (F.OX_CH_CFG_ROUTE n) (bitsOf v.toNat 8 12)
      let s := s.setFld (F.OX_CH_CFG_LANE n) (bitsOf v.toNat 20 2)
      let s := if bitOf v.toNat 1 != bitOf old 1 && !pairOff then s.oxWritePair n (bitOf v.toNat 1) else s
      if bitOf v.toNat 3 != bitOf old 3 then s.oxWritePig n (bitOf v.toNat 3) else s
  let s := if en && !bitOf v.toNat 0 && (s.oxCh n).begun.isNone then s.oxWithdraw n else s
  let s := s.setFlag (F.OX_CH_CFG_EN n) (bitOf v.toNat 0)
  let s := s.setFlag (F.OX_CH_CFG_GCUT n) (bitOf v.toNat 2)
  s.showOx (s.oxBase n)

def execOxPairWrite (t : Nat) (n : Fin 48) (v : Word) (s : State) : Host.Outcome State Fault Refusal :=
  .next (opOxCfgWrite n.val v (s.tick t))

def execOxPigWrite (t : Nat) (n : Fin 48) (v : Word) (s : State) : Host.Outcome State Fault Refusal :=
  .next (opOxCfgWrite n.val v (s.tick t))

/-- Writes to the channel's other registers (R287, R288, R303). -/
def opOxPiWrite (n : Nat) (v : Word) (s : State) : State :=
  if s.oxLegacy n then s else
  let s := s.setFld (F.OX_CH_PI_PI_US n) (min 1000 (bitsOf v.toNat 0 10))
  s.setFld (F.OX_CH_PI_PI_MA n) (clampNat 1 4000 (bitsOf v.toNat 16 12))

def opOxDithWrite (n : Nat) (v : Word) (s : State) : State :=
  if s.oxLegacy n then s else
  let f := bitsOf v.toNat 0 9
  let s := s.setFld (F.OX_CH_DITH_DFREQ n) (if f = 0 then 0 else clampNat 50 400 f)
  let s := s.setFld (F.OX_CH_DITH_DAMP n) (min 200 (bitsOf v.toNat 16 8))
  s.modOxCh n (fun x => { x with dNew := true, r := 0 })

def opOxLimWrite (n : Nat) (v : Word) (s : State) : State :=
  if s.oxLegacy n then s else
  let s := s.setFld (F.OX_CH_LIM_DLIM n) (bitsOf v.toNat 0 16)
  let s := s.setFld (F.OX_CH_LIM_TMO n) (bitsOf v.toNat 24 8)
  let s := s.setFld (F.OX_CH_LIM_DWIN n) (clampNat 1 60 (bitsOf v.toNat 16 6))
  s.modOxCh n (fun x => { x with win := [], acc := 0 })

/-! ### OX_PULLIN_GRANT, OX_PULLIN_END, OX_TOKEN_RETURN (R291 to R294) -/

/-- The waiting channel that is served first among those that share tokens: class, request, channel. -/
def State.oxFirst (s : State) : Option Nat :=
  let key := fun n => [s.fld (F.OX_CH_CFG_CLASS n), (s.oxCh n).req.getD 0, n]
  (s.oxWaiting.filter (fun n => !s.flag (F.OX_CH_CFG_PIG n))).foldl (fun best n => match best with
    | none => some n
    | some b => if lexLess (key n) (key b) then some n else some b) none

/-- Are the tokens of channel n's request there? Of the six, reserved or shared, none may be given out twice
(R292). -/
def State.oxTokens (s : State) (n : Nat) : Bool :=
  if s.flag (F.OX_CH_CFG_PIG n) then
    s.oxReservedOut n == 0 && decide (s.ox.out.length + s.oxNeed n ≤ 6)
  else s.oxFirst == some n && decide (s.oxNeed n ≤ s.oxSharedFree)

/-- The tokens whose 2 ms end by the present 5 ns step return (R292, R301). -/
def State.returnTokens (s : State) : State :=
  let s := { s with ox := { s.ox with out := s.ox.out.filter (fun k => match k.returnAt with
    | some a => decide (s.modTime / 5000 < a / 5000)
    | none => true) } }
  s.setFld F.OX_GLB_STAT_TOKFREE s.oxSharedFree

/-- A grant test: a token that returns in the same 5 ns step returns first (R301). -/
def opPullinGrant (n : Nat) (s : State) : State :=
  let s := s.returnTokens
  if !s.oxWaiting.contains n || s.flag F.OX_GLB_STAT_LOW || !s.oxTokens n then s else
  let tok : OxToken := ⟨n, s.flag (F.OX_CH_CFG_PIG n), none⟩
  let s := { s with ox := { s.ox with out := s.ox.out ++ List.replicate (s.oxNeed n) tok } }
  let s := s.modOxCh n (fun x => { x with granted := true })
  let s := if (s.modTime - pwmPhase n) % pwmPeriod = 0 ∧ pwmPhase n ≤ s.modTime then
      (s.oxBegin n).modOxCh n (fun x => { x with acc := x.acc + x.duty }) else s
  s.showOx n

def execOxPullinGrant (t : Nat) (n : Fin 48) (s : State) : Host.Outcome State Fault Refusal :=
  .next (opPullinGrant n.val (s.tick t))

/-- A pull-in ends: time, current `cur` in mA or energy `mj` in mJ (R291). -/
def opPullinEnd (n cur mj : Nat) (s : State) : State :=
  match (s.oxCh n).begun with
  | none => s
  | some b =>
    let pair := s.oxPaired n
    let ma := max 1 (s.fld (F.OX_CH_PI_PI_MA n)) * (if pair then 2 else 1)
    if b + s.fld (F.OX_CH_PI_PI_US n) * psPerUs ≤ s.modTime ∨ ma ≤ cur ∨ 120 * s.oxNeed n ≤ mj then
      s.modOxCh n (fun x => { x with begun := none })
    else s

def execOxPullinEnd (t : Nat) (n : Fin 48) (cur mj : Nat) (s : State) :
    Host.Outcome State Fault Refusal :=
  .next (opPullinEnd n.val cur mj (s.tick t))

/-- The tokens whose 2 ms end now return (R292). -/
def opTokenReturn (s : State) : State := s.returnTokens

def execOxTokenReturn (t : Nat) (s : State) : Host.Outcome State Fault Refusal :=
  .next (opTokenReturn (s.tick t))

/-! ### Rail and supply (R290, R295, R296) -/

def State.setBoost (s : State) (vb : Nat) : State := s.setFld F.OX_GLB_STAT_VBOOST (min vb 1023)

/-- The rail below 40 V; `vb` in 0.1 V. -/
def opRailLow (vb : Nat) (s : State) : State :=
  if 400 ≤ vb then s else
  let s := s.setBoost vb
  if s.flag F.OX_GLB_STAT_LOW then s else (s.setFlag F.OX_GLB_STAT_LOW true).raise 142 vb

def execOxRailLow (t : Nat) (vb : Nat) (s : State) : Host.Outcome State Fault Refusal :=
  .next (opRailLow vb (s.tick t))

def opRailRecover (vb : Nat) (s : State) : State :=
  if vb < 440 then s else (s.setBoost vb).setFlag F.OX_GLB_STAT_LOW false

def execOxRailRecover (t : Nat) (vb : Nat) (s : State) : Host.Outcome State Fault Refusal :=
  .next (opRailRecover vb (s.tick t))

def opRailClamp (vb : Nat) (s : State) : State :=
  if vb ≤ 580 then s else
  let s := s.setBoost vb
  if s.flag F.OX_GLB_STAT_CLAMP then s else (s.setFlag F.OX_GLB_STAT_CLAMP true).raise 143 (min vb 1023)

def execOxRailClamp (t : Nat) (vb : Nat) (s : State) : Host.Outcome State Fault Refusal :=
  .next (opRailClamp vb (s.tick t))

def opRailClampEnd (vb : Nat) (s : State) : State :=
  if 580 < vb then s else (s.setBoost vb).setFlag F.OX_GLB_STAT_CLAMP false

def execOxRailClampEnd (t : Nat) (vb : Nat) (s : State) : Host.Outcome State Fault Refusal :=
  .next (opRailClampEnd vb (s.tick t))

/-- Every channel at its own base, once. -/
def State.oxBases (s : State) : List Nat := (List.range 48).filter (fun n => s.oxBase n == n)

/-- The supply below 9 V, in mV: every channel switches off. -/
def opOxSupplyLow (mv : Nat) (s : State) : State :=
  if 9000 ≤ mv then s else
  let s := { s with ox := { s.ox with lowAt := s.modTime } }
  if s.flag F.OX_GLB_STAT_SUPLOW then s else
  let s := s.setFlag F.OX_GLB_STAT_SUPLOW true
  (s.oxBases.foldl (fun s n => s.oxForceOff n true) s).raise 146 0

def execOxSupplyLow (t : Nat) (mv : Nat) (s : State) : Host.Outcome State Fault Refusal :=
  .next (opOxSupplyLow mv (s.tick t))

/-- The supply, now at `mv`, has been at 10 V or above since `okAt` (ps of module time), later than it was found
low: after 2 ms channels drive again, first with a pull-in. -/
def opOxSupplyRestored (mv okAt : Nat) (s : State) : State :=
  if mv < 10000 ∨ s.modTime < okAt + 2 * psPerMs ∨ okAt ≤ s.ox.lowAt ∨ !s.flag F.OX_GLB_STAT_SUPLOW then s else
  let s := s.setFlag F.OX_GLB_STAT_SUPLOW false
  s.oxBases.foldl (fun s n => s.showOx n) s

def execOxSupplyRestored (t : Nat) (mv : SupplySince) (s : State) : Host.Outcome State Fault Refusal :=
  .next (opOxSupplyRestored mv.mv mv.okAt (s.tick t))

/-- The Goose imposes safe stop or cuts the stage: every channel with GCUT = 1 switches off until a
command applies after the cut (R298). -/
def State.cutOx (s : State) : State :=
  (s.oxBases.filter s.oxCut).foldl (fun s n =>
    (s.modOxCh n (fun x => { x with needCmd := true })).oxForceOff n true) s

/-! ### Faults (R299, R300) -/

/-- A fault bit is set with its event and record, unless it is set already. -/
def State.oxFault (s : State) (n : Nat) (f : Fld) (event sev : Nat) : State :=
  if s.flag f then s else ((s.setFlag f true).raise event n).henMake sev event n

def opOxShort (n ma : Nat) (s : State) : State :=
  if s.oxBase n ≠ n ∨ ma ≤ (if s.oxPaired n then 10000 else 5000) then s
  else (s.oxFault n (F.OX_CH_STAT_SHORT n) 136 sevError).oxForceOff n true

def execOxShort (t : Nat) (n : Fin 48) (ma : Nat) (s : State) : Host.Outcome State Fault Refusal :=
  .next (opOxShort n.val ma (s.tick t))

/-- Duty at least 0.10 for 20 ms, 400 periods, with a mean current below 20 mA: reported only. -/
def opOxOpen (n : Nat) (s : State) : State :=
  if s.oxBase n ≠ n ∨ (s.oxCh n).openCnt < 400 then s
  else (s.oxFault n (F.OX_CH_STAT_OPEN n) 137 sevWarning).showOx n

def execOxOpen (t : Nat) (n : Fin 48) (s : State) : Host.Outcome State Fault Refusal :=
  .next (opOxOpen n.val (s.tick t))

def opOxOvertemp (n : Nat) (celsius : Int) (s : State) : State :=
  if s.oxBase n ≠ n ∨ celsius ≤ 165 then s
  else (s.oxFault n (F.OX_CH_STAT_OVERTEMP n) 138 sevError).oxForceOff n true

def execOxOvertemp (t : Nat) (n : Fin 48) (celsius : Int) (s : State) :
    Host.Outcome State Fault Refusal :=
  .next (opOxOvertemp n.val celsius (s.tick t))

/-- Clear fault bits `m` (as bits 4 to 7 of OX_CH_STAT); a condition that still holds sets its bit again
without an event, OVERTEMP while the junction is at 150 °C or above (R300). OPEN holds while its 400 periods
stand (R299). -/
def State.oxClear (s : State) (n m : Nat) (shortHolds : Bool) (junction : Int) : State :=
  let b := s.oxBase n
  let put := fun (s : State) (f : Fld) (holds : Bool) => if bitOf m f.lo then s.setFlag f (s.flag f && holds) else s
  let s := put s (F.OX_CH_STAT_SHORT b) shortHolds
  let s := put s (F.OX_CH_STAT_OPEN b) (decide (400 ≤ (s.oxCh b).openCnt))
  let s := put s (F.OX_CH_STAT_OVERTEMP b) (decide (150 ≤ junction))
  (put s (F.OX_CH_STAT_TIMEOUT b) false).showOx b

def execOxChStatClear (t : Nat) (n : Fin 48) (v : Word) (shortHolds : Bool) (_ : Unit) (junction : Int)
    (s : State) : Host.Outcome State Fault Refusal :=
  .next (if s.oxLegacy n.val then s.tick t
    else (s.tick t).oxClear n.val v.toNat shortHolds junction)

def opOxFaultClear (shortHolds : Bool) (junction : Int) (s : State) (o : Op) : State :=
  let n := o.arg1 0 6
  if o.ctx ≠ 0 then s.finish o codeFaultAccess 1 0
  else
    let s := s.oxClear n 0x70 shortHolds junction
    s.finish o codeDone 0 (s.reg (R.OX_CH_STAT n)).toNat

def execOxFaultClear (t : Nat) (c : Fin 4096) (tag : Nat) (shortHolds : Bool) (_ : Unit) (junction : Int)
    (s : State) : Host.Outcome State Fault Refusal :=
  .next ((s.tick t).beginOp c.val tag 0x40 (opOxFaultClear shortHolds junction))

def opOxStatusRead (s : State) (o : Op) : State :=
  let bs := (List.range 48).flatMap (fun n =>
    [R.OX_CH_STAT n, R.OX_CH_DLY n, R.OX_CH_MON n, R.OX_CH_CFG n].flatMap (fun a => leBytes 4 (s.reg a).toNat))
  let (w, s) := s.readMeasured 0x3FF s.oxGlbStat
  (s.writeBytes o.buf bs).finish o codeDone 0 w.toNat

def execOxStatusRead (t : Nat) (c : Fin 4096) (tag : Nat) (s : State) :
    Host.Outcome State Fault Refusal :=
  .next ((s.tick t).beginOp c.val tag 0x41 opOxStatusRead)

end Sys2Proof.Machine
end

