-- ==== Sys2Proof/Machine/Mule.lean ====
section
/-!
DEFINITION. Machine/Mule.lean: the Mule protected load switches (R305 to R319).
-/

namespace Sys2Proof.Machine

def State.mulCh (s : State) (n : Nat) : MulCh := spGet s.mul.ch n
def State.setMulCh (s : State) (n : Nat) (x : MulCh) : State :=
  { s with mul := { s.mul with ch := spSet s.mul.ch n x } }
def State.modMulCh (s : State) (n : Nat) (f : MulCh → MulCh) : State := s.setMulCh n (f (s.mulCh n))

/-- Current limit of a channel, mA (R305). -/
def mulLimit (n : Nat) : Nat := if n < 32 then 25000 else 8000

/-- Does the mode drive the channel (R305)? -/
def State.mulMode (s : State) (n : Nat) : Bool :=
  match s.mode with
  | .field | .road | .service => true
  | .compat => decide (n < 24)
  | _ => false

/-- Does the channel serve the legacy core (R463)? It then counts as enabled. -/
def State.mulLegacy (s : State) (n : Nat) : Bool := s.mode == .compat && decide (n < 24)

def State.mulEnabled (s : State) (n : Nat) : Bool := s.flag (F.MUL_CH_CFG_EN n) || s.mulLegacy n

/-- Does the Goose cut the channel (R309)? In COMPAT as if its GCUT were 1 (R464). -/
def State.mulCut (s : State) (n : Nat) : Bool :=
  (s.flag (F.MUL_CH_CFG_GCUT n) || s.mulLegacy n) && (s.flag F.GOO_STAT_SAFESTOP || s.flag F.GOO_STAT_MULCUT)

/-- May the channel be on? -/
def State.mulDrives (s : State) (n : Nat) : Bool :=
  let x := s.mulCh n
  s.mulEnabled n && s.mulMode n && !s.mulCut n && !x.needCmd && !s.flag F.MUL_GLB_STAT_UVLO
    && !x.fault && x.shutAt.isNone

/-- STATE: 0 off, 1 on, 2 faulted, 3 forced off (R318). DESIGN CHOICE (log entry 117): the spec gives no STATE
for a channel that waits for its retry; the model shows 2. -/
def State.mulState (s : State) (n : Nat) : Nat :=
  let x := s.mulCh n
  if x.on then 1
  else if !s.mulEnabled n || !s.mulMode n then 0
  else if s.flag F.MUL_GLB_STAT_UVLO || s.mulCut n || x.needCmd then 3
  else if x.fault || x.shutAt.isSome then 2 else 0

/-- Bring STATE, ILIM and the count of channels on up to date. -/
def State.showMul (s : State) (n : Nat) : State :=
  let s := s.setFld (F.MUL_CH_STAT_STATE n) (s.mulState n)
  let s := s.setFlag (F.MUL_CH_STAT_ILIM n) (s.mulCh n).limitAt.isSome
  s.setFld F.MUL_GLB_STAT_ON ((s.mul.ch.filter (fun p => p.2.on)).length)

/-- Switch a channel off: a limiting episode ends (R311, R316). -/
def State.mulOff (s : State) (n : Nat) : State :=
  let s := s.modMulCh n (fun x => { x with
    on := false, limitAt := none, limitLong := false
    offSince := if x.on then s.modTime else x.offSince })
  (s.setFld (F.MUL_CH_STAT_CURR n) 0).showMul n

/-- Switch a channel on. -/
def State.mulOn (s : State) (n : Nat) : State :=
  if (s.mulCh n).on then s.showMul n else
  let s := s.modMulCh n (fun x => { x with
    on := true, onSince := s.modTime, lastLimit := s.modTime, openCnt := 0, batCnt := 0 })
  (s.bump (F.MUL_CH_TALLY_SWON n)).showMul n

/-- Let the channel follow its command (R306, R307). OFF abandons a retry wait (R316). -/
def State.mulFollow (s : State) (n : Nat) : State :=
  let s := if (s.mulCh n).cmd then s else s.modMulCh n (fun x => { x with shutAt := none })
  if (s.mulCh n).cmd && s.mulDrives n then s.mulOn n else s.mulOff n

/-- A command applies: after a cut it lets the channel follow again (R309). -/
def State.mulCommand (s : State) (n : Nat) (on : Bool) : State :=
  let s := s.modMulCh n (fun x => { x with cmd := on, needCmd := x.needCmd && s.mulCut n })
  s.mulFollow n

/-! ### MUL_COMMAND_FLIT, MUL_CH_CMD_WRITE, MUL_CH_CFG (R306, R308, R318) -/

/-- The stage receives an output flit: every channel with SRC = 0 bound to its route. -/
def State.mulFlit (s : State) (route : Nat) (f : Flit) : State :=
  let src := bitsOf f.toNat 112 13 + 1
  (List.range 64).foldl (fun s n =>
    if s.fld (F.MUL_CH_CFG_ROUTE n) = route && !s.flag (F.MUL_CH_CFG_SRC n) && s.mode != .compat then
      let x := s.mulCh n
      let fresh := x.src ≠ 0 ∧ x.src ≠ src
      let s := s.setMulCh n { x with src := src }
      if fresh then s else s.mulCommand n (decide (16384 ≤ lane f.toNat (s.fld (F.MUL_CH_CFG_LANE n))))
    else s) s

/-- A command flit for the stage: a stream-data packet of one flit to endpoint 148. -/
def State.takeMulFlit (s : State) (p : Packet) : State :=
  match p.payload with
  | [f] => if p.dst = 148 && p.typ == 3 && !p.spec then s.mulFlit p.stream f else s
  | _ => s

def opMulCommandFlit (p : Packet) (s : State) : State :=
  if p.dst = 148 && p.typ == 3 && s.lands p then (s.arrived p).takeMulFlit p else s

def execMulCommandFlit (t : Nat) (p : Packet) (s : State) : Host.Outcome State Fault Refusal :=
  .next (opMulCommandFlit p (s.tick t))

/-- A write to MUL_CH_CMD: the command of a register-sourced channel. -/
def opMulCmdWrite (n : Nat) (v : Word) (s : State) : State :=
  if s.mulLegacy n then s else
  let s := s.setFlag (F.MUL_CH_CMD_ON n) (bitOf v.toNat 0)
  if s.flag (F.MUL_CH_CFG_SRC n) && s.mode != .compat then s.mulCommand n (bitOf v.toNat 0) else s

def execMulChCmdWrite (t : Nat) (n : Fin 64) (v : Word) (s : State) : Host.Outcome State Fault Refusal :=
  .next (opMulCmdWrite n.val v (s.tick t))

/-- A write to MUL_CH_CFG: SRC, ROUTE and LANE keep their values while EN = 1 and CFGREJ is set when
they would have changed. With SRC = 1, EN going to 1 applies the register command (log entry 18). -/
def opMulCfgWrite (n : Nat) (v : Word) (s : State) : State :=
  if s.mulLegacy n then s.setFlag (F.MUL_CH_CFG_CFGREJ n) true else
  let old := (s.reg (R.MUL_CH_CFG n)).toNat
  let en := s.flag (F.MUL_CH_CFG_EN n)
  let fixed := [(1, 1), (8, 12), (20, 2)]
  let changed := fixed.any (fun f => bitsOf v.toNat f.1 f.2 != bitsOf old f.1 f.2)
  let s := if bitOf v.toNat 22 then s.setFlag (F.MUL_CH_CFG_CFGREJ n) false else s
  let s := if en then (if changed then s.setFlag (F.MUL_CH_CFG_CFGREJ n) true else s)
    else
      let s := s.setFlag (F.MUL_CH_CFG_SRC n) (bitOf v.toNat 1)
      let s := s.setFld (F.MUL_CH_CFG_ROUTE n) (bitsOf v.toNat 8 12)
      s.setFld (F.MUL_CH_CFG_LANE n) (bitsOf v.toNat 20 2)
  let s := s.setFlag (F.MUL_CH_CFG_GCUT n) (bitOf v.toNat 2)
  let s := s.setFlag (F.MUL_CH_CFG_OLDET n) (bitOf v.toNat 3)
  let s := s.setFld (F.MUL_CH_CFG_RETRY n) (bitsOf v.toNat 4 3)
  let s := s.setFlag (F.MUL_CH_CFG_EN n) (bitOf v.toNat 0)
  if bitOf v.toNat 0 && !en then
    let on := s.flag (F.MUL_CH_CFG_SRC n) && s.flag (F.MUL_CH_CMD_ON n)
    (s.modMulCh n (fun x => { x with cmd := on })).mulFollow n
  else if en && !bitOf v.toNat 0 then
    (s.modMulCh n (fun x => { x with shutAt := none, fault := false, cmd := false, openCnt := 0, batCnt := 0 })).mulOff n
  else s.showMul n

/-! ### Supply (R310) -/

/-- The supply, in mV, below 4.5 V for 100 µs, which began after UVLO last ended. -/
def opMulUvlo (mv : Nat) (s : State) : State :=
  if 4500 ≤ mv ∨ s.flag F.MUL_GLB_STAT_UVLO ∨ s.modTime < s.mul.uvloAt + 100 * psPerUs then s else
  let s := { s with mul := { s.mul with uvloAt := s.modTime } }
  let s := (s.setFlag F.MUL_GLB_STAT_UVLO true).setFld F.MUL_GLB_STAT_VSUP (mv / 100)
  let s := (List.range 64).foldl (fun s n => s.mulOff n) s
  s.raise 165 (mv / 100)

def execMulUvlo (t : Nat) (mv : Nat) (s : State) : Host.Outcome State Fault Refusal :=
  .next (opMulUvlo mv (s.tick t))

/-- The supply at 6.0 V or above for 2 ms, which began after UVLO did: channels whose command is ON switch on
again. -/
def opMulUvloRelease (mv : Nat) (s : State) : State :=
  if mv < 6000 ∨ !s.flag F.MUL_GLB_STAT_UVLO ∨ s.modTime < s.mul.uvloAt + 2 * psPerMs then s else
  let s := { s with mul := { s.mul with uvloAt := s.modTime } }
  let s := (s.setFlag F.MUL_GLB_STAT_UVLO false).setFld F.MUL_GLB_STAT_VSUP (min 1023 (mv / 100))
  let s := (List.range 64).foldl (fun s n => s.mulFollow n) s
  s.raise 166 (min 1023 (mv / 100))

def execMulUvloRelease (t : Nat) (mv : Nat) (s : State) : Host.Outcome State Fault Refusal :=
  .next (opMulUvloRelease mv (s.tick t))

/-! ### Limiting and thermal shutdown (R311, R312) -/

/-- The load current reaches ILIM. -/
def opLimitStart (n ma : Nat) (s : State) : State :=
  let x := s.mulCh n
  if !x.on ∨ ma < mulLimit n ∨ x.limitAt.isSome then s else
  let s := s.setMulCh n { x with limitAt := some s.modTime, limitLong := false, lastLimit := s.modTime }
  let s := (s.bump (F.MUL_CH_TALLY_ILIMCNT n)).bump F.MUL_GLB_TALLY_ILIM
  (s.setFld (F.MUL_CH_STAT_CURR n) (mulLimit n)).showMul n

def execMulLimitStart (t : Nat) (n : Fin 64) (ma : Nat) (s : State) : Host.Outcome State Fault Refusal :=
  .next (opLimitStart n.val ma (s.tick t))

/-- Limiting without a break for 10 ms: event 161, once per episode. -/
def opLimitLong (n : Nat) (s : State) : State :=
  let x := s.mulCh n
  match x.limitAt with
  | none => s
  | some a =>
    if x.limitLong ∨ s.modTime < a + 10 * psPerMs then s
    else (s.setMulCh n { x with limitLong := true }).raise 161 n

def execMulLimitLong (t : Nat) (n : Fin 64) (s : State) : Host.Outcome State Fault Refusal :=
  .next (opLimitLong n.val (s.tick t))

/-- The load current falls below ILIM. -/
def opLimitEnd (n ma : Nat) (s : State) : State :=
  let x := s.mulCh n
  if x.limitAt.isNone ∨ mulLimit n ≤ ma then s else
  let s := s.setMulCh n { x with limitAt := none, limitLong := false, lastLimit := s.modTime }
  (s.setFld (F.MUL_CH_STAT_CURR n) (satBits 16 ma)).showMul n

def execMulLimitEnd (t : Nat) (n : Fin 64) (ma : Nat) (s : State) : Host.Outcome State Fault Refusal :=
  .next (opLimitEnd n.val ma (s.tick t))

/-- The junction reaches 175 °C: the channel switches off; with its restarts used up it stays off. -/
def opThermal (n : Nat) (celsius : Int) (s : State) : State :=
  let x := s.mulCh n
  if !x.on ∨ celsius < 175 then s else
  let used := s.fld (F.MUL_CH_STAT_RETRIES n)
  let r := if s.mulLegacy n then 0 else s.fld (F.MUL_CH_CFG_RETRY n)
  let last := decide (r ≤ used)
  let s := s.setFlag (F.MUL_CH_STAT_TSD n) true
  let s := (s.bump (F.MUL_CH_TALLY_TSDCNT n)).bump F.MUL_GLB_TALLY_TSD
  let s := s.mulOff n
  let s := s.modMulCh n (fun y => { y with
    shutAt := if last then none else some s.modTime, fault := last, tsdAt := s.modTime })
  let s := s.showMul n
  let s := (s.raise 160 n).henMake sevError 160 n
  if last then s.raise 164 n else s

def execMulThermalShutdown (t : Nat) (n : Fin 64) (celsius : Int) (s : State) :
    Host.Outcome State Fault Refusal :=
  .next (opThermal n.val celsius (s.tick t))

/-- A retry: the junction is below 150 °C, 100 ms have passed, and the command is still ON (R312). -/
def opMulRetry (n : Nat) (celsius : Int) (s : State) : State :=
  let x := s.mulCh n
  match x.shutAt with
  | none => s
  | some a =>
    if 150 ≤ celsius ∨ s.modTime < a + 100 * psPerMs ∨ !x.cmd then s else
    let s := s.setMulCh n { x with shutAt := none }
    if s.mulDrives n then
      let s := s.setFld (F.MUL_CH_STAT_RETRIES n) (min 7 (s.fld (F.MUL_CH_STAT_RETRIES n) + 1))
      s.mulOn n
    else s.showMul n

def execMulRetry (t : Nat) (n : Fin 64) (celsius : Int) (s : State) : Host.Outcome State Fault Refusal :=
  .next (opMulRetry n.val celsius (s.tick t))

/-- One second on without limiting clears RETRIES (R312). -/
def opMulRetryClear (n : Nat) (s : State) : State :=
  let x := s.mulCh n
  if x.on && x.limitAt.isNone && decide (max x.onSince x.lastLimit + psPerS ≤ s.modTime) then
    s.setFld (F.MUL_CH_STAT_RETRIES n) 0
  else s

def execMulRetryCountClear (t : Nat) (n : Fin 64) (s : State) : Host.Outcome State Fault Refusal :=
  .next (opMulRetryClear n.val (s.tick t))

/-! ### MUL_OFFSTATE_CHECK (R313) -/

/-- Report a diagnosis: bit, event and a Warning, unless the bit is set already. -/
def State.mulReport (s : State) (n : Nat) (f : Fld) (event : Nat) : State :=
  if s.flag f then s else ((s.setFlag f true).raise event n).henMake sevWarning event n

/-- The 10 ms check of a channel's output voltage, `mv`, while it has been off for 1 ms (R313). -/
def opOffState (n mv : Nat) (s : State) : State :=
  let x := s.mulCh n
  if !s.atWhole (10 * psPerMs) || x.on || !s.mulEnabled n
      || !(if s.mulLegacy n then x.diag else s.flag (F.MUL_CH_CFG_OLDET n))
      || decide (s.modTime < x.offSince + psPerMs) then s else
  let bat := decide (6000 < mv)
  let open_ := decide (3500 < mv) && !bat
  let x := { x with openCnt := if open_ then x.openCnt + 1 else 0, batCnt := if bat then x.batCnt + 1 else 0 }
  let s := s.setMulCh n x
  let s := if 3 ≤ x.openCnt then s.mulReport n (F.MUL_CH_STAT_OPEN n) 162 else s
  if 3 ≤ x.batCnt then s.mulReport n (F.MUL_CH_STAT_SHORTBAT n) 163 else s

def execMulOffstateCheck (t : Nat) (n : Fin 64) (mv : Nat) (s : State) :
    Host.Outcome State Fault Refusal :=
  .next (opOffState n.val mv (s.tick t))

/-! ### Clearing (R315, R317) -/

/-- MUL_CH_STAT as it is read: CURR of a channel that is on is measured at that moment. -/
def State.readMulStat (s : State) (n : Nat) : Word × State :=
  s.readMeasured (if s.fld (F.MUL_CH_STAT_STATE n) = 1 then 0xFFFF0000 else 0) (s.reg (R.MUL_CH_STAT n))

/-- Clear fault bits `m` (bits 3 to 5 of MUL_CH_STAT) and, with TSD, the fault and RETRIES; TSD is set
again at once while the junction is at 150 °C or above, and a shutdown of this instant stands (R316). The count
of checks that OPEN and SHORTBAT rest on goes on, so that the next check can set them again. -/
def State.mulClear (s : State) (n m : Nat) (junction : Int) : State :=
  let s := if bitOf m 4 then s.setFlag (F.MUL_CH_STAT_OPEN n) false else s
  let s := if bitOf m 5 then s.setFlag (F.MUL_CH_STAT_SHORTBAT n) false else s
  if !bitOf m 3 || (s.flag (F.MUL_CH_STAT_TSD n) && (s.mulCh n).tsdAt == s.modTime) then s else
  let hot := decide (150 ≤ junction) && s.flag (F.MUL_CH_STAT_TSD n)
  let s := s.setFlag (F.MUL_CH_STAT_TSD n) hot
  let s := s.setFld (F.MUL_CH_STAT_RETRIES n) 0
  if hot then s.showMul n
  else (s.modMulCh n (fun x => { x with fault := false, shutAt := none })).mulFollow n

def execMulChStatClear (t : Nat) (n : Fin 64) (v : Word) (junction : Int) (s : State) :
    Host.Outcome State Fault Refusal :=
  .next (if s.mulLegacy n.val then s.tick t else (s.tick t).mulClear n.val v.toNat junction)

def opMulFaultClear (junction : Int) (s : State) (o : Op) : State :=
  let n := o.arg1 0 6
  if o.ctx ≠ 0 then s.finish o codeFaultAccess 1 0
  else
    let s := s.mulClear n 0x38 junction
    let (w, s) := s.readMulStat n
    s.finish o codeDone 0 w.toNat

def execMulFaultClear (t : Nat) (c : Fin 4096) (tag : Nat) (junction : Int) (s : State) :
    Host.Outcome State Fault Refusal :=
  .next ((s.tick t).beginOp c.val tag 0x48 (opMulFaultClear junction))

def opMulStatusRead (s : State) (o : Op) : State :=
  let (bs, s) := (List.range 64).foldl (fun (p : List Byte × State) n =>
    let (w, s) := p.2.readMulStat n
    (p.1 ++ ([s.reg (R.MUL_CH_CFG n), s.reg (R.MUL_CH_CMD n), w, s.reg (R.MUL_CH_TALLY n)].flatMap
      (fun v => leBytes 4 v.toNat)), s)) ([], s)
  let (w, s) := s.readMeasured 0x3FF (s.reg R.MUL_GLB_STAT)
  (s.writeBytes o.buf bs).finish o codeDone 0 w.toNat

def execMulStatusRead (t : Nat) (c : Fin 4096) (tag : Nat) (s : State) :
    Host.Outcome State Fault Refusal :=
  .next ((s.tick t).beginOp c.val tag 0x49 opMulStatusRead)

/-! ### Cuts and mode changes (R305, R309) -/

/-- The Goose imposes safe stop or cuts the stage: channels with GCUT = 1 switch off until a command
applies after the cut. -/
def State.cutMul (s : State) : State :=
  ((List.range 64).filter s.mulCut).foldl (fun s n =>
    (s.modMulCh n (fun x => { x with needCmd := true, shutAt := none })).mulOff n) s

/-- The mode has changed: channels that it does not drive, and those the legacy core takes over, switch off; the
others follow the commands given so far (R305, R307). -/
def State.mulModeEntered (s : State) : State :=
  (List.range 64).foldl (fun s n =>
    if s.mulMode n && s.mode != .compat then s.mulFollow n
    else (s.modMulCh n (fun x => { x with cmd := false, shutAt := none })).mulOff n) s

end Sys2Proof.Machine
end

