-- ==== Sys2Proof/Machine/Goose.lean ====
section
/-!
DEFINITION. Machine/Goose.lean: the Goose safety supervisor (R320 to R341).
-/

namespace Sys2Proof.Machine

def State.gooIn (s : State) (i : Nat) : GooIn := spGet s.goo.input i
def State.modGooIn (s : State) (i : Nat) (f : GooIn → GooIn) : State :=
  { s with goo := { s.goo with input := spMod s.goo.input i f } }

/-- The Goose application runs (R321). It starts once it is verified, and judges its conditions in BOOT
from then on, where the request of R439 reads them (log entry 108). -/
def State.gooRuns (s : State) : Bool := s.flag F.GOO_STAT_VERIFIED

/-- An input is OK (R323, R324). -/
def State.inputOk (s : State) (i : Nat) : Bool :=
  s.flag (F.GOO_IN_CFG_EN i) && s.flag (F.GOO_IN_STAT_A i) && s.flag (F.GOO_IN_STAT_B i)
    && !s.flag (F.GOO_IN_STAT_DISCF i) && !s.flag (F.GOO_IN_STAT_XF i) && !(s.gooIn i).tripped

/-- Is cause c in force (R336)? -/
def State.gooCause (s : State) (c : Nat) : Bool :=
  if c = 1 then s.goo.input.any (fun p => p.2.cause1)
  else if c = 2 then s.goo.input.any (fun p => p.2.cause2)
  else if c = 3 then s.goo.input.any (fun p => p.2.cause3)
  else s.goo.causes.contains c

/-- A local trip in force that picks `f` of its input's configuration (R326). -/
def State.localTrip (s : State) (f : Nat → Bool) : Bool :=
  s.goo.input.any (fun p => p.2.localTrip && f p.1)

def State.outOn (s : State) (o : Nat) : Bool := s.flag (F.GOO_OUT_STAT_ON o)

/-- The feedback input of output o reads 1 (R331): GOO_OUT_STAT.FBIN. -/
def State.fbIn (s : State) (o : Nat) : Bool := s.goo.feedback.getLsbD (s.fld (F.GOO_OUT_CFG_FB o))

/-- Bring INOK, ACTIVE, the cut lines and HDRENG up to date (R335 to R337, R340), and end a running
working part whose header is no longer engaged (R47). -/
def State.gooShow (s : State) : State :=
  let s := (List.range 16).foldl (fun s i =>
    let ok := s.inputOk i
    (s.setFlag (F.GOO_IN_STAT_OK i) ok).setFld ⟨R.GOO_STAT, 16 + i, 1⟩ (boolNat ok)) s
  let s := s.setFld F.GOO_CAUSE_ACTIVE (((List.range 8).map (fun k => if s.gooCause (k + 1) then 2 ^ k else 0)).sum)
  let all := s.flag F.GOO_STAT_SAFESTOP || s.goo.badApp
  let s := s.setFlag F.GOO_STAT_OXCUT (all || s.localTrip (fun i => s.flag (F.GOO_IN_CFG_OXCUT i)))
  let s := s.setFlag F.GOO_STAT_MULCUT (all || s.localTrip (fun i => s.flag (F.GOO_IN_CFG_MULCUT i)))
  (s.setFlag F.GOO_STAT_HDRENG ((List.range 8).any (fun o => s.fld (F.GOO_OUT_CFG_ROLE o) == 1 &&
    (s.outOn o || (s.flag (F.GOO_OUT_CFG_FBEN o) && !s.fbIn o))))).workCheck

/-- De-energise output o and clear its ON bit (R329). -/
def State.outputOff (s : State) (o : Nat) : State :=
  let s := s.setFld ⟨R.GOO_OUT_REQ, o, 1⟩ 0
  if !s.outOn o then s else
  let s := s.setFlag (F.GOO_OUT_STAT_ON o) false
  { s with goo := { s.goo with outAt := spSet s.goo.outAt o s.modTime } }

/-- De-energise the outputs that `p` picks. -/
def State.outputsOff (s : State) (p : Nat → Bool) : State :=
  ((List.range 8).filter p).foldl (fun s o => s.outputOff o) s

/-- The effects of cut lines and of safe stop on the stages and the tiles (R126, R298, R309). -/
def State.applyCuts (s : State) : State := (s.cutOx.cutMul).settleSlots

/-- Safe stop is in force for cause c from now on: the first cause of an episode is recorded (R336,
R337). The caller has put the cause in force. -/
def State.impose (s : State) (c : Nat) : State :=
  if s.flag F.GOO_STAT_SAFESTOP then s.gooShow else
  let s := (s.setFlag F.GOO_STAT_SAFESTOP true).setFld F.GOO_STAT_CAUSE c
  let s := { s with goo := { s.goo with stopFromNs := s.modNs } }
  let s := (s.outputsOff (fun _ => true)).gooShow
  let s := s.applyCuts
  (s.raise 0 c).henMake sevError 0 c

/-- Put one of the causes 4 to 8 in force. -/
def State.addGooCause (s : State) (c : Nat) : State :=
  { s with goo := { s.goo with causes := if s.goo.causes.contains c then s.goo.causes else c :: s.goo.causes } }

/-- Open the disconnect (R328, R330, R334). -/
def State.openDisconnect (s : State) : State :=
  if s.flag F.GOO_STAT_DISCON then s
  else ((s.setFlag F.GOO_STAT_DISCON true).outputsOff (fun _ => true)).raise 15 0

/-! ### Inputs (R323 to R326) -/

/-- An input trips: event 2 and safe stop with cause 1, or a local trip (R326). -/
def State.tripInput (s : State) (i : Nat) : State :=
  let local_ := s.flag (F.GOO_IN_CFG_REACT i)
  let s := s.modGooIn i (fun x => { x with
    tripped := true, sawLow := false, cause1 := x.cause1 || !local_, localTrip := x.localTrip || local_ })
  let s := s.raise 2 i
  if local_ then
    let s := s.outputsOff (fun o => bitOf (s.fld (F.GOO_IN_CFG_OMASK i)) o)
    (s.gooShow).applyCuts
  else s.impose 1

/-- A contact's new level is accepted at its third consecutive sample, at a whole ms. A contact reads 1 while
it is closed, contact B of an antivalent input while it is open (R323). -/
def opContactChange (i : Nat) (contactB closed : Bool) (s : State) : State :=
  if !s.gooRuns || !s.atWhole psPerMs then s else
  let level := closed != (contactB && s.flag (F.GOO_IN_CFG_ANTIV i))
  let f := if contactB then F.GOO_IN_STAT_B i else F.GOO_IN_STAT_A i
  if s.flag f == level then s else
  let both := s.flag (F.GOO_IN_STAT_A i) && s.flag (F.GOO_IN_STAT_B i)
  let s := s.setFlag f level
  if !s.flag (F.GOO_IN_CFG_EN i) then s.gooShow else
  let a := s.flag (F.GOO_IN_STAT_A i)
  let b := s.flag (F.GOO_IN_STAT_B i)
  let s := if both && !level then s.tripInput i else s
  let s := s.modGooIn i (fun x =>
    let low := x.sawLow || (!a && !b)
    { x with
      discAt := if a == b then none else if x.discAt.isSome then x.discAt else some s.modTime
      sawLow := low && !(a && b)
      tripped := x.tripped && !(low && a && b) })
  s.gooShow

def execSafetyContactChange (t : Nat) (i : Fin 16) (contactB closed : Bool) (s : State) :
    Host.Outcome State Fault Refusal :=
  .next (opContactChange i.val contactB closed (s.tick t))

/-- The discrepancy time expires without agreement (R324). -/
def opDiscrepancy (i : Nat) (s : State) : State :=
  match (s.gooIn i).discAt with
  | none => s
  | some d =>
    if !s.gooRuns || !s.flag (F.GOO_IN_CFG_EN i)
      || decide (s.modTime < d + s.fld (F.GOO_IN_CFG_DISC_MS i) * psPerMs) then s else
    let s := s.setFlag (F.GOO_IN_STAT_DISCF i) true
    let s := s.modGooIn i (fun x => { x with discAt := none, cause2 := true, tripped := true, sawLow := false })
    let s := (s.raise 3 i).henMake sevError 3 i
    s.impose 2

def execSafetyDiscrepancy (t : Nat) (i : Fin 16) (s : State) : Host.Outcome State Fault Refusal :=
  .next (opDiscrepancy i.val (s.tick t))

/-- Three consecutive wrong test-pulse patterns (R325). -/
def opCrossCircuit (i : Nat) (s : State) : State :=
  if !s.gooRuns || !s.flag (F.GOO_IN_CFG_EN i) || s.flag (F.GOO_IN_STAT_XF i) then s else
  let s := s.setFlag (F.GOO_IN_STAT_XF i) true
  let s := s.modGooIn i (fun x => { x with cause3 := true })
  (s.raise 4 i).impose 3

def execSafetyCrossCircuit (t : Nat) (i : Fin 16) (s : State) : Host.Outcome State Fault Refusal :=
  .next (opCrossCircuit i.val (s.tick t))

/-! ### GOO_STOP and GOO_RELEASE (R336, R337, R339) -/

def opGooStop (s : State) : State :=
  if !s.gooRuns then s else (s.addGooCause 7).impose 7

def execGooStop (t : Nat) (s : State) : Host.Outcome State Fault Refusal := .next (opGooStop (s.tick t))

/-- Does every contactor's feedback agree with its output, with FBF clear (R336)? -/
def State.feedbackSound (s : State) : Bool :=
  (List.range 8).all (fun o => !s.flag (F.GOO_OUT_CFG_FBEN o) ||
    (!s.flag (F.GOO_OUT_STAT_FBF o) && s.fbIn o == !s.outOn o))

/-- Can RELEASE end safe stop now? -/
def State.releasable (s : State) : Bool :=
  s.goo.input.all (fun p => !(p.2.cause1 || p.2.cause2 || p.2.cause3) || s.inputOk p.1)
    && s.goo.causes.all (fun c => c == 7 || (c == 5 && s.feedbackSound))

/-- End the local trips whose input is OK. -/
def State.endLocalTrips (s : State) : State :=
  (List.range 16).foldl (fun s i =>
    if s.inputOk i then s.modGooIn i (fun x => { x with localTrip := false }) else s) s

/-- Safe stop ends (R337): event 1, a Notice, and the slots return. -/
def State.endSafeStop (s : State) : State :=
  let s := (List.range 16).foldl (fun s i =>
    s.modGooIn i (fun x => { x with cause1 := false, cause2 := false, cause3 := false })) s
  let s := { s with goo := { s.goo with causes := [], stopEndNs := s.modNs } }
  let s := ((s.setFlag F.GOO_STAT_SAFESTOP false).gooShow).settleSlots
  (s.raise 1 0).henMake sevNotice 1 0

def opGooRelease (s : State) : State :=
  let s := s.endLocalTrips
  if s.flag F.GOO_STAT_SAFESTOP && s.releasable then s.endSafeStop else s.gooShow

def execGooRelease (t : Nat) (s : State) : Host.Outcome State Fault Refusal :=
  .next (opGooRelease (s.tick t))

/-! ### Outputs (R328 to R331) -/

/-- The permit of output o but for its feedback (R328). -/
def State.permitHolds (s : State) (o : Nat) : Bool :=
  let role := s.fld (F.GOO_OUT_CFG_ROLE o)
  s.flag (F.GOO_OUT_CFG_EN o) && s.gooRuns && !s.flag F.GOO_STAT_FAILSAFE && !s.flag F.GOO_STAT_DISCON
    && !s.flag F.GOO_STAT_SAFESTOP
    && !s.localTrip (fun i => bitOf (s.fld (F.GOO_IN_CFG_OMASK i)) o)
    && (s.mode == .field || s.mode == .service || (role == 0 && (s.mode == .compat || s.mode == .road)))

/-- One bit of a write to GOO_OUT_REQ (R329). -/
def State.requestOutput (s : State) (o : Nat) (on : Bool) : State :=
  if !on then s.outputOff o
  else if s.outOn o then s
  else if s.permitHolds o && (!s.flag (F.GOO_OUT_CFG_FBEN o) || s.fbIn o) then
    let s := (s.setFlag (F.GOO_OUT_STAT_ON o) true).setFld ⟨R.GOO_OUT_REQ, o, 1⟩ 1
    { s with goo := { s.goo with outAt := spSet s.goo.outAt o s.modTime } }
  else ((s.setFld ⟨R.GOO_OUT_REQ, o, 1⟩ 0).setFlag (F.GOO_OUT_STAT_REFUSED o) true).raise 13 o

def opOutputRequest (v : Word) (s : State) : State :=
  ((List.range 8).foldl (fun s o => s.requestOutput o (bitOf v.toNat o)) s).gooShow

def execGooOutputRequest (t : Nat) (v : Word) (s : State) : Host.Outcome State Fault Refusal :=
  .next (opOutputRequest v (s.tick t))

/-- TESTF with event 5 and an Error record; while TESTF stands nothing is raised again (log entry 118). -/
def State.testFault (s : State) (o : Nat) : State :=
  if s.flag (F.GOO_OUT_STAT_TESTF o) then s else
  ((s.setFlag (F.GOO_OUT_STAT_TESTF o) true).raise 5 o).henMake sevError 5 o

/-- The read-back is high while the output is off: the disconnect opens and safe stop follows. -/
def State.stuckOn (s : State) (o : Nat) : State :=
  (((s.testFault o).openDisconnect).addGooCause 4).impose 4

/-- The test pulse of output o, at k × 100 ms + o × 12.5 ms: the read-back at its end, in mV, must be
below 5 V (R330). -/
def opOutputTest (o mv : Nat) (s : State) : State :=
  let phase := o * 12500 * psPerUs
  if !s.outOn o || decide (s.modTime < phase) || (s.modTime - phase) % (100 * psPerMs) != 0 then s
  else if mv < 5000 then s
  else s.stuckOn o

def execSafetyOutputTest (t : Nat) (o : Fin 8) (mv : Nat) (s : State) :
    Host.Outcome State Fault Refusal :=
  .next (opOutputTest o.val mv (s.tick t))

/-- A read-back outside the test pulse: below 5 V while off, within 3 V of the supply while on (R330). -/
def opOutputReadback (o mv supply : Nat) (s : State) : State :=
  if !s.gooRuns then s else
  let s := s.setFlag (F.GOO_OUT_STAT_RB o) (decide (5000 ≤ mv))
  if !s.outOn o then (if mv < 5000 then s else s.stuckOn o)
  else if mv + 3000 < supply then ((s.testFault o).outputOff o).gooShow
  else if supply + 3000 < mv then s.testFault o
  else s

def execSafetyOutputReadback (t : Nat) (o : Fin 8) (mv supply : Nat) (s : State) :
    Host.Outcome State Fault Refusal :=
  .next (opOutputReadback o.val mv supply (s.tick t))

/-- The feedback of output o against its state, FBTIME after the last switching and from then on
(R331). -/
def State.checkFeedback (s : State) (o : Nat) : State :=
  let due := spGet s.goo.outAt o + s.fld (F.GOO_OUT_CFG_FBTIME o) * psPerMs
  if s.fbIn o != s.outOn o || decide (s.modTime < due)
    || s.flag (F.GOO_OUT_STAT_FBF o) then s
  else
    let s := (s.setFlag (F.GOO_OUT_STAT_FBF o) true).raise 6 o
    (s.addGooCause 5).impose 5

/-- Feedback input `fb` reads `level`: 1 while the contactor is released (R331). -/
def opFeedback (fb : Nat) (level : Bool) (s : State) : State :=
  let b := 1#4 <<< fb
  let s := { s with goo := { s.goo with feedback := if level then s.goo.feedback ||| b else s.goo.feedback &&& ~~~ b } }
  if !s.gooRuns then s else
  let outs := (List.range 8).filter (fun o => s.fld (F.GOO_OUT_CFG_FB o) == fb)
  ((outs.filter (fun o => s.flag (F.GOO_OUT_CFG_FBEN o))).foldl (fun s o => s.checkFeedback o) s).gooShow

def execContactorFeedbackCheck (t : Nat) (fb : Fin 4) (level : Bool) (s : State) :
    Host.Outcome State Fault Refusal :=
  .next (opFeedback fb.val level (s.tick t))

/-! ### Sealed switches (R332) -/

/-- The positions of S1 to S8 are `sw`. A 10 ms sample of them: a difference from SWBOOT that persists for 30 ms. -/
def opSealedSwitch (sw : Byte) (s : State) : State :=
  let s := { s with pwr := { s.pwr with switches := sw } }
  if !s.gooRuns || !s.atWhole (10 * psPerMs) then s else
  let s := s.setFld F.GOO_SW_SWNOW sw.toNat
  if sw.toNat = s.fld F.GOO_SW_SWBOOT then { s with goo := { s.goo with swDiff := none } } else
  let start := s.goo.swDiff.getD s.modTime
  let s := { s with goo := { s.goo with swDiff := some start } }
  if s.modTime < start + 30 * psPerMs ∨ s.gooCause 6 then s else
  let s := (s.addGooCause 6).impose 6
  (s.raise 7 sw.toNat).henMake sevError 7 sw.toNat

def execSealedSwitchChange (t : Nat) (sw : Byte) (s : State) : Host.Outcome State Fault Refusal :=
  .next (opSealedSwitch sw (s.tick t))

/-! ### Self-diagnosis (R333, R334) -/

def diagFld (k : Nat) : Fld := ⟨R.GOO_DIAG, k, 1⟩

/-- A failure of measure k: 0 watchdog or clock, 1 program flow, 2 self-test or supply, 3 ECC. -/
def opDiagFailure (k : Nat) (s : State) : State :=
  if !s.gooRuns || s.flag (diagFld k) then s else
  let s := (s.setFlag (diagFld k) true).setFlag F.GOO_STAT_FAILSAFE true
  let s := ((s.openDisconnect).addGooCause 8).impose 8
  (s.raise (8 + k) 0).henMake sevError (8 + k) 0

def execGooseDiagFailure (t : Nat) (k : Fin 4) (s : State) : Host.Outcome State Fault Refusal :=
  .next (opDiagFailure k.val (s.tick t))

/-! ### Ground speed (R335) -/

/-- The speed of an input over the 100 ms window, mm/s. -/
def State.speedOf (s : State) (pulses : List Nat) : Nat := pulses.sum * s.fld F.GOO_SPD_CFG_UMPP / 100

/-- Start a span when the condition begins to hold, end it when it no longer does. -/
def spanOf (holds : Bool) (old now : Nat) : Nat := if !holds then 0 else if old = 0 then now + 1 else old

/-- Has a span lasted `ps`? -/
def spanLasts (start now ps : Nat) : Bool := start != 0 && decide (start - 1 + ps ≤ now)

/-- Every 10 ms: `pulses` are those of frequency inputs 0 to 15 in the last 10 ms, of which FIN_A and FIN_B
choose two. -/
def opSpeedUpdate (pulses : List Nat) (s : State) : State :=
  if !s.gooRuns || !s.atWhole (10 * psPerMs) then s else
  let as := (pulses.getD (s.fld F.GOO_SPD_CFG_FIN_A) 0 :: s.goo.pulsesA).take 10
  let bs := (pulses.getD (s.fld F.GOO_SPD_CFG_FIN_B) 0 :: s.goo.pulsesB).take 10
  let a := s.speedOf as
  let b := s.speedOf bs
  let low := decide (a < 139) && decide (b < 139)
  let differ := decide (556 < a) && decide (556 < b) && decide (max a b < 5 * (max a b - min a b))
  let s := { s with goo := { s.goo with
    pulsesA := as, pulsesB := bs, speedA := a, speedB := b
    stillAt := spanOf low s.goo.stillAt s.modTime
    discAt := spanOf differ s.goo.discAt s.modTime
    agreeAt := spanOf (!differ) s.goo.agreeAt s.modTime } }
  let s := s.setFld F.GOO_SPD_SPEED (satBits 16 (min a b))
  let s := if spanLasts s.goo.agreeAt s.modTime psPerS then s.setFlag F.GOO_SPD_SPDDISC false else s
  if low && !s.flag F.GOO_SPD_SPDDISC then s else s.setFlag F.GOO_STAT_STILL false

/-- `low` and `high`: the pulses of frequency inputs 0 to 7 and 8 to 15. -/
def execGooseSpeedUpdate (t : Nat) (low high : List Nat) (s : State) : Host.Outcome State Fault Refusal :=
  .next (opSpeedUpdate (low ++ high) (s.tick t))

/-- The speeds have differed by more than 20 % for 1 s. -/
def opSpeedDiscrepancy (s : State) : State :=
  if !s.gooRuns || !spanLasts s.goo.discAt s.modTime psPerS || s.flag F.GOO_SPD_SPDDISC then s else
  let s := (s.setFlag F.GOO_SPD_SPDDISC true).setFlag F.GOO_STAT_STILL false
  s.raise 12 0

def execSpeedDiscrepancy (t : Nat) (s : State) : Host.Outcome State Fault Refusal :=
  .next (opSpeedDiscrepancy (s.tick t))

/-- Both speeds have been below 139 mm/s for 500 ms. -/
def opStill (s : State) : State :=
  if s.gooRuns && spanLasts s.goo.stillAt s.modTime (500 * psPerMs) && !s.flag F.GOO_SPD_SPDDISC then
    s.setFlag F.GOO_STAT_STILL true
  else s

def execGooseStill (t : Nat) (s : State) : Host.Outcome State Fault Refusal := .next (opStill (s.tick t))

/-! ### GOOSE_STATUS_FLIT (R338) -/

def opGooseFlit (s : State) : State :=
  if !s.flag F.GOO_STAT_RT_EN || !s.atWhole psPerMs then s else
  let q := fun (b : Bool) => if b then (32767 : Int) else 0
  let speed : Int := (min 32767 (2 * s.fld F.GOO_SPD_SPEED) : Nat)
  let flit := outFlit [speed, q (s.flag F.GOO_STAT_STILL), q (s.flag F.GOO_STAT_HDRENG), q (s.flag F.GOO_STAT_SAFESTOP)]
    (if s.flag F.GOO_SPD_SPDDISC then 14 else 15) false false s.modMs 0
  s.emit 149 (s.fld F.GOO_STAT_RT_ROUTE) s.modMs 0 true true [flit]

def execGooseStatusFlit (t : Nat) (s : State) : Host.Outcome State Fault Refusal :=
  .next (opGooseFlit (s.tick t))

/-! ### Configuration writes and mode changes (R322, R329, R340) -/

/-- Writes whose fields have limits; a lock violation stands before the limit (R275). -/
def opGooInCfgWrite (i : Nat) (v : Word) (s : State) : State :=
  (s.plainWrite (R.GOO_IN_CFG i) (setBits v 2 11 (clampNat 10 2000 (bitsOf v.toNat 2 11)))).gooShow

def opGooOutCfgWrite (o : Nat) (v : Word) (s : State) : State :=
  let v := setBits v 3 9 (clampNat 50 300 (bitsOf v.toNat 3 9))
  (s.plainWrite (R.GOO_OUT_CFG o) (setBits v 15 10 (clampNat 10 500 (bitsOf v.toNat 15 10)))).gooShow

/-- The mode has changed: an energised output whose permit is lost goes off. -/
def State.gooModeEntered (s : State) : State :=
  (s.outputsOff (fun o => s.outOn o && !s.permitHolds o)).gooShow

end Sys2Proof.Machine
end

