-- ==== Sys2Proof/Machine/Can.lean ====
section
/-!
DEFINITION. Machine/Can.lean: the CAN controllers (R342 to R367).
-/

namespace Sys2Proof.Machine

def State.canCh (s : State) (c : Nat) : CanCh := spGet s.can.ch c
def State.setCanCh (s : State) (c : Nat) (x : CanCh) : State :=
  { s with can := { s.can with ch := spSet s.can.ch c x } }
def State.modCanCh (s : State) (c : Nat) (f : CanCh → CanCh) : State := s.setCanCh c (f (s.canCh c))

/-- Does the controller serve the legacy core, and so take no host command (R463)? -/
def State.canLegacy (s : State) (c : Nat) : Bool := s.mode == .compat && decide (c < 4)

/-- Does the controller run in this mode (R343)? -/
def State.canRuns (s : State) (c : Nat) : Bool :=
  s.mode == .field || s.mode == .road || s.mode == .service || s.canLegacy c

/-- On the bus: running, OFFBUS = 0 and joined (R345). -/
def State.canJoined (s : State) (c : Nat) : Bool :=
  s.canRuns c && !s.flag (F.CAN_CFG_OFFBUS c) && s.flag (F.CAN_STAT_SYNC c)

/-- May the controller send (R357, R358)? -/
def State.canSends (s : State) (c : Nat) : Bool :=
  s.canJoined c && s.fld (F.CAN_STAT_BSTATE c) != 2 && !s.flag (F.CAN_CFG_LISTEN c)
    && !s.flag (F.CAN_CFG_RESTR c)

/-- Do the error counters stand still (R358)? -/
def State.canFrozen (s : State) (c : Nat) : Bool := s.flag (F.CAN_CFG_LISTEN c) || s.flag (F.CAN_CFG_RESTR c)

/-- The controller's two events (R367). -/
def State.canEvent1 (s : State) (c b : Nat) : State := s.raise (176 + 2 * c) b
def State.canEvent2 (s : State) (c code arg : Nat) : State := s.raise (177 + 2 * c) (code + 256 * arg)

/-! ### Message memory (R346, R347) -/

/-- A 128-bit word at byte offset `off` of the controller's block, 0x100 to 0xFFF. -/
def State.canWord (s : State) (c off : Nat) : Nat :=
  (List.range 4).foldl (fun a i => a + (s.reg (R.CAN_MEM c ((off - 0x100) / 4 + i))).toNat * 2 ^ (32 * i)) 0

/-- Write bytes, a whole number of 32-bit words, at byte offset `off`. -/
def State.canWrite (s : State) (c off : Nat) (bs : List Byte) : State :=
  (List.range (bs.length / 4)).foldl (fun s i =>
    s.setReg (R.CAN_MEM c ((off - 0x100) / 4 + i)) (BitVec.ofNat 32 (leNat ((bs.drop (4 * i)).take 4)))) s

/-- Bytes of an element's data. -/
def State.canData (s : State) (c off : Nat) : List Byte :=
  (List.range 4).flatMap (fun w => leBytes 16 (s.canWord c (off + 16 * (w + 1))))

def canRxBuf (k : Nat) : Nat := 0x500 + 80 * k
def canTxBuf (b : Nat) : Nat := 0xA00 + 80 * b
def canFifoSlot (i : Nat) : Nat := 0xC80 + 80 * (i % 8)

/-- An element of 80 bytes: word 0 and data padded with zeros. -/
def canElement (head : Nat) (data : List Byte) : List Byte :=
  leBytes 16 head ++ (data ++ List.replicate (64 - data.length) 0).take 64

/-- Fields of word 0 of an element (R347). -/
def headId (h : Nat) : Nat := bitsOf h 32 29
def headXtd (h : Nat) : Bool := bitOf h 61
def headFd (h : Nat) : Bool := bitOf h 65
def headBrs (h : Nat) : Bool := bitOf h 66
def headDlc (h : Nat) : Nat := bitsOf h 72 4

/-- The fields of word 0 that a sender gives: identifier, XTD, RTR to ESI, DLC. -/
def headClean (h : Nat) : Nat := place (bitsOf h 32 36) 32 36 + place (headDlc h) 72 4

/-- Rank of a frame: a standard identifier is shifted to bits [28:18] (R353). -/
def headRank (h : Nat) : Nat := if headXtd h then headId h else (headId h % 2048) * 2 ^ 18

/-- The frame as it leaves: FD format and bit-rate switching only where CAN_CFG enables them. -/
def State.canWire (s : State) (c h : Nat) (data : List Byte) : Nat × List Byte :=
  let fd := headFd h && s.flag (F.CAN_CFG_FD_EN c)
  let h' := headClean h - place (boolNat (headFd h)) 65 1 - place (boolNat (headBrs h)) 66 1
    + place (boolNat fd) 65 1 + place (boolNat (fd && headBrs h && s.flag (F.CAN_CFG_RATESW_EN c))) 66 1
  (h', data.take (canLength fd (headDlc h)))

/-! ### Bit timing (R344) -/

/-- The CAN clock is 80 MHz: one period in ps, and the period of the present instant. -/
def canClock : Nat := 12500
def State.canPeriod (s : State) : Nat := s.modTime / canClock

/-- A nominal bit, ps; PRE = 0 is treated as 1 (R344, R366). -/
def State.canBit (s : State) (c : Nat) : Nat :=
  max 1 (s.fld (F.CAN_NBT_PRE c)) * (1 + s.fld (F.CAN_NBT_PH1 c) + s.fld (F.CAN_NBT_PH2 c)) * canClock

/-- Can n recessive bits have passed since they are awaited? -/
def State.canWaited (s : State) (c n : Nat) : Bool := decide ((s.canCh c).waitFrom + n * s.canBit c ≤ s.modTime)

/-! ### Off the bus (R345, R357) -/

/-- Complete every queued descriptor frame. -/
def State.canFlush (s : State) (c code detail result : Nat) : State :=
  let q := (s.canCh c).queue
  let s := s.modCanCh c (fun x => { x with
    queue := []
    onBus := match x.onBus with | some (.queued _) => none | o => o })
  q.foldl (fun s f => s.finishWaiter (some (f.ctx, f.tag)) code detail result) s

/-- Result of a CAN_TX: OUTCOME and TEC (R364). -/
def State.canResult (s : State) (c outcome : Nat) : Nat := outcome + 256 * s.fld (F.CAN_STAT_TEC c)

/-- The controller leaves the bus: detection stops without an event, queued frames are aborted. -/
def State.canGoOff (s : State) (c : Nat) : State :=
  let s := (s.setFlag (F.CAN_CFG_OFFBUS c) true).setFlag (F.CAN_STAT_SYNC c) false
  let s := if (s.canCh c).abd.isSome then s.setFlag (F.CAN_CFG_ABD c) false else s
  let s := s.modCanCh c (fun x => { x with offDue := false, abd := none, open_ := false })
  s.canFlush c codeDone 0 (s.canResult c 3)

/-- OFFBUS written to 1: at once, or at the end of the controller's frame in progress. -/
def State.canOffbus (s : State) (c : Nat) : State :=
  if s.flag (F.CAN_CFG_OFFBUS c) then s
  else if (s.canCh c).onBus.isSome then s.modCanCh c (fun x => { x with offDue := true })
  else s.canGoOff c

/-- The end of the controller's own frame: OFFBUS takes effect if it was written meanwhile. -/
def State.canFrameEnd (s : State) (c : Nat) : State :=
  let s := s.modCanCh c (fun x => { x with onBus := none })
  if (s.canCh c).offDue then s.canGoOff c else s

/-- OFFBUS written to 0: store counts restart; LISTEN = 1 and ABD = 1 start detection (R352, R359). -/
def State.canOnbus (s : State) (c : Nat) (detect : Bool) : State :=
  let s := s.setFlag (F.CAN_CFG_OFFBUS c) false
  s.modCanCh c (fun x => { x with
    stores := []
    abd := if detect then some ⟨0, 0, s.modTime, 0, none, 0⟩ else none
    refAt := 0, refs := 0, open_ := false, stopped := false, fresh := 0, failed := false, waitFrom := s.modTime })

/-! ### Writes to CAN_CFG and to configuration that OFFBUS protects (R345, R366) -/

/-- The INIT fields of CAN_CFG. -/
def canInitBits : List Nat := [1, 2, 3, 5, 6, 8, 9, 10]

def State.canReject (s : State) (c : Nat) : State := s.setFlag (F.CAN_STAT_CFGREJ c) true

/-- A write to CAN_CFG[c]; unchanged fields are not written (log entry 17). -/
def opCanCfgWrite (c : Nat) (v : Word) (s : State) : State :=
  if s.canLegacy c then s.canReject c else
  let v := if c < 2 then v.toNat else v.toNat - place (bitsOf v.toNat 8 1) 8 1
  let off := s.flag (F.CAN_CFG_OFFBUS c)
  let old := (s.reg (R.CAN_CFG c)).toNat
  let put := fun (s : State) (i : Nat) => s.setFld ⟨R.CAN_CFG c, i, 1⟩ (bitsOf v i 1)
  let s := if off then canInitBits.foldl put s
    else if canInitBits.any (fun i => bitOf v i != bitOf old i) then s.canReject c else s
  let s := put s 4
  let s := put s 7
  let s := if !bitOf v 7 then s.modCanCh c (fun x => { x with abd := none }) else s
  if bitOf v 0 then s.canOffbus c
  else if off then s.canOnbus c (bitOf v 3 && bitOf v 7)
  else s.modCanCh c (fun x => { x with offDue := false })

/-- A write to a register that OFFBUS protects: CAN_NBT, CAN_DBT, CAN_ISO, CAN_TT_CFG, CAN_TT_REF. -/
def opCanInitWrite (c off : Nat) (v : Word) (s : State) : State :=
  if s.canLegacy c || !s.flag (F.CAN_CFG_OFFBUS c) then s.canReject c
  else if off = R.CAN_TT_CFG c then
    let us := max 100 (bitsOf v.toNat 11 16)
    s.plainWrite off (setBits v 11 16 us)
  else s.plainWrite off v

/-- The bits of a 32-bit word of the message memory that R347, R348 and R361 list; all others are zero. -/
def canMemMask (off : Nat) : Nat :=
  if off < 0x500 then [0x3FF, 0x1FFFFFFF, 0x1FFFFFFF, 0].getD (off % 16 / 4) 0
  else if 0xF00 ≤ off then (if off % 8 = 0 then 2 ^ 32 - 1 else 0)
  else
    let i := (off - 0x500) % 80 / 4
    if 4 ≤ i then 2 ^ 32 - 1 else [0xFFFFFFFF, 0x3FFFFFFF, 0x00FF0F0F, 0].getD i 0

/-- A write to word j of the message memory: the filter list and the trigger list under OFFBUS, a
transmit buffer while its request does not stand (R345, R353). -/
def opCanMemWrite (c j : Nat) (v : Word) (s : State) : State :=
  let off := 0x100 + 4 * j
  let guarded := decide (off < 0x500) || decide (0xF00 ≤ off)
  if s.canLegacy c then s.canReject c
  else if 0xF00 ≤ off ∧ 2 ≤ c then s
  else if guarded && !s.flag (F.CAN_CFG_OFFBUS c) then s.canReject c
  else if 0xA00 ≤ off ∧ off < 0xC80 ∧ bitOf (s.fld (F.CAN_TXREQ_BUF c)) ((off - 0xA00) / 80) = true then
    s.canReject c
  else s.setReg (R.CAN_MEM c j) (v &&& BitVec.ofNat 32 (canMemMask off))

def execCanOffbusSet (t : Nat) (c : Fin 12) (v : Word) (s : State) : Host.Outcome State Fault Refusal :=
  .next (opCanCfgWrite c.val (v ||| 1) (s.tick t))

/-- After 11 recessive bits the controller has joined the bus (R345). -/
def opCanJoin (c : Nat) (s : State) : State :=
  if s.canRuns c && !s.flag (F.CAN_CFG_OFFBUS c) && s.fld (F.CAN_STAT_BSTATE c) != 2 && s.canWaited c 11
  then s.setFlag (F.CAN_STAT_SYNC c) true else s

def execCanBusJoin (t : Nat) (c : Fin 12) (s : State) : Host.Outcome State Fault Refusal :=
  .next (opCanJoin c.val (s.tick t))

def execCanAbdStart (t : Nat) (c : Fin 12) (v : Word) (s : State) : Host.Outcome State Fault Refusal :=
  .next (opCanCfgWrite c.val v (s.tick t))

/-! ### Bit-rate detection (R359) -/

/-- Clock periods of a bit at the nominal rate of index i, and at the data rate of index i. -/
def canNominal (i : Nat) : Nat := [80, 100, 160, 320, 640, 800, 1600, 4000].getD i 80
def canDataRate (i : Nat) : Nat := [40, 20, 16, 10].getD i 40

/-- Every (PRE, PH1, PH2) that gives n clock periods with the sample point at 80 %. -/
def canNominalFits (n : Nat) : List (Nat × Nat × Nat) :=
  (List.range 64).filterMap (fun k =>
    if 1 ≤ k ∧ n % (5 * k) = 0 ∧ n / (5 * k) ≤ 511 ∧ 4 * k - 1 ≤ 255 then some (n / (5 * k), 4 * k - 1, k) else none)

/-- Every (PRE, PH1, PH2) of CAN_DBT that gives n clock periods. -/
def canDataFits (n : Nat) : List (Nat × Nat × Nat) :=
  (List.range 32).flatMap (fun pre => (List.range 16).filterMap (fun ph2 =>
    let q := n / pre
    if 1 ≤ pre ∧ 1 ≤ ph2 ∧ n % pre = 0 ∧ ph2 + 2 ≤ q ∧ q - 1 - ph2 ≤ 31 then some (pre, q - 1 - ph2, ph2) else none))

/-- Detection succeeds: indices, bit timing, ABDDONE, code 4. Which of the fitting timings is loaded is
left open and free (log entry 21); RJW and the secondary sample point keep their values. -/
def State.canAbdDone (s : State) (c : Nat) (a : CanAbd) : State :=
  let fits := canNominalFits (canNominal a.idx)
  let (v, s) := s.drawFree 16
  let (pre, ph1, ph2) := fits.getD (v.toNat % fits.length) (0, 0, 0)
  let s := ((s.setFld (F.CAN_NBT_PRE c) pre).setFld (F.CAN_NBT_PH1 c) ph1).setFld (F.CAN_NBT_PH2 c) ph2
  let s := (s.setFld (F.CAN_ABD_NRATE c) a.idx).setFlag (F.CAN_ABD_DVALID c) (a.drate != 0)
  let s := if a.drate = 0 then s.setFld (F.CAN_ABD_DRATE c) 0 else
    let fits := canDataFits (canDataRate (a.drate - 1))
    let (v, s) := s.drawFree 16
    let (pre, ph1, ph2) := fits.getD (v.toNat % fits.length) (0, 0, 0)
    let s := ((s.setFld (F.CAN_DBT_PRE c) pre).setFld (F.CAN_DBT_PH1 c) ph1).setFld (F.CAN_DBT_PH2 c) ph2
    s.setFld (F.CAN_ABD_DRATE c) (a.drate - 1)
  let s := (s.setFlag (F.CAN_STAT_ABDDONE c) true).setFlag (F.CAN_CFG_ABD c) false
  (s.modCanCh c (fun x => { x with abd := none })).canEvent2 c 4 0

/-- A frame without error during detection: the second in a row makes the candidate succeed; the first
FD frame with BRS = 1 fixes the data rate. -/
def State.canAbdFrame (s : State) (c h rate : Nat) : State :=
  match (s.canCh c).abd with
  | none => s
  | some a =>
    let a := { a with good := a.good + 1, drate := if a.drate = 0 && headFd h && headBrs h then rate % 4 + 1 else a.drate }
    let a := if 2 ≤ a.good ∧ a.wonAt = none then { a with wonAt := some s.modTime } else a
    if a.wonAt.isSome && a.drate != 0 then s.canAbdDone c a
    else s.modCanCh c (fun x => { x with abd := some a })

/-- A candidate ends: an error or 200 ms without success; after success, 200 ms without a data rate. -/
def opAbdTimeout (c : Nat) (error : Bool) (s : State) : State :=
  match (s.canCh c).abd with
  | none => s
  | some a =>
    match a.wonAt with
    | some w => if w + 200 * psPerMs ≤ s.modTime then s.canAbdDone c a else s
    | none =>
      if !error && decide (s.modTime < a.since + 200 * psPerMs) then s
      else if a.idx < 7 then
        s.modCanCh c (fun x => { x with abd := some ⟨a.idx + 1, a.pass, s.modTime, 0, none, 0⟩ })
      else if a.pass = 0 then
        s.modCanCh c (fun x => { x with abd := some ⟨0, 1, s.modTime, 0, none, 0⟩ })
      else
        let s := (s.setFlag (F.CAN_STAT_ABDFAIL c) true).setFlag (F.CAN_CFG_ABD c) false
        (s.modCanCh c (fun x => { x with abd := none })).canEvent2 c 5 0

def execCanAbdCandidateTimeout (t : Nat) (c : Fin 12) (error : Bool) (s : State) :
    Host.Outcome State Fault Refusal :=
  .next (opAbdTimeout c.val error (s.tick t))

/-! ### Time-triggered operation (R360 to R363) -/

def State.ttOn (s : State) (c : Nat) : Bool := decide (c < 2) && s.flag (F.CAN_TT_CFG_TTEN c)

/-- Cycles of a matrix cycle. -/
def State.ttCycles (s : State) (c : Nat) : Nat :=
  let m := s.fld (F.CAN_TT_CFG_MCYC c)
  if m = 0 then 64 else m

/-- A failure of a level: TTERR rises to it and code 6 reports the rise (R362). -/
def State.ttFail (s : State) (c level : Nat) : State :=
  let s := s.modCanCh c (fun x => { x with failed := true })
  if s.fld (F.CAN_TT_STAT_TTERR c) < level then
    (s.setFld (F.CAN_TT_STAT_TTERR c) level).canEvent2 c 6 level
  else s

/-- Signed µs from the nearest whole multiple of the basic cycle (R363). -/
def refOffset (us cycle : Nat) : Int :=
  let d := us % cycle
  if 2 * d ≤ cycle then (d : Int) else (d : Int) - cycle

/-- A basic cycle begins at `us` with cycle count m: a matrix cycle without failures ends the level; two
references in a row end the stop of level 3 (R360, R362, R363). -/
def State.ttCycle (s : State) (c us m : Nat) (master : Bool) : State :=
  let x := s.canCh c
  let s := s.setFld (F.CAN_TT_STAT_CYCCNT c) m
  let s := s.setFlag (F.CAN_TT_STAT_MASTER c) master
  let s := s.setFld (F.CAN_TT_STAT_REFOFS c)
    (ofSigned 16 (clampInt (-32768) 32767 (refOffset us (max 100 (s.fld (F.CAN_TT_CFG_CYCLE_US c))))))
  let s := if m = 0 && !x.failed && !x.stopped && x.refAt != 0 then s.setFld (F.CAN_TT_STAT_TTERR c) 0 else s
  s.setCanCh c { x with
    refAt := us + 1, refs := x.refs + 1, open_ := false, fresh := 0
    stopped := x.stopped && decide (x.refs + 1 < 2)
    failed := if m = 0 then false else x.failed }

/-- Is a received frame the reference message? Its three low identifier bits are the sender's (R363). -/
def State.isReference (s : State) (c h : Nat) : Bool :=
  s.ttOn c && headXtd h == s.flag (F.CAN_TT_REF_XTD c)
    && headId h / 8 == s.fld (F.CAN_TT_REF_ID c) / 8

/-- Trigger element i of the list (R361). -/
def State.ttElement (s : State) (c i : Nat) : Nat :=
  (s.reg (R.CAN_MEM c (896 + 2 * i))).toNat

def ttKind (e : Nat) : Nat := if 5 ≤ bitsOf e 0 3 then 0 else bitsOf e 0 3

/-- The elements of the list: those before its first KIND 0 element. -/
def State.ttList (s : State) (c : Nat) : List Nat :=
  ((List.range 32).map (s.ttElement c)).takeWhile (fun e => ttKind e != 0)

/-- Has buffer b an exclusive window? Its frame starts there alone (R361). -/
def State.ttExclusive (s : State) (c b : Nat) : Bool :=
  s.ttOn c && (s.ttList c).any (fun e => ttKind e == 1 && bitsOf e 3 4 == b)

/-- Does element e act in cycle m? -/
def ttActs (e m : Nat) : Bool := m % 2 ^ min 6 (bitsOf e 7 3) == bitsOf e 10 6

/-- A flit that replaced the buffer's data in this clock period comes too late for its frame, and forms a new
request (R365). -/
def State.canTooLate (s : State) (c b : Nat) : State :=
  match spGet (s.canCh c).replaced b with
  | none => s
  | some (p, old) =>
    if p ≠ s.canPeriod then s else
    let new := s.canWord c (canTxBuf b + 16) % 2 ^ 64
    (s.canWrite c (canTxBuf b + 16) (leBytes 8 old)).modCanCh c (fun x => { x with
      replaced := spSet x.replaced b none, waiting := spSet x.waiting b (some (BitVec.ofNat 128 new)) })

/-- Start buffer b on the bus. -/
def State.canStartBuffer (s : State) (c b : Nat) (exclusive : Bool) : State :=
  let s := s.canTooLate c b
  let w := s.canWire c (s.canWord c (canTxBuf b)) (s.canData c (canTxBuf b))
  s.modCanCh c (fun x => { x with onBus := some (.buffer b exclusive), wire := some w })

/-- Element i acts at its cycle time; `busy` when another node's frame is on the bus. -/
def opTtTrigger (c i : Nat) (busy : Bool) (s : State) : State :=
  let x := s.canCh c
  let e := s.ttElement c i
  if !s.ttOn c || !s.canJoined c || x.refAt = 0 || decide ((s.ttList c).length ≤ i)
      || !ttActs e (s.fld (F.CAN_TT_STAT_CYCCNT c)) || s.modUs != x.refAt - 1 + bitsOf e 16 16 then s
  else
    let s := s.modCanCh c (fun y => { y with open_ := false })
    let b := bitsOf e 3 4
    match ttKind e with
    | 1 =>
      if !bitOf (s.fld (F.CAN_TXREQ_BUF c)) b then s
      else if busy || x.onBus.isSome || x.stopped || !s.canSends c then s.ttFail c 2
      else s.canStartBuffer c (b % 8) true
    | 2 => s.modCanCh c (fun y => { y with open_ := true })
    | 3 => if bitOf x.fresh b then s else s.ttFail c 1
    | _ => (s.modCanCh c (fun y => { y with stopped := true, refs := 0 })).ttFail c 3

def execCanTtTrigger (t : Nat) (c : Fin 2) (i : Fin 32) (busy : Bool) (s : State) :
    Host.Outcome State Fault Refusal :=
  .next (opTtTrigger c.val i.val busy (s.tick t))

/-- Is it time for a potential master's reference message (R363)? -/
def State.referenceDue (s : State) (c : Nat) : Bool :=
  let x := s.canCh c
  let cyc := max 100 (s.fld (F.CAN_TT_CFG_CYCLE_US c))
  if s.flag (F.CAN_TT_CFG_ALIGN c) && (s.flag (F.CAN_TT_STAT_MASTER c) || x.refAt == 0) then
    s.modTime % (cyc * psPerUs) == 0
  else x.refAt == 0 || decide (x.refAt - 1 + cyc ≤ s.modUs)

/-- A potential master starts a reference message; `won`: arbitration left it on the bus. -/
def opTtReference (c : Nat) (won : Bool) (s : State) : State :=
  if !s.ttOn c || !s.flag (F.CAN_TT_CFG_POTM c) || !s.canSends c || (s.canCh c).onBus.isSome
      || !s.referenceDue c then s
  else if !won then s.setFlag (F.CAN_TT_STAT_MASTER c) false
  else
    let first := (s.canCh c).refAt = 0
    let m := if first then 0 else (s.fld (F.CAN_TT_STAT_CYCCNT c) + 1) % s.ttCycles c
    let id := s.fld (F.CAN_TT_REF_ID c) / 8 * 8 + s.fld (F.CAN_TT_CFG_PRIO c)
    let h := place id 32 29 + place (s.fld (F.CAN_TT_REF_XTD c)) 61 1 + place 1 72 4
    let s := (s.ttCycle c s.modUs m true).bump (F.CAN_TALLY_TX c)
    s.modCanCh c (fun x => { x with wire := some (h, [BitVec.ofNat 8 m]) })

def execCanTtReference (t : Nat) (c : Fin 2) (won : Bool) (s : State) :
    Host.Outcome State Fault Refusal :=
  .next (opTtReference c.val won (s.tick t))

/-! ### Receiving (R348 to R352, R356) -/

/-- Does filter element e take a frame of this identifier (R348)? -/
def filterMatches (e id : Nat) (xtd : Bool) : Bool :=
  let a := if xtd then bitsOf e 32 29 else bitsOf e 32 11
  let b := if xtd then bitsOf e 64 29 else bitsOf e 64 11
  decide (bitsOf e 3 3 ≤ 2) && bitOf e 2 == xtd &&
    (match bitsOf e 0 2 with
      | 1 => id == a || id == b
      | 2 => decide (a ≤ id) && decide (id ≤ b)
      | 3 => (id &&& b) == (a &&& b)
      | _ => false)

/-- The ISOBUS address filter (R356): is the frame rejected before the filter list? -/
def State.isobusRejects (s : State) (c h : Nat) : Bool :=
  s.flag (F.CAN_CFG_ISODA c) && headXtd h && decide (bitsOf (headId h) 16 8 < 240)
    && bitsOf (headId h) 8 8 != s.fld (F.CAN_ISO_SA c) && bitsOf (headId h) 8 8 != 255

/-- Send the flit of R352 for a store into dedicated buffer k. -/
def State.canRxFlit (s : State) (c k : Nat) (data : List Byte) : State :=
  if !s.flag (F.CAN_RXRT_EN c k) then s else
  let ofs := s.fld (F.CAN_RXRT_OFS c k)
  let lanes := (List.range 4).map (fun j =>
    toSigned 16 (leNat ((data.drop (ofs + 2 * j)).take 2)))
  let valid := ((List.range 4).map (fun j =>
    boolNat (decide (ofs + 2 * j + 2 ≤ data.length)) * 2 ^ j)).sum
  let n := spGet (s.canCh c).stores k
  s.emit 150 (s.fld (F.CAN_RXRT_ROUTE c k)) n 0 true true [outFlit lanes valid false false n 0]

/-- Store into dedicated buffer k (R350). -/
def State.canStore (s : State) (c k head : Nat) (data : List Byte) : State :=
  let s := s.canWrite c (canRxBuf k) (canElement head data)
  let s := if bitOf (s.fld (F.CAN_NDAT_BUF c)) k then
      (s.setFld ⟨R.CAN_LOST c, k, 1⟩ 1).canEvent2 c 3 k else s
  let s := s.setFld ⟨R.CAN_NDAT c, k, 1⟩ 1
  let s := s.modCanCh c (fun x => { x with
    stores := spSet x.stores k ((spGet x.stores k + 1) % 2 ^ 32), storedAt := spSet x.storedAt k (s.canPeriod + 1)
    fresh := x.fresh ||| 2 ^ k })
  (s.bump (F.CAN_TALLY_RX c)).canRxFlit c k data

/-- A write to CAN_NDAT: a store in the same clock period wins over the clear (R350). -/
def opNdatWrite (c : Nat) (v : Word) (s : State) : State :=
  (List.range 16).foldl (fun s k =>
    if bitOf v.toNat k && spGet (s.canCh c).storedAt k != s.canPeriod + 1 then s.setFld ⟨R.CAN_NDAT c, k, 1⟩ 0 else s) s

def State.canFill (s : State) (c : Nat) : Nat :=
  (s.fld (F.CAN_FIFO_WP c) + 16 - s.fld (F.CAN_FIFO_ACK_RP c)) % 16

def State.showFifo (s : State) (c : Nat) : State := s.setFld (F.CAN_FIFO_FILL c) (s.canFill c)

/-- A write to CAN_FIFO_ACK.RP (R351). -/
def opFifoAck (c : Nat) (v : Word) (s : State) : State :=
  let r := bitsOf v.toNat 0 4
  if s.canLegacy c || decide (s.canFill c < (s.fld (F.CAN_FIFO_WP c) + 16 - r) % 16) then s.canReject c
  else (s.setFld (F.CAN_FIFO_ACK_RP c) r).showFifo c

/-- The write of CAN_FIFO_ACK that waits in the queue for this very instant (R365). -/
def State.ackWaits (s : State) (c : Nat) : Option Word :=
  s.pending.findSome? (fun i => match i with
    | .canFifoAckWrite t c' v => if c'.val = c ∧ t ≤ s.now then some v else none
    | _ => none)

/-- Store in the FIFO (R351). With a full FIFO an RP write of the same instant comes first (R365). -/
def State.canFifo (s : State) (c head : Nat) (data : List Byte) : State :=
  let s := match (if 8 ≤ s.canFill c then s.ackWaits c else none) with
    | some v => opFifoAck c v s
    | none => s
  let wp := s.fld (F.CAN_FIFO_WP c)
  let rp := s.fld (F.CAN_FIFO_ACK_RP c)
  if s.canFill c < 8 then
    let s := s.canWrite c (canFifoSlot wp) (canElement head data)
    ((s.setFld (F.CAN_FIFO_WP c) (wp + 1)).showFifo c).bump (F.CAN_TALLY_RX c)
  else
    let s := if s.flag (F.CAN_CFG_FIFOOW c) then
        let s := s.canWrite c (canFifoSlot rp) (canElement head data)
        let s := (s.setFld (F.CAN_FIFO_WP c) (wp + 1)).setFld (F.CAN_FIFO_ACK_RP c) (rp + 1)
        s.bump (F.CAN_TALLY_RX c)
      else s
    let s := s.setFlag (F.CAN_FIFO_LOST c) true
    s.raiseOnce (177 + 2 * c) 2 2

/-- Filter a frame and store or reject it (R349). -/
def State.canFilter (s : State) (c h us : Nat) (data : List Byte) : State :=
  if s.isobusRejects c h then s else
  let id := if headXtd h then headId h else headId h % 2048
  let head := fun (n : Nat) => headClean h + us % 2 ^ 32 + place n 80 8
  match (List.range 64).find? (fun i => filterMatches (s.canWord c (0x100 + 16 * i)) id (headXtd h)) with
  | some i =>
    let e := s.canWord c (0x100 + 16 * i)
    match bitsOf e 3 3 with
    | 1 => s.canFifo c (head i) data
    | 2 => s.canStore c (bitsOf e 6 4) (head i) data
    | _ => s
  | none => if s.flag (F.CAN_CFG_NOMATCH c) then s.canFifo c (head 255) data else s

/-- A frame has become valid on the controller's bus: word 0 of its element, its data, the µs of module
time of its start, the data rate of its edges, and the receive error count that results. A classical
controller takes no FD frame (R469). -/
def opCanReceived (c : Nat) (head : Flit) (data : List Byte) (sofUs rate rec : Nat) (s : State) : State :=
  let h := head.toNat
  let fdOk := s.flag (F.CAN_CFG_FD_EN c) && s.mode != .compat
  if !s.canRuns c || s.flag (F.CAN_CFG_OFFBUS c) || (headFd h && !fdOk)
      || !(s.flag (F.CAN_STAT_SYNC c) || (s.canCh c).abd.isSome) then s
  else
    let data := data.take (canLength (headFd h) (headDlc h))
    let s := if s.canFrozen c then s
      else (s.setFld (F.CAN_STAT_REC c) (min 127 rec)).setFlag (F.CAN_STAT_RP c) (decide (128 ≤ rec))
    let s := s.canAbdFrame c h rate
    let s := if s.isReference c h then
        s.ttCycle c sofUs (bitsOf (leNat (data.take 1)) 0 6) false else s
    s.canFilter c h sofUs data

def execCanFrameReceived (t : Nat) (c : Fin 12) (head : Flit) (data : List Byte) (sofUs : Nat)
    (rate : Fin 4) (rec : Nat) (s : State) : Host.Outcome State Fault Refusal :=
  .next (opCanReceived c.val head data sofUs rate.val rec (s.tick t))

def execCanFifoAckWrite (t : Nat) (c : Fin 12) (v : Word) (s : State) : Host.Outcome State Fault Refusal :=
  .next (opFifoAck c.val v (s.tick t))

/-! ### Transmitting (R353 to R355) -/

/-- Request transmit buffers (the bits of m). -/
def State.canRequest (s : State) (c m : Nat) : State :=
  s.setFld (F.CAN_TXREQ_BUF c) (s.fld (F.CAN_TXREQ_BUF c) ||| m % 256)

def opTxReqWrite (c : Nat) (v : Word) (s : State) : State :=
  if s.canLegacy c then s.canReject c else s.canRequest c v.toNat

def execCanTxreqWrite (t : Nat) (c : Fin 12) (v : Word) (s : State) : Host.Outcome State Fault Refusal :=
  .next (opTxReqWrite c.val v (s.tick t))

/-- The transmit buffer on the bus. -/
def State.canBufferOn (s : State) (c : Nat) : Option Nat :=
  match (s.canCh c).onBus with
  | some (.buffer b _) => some b
  | _ => none

/-- Withdraw requests; that of the frame on the bus stands until the frame ends. -/
def opTxCanWrite (c : Nat) (v : Word) (s : State) : State :=
  if s.canLegacy c then s.canReject c else
  (List.range 8).foldl (fun s b =>
    if !bitOf v.toNat b then s
    else if s.canBufferOn c = some b then s.setFld ⟨R.CAN_TXCAN c, b, 1⟩ 1
    else s.setFld ⟨R.CAN_TXREQ c, b, 1⟩ 0) s

def execCanTxcanWrite (t : Nat) (c : Fin 12) (v : Word) (s : State) : Host.Outcome State Fault Refusal :=
  .next (opTxCanWrite c.val v (s.tick t))

/-- The frame that goes next: rank, then buffers before the queue, then the lower number or the earlier
entry (R353). Answers the rank and the source. -/
def State.canNext (s : State) (c : Nat) : Option (Nat × CanOnBus) :=
  let bufs := ((List.range 8).filter (fun b => bitOf (s.fld (F.CAN_TXREQ_BUF c)) b && !s.ttExclusive c b)).map (fun b =>
    (headRank (s.canWord c (canTxBuf b)), CanOnBus.buffer b false))
  let qs := (s.canCh c).queue.map (fun q => (headRank q.head, CanOnBus.queued q))
  (bufs ++ qs).foldl (fun best f => match best with
    | none => some f
    | some g => if f.1 < g.1 then some f else some g) none

/-- The bus is idle; `fits`: the frame can complete before the next trigger (R361). -/
def opTxStart (c : Nat) (fits : Bool) (s : State) : State :=
  let x := s.canCh c
  if !s.canSends c || x.onBus.isSome || (s.ttOn c && (!x.open_ || x.stopped || !fits)) then s else
  match s.canNext c with
  | none => s
  | some (_, .buffer b _) => s.canStartBuffer c b false
  | some (_, .queued q) => s.setCanCh c { x with onBus := some (.queued q), wire := some (s.canWire c q.head q.data) }

def execCanTxStart (t : Nat) (c : Fin 12) (fits : Bool) (s : State) : Host.Outcome State Fault Refusal :=
  .next (opTxStart c.val fits (s.tick t))

/-- Write 8 data bytes into transmit buffer b and request it (R355). -/
def State.canLoad (s : State) (c b : Nat) (v : Nat) : State :=
  (s.canWrite c (canTxBuf b + 16) (leBytes 8 v)).canRequest c (2 ^ b)

/-- The frame of buffer b has ended: its request is done with, and data that waited forms a new one. -/
def State.canBufferDone (s : State) (c b : Nat) : State :=
  let s := (s.setFld ⟨R.CAN_TXREQ c, b, 1⟩ 0).setFld ⟨R.CAN_TXCAN c, b, 1⟩ 0
  match spGet (s.canCh c).waiting b with
  | none => s
  | some f => (s.modCanCh c (fun x => { x with waiting := spSet x.waiting b none })).canLoad c b f.toNat

/-- Take a queued frame out of the queue. -/
def State.canUnqueue (s : State) (c : Nat) (q : CanQueued) : State :=
  s.modCanCh c (fun x => { x with queue := removeFirst (fun y => y == q) x.queue })

/-- The frame on the bus was sent; `tec` is the transmit error count that results. -/
def opFrameSent (c tec : Nat) (s : State) : State :=
  match (s.canCh c).onBus with
  | none => s
  | some o =>
    let s := (s.setFld (F.CAN_STAT_TEC c) (satBits 8 tec)).bump (F.CAN_TALLY_TX c)
    let s := match o with
      | .buffer b _ => (s.setFld ⟨R.CAN_TXDONE c, b, 1⟩ 1).canBufferDone c b
      | .queued q => (s.canUnqueue c q).finishWaiter (some (q.ctx, q.tag)) codeDone 0 (s.canResult c 0)
    s.canFrameEnd c

def execCanFrameSent (t : Nat) (c : Fin 12) (tec : Nat) (s : State) : Host.Outcome State Fault Refusal :=
  .next (opFrameSent c.val tec (s.tick t))

/-- The frame on the bus lost arbitration (`arb`) or met an error: retried, except in one-shot
operation, in an exclusive window, or once it is withdrawn (R354, R361). -/
def opTxFailure (c : Nat) (arb : Bool) (tec : Nat) (s : State) : State :=
  match (s.canCh c).onBus with
  | none => s
  | some o =>
    let s := s.setFld (F.CAN_STAT_TEC c) (satBits 8 tec)
    let s := match o with
      | .buffer b exclusive =>
        if exclusive || s.flag (F.CAN_CFG_ONESHOT c) then
          ((s.setFld ⟨R.CAN_TXFAIL c, b, 1⟩ 1).canBufferDone c b).canEvent2 c 1 b
        else if s.flag ⟨R.CAN_TXCAN c, b, 1⟩ then
          (s.setFld ⟨R.CAN_TXFAIL c, b, 1⟩ 1).canBufferDone c b
        else s
      | .queued q =>
        if q.oneShot then
          (s.canUnqueue c q).finishWaiter (some (q.ctx, q.tag)) codeDone 0
            (s.canResult c (if arb then 1 else 2))
        else s
    s.canFrameEnd c

def execCanTxFailure (t : Nat) (c : Fin 12) (arb : Bool) (tec : Nat) (s : State) :
    Host.Outcome State Fault Refusal :=
  .next (opTxFailure c.val arb tec (s.tick t))

/-- An output flit reaches endpoint 150: every bound buffer takes lanes 0 to 3 (R355). -/
def State.canFlit (s : State) (route : Nat) (f : Flit) : State :=
  (List.range 12).foldl (fun s c => (List.range 8).foldl (fun s b =>
    if s.flag (F.CAN_TXRT_EN c b) && s.fld (F.CAN_TXRT_ROUTE c b) == route && s.canRuns c && !s.canLegacy c then
      if s.canBufferOn c = some b then
        s.modCanCh c (fun x => { x with waiting := spSet x.waiting b (some f) })
      else
        let old := if bitOf (s.fld (F.CAN_TXREQ_BUF c)) b then some (s.canPeriod, s.canWord c (canTxBuf b + 16) % 2 ^ 64) else none
        (s.modCanCh c (fun x => { x with replaced := spSet x.replaced b old })).canLoad c b (f.toNat % 2 ^ 64)
    else s) s) s

/-- A flit for the controllers: a stream-data packet of one flit to endpoint 150. -/
def State.takeCanFlit (s : State) (p : Packet) : State :=
  match p.payload with
  | [f] => if p.dst = 150 && p.typ == 3 && !p.spec then s.canFlit p.stream f else s
  | _ => s

def opTxrtFlit (p : Packet) (s : State) : State :=
  if p.dst = 150 && p.typ == 3 && s.lands p then (s.arrived p).takeCanFlit p else s

def execCanTxrtFlit (t : Nat) (p : Packet) (s : State) : Host.Outcome State Fault Refusal :=
  .next (opTxrtFlit p (s.tick t))

/-! ### Errors (R357) -/

/-- The error counters and the bus state they lead to. -/
def opErrorState (c b tec rec : Nat) (s : State) : State :=
  if !s.canRuns c || s.flag (F.CAN_CFG_OFFBUS c) || s.canFrozen c then s else
  let s := s.setFld (F.CAN_STAT_TEC c) (satBits 8 tec)
  let s := (s.setFld (F.CAN_STAT_REC c) (min 127 rec)).setFlag (F.CAN_STAT_RP c) (decide (128 ≤ rec))
  if s.fld (F.CAN_STAT_BSTATE c) = b then s else
  let s := (s.setFld (F.CAN_STAT_BSTATE c) b).canEvent1 c b
  if b ≠ 2 then s else
  let s := s.setFlag (F.CAN_STAT_SYNC c) false
  let s := match (s.canCh c).onBus with
    | some (.buffer k exclusive) =>
      if exclusive || s.flag (F.CAN_CFG_ONESHOT c) then (s.setFld ⟨R.CAN_TXFAIL c, k, 1⟩ 1).canBufferDone c k else s
    | _ => s
  let s := s.modCanCh c (fun x => { x with onBus := none, waitFrom := s.modTime })
  let s := s.canFlush c codeDone 0 (s.canResult c 3)
  if s.flag (F.CAN_CFG_BOREC c) && !(s.canCh c).offDue then s else s.canGoOff c

def execCanErrorStateChange (t : Nat) (c : Fin 12) (b : Fin 3) (tec rec : Nat) (s : State) :
    Host.Outcome State Fault Refusal :=
  .next (opErrorState c.val b.val tec rec (s.tick t))

/-- 128 occurrences of 11 recessive bits have passed with OFFBUS = 0: the controller is error-active. -/
def opBusoffRecovered (c : Nat) (s : State) : State :=
  if !s.canRuns c || s.flag (F.CAN_CFG_OFFBUS c) || s.fld (F.CAN_STAT_BSTATE c) != 2 || !s.canWaited c (128 * 11) then s else
  let s := ((s.setFld (F.CAN_STAT_TEC c) 0).setFld (F.CAN_STAT_REC c) 0).setFlag (F.CAN_STAT_RP c) false
  ((s.setFld (F.CAN_STAT_BSTATE c) 0).setFlag (F.CAN_STAT_SYNC c) true).canEvent1 c 0

def execCanBusoffRecovered (t : Nat) (c : Fin 12) (s : State) : Host.Outcome State Fault Refusal :=
  .next (opBusoffRecovered c.val (s.tick t))

/-! ### Descriptors (R364) -/

/-- CAN_TX. A controller that serves the legacy core takes no frames of host software (R463). -/
def opCanTx (ecc : Bool) (s : State) (o : Op) : State :=
  let c := o.arg1 0 4
  let head := headClean o.w2.toNat
  let len := canLength (headFd head) (headDlc head)
  if !s.canRuns c || s.canLegacy c then s.finish o codeRefusedMode s.mode.code 0
  else if 32 ≤ (s.canCh c).queue.length then s.finish o codeRefusedCapacity 18 0
  else if ecc && decide (16 < len) then s.finish o codeFaultAccess 2 0
  else if s.flag (F.CAN_CFG_OFFBUS c) || s.fld (F.CAN_STAT_BSTATE c) == 2 then
    s.finish o codeDone 0 (s.canResult c 3)
  else
    let data := if len ≤ 16 then (leBytes 16 o.w3.toNat).take len else s.readBytes o.buf len
    s.modCanCh c (fun x => { x with queue := x.queue ++ [⟨o.ctx, o.tag, bitOf o.w1.toNat 4, head, data⟩] })

def execCanTx (t : Nat) (c : Fin 4096) (tag : Nat) (ecc : Bool) (s : State) :
    Host.Outcome State Fault Refusal :=
  .next ((s.tick t).beginOp c.val tag 0x50 (opCanTx ecc))

/-- CAN_FIFO_DRAIN: oldest elements first, then RP past them. -/
def opFifoDrain (s : State) (o : Op) : State :=
  let c := o.arg1 0 4
  let n := o.arg1 4 4
  if o.ctx ≠ 0 then s.finish o codeFaultAccess 1 0
  else if s.canLegacy c then s.finish o codeRefusedMode s.mode.code 0
  else
    let k := min n (s.canFill c)
    let rp := s.fld (F.CAN_FIFO_ACK_RP c)
    let bs := (List.range k).flatMap (fun i =>
      leBytes 16 (s.canWord c (canFifoSlot (rp + i))) ++ s.canData c (canFifoSlot (rp + i)))
    let s := (s.writeBytes o.buf bs).setFld (F.CAN_FIFO_ACK_RP c) (rp + k)
    (s.showFifo c).finish o codeDone 0 k

def execCanFifoDrain (t : Nat) (c : Fin 4096) (tag : Nat) (s : State) :
    Host.Outcome State Fault Refusal :=
  .next ((s.tick t).beginOp c.val tag 0x51 opFifoDrain)

/-- The mode has changed: controllers that it switches off cancel their queued frames (R364). -/
def State.canModeEntered (s : State) : State :=
  ((List.range 12).filter (fun c => !s.canRuns c)).foldl (fun s c =>
    let s := s.canFlush c codeCancelledReset 1 0
    let s := s.modCanCh c (fun x => { x with onBus := none, abd := none, open_ := false })
    s.setFlag (F.CAN_STAT_SYNC c) false) s

end Sys2Proof.Machine
end

