-- ==== Sys2Proof/Machine/Mbx.lean ====
section
/-!
DEFINITION. Machine/Mbx.lean: the mailboxes (R368 to R381). A side is false for A, true for B.
-/

namespace Sys2Proof.Machine

def State.mbxCh (s : State) (ch : Nat) : MbxCh := spGet s.mbx.ch ch
def State.setMbxCh (s : State) (ch : Nat) (x : MbxCh) : State :=
  { s with mbx := { s.mbx with ch := spSet s.mbx.ch ch x } }

/-- The direction that a side sends into. -/
def MbxCh.dir (x : MbxCh) (side : Bool) : MbxDir := if side then x.fromB else x.fromA
def MbxCh.setDir (x : MbxCh) (side : Bool) (d : MbxDir) : MbxCh :=
  if side then { x with fromB := d } else { x with fromA := d }

/-- The identity bound to a side (R369). -/
def State.mbxIdent (s : State) (ch : Nat) (side : Bool) : Nat :=
  if side then s.fld (F.MBX_BIND_IDB ch) else s.fld (F.MBX_BIND_IDA ch)

/-- Is the channel enabled, naming two processors that exist (R368, R370)? -/
def State.mbxOpen (s : State) (ch : Nat) : Bool :=
  s.flag (F.MBX_BIND_EN ch) && decide (s.mbxIdent ch false < 7) && decide (s.mbxIdent ch true < 7)

def State.mbxAllowed (s : State) (ch : Nat) (side : Bool) (ident : Nat) : Bool :=
  s.mbxOpen ch && s.mbxIdent ch side == ident

/-- An excluded access (R370). -/
def State.mbxExclude (s : State) (ch : Nat) (side : Bool) (ident : Nat) : State :=
  let s := s.setFlag F.MBX_GLB_STAT_IDERR true
  let s := (s.setFld F.MBX_GLB_STAT_CH ch).setFlag F.MBX_GLB_STAT_SIDE side
  (s.setFld F.MBX_GLB_STAT_ID ident).raise 202 (ch + 64 * boolNat side + 256 * ident)

/-- Bring a side's MBX_RXD and the counts and numbers of MBX_STAT up to date (R373, R380). -/
def State.showMbxSide (s : State) (ch : Nat) (side : Bool) : State :=
  let x := s.mbxCh ch
  let j := boolNat side
  let tx := x.dir side
  let rx := x.dir (!side)
  let head := rx.queue.head?
  let m := match head with | some (_, f) => f.toNat | none => 0
  let s := (List.range 4).foldl (fun s i => s.setReg (R.MBX_RXD ch j i) (BitVec.ofNat 32 (bitsOf m (32 * i) 32))) s
  let s := (s.setFld (F.MBX_STAT_TXCNT ch j) tx.queue.length).setFld (F.MBX_STAT_RXCNT ch j) rx.queue.length
  let s := s.setFld (F.MBX_STAT_RXSEQ ch j) (match head with | some (q, _) => q | none => 0)
  (s.setFld (F.MBX_STAT_TXSEQ ch j) tx.next).setFlag (F.MBX_STAT_BOTHPEND ch j) x.episode

/-- Both sides, and the observation of mutual pending, which starts and ends here (R377). -/
def State.showMbx (s : State) (ch : Nat) : State :=
  let x := s.mbxCh ch
  let both := !x.fromA.queue.isEmpty && !x.fromB.queue.isEmpty
  let x := if !both then { x with since := none, episode := false }
    else if x.since.isSome then x
    else { x with since := some (s.modTime, s.fld (F.MBX_OBS_OBS_MS ch)) }
  ((s.setMbxCh ch x).showMbxSide ch false).showMbxSide ch true

/-- Event 200 to identity 0: at side `side`, kind 0 a message, 1 an acknowledge (R378). -/
def State.mbxSignal (s : State) (ch : Nat) (side : Bool) (kind : Nat) : State :=
  let on := if kind = 0 then s.flag (F.MBX_IEN_RXIE ch (boolNat side)) else s.flag (F.MBX_IEN_ACKIE ch (boolNat side))
  if on && s.mbxIdent ch side == 0 then s.raise 200 (ch + 64 * boolNat side + 128 * kind) else s

/-- The mailbox interrupt of an identity other than 0, a level (R378). -/
def State.mbxLevel (s : State) (ident : Nat) : Bool :=
  ident != 0 && (List.range 64).any (fun ch => [false, true].any (fun side =>
    s.mbxAllowed ch side ident &&
      ((s.flag (F.MBX_IEN_RXIE ch (boolNat side)) && !((s.mbxCh ch).dir (!side)).queue.isEmpty)
        || (s.flag (F.MBX_IEN_ACKIE ch (boolNat side))
            && (List.range 4).any (fun k => s.flag (F.MBX_ACKREC_NEW ch (boolNat side) k))))))

/-- Words 0 to 2 of a side's outgoing message (R372). -/
def opMbxTxd (ch : Nat) (side : Bool) (i ident : Nat) (v : Word) (s : State) : State :=
  if !s.mbxAllowed ch side ident then s.mbxExclude ch side ident else
  let x := s.mbxCh ch
  let d := x.dir side
  s.setMbxCh ch (x.setDir side
    (if i = 0 then { d with w0 := v } else if i = 1 then { d with w1 := v } else { d with w2 := v }))

/-- Does an acknowledge by a side wait in the queue for this very instant (R379)? -/
def State.ackNow (s : State) (ch : Nat) (side : Bool) : Bool :=
  s.waitsNow (fun i => match i with
    | .mbxAck t ch' side' ident _ => if ch'.val = ch ∧ side' = side ∧ s.mbxAllowed ch side ident = true then some t else none
    | _ => none)

/-- A write to MBX_TXD[3] (R372). An acknowledge of the same instant frees its slot first (R379). -/
def opMbxSend (ch : Nat) (side : Bool) (ident : Nat) (v : Word) (s : State) : State :=
  if !s.mbxAllowed ch side ident then s.mbxExclude ch side ident else
  let x := s.mbxCh ch
  let d := x.dir side
  if 4 ≤ d.queue.length && !(d.queue.length == 4 && s.ackNow ch (!side)) then
    (s.setFlag (F.MBX_STAT_FULLERR ch (boolNat side)) true).raise 203 (ch + 64 * boolNat side)
  else
    let m : Flit := BitVec.ofNat 128
      (d.w0.toNat + d.w1.toNat * 2 ^ 32 + d.w2.toNat * 2 ^ 64 + v.toNat * 2 ^ 96)
    let s := s.setMbxCh ch (x.setDir side
      { d with queue := d.queue ++ [(d.next, m)], next := (d.next + 1) % 256 })
    (s.showMbx ch).mbxSignal ch (!side) 0

def execMbxSend (t : Nat) (ch : Fin 64) (sideB : Bool) (ident : Fin 16) (v : Word) (s : State) :
    Host.Outcome State Fault Refusal :=
  .next (opMbxSend ch.val sideB ident.val v (s.tick t))

/-- A write to MBX_ACK: the oldest incoming message goes, and the sender's acknowledge record of its
slot is written (R373, R374). -/
def opMbxAck (ch : Nat) (side : Bool) (ident : Nat) (v : Word) (s : State) : State :=
  if !s.mbxAllowed ch side ident then s.mbxExclude ch side ident else
  let x := s.mbxCh ch
  let d := x.dir (!side)
  match d.queue with
  | [] => (s.setFlag (F.MBX_STAT_EMPTYERR ch (boolNat side)) true).raise 204 (ch + 64 * boolNat side)
  | (q, _) :: rest =>
    let j := boolNat (!side)
    let k := q % 4
    let s := s.setMbxCh ch (x.setDir (!side) { d with queue := rest, acked := some (s.now, k) })
    let s := if s.flag (F.MBX_ACKREC_NEW ch j k) then s.setFlag (F.MBX_STAT_ACKLOST ch j) true else s
    let s := s.setReg (R.MBX_ACKREC ch j k)
      (BitVec.ofNat 32 (bitsOf v.toNat 0 16 + place q 16 8 + 2 ^ 31))
    (s.showMbx ch).mbxSignal ch (!side) 1

def execMbxAck (t : Nat) (ch : Fin 64) (sideB : Bool) (ident : Fin 16) (v : Word) (s : State) :
    Host.Outcome State Fault Refusal :=
  .next (opMbxAck ch.val sideB ident.val v (s.tick t))

/-- Both directions have been pending for the observation time in force (R377). An acknowledge of the same
instant that empties a direction comes first (R379). -/
def opBothPend (ch : Nat) (s : State) : State :=
  let x := s.mbxCh ch
  match x.since with
  | none => s
  | some (a, ms) =>
    let emptied := [false, true].any (fun side => (x.dir side).queue.length == 1 && s.ackNow ch (!side))
    if x.episode || ms = 0 || decide (s.modTime < a + ms * psPerMs) || emptied then s else
    let s := (s.setMbxCh ch { x with episode := true }).showMbx ch
    (s.bump F.MBX_GLB_STAT_EPISODES).raise 201 ch

def execMbxBothpend (t : Nat) (ch : Fin 64) (s : State) : Host.Outcome State Fault Refusal :=
  .next (opBothPend ch.val (s.tick t))

/-- Where an offset of a side block lies: channel, side, offset in the block (R380). -/
def mbxPlace (off : Nat) : Option (Nat × Bool × Nat) :=
  if off < 0x1C1000 ∨ 0x1C5000 ≤ off then none
  else some ((off - 0x1C1000) / 256, decide (128 ≤ (off - 0x1C1000) % 256), (off - 0x1C1000) % 128)

/-- An access by an identity to a register of a side block, other than the two with a row of their
own: the value read and the state after it (R370, R372, R380). -/
def opMbxAccess (ch : Nat) (side : Bool) (o ident : Nat) (read : Bool) (v : Word) (s : State) :
    State × Word :=
  if !s.mbxAllowed ch side ident then (s.mbxExclude ch side ident, 0)
  else
    let off := 0x1C1000 + 256 * ch + 128 * boolNat side + o
    if read then (s, if o < 0x10 ∨ o = 0x20 then 0 else s.reg off)
    else if o < 0x0C then (opMbxTxd ch side (o / 4) ident v s, 0)
    else if o = 0x0C then (opMbxSend ch side ident v s, 0)
    else if o = 0x20 then (opMbxAck ch side ident v s, 0)
    else if 0x30 ≤ o ∧ o < 0x40 ∧ ((s.mbxCh ch).dir side).acked = some (s.now, (o - 0x30) / 4) then (s, 0)
    else (s.plainWrite off v, 0)

end Sys2Proof.Machine
end

