-- ==== Sys2Proof/Machine/Fleet.lean ====
section
/-!
DEFINITION. Machine/Fleet.lean: Ethernet ports and 802.1AS (R482 to R489), machine-network messages
and the machine digest (R490 to R493), fleet records (R494), identity and machine binding (R496 to
R503). Paths 0 to 8 are the Ethernet ports, path 9 is CAN.
-/

namespace Sys2Proof.Machine

def State.putSent (s : State) (path : Nat) (bs : List Byte) : State :=
  { s with flt := { s.flt with sent := spSet s.flt.sent path bs } }

/-- The modes in which the ports are served, once domain 12 is powered (R400, R482). -/
def State.ethServed (s : State) : Bool :=
  (s.mode == .boot || s.mode == .compat || s.mode == .field || s.mode == .road || s.mode == .service)
    && decide (3 ≤ s.modMs)

/-- Port p is served, enabled, and its link is up. -/
def State.ethUp (s : State) (p : Nat) : Bool :=
  s.ethServed && s.flag (F.FLT_ETH_CFG_EN p) && s.flag (F.FLT_ETH_STAT_LINK p)

/-! ### Rings of a port (R484, R485) -/

/-- A write to FLT_ETH_CFG[p]: EN from 0 to 1 samples both rings; MS keeps its value while EN = 1; ANN
reads 0 for port 8 (R484, R504). -/
def opEthCfgWrite (p : Nat) (v : Word) (s : State) : State :=
  let was := s.flag (F.FLT_ETH_CFG_EN p)
  let v := if was then setBits v 1 1 (s.fld (F.FLT_ETH_CFG_MS p)) else v
  let v := if p = 8 then setBits v 2 1 0 else v
  let s := s.plainWrite (R.FLT_ETH_CFG p) v
  if !was && s.flag (F.FLT_ETH_CFG_EN p) then
    (s.ringSample (R.FLT_ETH_RX_BASE_LO p) 11).ringSample (R.FLT_ETH_TX_BASE_LO p) 11
  else s

/-- EtherType and first payload byte, past one 802.1Q tag (R483, R486). -/
def etherType (f : List Byte) : Nat × Nat :=
  let t := beNat ((f.drop 12).take 2)
  if t = 0x8100 then (beNat ((f.drop 16).take 2), (f.getD 18 0).toNat) else (t, (f.getD 14 0).toNat)

/-- Does the module consume the frame (R486)? -/
def ethConsumed (f : List Byte) : Bool :=
  let t := etherType f
  t.1 == 0x88F7 || (t.1 == 0x88B5 && decide (1 ≤ t.2) && decide (t.2 ≤ 4))

/-- FLT_MAC + p. -/
def State.portMac (s : State) (p : Nat) : Nat :=
  (s.fld F.FLT_MAC_LO_MAC + s.fld F.FLT_MAC_HI_MAC * 2 ^ 32 + p) % 2 ^ 48

/-- Is the frame addressed to the port, to broadcast, or to a group address that ALLMC admits? -/
def State.ethMine (s : State) (p : Nat) (f : List Byte) : Bool :=
  let d := beNat (f.take 6)
  d == s.portMac p || d == 2 ^ 48 - 1 || (bitOf (d / 2 ^ 40) 0 && s.flag (F.FLT_ETH_CFG_ALLMC p))

/-- The group address of machine-network messages (R490). -/
def annGroup : Nat := 0x035272000001

/-- The smallest CAN FD length that holds n bytes (R491). -/
def fdLength (n : Nat) : Nat := ([0, 1, 2, 3, 4, 5, 6, 7, 8, 12, 16, 20, 24, 32, 48].find? (fun k => decide (n ≤ k))).getD 64

def padTo (n : Nat) (bs : List Byte) : List Byte := bs ++ List.replicate (n - bs.length) 0

/-- A message as a path carries it (R490, R491): on CAN the identifier B + `k` and the data of each frame, two
frames of 64 bytes for more than 64; on Ethernet a whole frame without FCS. -/
def State.annMessage (s : State) (path dest k : Nat) (payload : List Byte) : List Byte :=
  if path = 9 then
    let id := leBytes 4 ((s.fld F.FLT_ANN_CANID_B + k) % 2 ^ 29)
    if payload.length ≤ 64 then id ++ padTo (fdLength payload.length) payload
    else id ++ payload.take 64 ++ id ++ padTo 64 (payload.drop 64)
  else beBytes 6 dest ++ beBytes 6 (s.portMac path) ++ [0x88, 0xB5] ++ padTo 46 payload

/-- Send one of the module's own messages on a path (R490). -/
def State.announce (s : State) (path dest k : Nat) (payload : List Byte) : State :=
  s.putSent path (s.annMessage path dest k payload)

/-- An ARP request for 169.254.72.4 and its answer with the service port's address (R447). -/
def arpAddress : List Byte := [169, 254, 72, 4]

def State.arpAnswer (s : State) (f : List Byte) : Option (List Byte) :=
  let at_ := fun (i n : Nat) => (f.drop i).take n
  if at_ 12 10 = [8, 6, 0, 1, 8, 0, 6, 4, 0, 1] ∧ at_ 38 4 = arpAddress then
    let me := beBytes 6 (s.portMac 8)
    some (padTo 60 (at_ 6 6 ++ me ++ [8, 6, 0, 1, 8, 0, 6, 4, 0, 2] ++ me ++ arpAddress ++ at_ 22 6 ++ at_ 28 4))
  else none

/-- A frame at the service port in RECOVERY: the ROM answers ARP (R447); its other traffic has commands of its
own. -/
def State.romFrame (s : State) (p : Nat) (f : List Byte) (fcsOk : Bool) : State :=
  if p ≠ 8 ∨ !fcsOk then s else
  match s.arpAnswer f with
  | some r => s.putSent 8 r
  | none => s

/-- A slot: header and frame (R485). -/
def ethSlot (len timeNs : Nat) (f : List Byte) : List Byte :=
  leBytes 16 (place len 0 11 + place timeNs 64 64) ++ f

/-- A frame has been received: its FCS verdict and the module time of its start-of-frame delimiter in
ns. A full ring, or a class past its threshold, discards it: there is no internal buffer. -/
def opEthReceived (p : Nat) (f : List Byte) (fcsOk : Bool) (sfdNs : Nat) (s : State) : State :=
  if s.mode = .recovery then s.romFrame p f fcsOk
  else if !s.ethUp p then s
  else if !fcsOk then s.bump (F.FLT_ETH_CNT_FCSERR p)
  else if f.length < 60 ∨ 1518 < f.length ∨ ethConsumed f ∨ !s.ethMine p f then s
  else
    let cls := s.fld (F.FLT_ETH_CFG_CLASS p)
    let off := R.FLT_ETH_RX_BASE_LO p
    let d : RingDesc := ⟨off, 2048, 0, cls, some (F.FLT_ETH_CNT_RXDROP p), none, 0, true⟩
    if s.ringFull off then s.bump (F.FLT_ETH_CNT_RXDROP p)
    else if s.pastThreshold cls 256 then (s.bump (F.FLT_ETH_CNT_RXDROP p)).raiseOnce 42 cls cls
    else s.ringStore d (ethSlot f.length (sfdNs * 5 / 16 * 16 / 5) f)

def execEthFrameReceived (t : Nat) (p : Fin 9) (frame : List Byte) (fcsOk : Bool) (sfdNs : Nat) (s : State) :
    Host.Outcome State Fault Refusal :=
  .next (opEthReceived p.val frame fcsOk sfdNs (s.tick t))

/-- A write to a transmit ring's WPTR (R484). -/
def opEthTxWptr (p : Nat) (v : Word) (s : State) : State :=
  let off := R.FLT_ETH_TX_BASE_LO p
  let w := s.fld (wptrOf off)
  let r := s.fld (rptrOf off)
  let d := sub16 (v.toNat % 65536) r
  if sub16 w r ≤ d ∧ d ≤ 2 ^ (s.ring off).log2 then s.setFld (wptrOf off) (v.toNat % 65536)
  else s.setFlag F.GLB_STATUS_RINGERR true

def execEthTxWptrWrite (t : Nat) (p : Fin 9) (v : Word) (s : State) : Host.Outcome State Fault Refusal :=
  .next (opEthTxWptr p.val v (s.tick t))

/-- The slot at RPTR is sent, or passed when its LEN is out of range or the link falls meanwhile (R484,
R485, R489). -/
def opEthSend (p : Nat) (fell : Bool) (s : State) : State :=
  let off := R.FLT_ETH_TX_BASE_LO p
  let r := s.fld (rptrOf off)
  if !s.ethUp p || s.fld (wptrOf off) == r then s else
  let a := (s.ring off).base + (r % 2 ^ (s.ring off).log2) * 2048
  let h := (s.readFlit a).toNat
  let len := bitsOf h 0 11
  let s := s.setFld (rptrOf off) (r + 1)
  if len < 60 ∨ 1518 < len ∨ fell then s.bump (F.FLT_ETH_CNT_TXERR p) else
  let s := if bitOf h 16 then
      s.setPair (F.FLT_ETH_TXTS_LO_TS p) (F.FLT_ETH_TXTS_HI_TS p) s.modNs else s
  s.putSent p (s.readBytes (a + 16) len)

def execEthFrameSend (t : Nat) (p : Fin 9) (fell : Bool) (s : State) : Host.Outcome State Fault Refusal :=
  .next (opEthSend p.val fell (s.tick t))

/-- Speed code of a port's link; port 8 negotiates (R482, R504). -/
def ethSpeed (p speed : Nat) : Nat := if p < 2 then 3 else if p < 8 then 2 else clampNat 1 2 speed

/-- A port's link goes down or comes up (R489); a slave port without a link is not asCapable (R488). -/
def opEthLink (p : Nat) (up : Bool) (speed : Nat) (s : State) : State :=
  if !s.ethServed || s.flag (F.FLT_ETH_STAT_LINK p) == up then s else
  let s := s.setFlag (F.FLT_ETH_STAT_LINK p) up
  let s := s.setFld (F.FLT_ETH_STAT_SPEED p) (if up then ethSpeed p speed else 0)
  let s := if !up && s.fld F.FLT_PTP_STAT_SPORT == p then s.setFlag F.FLT_PTP_STAT_VALID false else s
  s.raise 233 ((if up then 2 else 1) + 256 * p)

def execEthLinkChange (t : Nat) (p : Fin 9) (up : Bool) (speed : Fin 4) (s : State) :
    Host.Outcome State Fault Refusal :=
  .next (opEthLink p.val up speed.val (s.tick t))

/-! ### 802.1AS (R487, R488) -/

/-- Did each of the last four Syncs arrive within twice the interval of the one before? -/
def syncsGood (l : List (Nat × Nat)) : Bool :=
  decide (5 ≤ l.length) && ((l.take 5).zip ((l.drop 1).take 4)).all (fun p =>
    decide (p.1.1 ≤ p.2.1 + 2 * p.1.2))

def opPtpReceived (p : Nat) (m : PtpMessage) (s : State) : State :=
  if !s.ethUp p || !s.flag F.FLT_PTP_CFG_EN then s else
  let gm := m.grand && s.flag F.FLT_PTP_CFG_GMCAP
  let s := s.setFlag F.FLT_PTP_STAT_GM gm
  let s := (s.setFld F.FLT_PTP_STAT_SPORT m.port).setFld F.FLT_PTP_STAT_GMCLASS m.cls
  let s := if m.sync && !gm then
      let s := s.setFld F.FLT_PTP_OFS_OFS (ofSigned 32 (clampInt (-2147483648) 2147483647 m.ofs))
      { s with flt := { s.flt with syncs := ((s.modNs, m.intervalNs) :: s.flt.syncs).take 5 } }
    else s
  s.setFlag F.FLT_PTP_STAT_VALID (!gm && m.capable && syncsGood s.flt.syncs)

def execPtpMessageReceived (t : Nat) (p : Fin 8) (m : PtpMessage) (s : State) :
    Host.Outcome State Fault Refusal :=
  .next (opPtpReceived p.val m (s.tick t))

/-- clockClass as grandmaster (R487). -/
def State.clockClass (s : State) : Nat :=
  if s.fld F.FUS_TB_STAT_STATE = 2 ∧ s.fld F.FUS_TB_STAT_SRCUSED = 1 then 6
  else if s.fld F.FUS_TB_STAT_STATE = 3 then 7 else 248

/-- The grandmaster's Sync with its follow-up: priority1, clockClass and the origin time in ns of TAI. -/
def opPtpSync (p : Nat) (s : State) : State :=
  let last := spGet s.flt.syncSent p
  let step := 125 * psPerMs * 2 ^ s.fld F.FLT_PTP_CFG_SYNC
  if !s.ethUp p || !s.flag F.FLT_PTP_CFG_EN || !s.flag F.FLT_PTP_STAT_GM
      || (last != 0 && decide (s.modTime < last - 1 + step)) then s else
  let origin := ((s.modNs : Int) + s.tbOfs + 19000000000) % ((2 ^ 80 : Nat) : Int)
  let s := { s with flt := { s.flt with syncSent := spSet s.flt.syncSent p (s.modTime + 1) } }
  s.putSent p ([BitVec.ofNat 8 (s.fld F.FLT_PTP_CFG_PRIO1), BitVec.ofNat 8 s.clockClass] ++ beBytes 10 origin.toNat)

def execPtpSyncSend (t : Nat) (p : Fin 8) (s : State) : Host.Outcome State Fault Refusal :=
  .next (opPtpSync p.val (s.tick t))

/-! ### Members and the machine digest (R492, R493) -/

/-- What a write to FLT_MEM_CFG[i] stores: a second anchor is stored as 0 (R504). -/
def State.memCfgWord (s : State) (i : Nat) (v : Word) : Word :=
  if (List.range 32).any (fun k => k != i && decide (1 ≤ k) && s.flag (F.FLT_MEM_CFG_ANCHOR k)) then setBits v 1 1 0
  else v

def opMemCfgWrite (i : Nat) (v : Word) (s : State) : State := s.plainWrite (R.FLT_MEM_CFG i) (s.memCfgWord i v)

/-- The enabled members. -/
def State.members (s : State) : List Nat :=
  (List.range 32).filter (fun i => decide (1 ≤ i) && s.flag (F.FLT_MEM_CFG_EN i))

/-- What FLT_MISSING reads: the enabled members that are missing. -/
def State.missingMask (s : State) : Nat :=
  ((s.members.filter (fun i => !s.flt.memHere.contains i)).map (fun i => 2 ^ i)).sum

/-- Is (transport, port, source) that of member i? -/
def State.memberIs (s : State) (can : Bool) (port src i : Nat) : Bool :=
  s.flag (F.FLT_MEM_CFG_XPORT i) == can && s.fld (F.FLT_MEM_CFG_PORT i) == port &&
    (if can then s.fld (F.FLT_MEM_ADDR_LO_ADDR i) % 2 ^ 29 == src
     else s.fld (F.FLT_MEM_ADDR_LO_ADDR i) + s.fld (F.FLT_MEM_ADDR_HI_ADDR i) * 2 ^ 32 == src)

/-- The member for which a message of SUBTYPE 1 from a source counts (R491, R492). -/
def State.recordMember (s : State) (can : Bool) (port src : Nat) (b : List Byte) : Option Nat :=
  if b.length < 17 || (b.getD 0 0).toNat != 1 then none
  else if !(if can then s.canJoined port else s.ethUp port) then none
  else s.members.find? (s.memberIs can port src)

/-- Does a valid unit record of member i wait in the present cycle? It wins over the member's silence (R503). -/
def State.recordWaits (s : State) (i : Nat) : Bool :=
  s.waitsNow (fun c => match c with
    | .unitRecordReceived t can port src b => if s.recordMember can port src b = some i then some t else none
    | _ => none)

/-- Member i, silent since `memAt`, becomes missing (R493). -/
def State.loseMember (s : State) (i : Nat) : State :=
  { s with flt := { s.flt with memHere := s.flt.memHere.filter (fun k => k != i) } }.raise 232 i

/-- A unit record sets its member's epoch, digest and LOCALCHG; one that comes more than 1 s after the last ends
an absence (R492, R493). -/
def opUnitRecord (can : Bool) (port src : Nat) (b : List Byte) (s : State) : State :=
  match s.recordMember can port src b with
  | none => s
  | some i =>
    let s := if s.flt.memHere.contains i && decide (spGet s.flt.memAt i + psPerS < s.modTime) then s.loseMember i else s
    let s := s.setFld (F.FLT_MEM_EPOCH_EPOCH i) (leNat ((b.drop 4).take 4))
    let s := s.setPair (F.FLT_MEM_DIG_LO_DIG i) (F.FLT_MEM_DIG_HI_DIG i) (leNat ((b.drop 8).take 8))
    let here := s.flt.memHere.contains i
    let heard := s.flt.memHeard.contains i
    let s := { s with flt := { s.flt with
      memAt := spSet s.flt.memAt i s.modTime
      memHere := if here then s.flt.memHere else i :: s.flt.memHere
      memHeard := if heard then s.flt.memHeard else i :: s.flt.memHeard
      memLocal := (if (b.getD 16 0).getLsbD 0 then [i] else []) ++ s.flt.memLocal.filter (fun k => k != i) } }
    if !here && heard then s.raise 232 (i + 256) else s

def execUnitRecordReceived (t : Nat) (can : Bool) (port src : Nat) (payload : List Byte) (s : State) :
    Host.Outcome State Fault Refusal :=
  .next (opUnitRecord can port src payload (s.tick t))

/-- A member has been silent for 1 s (R493). -/
def opMemberMissing (i : Nat) (s : State) : State :=
  if !s.members.contains i || !s.flt.memHere.contains i
      || decide (s.modTime < spGet s.flt.memAt i + psPerS) || s.recordWaits i then s else
  s.loseMember i

def execMemberMissing (t : Nat) (i : Fin 32) (s : State) : Host.Outcome State Fault Refusal :=
  .next (opMemberMissing i.val (s.tick t))

def State.root (s : State) : Nat := s.pair F.MOR_ROOT_LO_DIG F.MOR_ROOT_HI_DIG

/-- The machine digest over the child records of the module and of the enabled members (log entry 23). -/
def State.machineDigest (s : State) : Nat :=
  crc64 (childRecord 0 (s.fld F.MOR_EPOCH_EPOCH) s.root ++ s.members.flatMap (fun i =>
    if s.flt.memHere.contains i then
      childRecord i (s.fld (F.FLT_MEM_EPOCH_EPOCH i)) (s.pair (F.FLT_MEM_DIG_LO_DIG i) (F.FLT_MEM_DIG_HI_DIG i))
    else childRecord i 0xFFFFFFFF 0))

/-- After a publication of MOR_ROOT the machine digest is computed afresh. -/
def opMachineDigest (s : State) : State :=
  if !s.flt.digestDue then s else
  let s := s.setPair F.FLT_MACH_DIG_LO_DIG F.FLT_MACH_DIG_HI_DIG s.machineDigest
  { s with flt := { s.flt with digestDue := false, recordDue := true } }

def execMachineDigestUpdate (t : Nat) (s : State) : Host.Outcome State Fault Refusal :=
  .next (opMachineDigest (s.tick t))

def State.moduleId (s : State) : Nat := s.pair F.FLT_ID_LO_MODULE_ID F.FLT_ID_HI_MODULE_ID
def State.bstate (s : State) : Nat := s.fld F.FLT_BIND_STAT_BSTATE

/-- The machine record (R491). LOCALCHG is set at the module or at a member (log entry 23). -/
def State.machineRecord (s : State) : List Byte :=
  let chg := s.flag F.MOR_SWEEP_STAT_LOCALCHG || s.members.any (fun i => s.flt.memLocal.contains i)
  let missing := s.members.any (fun i => !s.flt.memHere.contains i)
  ([2, 0, 0, 0] : List Byte) ++ leBytes 4 (s.fld F.MOR_EPOCH_EPOCH)
    ++ leBytes 8 (s.pair F.FLT_MACH_DIG_LO_DIG F.FLT_MACH_DIG_HI_DIG) ++ leBytes 8 s.root
    ++ leBytes 8 s.moduleId ++ leBytes 8 (match s.nv.binding with | some r => r.machine | none => 0)
    ++ leBytes 4 (s.fld F.GLB_UPD_ID_ACT_IMAGE_ID)
    ++ leBytes 4 (boolNat chg + 2 * s.fld F.GLB_UPD_STAT_DEFER + 4 * boolNat missing + 8 * boolNat (s.bstate == 2))
    ++ leBytes 8 s.modNs ++ leBytes 8 0

/-- The paths on which the module's own messages go (R490). -/
def State.annPaths (s : State) : List Nat :=
  (List.range 8).filter (fun p => s.ethUp p && s.flag (F.FLT_ETH_CFG_ANN p))
    ++ (if s.flag F.FLT_ANN_CFG_CANEN && s.canJoined (s.fld F.FLT_ANN_CFG_CANCTL) then [9] else [])

def opMachineRecord (s : State) : State :=
  if !s.flt.recordDue then s else
  let r := s.machineRecord
  let s := s.annPaths.foldl (fun s p => s.announce p annGroup 0 r) s
  { s with flt := { s.flt with recordDue := false, lastRecord := r } }

def execMachineRecordSend (t : Nat) (s : State) : Host.Outcome State Fault Refusal :=
  .next (opMachineRecord (s.tick t))

/-! ### Fleet records (R494) -/

def fleetRing : RingDesc :=
  ⟨R.FLT_FLEET_BASE_LO, 128, 8, 7, some F.FLT_FLEET_STAT_DROP, some F.FLT_FLEET_STAT_PEND, 233, false⟩

/-- A write to FLT_FLEET_CFG: FLEET_S kept in range; EN from 0 to 1 samples the ring. -/
def opFleetCfgWrite (v : Word) (s : State) : State :=
  let was := s.flag F.FLT_FLEET_CFG_EN
  let s := s.plainWrite R.FLT_FLEET_CFG (setBits v 1 10 (clampNat 10 600 (bitsOf v.toNat 1 10)))
  if !was && s.flag F.FLT_FLEET_CFG_EN then (s.ringSample R.FLT_FLEET_BASE_LO 7).ringFlush fleetRing else s

/-- ASCII text as bytes. -/
def ascii (t : String) : List Byte := t.toList.map (fun ch => BitVec.ofNat 8 ch.toNat)

/-- A signature as 64 bytes, r then s. -/
def signatureBytes (m : List Byte) : List Byte := leBytes 64 (Config.identitySignature m).toNat

/-- The end of a fleet period: a record is made and signed, and its number advances. -/
def opFleetRecord (s : State) : State :=
  if !s.ethServed || !s.flag F.FLT_FLEET_CFG_EN || s.modTime == 0
      || !s.atWhole (s.fld F.FLT_FLEET_CFG_FLEET_S * psPerS) then s else
  let head := (s.flt.lastRecord ++ List.replicate 56 0).take 56 ++ leBytes 8 s.nv.fleetSeq
  let s := { s with nv := { s.nv with fleetSeq := (s.nv.fleetSeq + 1) % 2 ^ 64 } }
  s.ringPush fleetRing (head ++ signatureBytes (ascii "FV7204FL" ++ head)) 3

def execFleetRecord (t : Nat) (s : State) : Host.Outcome State Fault Refusal :=
  .next (opFleetRecord (s.tick t))

/-! ### Identity (R496, R497) -/

/-- The response to a 32-byte challenge (R491). -/
def State.identityResponse (s : State) (challenge : List Byte) : List Byte :=
  let id := leBytes 8 s.moduleId
  ([4, 0, 0, 0] : List Byte) ++ challenge ++ id ++ signatureBytes (ascii "FV7204ID" ++ challenge ++ id)

/-- A challenge (SUBTYPE 3) on a path from the address `src`, which the response goes to: at most 4 in any second
are answered. -/
def opChallenge (path src : Nat) (b : List Byte) (s : State) : State :=
  if b.length < 36 || (b.getD 0 0).toNat != 3 || !s.annPaths.contains path then s else
  let recent := (spGet s.flt.answered path).filter (fun a => decide (s.modTime < a + psPerS))
  if 4 ≤ recent.length then s.bump F.FLT_BIND_STAT_CHIGN else
  let s := { s with flt := { s.flt with answered := spSet s.flt.answered path (s.modTime :: recent) } }
  s.announce path src 3 (s.identityResponse ((b.drop 4).take 32))

def execIdentityChallenge (t : Nat) (path : Fin 10) (payload : Challenge) (s : State) :
    Host.Outcome State Fault Refusal :=
  .next (opChallenge path.val payload.src payload.payload (s.tick t))

def opIdSign (ecc : Bool) (s : State) (o : Op) : State :=
  if ecc then s.finish o codeFaultAccess 2 0 else
  (s.writeBytes (o.buf + 64) (s.identityResponse (s.readBytes o.buf 32))).finish o codeDone 0 0

def execIdSign (t : Nat) (c : Fin 4096) (tag : Nat) (ecc : Bool) (s : State) :
    Host.Outcome State Fault Refusal :=
  .next ((s.tick t).beginOp c.val tag 0x60 (opIdSign ecc))

/-! ### Machine binding (R498, R499, R501) -/

/-- Show the binding record (R504). -/
def State.showBinding (s : State) : State :=
  let id := match s.nv.binding with | some r => r.machine | none => 0
  (s.setPair F.FLT_MACH_ID_LO_MACHINE_ID F.FLT_MACH_ID_HI_MACHINE_ID id).setFld F.FLT_BIND_STAT_BINDCNT s.nv.bindCount

/-- Enter UNBOUND, MISMATCH or ABSENT: event 234 and an Error (R499). -/
def State.bindFailure (s : State) (b : Nat) : State :=
  ((s.setFld F.FLT_BIND_STAT_BSTATE b).raise 234 b).henMake sevError 234 b

/-- READY: the check of the binding begins, or there is no record (R499). -/
def State.startBinding (s : State) : State :=
  let s := { s with flt := { s.flt with readyAt := some s.modTime } }
  if s.nv.binding.isNone then s.bindFailure 0 else s.setFld F.FLT_BIND_STAT_BSTATE 1

/-- Is an anchor challenge due: once per second, every 10 s in ABSENT (R499), and for a REBIND? -/
def State.challengeDue (s : State) : Bool :=
  let every := if s.bstate = 4 ∧ s.flt.rebinds = [] then 10 * psPerS else psPerS
  let checking := (s.bstate == 1 || s.bstate == 3 || s.bstate == 4) && s.nv.binding.isSome && s.flt.readyAt.isSome
  (checking || !s.flt.rebinds.isEmpty) &&
    (match s.flt.challengeAt with
      | none => true
      | some a => decide (a + every ≤ s.modTime) || s.flt.rebinds.any (fun r => decide (a < r.at_)))

/-- An anchor challenge with a fresh random challenge goes out on every path of the module's own messages
(R490). -/
def opAnchorChallenge (s : State) : State :=
  if !s.ethServed || !s.challengeDue then s else
  let (c, s) := s.drawFree 256
  let s := { s with flt := { s.flt with challenge := c.toNat, challengeAt := some s.modTime } }
  s.annPaths.foldl (fun s p => s.announce p annGroup 4 (([3, 0, 0, 0] : List Byte) ++ leBytes 32 c.toNat)) s

def execAnchorChallenge (t : Nat) (s : State) : Host.Outcome State Fault Refusal :=
  .next (opAnchorChallenge (s.tick t))

/-- A REBIND succeeds (R501). -/
def State.bindTo (s : State) (r : Rebind) : State :=
  let s := { s with
    nv := { s.nv with binding := some ⟨r.id, r.key⟩, bindCount := (s.nv.bindCount + 1) % 65536 }
    flt := { s.flt with rebinds := s.flt.rebinds.filter (fun x => x != r) } }
  let s := s.showBinding.setFld F.FLT_BIND_STAT_BSTATE 2
  let s := (s.raise 234 2).henMake sevNotice 234 2
  s.finishWaiter (some (r.ctx, r.tag)) codeDone 0 s.nv.bindCount

/-- A response (SUBTYPE 4) to the newest challenge, with the verdict of its signature under the recorded
key and under the key of the REBIND that waits. -/
def opAnchorResponse (b : List Byte) (okRec okNew : Bool) (s : State) : State :=
  if b.length < 108 || (b.getD 0 0).toNat != 4 || s.flt.challengeAt.isNone
      || leNat ((b.drop 4).take 32) != s.flt.challenge then s else
  let id := leNat ((b.drop 36).take 8)
  match s.flt.rebinds.find? (fun r => okNew && r.id == id && decide (r.at_ ≤ s.flt.challengeAt.getD 0)
      && decide (s.modTime ≤ r.at_ + 10 * psPerS)) with
  | some r => s.bindTo r
  | none =>
    match s.nv.binding with
    | none => s
    | some m =>
      if !(s.bstate == 1 || s.bstate == 3 || s.bstate == 4) then s
      else if okRec && id == m.machine then s.setFld F.FLT_BIND_STAT_BSTATE 2
      else if (okRec || id == m.machine) && s.bstate != 3 then s.bindFailure 3
      else s

def execAnchorResponse (t : Nat) (payload : List Byte) (okRec okNew : Bool) (s : State) :
    Host.Outcome State Fault Refusal :=
  .next (opAnchorResponse payload okRec okNew (s.tick t))

/-- 10 s after READY without a response (R499). -/
def opBindingAbsent (s : State) : State :=
  match s.flt.readyAt with
  | none => s
  | some a => if s.bstate = 1 ∧ a + 10 * psPerS ≤ s.modTime then s.bindFailure 4 else s

def execBindingAbsent (t : Nat) (s : State) : Host.Outcome State Fault Refusal :=
  .next (opBindingAbsent (s.tick t))

/-! ### Service sessions (R500) -/

/-- A read of FLT_SES_NONCE[0]: eight free words; only the newest nonce is accepted. -/
def opNonceDraw (s : State) : State :=
  let s := (List.range 8).foldl (fun s i =>
    let (v, s) := s.drawFree 32
    s.setFld (F.FLT_SES_NONCE_NONCE i) v.toNat) s
  { s with flt := { s.flt with nonceFresh := true }, busData := s.reg (R.FLT_SES_NONCE 0) }

def execSessionNonceDraw (t : Nat) (s : State) : Host.Outcome State Fault Refusal :=
  .next (opNonceDraw (s.tick t))

/-- Is an authenticated session open, its validity not expired (R500)? -/
def State.sessionOpen (s : State) : Bool :=
  s.flag F.FLT_BIND_STAT_SESSION && decide (s.modTime < s.flt.sessionEnd)

/-- End the session. -/
def State.closeSession (s : State) : State :=
  (s.setFlag F.FLT_BIND_STAT_SESSION false).setFld F.FLT_BIND_STAT_RIGHTS 0

def opSessionExpiry (s : State) : State :=
  if s.flag F.FLT_BIND_STAT_SESSION && decide (s.flt.sessionEnd ≤ s.modTime) then s.closeSession else s

def execSessionExpiry (t : Nat) (s : State) : Host.Outcome State Fault Refusal :=
  .next (opSessionExpiry (s.tick t))

/-- SESSION_OPEN: `sigOk` is the verdict of the token's signature under the service authority key. -/
def opSessionOpen (ecc sigOk : Bool) (s : State) (o : Op) : State :=
  if o.ctx ≠ 0 then s.finish o codeFaultAccess 1 0
  else if ecc then s.finish o codeFaultAccess 2 0
  else
    let tok := s.readBytes o.buf 128
    let nonce := (List.range 8).flatMap (fun i => leBytes 4 (s.fld (F.FLT_SES_NONCE_NONCE i)))
    let secs := leNat ((tok.drop 44).take 4)
    if !sigOk || !s.flt.nonceFresh || tok.take 32 != nonce || leNat ((tok.drop 32).take 8) != s.moduleId
        || decide (secs < 1) || decide (86400 < secs) then s.finish o codeFaultAccess 1 0
    else
      let rights := (tok.getD 40 0).toNat % 4
      let s := (s.setFlag F.FLT_BIND_STAT_SESSION true).setFld F.FLT_BIND_STAT_RIGHTS rights
      let s := { s with flt := { s.flt with nonceFresh := false, sessionEnd := s.modTime + secs * psPerS } }
      s.finish o codeDone 0 rights

def execSessionOpen (t : Nat) (c : Fin 4096) (tag : Nat) (ecc sigOk : Bool) (s : State) :
    Host.Outcome State Fault Refusal :=
  .next ((s.tick t).beginOp c.val tag 0x61 (opSessionOpen ecc sigOk))

def opSessionClose (s : State) (o : Op) : State :=
  if o.ctx ≠ 0 then s.finish o codeFaultAccess 1 0 else s.closeSession.finish o codeDone 0 0

def execSessionClose (t : Nat) (c : Fin 4096) (tag : Nat) (s : State) : Host.Outcome State Fault Refusal :=
  .next ((s.tick t).beginOp c.val tag 0x62 opSessionClose)

def opRebind (ecc : Bool) (s : State) (o : Op) : State :=
  if o.ctx ≠ 0 then s.finish o codeFaultAccess 1 0
  else if !s.sessionOpen || !bitOf (s.fld F.FLT_BIND_STAT_RIGHTS) 1 then
    s.finish o codeFaultAccess 1 0
  else if s.mode ≠ .boot ∧ s.mode ≠ .service then s.finish o codeRefusedMode s.mode.code 0
  else if ecc then s.finish o codeFaultAccess 2 0
  else { s with flt := { s.flt with rebinds := s.flt.rebinds ++
    [⟨o.ctx, o.tag, leNat (s.readBytes o.buf 8), leNat (s.readBytes (o.buf + 8) 64), s.modTime⟩] } }

def execRebind (t : Nat) (c : Fin 4096) (tag : Nat) (ecc : Bool) (s : State) :
    Host.Outcome State Fault Refusal :=
  .next ((s.tick t).beginOp c.val tag 0x63 (opRebind ecc))

/-- 10 s without the new anchor's proof (R502). -/
def opRebindTimeout (c tag : Nat) (s : State) : State :=
  match s.flt.rebinds.find? (fun r => r.ctx == c && r.tag == tag) with
  | none => s
  | some r =>
    if s.modTime < r.at_ + 10 * psPerS then s else
    let s := { s with flt := { s.flt with rebinds := s.flt.rebinds.filter (fun x => x != r) } }
    s.finishWaiter (some (c, tag)) codeFaultAccess 3 0

def execRebindTimeout (t : Nat) (c : Fin 4096) (tag : Nat) (s : State) : Host.Outcome State Fault Refusal :=
  .next (opRebindTimeout c.val tag (s.tick t))

end Sys2Proof.Machine
end

