-- ==== Sys2Proof/Machine/Display.lean ====
section
/-!
DEFINITION. Machine/Display.lean: the cluster panel (R506 to R516).
-/

namespace Sys2Proof.Machine

def State.setDsp (s : State) (d : DspSt) : State := { s with dsp := d }

/-- The modes in which the display runs (R507). -/
def State.dspRuns (s : State) : Bool :=
  s.mode == .boot || s.mode == .compat || s.mode == .field || s.mode == .road || s.mode == .service

/-- The panel is unpowered: only the level of the HPD pin is left. -/
def DspSt.unpowered (d : DspSt) : DspSt := { (default : DspSt) with hpd := d.hpd }

/-- DSP_STAT.STATE of a phase: 0 off, 1 sequencing, 2 on, 3 self-refresh. -/
def DspPhase.code : DspPhase → Nat
  | .off => 0
  | .run => 2
  | .selfRefresh => 3
  | _ => 1

/-- Enter a phase now. -/
def State.dspEnter (s : State) (p : DspPhase) : State :=
  (s.setDsp { s.dsp with phase := p, since := s.now }).setFld F.DSP_STAT_STATE p.code

/-- Start the power-on sequence (R509): the panel supply is switched on. -/
def State.dspStart (s : State) : State :=
  (s.setDsp { s.dsp with
    supply := true, backlight := false, training := false, attempts := 0, onDue := false, vertAt := 0 }).dspEnter .waitHpd

/-- The last 10 ms of a power-off sequence end (R510): the supply goes off; an ON written meanwhile
starts the power-on sequence at that instant (R514). -/
def State.dspSettle (s : State) : State :=
  let d := s.dsp
  if d.phase = .offLast ∧ d.since + 10 * psPerMs ≤ s.now then
    let on := d.onDue
    let s := (s.setDsp { d with supply := false, onDue := false }).dspEnter .off
    if on then
      let s := s.dspStart
      s.setDsp { s.dsp with since := d.since + 10 * psPerMs }
    else s
  else s

/-- Is a power-off sequence running? -/
def DspPhase.closing : DspPhase → Bool
  | .offDelay | .offFrame | .offBlack | .offLast => true
  | _ => false

/-- A write of 1 to ON (R509, R514). -/
def opDspOn (s : State) : State :=
  let s := s.dspSettle
  if !s.dspRuns then s
  else if s.dsp.phase = .off then s.dspStart
  else if s.dsp.phase.closing then s.setDsp { s.dsp with onDue := true }
  else s

def execDspOn (t : Nat) (s : State) : Host.Outcome State Fault Refusal := .next (opDspOn (s.tick t))

/-- A write of 1 to OFF (R510): the backlight goes off at once. -/
def opDspOff (s : State) : State :=
  let s := s.dspSettle
  if !s.dspRuns || s.dsp.phase == .off || s.dsp.phase.closing then s
  else (s.setDsp { s.dsp with backlight := false, training := false }).dspEnter .offDelay

def execDspOff (t : Nat) (s : State) : Host.Outcome State Fault Refusal := .next (opDspOff (s.tick t))

/-- Link training begins: HPD high or 200 ms after step 1; or the retry of a failed training, once per
second (R509). -/
def opDspTraining (s : State) : State :=
  let s := s.dspSettle
  let d := s.dsp
  if !s.dspRuns || d.training then s
  else if d.phase = .waitHpd then
    if s.flag F.DSP_STAT_HPD || decide (d.since + 200 * psPerMs ≤ s.now) then
      (s.setDsp { d with training := true, trainAt := s.now }).dspEnter .training
    else s
  else if d.attempts ≠ 0 ∧ !d.phase.closing ∧ d.phase ≠ .off ∧ d.trainAt + psPerS ≤ s.now then
    s.setDsp { d with training := true, trainAt := s.now }
  else s

def execDspLinkTraining (t : Nat) (s : State) : Host.Outcome State Fault Refusal :=
  .next (opDspTraining (s.tick t))

/-- Training ends; the sequence goes on whatever the outcome (R509 step 3). -/
def opDspTrainingEnd (ok : Bool) (s : State) : State :=
  let d := s.dsp
  if !d.training then s else
  let s := (s.setDsp { d with
    training := false, attempts := if ok then 0 else d.attempts + 1 }).setFlag F.DSP_STAT_TRAINED ok
  let s := if d.phase = .training then s.dspEnter .waitStart else s
  if ok then s else s.raise 240 (d.attempts + 1)

def execDspTrainingEnd (t : Nat) (ok : Bool) (s : State) : Host.Outcome State Fault Refusal :=
  .next (opDspTrainingEnd ok (s.tick t))

/-- HPD changes; a fall while the panel is on starts retraining, the backlight stays on (R514). -/
def opDspHpd (level : Bool) (s : State) : State :=
  let s := s.dspSettle
  let fell := s.dsp.hpd && !level
  let s := s.setDsp { s.dsp with hpd := level }
  if !s.dspRuns then s else
  let s := s.setFlag F.DSP_STAT_HPD level
  if fell && s.dsp.phase == .run then
    (s.setDsp { s.dsp with training := true, trainAt := s.now }).setFlag F.DSP_STAT_TRAINED false
  else s

def execDspHpdChange (t : Nat) (level : Bool) (s : State) : Host.Outcome State Fault Refusal :=
  .next (opDspHpd level (s.tick t))

/-- The time of one frame, in ps, by DSP_TIM and DSP_PCLK. -/
def State.framePs (s : State) : Nat :=
  s.fld F.DSP_TIM_H_HTOT * s.fld F.DSP_TIM_V_VTOT * 1000000000 / max 1 (s.fld F.DSP_PCLK_KHZ)

/-- Scan-out of one frame: the FB registers take effect; the lines `late` were not fetched in time (R508). -/
def State.dspScan (s : State) (late : List Nat) : State :=
  let s := s.setDsp { s.dsp with
    late := late
    fbBase := s.pair F.DSP_FB_BASE_LO_ADDR F.DSP_FB_BASE_HI_ADDR
    fbStride := s.fld F.DSP_FB_STRIDE_BYTES }
  if late = [] then s else (s.bumpBy F.DSP_STAT_UNDER late.length).raiseOnce 241 0 0

/-- The line sent as line y: the last one before it that was fetched in time (R508). -/
def sentLine (late : List Nat) : Nat → Nat
  | 0 => 0
  | y + 1 => if late.contains (y + 1) then sentLine late y else y + 1

/-- The colour of pixel (x, y) of the frame being scanned out: R, G and B in bits [7:0], [15:8] and [23:16]
(R508). -/
def State.dspPixel (s : State) (x y : Nat) : Nat :=
  leNat (s.readBytes (s.dsp.fbBase + sentLine s.dsp.late y * s.dsp.fbStride + 4 * x) 3)

/-- The colour of pixel (x, y) of the Lamb area: 3 bits per pixel, packed from bit 0 upward (R511). -/
def State.lambPixel (s : State) (x y : Nat) : Nat :=
  let i := 3 * (320 * y + x)
  let w := (s.dsp.lamb.getD (i / 8) 0).toNat + 256 * (s.dsp.lamb.getD (i / 8 + 1) 0).toNat
  s.fld (F.DSP_LAMB_PAL_RGB (bitsOf w (i % 8) 3))

/-- What the panel shows at pixel (x, y): the framebuffer, the Lamb area on black in self-refresh, else black; no
image while no link or self-refresh carries one (R508 to R511). -/
def State.panelPixel (s : State) (x y : Nat) : Option Nat :=
  let d := s.dsp
  match d.phase with
  | .scan | .run | .offDelay | .offFrame => some (s.dspPixel x y)
  | .black _ | .offBlack => some 0
  | .selfRefresh =>
    some (if d.lambX ≤ x ∧ x < d.lambX + 320 ∧ d.lambY ≤ y ∧ y < d.lambY + 120 then s.lambPixel (x - d.lambX) (y - d.lambY)
      else 0)
  | _ => none

/-- The backlight's duty as a fraction: none while it is off, LBDUTY / 255 in self-refresh, else DSP_BL in Q15
(R509, R511). -/
def State.backlightDuty (s : State) : Option (Nat × Nat) :=
  if !s.dsp.backlight then none
  else if s.dsp.phase = .selfRefresh then some (s.dsp.lambDuty, 255) else some (s.fld F.DSP_BL_DUTY, 32768)

/-- A vertical start (R508 to R510); it comes a frame time after the one before at the earliest. -/
def opDspVertical (late : List Nat) (s : State) : State :=
  let s := s.dspSettle
  if !s.dspRuns || (s.dsp.vertAt != 0 && decide (s.now + 1 < s.dsp.vertAt + s.framePs)) then s else
  let s := s.setDsp { s.dsp with vertAt := s.now + 1 }
  match s.dsp.phase with
  | .waitStart => s.dspEnter (.black (max 1 (s.fld F.DSP_SEQ_CLRFR) - 1))
  | .black 0 => (s.dspEnter .scan).dspScan late
  | .black (n + 1) => s.dspEnter (.black n)
  | .scan | .run => s.dspScan late
  | .offFrame => s.dspEnter .offBlack
  | .offBlack => (s.dspEnter .offLast).setFlag F.DSP_STAT_TRAINED false
  | _ => s

def execDspVerticalStart (t : Nat) (late : List Nat) (s : State) : Host.Outcome State Fault Refusal :=
  .next (opDspVertical late (s.tick t))

/-- BLDLY has passed: since scan-out began the backlight goes on (R509 step 6); since power-off began
the black frame is due (R510). -/
def opDspBacklight (s : State) : State :=
  let d := s.dsp
  if !s.dspRuns || decide (s.now < d.since + s.fld F.DSP_SEQ_BLDLY * psPerMs) then s
  else if d.phase = .scan then (s.setDsp { d with backlight := true }).dspEnter .run
  else if d.phase = .offDelay then s.dspEnter .offFrame
  else s

def execDspBacklightDelay (t : Nat) (s : State) : Host.Outcome State Fault Refusal :=
  .next (opDspBacklight (s.tick t))

/-- A write to DSP_LINK, DSP_TIM_H, DSP_TIM_V or DSP_PCLK: only while the panel is off (R515). -/
def opDspTimingWrite (off : Nat) (v : Word) (s : State) : State :=
  let s := s.dspSettle
  if s.fld F.DSP_STAT_STATE ≠ 0 then s
  else if off = R.DSP_LINK then
    let n := bitsOf v.toNat 0 3
    s.plainWrite off (setBits v 0 3 (if n = 1 ∨ n = 4 then n else 2))
  else s.plainWrite off v

/-! ### Entering STANDBY, power failure, BOOT (R398, R507, R510 to R512) -/

/-- The panel is unpowered. -/
def State.dspCut (s : State) : State :=
  (s.setDsp { s.dsp with supply := false, backlight := false, training := false, onDue := false }).dspEnter .off

/-- Does the Lamb area lie within the active frame and its bitmap within module DRAM (R512)? -/
def State.lambFits (s : State) : Bool :=
  inDram (s.pair F.DSP_LAMB_BASE_LO_ADDR F.DSP_LAMB_BASE_HI_ADDR) 14400
    && decide (s.fld F.DSP_LAMB_CFG_X + 320 ≤ s.fld F.DSP_TIM_H_HACT)
    && decide (s.fld F.DSP_LAMB_CFG_Y + 120 ≤ s.fld F.DSP_TIM_V_VACT)

/-- An orderly entry to STANDBY: the Lamb area is kept, or the panel is switched off (R511, R512). -/
def State.dspStandby (s : State) : State :=
  let s := s.dspSettle
  if !s.flag F.DSP_LAMB_CFG_EN || s.dsp.phase != .run then s.dspCut
  else if !s.lambFits then (s.raise 242 0).dspCut
  else
    let base := s.pair F.DSP_LAMB_BASE_LO_ADDR F.DSP_LAMB_BASE_HI_ADDR
    (s.setDsp { s.dsp with
      lamb := s.readBytes base 14400, lambX := s.fld F.DSP_LAMB_CFG_X, lambY := s.fld F.DSP_LAMB_CFG_Y
      lambDuty := s.fld F.DSP_LAMB_CFG_LBDUTY, training := false }).dspEnter .selfRefresh

/-- BOOT entry shows the HPD pin and ends self-refresh through R509 from step 2. -/
def State.dspBoot (s : State) : State :=
  let s := s.setFlag F.DSP_STAT_HPD s.dsp.hpd
  if s.dsp.phase = .selfRefresh then s.dspStart else s

end Sys2Proof.Machine
end

