-- ==== Sys2Proof/Machine/Hen.lean ====
section
/-!
DEFINITION. Machine/Hen.lean: the event recorder's write port, start scan, window, and descriptors
(R382 to R395). Making and closing records stands in Flags.lean.
-/

namespace Sys2Proof.Machine

/-- Place an element before the first one whose key is not smaller. -/
def insertByKey {α : Type} (key : α → Nat) (x : α) : List α → List α
  | [] => [x]
  | y :: l => if key y < key x then y :: insertByKey key x l else x :: y :: l

/-- Insertion sort by key, equal keys in their order. -/
def sortByKey {α : Type} (key : α → Nat) (l : List α) : List α :=
  l.foldr (insertByKey key) []

/-- The hub domain runs: the module is in a mode other than BACKUP and STANDBY (R384). -/
def State.hubRuns (s : State) : Bool := s.mode != .backup && s.mode != .standby

/-- A record as the MRAM and the queue hold it: while its first write waits, with the REPEAT of the
open record (R387). -/
def State.henShows (s : State) (x : HenSlot) : HenRec :=
  if !x.written && s.hen.openSeq == some x.record.seq then
    { x.record with repeats := s.hen.openRepeat }
  else x.record

/-- The stored records in SEQ order. -/
def State.henInOrder (s : State) : List HenSlot :=
  sortByKey (fun x => x.record.seq) ((henStored s.hen.slots).map (fun p => p.2))

/-- The record a HEN_WRITE waits for has been written or is stored no longer. -/
def State.henSettled (s : State) (seq : Nat) : Bool :=
  match s.henFind seq with
  | some (_, x) => x.written
  | none => true

/-- Complete the started HEN_WRITE operations whose record's first MRAM write has completed (R393). -/
def State.henWake (s : State) : State :=
  let due := s.host.ops.filter (fun o => o.opcode == 0x70 && o.phase == .started && o.formFault.isNone
    && s.henSettled o.aux)
  due.foldl (fun s o => s.finish o codeDone 0 o.aux) s

/-! ### The write port (R388) -/

/-- Write one queued record to its slot: the first write fixes DELAY (R382, R387). -/
def State.henStore (s : State) (w : HenWrite) : State :=
  match s.henFind w.seq with
  | none => s
  | some (k, x) =>
    let reps := match w.repeats with
      | some n => n
      | none => if s.hen.openSeq == some w.seq then s.hen.openRepeat else x.record.repeats
    let delay := satBits 16 ((s.now - x.madeAt) / psPerUs)
    let first := !x.written
    let rec_ := { x.record with repeats := reps, delay := if first then delay else x.record.delay }
    let s := s.henSetSlot k (some { x with record := rec_, written := true })
    if first && decide (s.fld F.HEN_CFG_DLYTHR < delay) then s.raise 221 w.seq else s

/-- Tokens return exactly 10 ms after they were taken (R388). -/
def opHenTokenReturn (s : State) : State :=
  { s with hen := { s.hen with
      tokens := s.hen.tokens.filter (fun a => decide (s.now < a + 10 * psPerMs)) } }

/-- The write at the head of the queue takes a token (R388), after those due have returned; none is written
before the start scan ends (R385) or while 64 tokens are out. -/
def opHenRecordWrite (s : State) : State :=
  let s := opHenTokenReturn s
  if !s.hubRuns || !s.flag F.HEN_STAT_SCANNED || decide (64 ≤ s.hen.tokens.length) then s else
  match s.hen.queue with
  | [] => s
  | w :: rest =>
    let s := { s with hen := { s.hen with queue := rest, tokens := s.hen.tokens ++ [s.now] } }
    (s.henStore w).henWake

def execHenRecordWrite (t : Nat) (s : State) : Host.Outcome State Fault Refusal :=
  .next (opHenRecordWrite (s.tick t))

/-- Once per second while it stays open, the open record is written again (R386). -/
def opHenOpenRefresh (s : State) : State :=
  match s.hen.openSeq with
  | none => s
  | some q =>
    let d := s.now - s.hen.openAt
    if d = 0 ∨ d % psPerS ≠ 0 then s else
    match s.henFind q with
    | none => s
    | some (_, x) => if s.henEntry x.cls then s.henEnqueue ⟨q, x.cls, none⟩ else s.henLost x.record.event

def execHenOpenRefresh (t : Nat) (s : State) : Host.Outcome State Fault Refusal :=
  .next (opHenOpenRefresh (s.tick t))

def execHenTokenReturn (t : Nat) (s : State) : Host.Outcome State Fault Refusal :=
  .next (opHenTokenReturn (s.tick t))

/-- Operating hours advance every 36 s of a mode other than BACKUP and STANDBY (R384). -/
def opHenHoursWrite (s : State) : State :=
  if s.hubRuns && s.modTime != 0 && s.atWhole (36 * psPerS) then
    { s with hen := { s.hen with hours := (s.hen.hours + 1) % 2 ^ 32 } }
  else s

def execHenHoursWrite (t : Nat) (s : State) : Host.Outcome State Fault Refusal :=
  .next (opHenHoursWrite (s.tick t))

/-- The start scan ends (R385): `bad` lists the slots whose CRC fails. They count as empty and are
overwritten first; a record made since the start has its slot already. -/
def opHenScanComplete (bad : List Nat) (s : State) : State :=
  if !s.hubRuns || s.flag F.HEN_STAT_SCANNED then s else
  let fresh := fun k => match spGet s.hen.slots k with
    | some x => !x.written
    | none => false
  let bad := (sortByKey id bad).eraseDups.filter (fun k => decide (k < 32768) && !fresh k)
  let s := { s with hen := { s.hen with
    slots := bad.foldl (fun m k => spSet m k none) s.hen.slots
    badSlots := bad } }
  let s := ((s.setFlag F.HEN_STAT_SCANNED true).setFld F.HEN_STAT_BADREC
    (satBits 15 bad.length)).henUsed
  if bad.isEmpty then s else s.raise 219 bad.length

def execHenScanComplete (t : Nat) (bad : List Nat) (s : State) : Host.Outcome State Fault Refusal :=
  .next (opHenScanComplete bad (s.tick t))

/-! ### The window (R389) -/

/-- Load the window with the stored record of the smallest SEQ at or above `v`; `crcBad` is the check
of what the MRAM holds, so a record still in the queue passes it. -/
def State.henLoad (s : State) (v : Nat) (crcBad : Bool) : State :=
  match s.henInOrder.find? (fun x => decide (v ≤ x.record.seq)) with
  | none =>
    let s := (List.range 8).foldl (fun s i => s.setFld (F.HEN_WIN_DATA i) 0) s
    { s.setFlag F.HEN_CUR_STAT_FOUND false with hen := { s.hen with shown := none } }
  | some x =>
    let bytes := leNat (henBytes (s.henShows x))
    let s := (List.range 8).foldl (fun s i => s.setFld (F.HEN_WIN_DATA i) (bitsOf bytes (32 * i) 32)) s
    let s := { s.setFlag F.HEN_CUR_STAT_FOUND true with
      hen := { s.hen with shown := some x.record.seq } }
    if crcBad && x.written then
      (s.setFlag F.HEN_CUR_STAT_CRCERR true).raise 219 x.record.seq
    else s

def opHenCurSeqWrite (v : Word) (crcBad : Bool) (s : State) : State :=
  (s.setFld F.HEN_CUR_SEQ_SEQ v.toNat).henLoad v.toNat crcBad

def execHenCurSeqWrite (t : Nat) (v : Word) (crcBad : Bool) (s : State) :
    Host.Outcome State Fault Refusal :=
  .next (opHenCurSeqWrite v crcBad (s.tick t))

/-- NEXT: the record after the one shown; with none shown, nothing is loaded (R389). -/
def opHenNext (crcBad : Bool) (s : State) : State :=
  match s.hen.shown with
  | none => s
  | some q => s.henLoad (q + 1) crcBad

def execHenNext (t : Nat) (crcBad : Bool) (s : State) : Host.Outcome State Fault Refusal :=
  .next (opHenNext crcBad (s.tick t))

/-! ### Descriptors (R390, R393) -/

/-- HEN_WRITE completes once the record's first MRAM write has completed; a record discarded or lost
completes it at once. -/
def opHenWrite (s : State) (o : Op) : State :=
  let sev := o.arg1 0 2
  if sev = 3 ∧ o.ctx ≠ 0 then s.finish o codeFaultAccess 1 0 else
  let (s, q, made) := s.henMakeSeq sev (o.arg1 8 8) (o.arg1 32 32) (some o.cls)
  if made = .lost ∨ s.henSettled q then s.finish o codeDone 0 q
  else s.modifyOp o.ctx o.tag (fun x => { x with aux := q })

def execHenWrite (t : Nat) (c : Fin 4096) (tag : Nat) (s : State) : Host.Outcome State Fault Refusal :=
  .next ((s.tick t).beginOp c.val tag 0x70 opHenWrite)

/-- HEN_READ: stored records from FROM on, in SEQ order. -/
def opHenRead (ecc : Bool) (s : State) (o : Op) : State :=
  let count := o.arg1 32 16
  if ecc then s.finish o codeFaultAccess 2 0
  else
    let xs := (s.henInOrder.filter (fun x => decide (o.arg1 0 32 ≤ x.record.seq))).take count
    let s := s.writeBytes o.buf (xs.flatMap (fun x => henBytes (s.henShows x)))
    s.finish o codeDone 0 xs.length

def execHenRead (t : Nat) (c : Fin 4096) (tag : Nat) (ecc : Bool) (s : State) :
    Host.Outcome State Fault Refusal :=
  .next ((s.tick t).beginOp c.val tag 0x71 (opHenRead ecc))

/-- Remove the stored records with SEQ below `upto` and severity at or below `sevmax`, except the open
one; answers how many (R390). -/
def State.henRemove (s : State) (upto sevmax : Nat) : State × Nat :=
  let gone := (henStored s.hen.slots).filter (fun p => decide (p.2.record.seq < upto)
    && decide (p.2.record.sev ≤ sevmax) && s.hen.openSeq != some p.2.record.seq)
  let seqs := gone.map (fun p => p.2.record.seq)
  ({ s with hen := { s.hen with
      slots := gone.foldl (fun m (p : Nat × HenSlot) => spSet m p.1 none) s.hen.slots
      queue := s.hen.queue.filter (fun w => !seqs.contains w.seq) } }.henUsed, gone.length)

def opHenClear (s : State) (o : Op) : State :=
  if o.ctx ≠ 0 then s.finish o codeFaultAccess 1 0
  else if o.arg1 32 2 = 3 ∧ s.mode ≠ .service then s.finish o codeRefusedMode s.mode.code 0
  else
    let (s, n) := s.henRemove (o.arg1 0 32) (o.arg1 32 2)
    let s := (s.raise 218 n).henMake sevNotice 218 n
    (s.finish o codeDone 0 n).henWake

def execHenClear (t : Nat) (c : Fin 4096) (tag : Nat) (s : State) : Host.Outcome State Fault Refusal :=
  .next ((s.tick t).beginOp c.val tag 0x72 opHenClear)

end Sys2Proof.Machine
end

