-- ==== Sys2Proof/Machine/Rooster.lean ====
section
/-!
DEFINITION. Machine/Rooster.lean: the Rooster's tick count, its alarm and load, and the calendar
(R410 to R416, R473 to R477).
-/

namespace Sys2Proof.Machine

/-! ### Ticks (R411, R414) -/

/-- Raw crystal ticks up to now, at the crystal's nominal rate (log entry 24). -/
def State.rawTicks (s : State) : Nat :=
  if s.pwr.xoRuns then s.pwr.rawBase + (s.now - s.pwr.rawSince) * 32768 / psPerS else s.pwr.rawBase

/-- PPM of ROO_TRIM (R414). -/
def State.trimPpm (s : State) : Int := toSigned 8 (s.fld F.ROO_TRIM_PPM)

/-- Trimmed ticks at a raw tick: one tick added or withheld every round(1,000,000 / |PPM|) ticks (R414). -/
def State.trimmedAt (s : State) (raw : Nat) : Nat :=
  let d := raw - s.pwr.trimRaw
  let ppm := s.trimPpm
  let k := d / roundDiv 1000000 (max 1 ppm.natAbs)
  s.pwr.trimBase + (if ppm = 0 then d else if 0 < ppm then d + k else d - k)

def State.trimmed (s : State) : Nat := s.trimmedAt s.rawTicks

def tickWrap : Nat := 2 ^ 48

/-- The 48-bit count. -/
def State.tickCount (s : State) : Nat := (s.trimmed + s.pwr.loadOfs) % tickWrap

/-- A 48-bit value held in three registers of 16 bits. -/
def State.triple (s : State) (f0 f1 f2 : Fld) : Nat := s.fld f0 + s.fld f1 * 2 ^ 16 + s.fld f2 * 2 ^ 32

/-- A write to ROO_TRIM: −128 is stored as −127; the ticks so far keep the old correction (R414, R419). -/
def opTrimWrite (v : Word) (s : State) : State :=
  let s := { s with pwr := { s.pwr with trimBase := s.trimmed, trimRaw := s.rawTicks } }
  s.setFld F.ROO_TRIM_PPM (if bitsOf v.toNat 0 8 = 0x80 then 0x81 else bitsOf v.toNat 0 8)

/-- The crystal runs again after a stop (R410). -/
def State.xoRestart (s : State) : State :=
  if s.pwr.xoRuns then s else { s with pwr := { s.pwr with xoRuns := true, rawSince := s.now } }

/-- A cause sets OSF (R477). -/
def State.setOsf (s : State) : State :=
  { s.setFlag F.ROO_CAL_STAT_OSF true with pwr := { s.pwr with osfAt := some s.now } }

/-- The crystal has shown no edge for 4 ms (R410, R477). -/
def opXo32Stop (s : State) : State :=
  if !s.pwr.xoRuns then s else
  let t := s.now - 4 * psPerMs
  let base := { s with now := t }.rawTicks
  let s := { s with pwr := { s.pwr with rawBase := max s.pwr.rawBase base, xoRuns := false } }
  let s := ((s.setFlag F.ROO_STAT_OSCSTOP true).setFlag F.ROO_STAT_UNTRUST true).setOsf
  if s.hubRuns then s.raise 226 0 else { s with pwr := { s.pwr with stopPending := true } }

def execXo32Stop (t : Nat) (s : State) : Host.Outcome State Fault Refusal := .next (opXo32Stop (s.tick t))

/-! ### Tick shadows (R412) -/

/-- A read of ROO_TICK0 copies the count into the reader's shadow, which stays frozen. -/
def opTick0Read (ident : Nat) (s : State) : State :=
  let n := s.tickCount
  { s with pwr := { s.pwr with shadow := spSet s.pwr.shadow ident (n + 1) }
           busData := BitVec.ofNat 32 (bitsOf n 0 16) }

/-- What TICK1 (part 1) and TICK2 (part 2) return to an identity: shadow bits while frozen, else live. -/
def State.tickPart (s : State) (ident part : Nat) : Nat :=
  let sh := spGet s.pwr.shadow ident
  bitsOf (if sh = 0 then s.tickCount else sh - 1) (16 * part) 16

/-- A read of ROO_TICK2 ends the reader's freeze. -/
def opTick2Read (ident : Nat) (s : State) : State :=
  { s with busData := BitVec.ofNat 32 (s.tickPart ident 2)
           pwr := { s.pwr with shadow := spSet s.pwr.shadow ident 0 } }

def execRooTick0Read (t : Nat) (ident : Fin 16) (s : State) : Host.Outcome State Fault Refusal :=
  .next (opTick0Read ident.val (s.tick t))

def execRooTick2Read (t : Nat) (ident : Fin 16) (s : State) : Host.Outcome State Fault Refusal :=
  .next (opTick2Read ident.val (s.tick t))

/-! ### Load and alarm (R413, R415) -/

/-- LOAD written: the count is loaded at the next tick edge; a load that waits for that edge already stands. -/
def opRooLoad (s : State) : State :=
  if s.flag F.ROO_STAT_LOADPEND then s else
  { s.setFlag F.ROO_STAT_LOADPEND true with pwr := { s.pwr with loadRaw := s.rawTicks } }

def execRooLoad (t : Nat) (s : State) : Host.Outcome State Fault Refusal := .next (opRooLoad (s.tick t))

/-- The tick edge after a LOAD: ROO_SET becomes the count of that tick. -/
def opRooLoadApply (s : State) : State :=
  if !s.flag F.ROO_STAT_LOADPEND || decide (s.rawTicks ≤ s.pwr.loadRaw) then s else
  let v := s.triple F.ROO_SET0_VALUE F.ROO_SET1_VALUE F.ROO_SET2_VALUE
  let at_ := s.trimmedAt (s.pwr.loadRaw + 1) % tickWrap
  let s := { s with pwr := { s.pwr with loadOfs := (v + tickWrap - at_) % tickWrap } }
  let s := (s.setFlag F.ROO_STAT_LOADPEND false).setFlag F.ROO_STAT_UNTRUST false
  if s.hubRuns then s.raise 228 0 else s

def execRooLoadApply (t : Nat) (s : State) : Host.Outcome State Fault Refusal :=
  .next (opRooLoadApply (s.tick t))

/-- A write to ROO_CTL or ROO_ALM: the alarm fires at a tick after it (R413, R415). -/
def opAlarmWrite (off : Nat) (v : Word) (s : State) : State :=
  let s := s.plainWrite off v
  let s := { s with pwr := { s.pwr with almRaw := s.rawTicks } }
  if off = R.ROO_CTL ∧ v.getLsbD 0 = true then opRooLoad s else s

/-- The alarm: the first tick with ALMEN = 1 and the count at or above ROO_ALM; a load due at the same edge
comes first (R415, R417). -/
def opRooAlarm (s : State) : State :=
  let s := opRooLoadApply s
  if !s.flag F.ROO_CTL_ALMEN || decide (s.rawTicks ≤ s.pwr.almRaw)
      || decide (s.tickCount < s.triple F.ROO_ALM0_VALUE F.ROO_ALM1_VALUE F.ROO_ALM2_VALUE) then s else
  let s := (s.setFlag F.ROO_STAT_ALMF true).setFlag F.ROO_CTL_ALMEN false
  if s.hubRuns then s.raise 225 0 else { s with pwr := { s.pwr with alarmPending := true } }

def execRooAlarm (t : Nat) (s : State) : Host.Outcome State Fault Refusal := .next (opRooAlarm (s.tick t))

/-! ### The calendar (R473 to R477) -/

/-- Field index (R476), register field, minimum and raw limit of a calendar field (R473). -/
def calIndex : CalField → Nat
  | .sec => 0 | .min => 1 | .hour => 2 | .dow => 3 | .date => 4 | .mon => 5 | .year => 6

def calFld : CalField → Fld
  | .sec => F.ROO_CAL_SEC_SEC | .min => F.ROO_CAL_MIN_MIN | .hour => F.ROO_CAL_HOUR_HOUR
  | .dow => F.ROO_CAL_DOW_DOW | .date => F.ROO_CAL_DATE_DATE | .mon => F.ROO_CAL_MON_MON
  | .year => F.ROO_CAL_YEAR_YEAR

def calLeast : CalField → Nat
  | .dow | .date | .mon => 1
  | _ => 0

def calRawLimit (f : CalField) : Nat := 2 ^ (calFld f).width - 1

/-- Every BCD digit is 0 to 9. -/
def bcdOk (v : Nat) : Bool := decide (v % 16 < 10) && decide (v / 16 < 10)

/-- A leap year by the raw nibbles of YEAR (R474). -/
def leapYear (year : Nat) : Bool := (10 * (year / 16) + year % 16) % 4 == 0

/-- The month length, BCD (R474). -/
def monthLength (mon year : Nat) : Nat :=
  if mon = 0x04 ∨ mon = 0x06 ∨ mon = 0x09 ∨ mon = 0x11 then 0x30
  else if mon = 0x02 then (if leapYear year then 0x29 else 0x28) else 0x31

/-- The last valid value of a field (R473). -/
def calLast (f : CalField) (mon year : Nat) : Nat :=
  match f with
  | .sec | .min => 0x59
  | .hour => 0x23
  | .dow => 7
  | .date => monthLength mon year
  | .mon => 0x12
  | .year => 0x99

def calValid (f : CalField) (mon year v : Nat) : Bool :=
  bcdOk v && decide (calLeast f ≤ v) && decide (v ≤ calLast f mon year)

/-- One advance of a field: its new value and whether it carries (R473). -/
def calAdvanceField (f : CalField) (mon year v : Nat) : Nat × Bool :=
  if calValid f mon year v then
    if v = calLast f mon year then (calLeast f, true)
    else ((if v % 16 = 9 then v + 7 else v + 1), false)
  else if v = calRawLimit f then (calLeast f, true)
  else (v + 1, false)

/-- Does the AO cycle of an earlier instant still run? -/
def State.sameAoCycle (s : State) (t : Nat) : Bool :=
  let cycle := fun (x : Nat) => (x - s.pwr.rawSince) * 32768 / psPerS
  decide (s.pwr.rawSince ≤ t) && cycle t == cycle s.now

/-- The calendar fields written in the present AO cycle (R478). -/
def State.calWritten (s : State) : List CalWrite := if s.sameAoCycle s.pwr.calWroteAt then s.pwr.calWrote else []

/-- A field's value before the writes of the present AO cycle. -/
def State.calBefore (s : State) (f : CalField) : Nat :=
  match s.calWritten.find? (fun w => w.field == f) with
  | some w => w.old
  | none => s.fld (calFld f)

/-- Advance a field by a carry; answers the carry out. The month length is that of the values before the
advance, which updates every field in one cycle. A value written in that cycle stands, and the carry that the
advance produces still goes on (R478). -/
def State.calAdvance (s : State) (f : CalField) (mon year : Nat) (carry : Bool) : State × Bool :=
  if !carry then (s, false) else
  let (v, c) := calAdvanceField f mon year (s.calBefore f)
  (if s.calWritten.any (fun w => w.field == f) then s else s.setFld (calFld f) v, c)

/-- One second's advance: SEC into MIN, MIN into HOUR, HOUR into DATE and DOW, DATE into MON, MON into
YEAR. -/
def State.calSecond (s : State) : State :=
  let mon := s.fld F.ROO_CAL_MON_MON
  let year := s.fld F.ROO_CAL_YEAR_YEAR
  let (s, c) := s.calAdvance .sec mon year true
  let (s, c) := s.calAdvance .min mon year c
  let (s, day) := s.calAdvance .hour mon year c
  let (s, _) := s.calAdvance .dow mon year day
  let (s, c) := s.calAdvance .date mon year day
  let (s, c) := s.calAdvance .mon mon year c
  (s.calAdvance .year mon year c).1

/-- Does a write to SEC wait in the cycle of a second's advance? It stands, and no advance comes (R478). -/
def State.secWaits (s : State) : Bool :=
  s.waitsNow (fun i => match i with
    | .calendarWrite t .sec _ => some t
    | .legacyPeripheralAccess t (.calWrite .sec _) => some t
    | _ => none)

/-- Seconds advance once every 32,768 trimmed ticks. -/
def opCalendarSecond (s : State) : State :=
  if s.trimmed < s.pwr.calBase + 32768 || s.secWaits then s else
  { s with pwr := { s.pwr with calBase := s.pwr.calBase + 32768 } }.calSecond

def execCalendarSecond (t : Nat) (s : State) : Host.Outcome State Fault Refusal :=
  .next (opCalendarSecond (s.tick t))

/-- Note a write to a field for the rest of the AO cycle, with the value before the cycle's first one. -/
def State.noteCalWrite (s : State) (f : CalField) (legacy : Bool) : State :=
  let w : CalWrite := ⟨f, s.calBefore f, legacy⟩
  { s with pwr := { s.pwr with
    calWrote := w :: s.calWritten.filter (fun x => x.field != f), calWroteAt := s.now } }

/-- A write to a calendar field by the host or the legacy core (R476): any value is stored; SEC clears the
sub-second divider; an invalid value raises event 247. In one cycle the legacy core's write stands (R478). -/
def opCalendarWrite (f : CalField) (legacy : Bool) (v : Word) (s : State) : State :=
  if !legacy && s.calWritten.any (fun w => w.field == f && w.legacy) then s else
  let v := bitsOf v.toNat 0 (calFld f).width
  let s := (s.noteCalWrite f legacy).setFld (calFld f) v
  let s := if f = .sec then { s with pwr := { s.pwr with calBase := s.trimmed } } else s
  if calValid f (s.fld F.ROO_CAL_MON_MON) (s.fld F.ROO_CAL_YEAR_YEAR) v then s
  else s.raise 247 (calIndex f + v * 256)

def execCalendarWrite (t : Nat) (f : CalField) (v : Word) (s : State) : Host.Outcome State Fault Refusal :=
  .next (opCalendarWrite f false v (s.tick t))

/-- A write to ROO_CAL_STAT: OSF clears, but not in the cycle in which a cause sets it (R477, R478). -/
def opOsfWrite (v : Word) (s : State) : State :=
  match s.pwr.osfAt with
  | some t => if s.sameAoCycle t then s else s.plainWrite R.ROO_CAL_STAT v
  | none => s.plainWrite R.ROO_CAL_STAT v

end Sys2Proof.Machine
end

