-- ==== Sys2Proof/Machine/Power.lean ====
section
/-!
DEFINITION. Machine/Power.lean: supply bands, the power-fail sequence, power domains, starts, and the
always-on domain's sources (R396 to R410, R531).
-/

namespace Sys2Proof.Machine

/-! ### Power domains (R399, R400) -/

/-- A register held in the always-on domain: PWR, ROO, the Lamb palette, and the lock entries of the two
AO blocks (R274, R399). -/
def aoRegister (off : Nat) : Bool :=
  (decide (0x10000 ≤ off) && decide (off < 0x20000)) || (decide (0x30000 ≤ off) && decide (off < 0x40000))
    || (List.range 8).any (fun i => off == R.DSP_LAMB_PAL i)
    || off == R.GLB_LOCK 1 || off == R.GLB_LOCK 3

/-- The hub domain's reset with every domain fed through it: what MRAM, NAND and the always-on domain hold
and the contactors' feedback inputs are kept, all else takes its reset value (R10, R399, R443). -/
def State.hubReset (s : State) (m : Mode) : State :=
  { State.reset with
    now := s.now
    bootAt := s.bootAt
    mode := m
    prevMode := s.mode
    regs := s.regs.filter (fun p => aoRegister p.1)
    busData := s.busData
    pending := s.pending
    freeCtr := s.freeCtr
    hen := { (default : HenSt) with
      slots := s.hen.slots, nextSeq := s.hen.nextSeq, hours := s.hen.hours, pcyc := s.hen.pcyc }
    pwr := s.pwr
    nv := s.nv
    goo := { (default : GooSt) with feedback := s.goo.feedback }
    dsp := if s.dsp.phase = .selfRefresh then s.dsp else s.dsp.unpowered }

/-- The modes in which the slabs, the power stage and the GNSS front end are powered. -/
def Mode.full (m : Mode) : Bool := m == .boot || m == .field || m == .road || m == .service

/-- Is domain d powered? After BOOT entry the domains come up as R400 says. -/
def State.domOn (s : State) (d : Nat) : Bool :=
  let ms := s.modMs
  if d = 0 then true
  else if d = 9 then !s.flag F.MUL_GLB_STAT_UVLO
  else if !s.hubRuns then false
  else if d = 1 ∨ d = 2 then true
  else if d = 3 then decide (1 ≤ ms)
  else if d = 12 then decide (3 ≤ ms)
  else if d = 8 then (s.mode.full || s.mode == .compat) && decide (3 ≤ ms)
  else if d = 10 then (s.mode.full || s.mode == .compat) && decide (9 ≤ ms)
  else if d = 11 then s.mode.runsLoops
  else if 4 ≤ d ∧ d < 8 then s.mode.full && decide (d + 1 ≤ ms)
  else false

/-- PWR_DOM_STAT.ON. -/
def State.domains (s : State) : Nat :=
  ((List.range 13).map (fun d => if s.domOn d then 2 ^ d else 0)).sum

/-! ### Leaving the powered modes (R398, R403) -/

/-- Every queued record write and the open record reach MRAM (R392, R398 step 2). -/
def State.henFlush (s : State) : State :=
  let s := s.hen.queue.foldl (fun s w => s.henStore w) s
  let s := { s with hen := { s.hen with queue := [] } }
  match s.hen.openSeq with
  | none => s
  | some q => s.henStore ⟨q, 6, none⟩

/-- Make the staged slot active (R455). -/
def NvSt.activate (n : NvSt) : NvSt :=
  { n with slotB := !n.slotB, bootCnt := 0, firstStart := true, newSlot := true, defer := false }

/-- What becomes of a deferred activation and of an armed one whose T_upd has not been reached (R455,
R456). -/
def State.updateAtOff (s : State) : State :=
  if s.nv.defer then { s with nv := s.nv.activate }
  else if !s.flag F.GLB_UPD_STAT_ARMED then s else
  match s.boot.armRef with
  | some r => { s with nv := { s.nv with keptArm := some (s.fld F.GLB_UPD_CTL_GROUP, r) } }
  | none => { s with nv := { s.nv with keptArm := none, armDropped := true } }

/-- The module goes off: MRAM is written, then STANDBY when the always-on domain runs from main, else
BACKUP. -/
def State.goOff (s : State) : State :=
  let s := s.henFlush.updateAtOff
  let s := s.hubReset (if s.flag F.PWR_STAT_AOSRC then .backup else .standby)
  if s.mode = .backup then { s with dsp := s.dsp.unpowered } else s

/-- The power-fail sequence (R398), from t0 to t0 + 10 ms. -/
def State.powerFail (s : State) (cause domain : Nat) : State :=
  let low := s.fld F.PWR_STAT_BAND == 1 || s.fld F.PWR_STAT_BAND == 2
  let s := (s.setFld F.PWR_LASTOFF_CAUSE cause).setFld F.PWR_LASTOFF_DOMAIN domain
  let s := s.setFld F.PWR_LASTOFF_MINV (if low then s.pwr.minV else s.fld F.PWR_STAT_VSUP)
  let s := (s.raise 19 cause).openDisconnect
  let s := s.dspCut
  let s := s.henMake sevError 19 cause
  let s := s.raise 41 (boolNat (!s.flag F.PWR_STAT_AOSRC) + s.mode.code * 16)
  let s := (if s.safeStop && !s.flag F.PWR_STAT_AOSRC then s.endSafeStop else s).goOff
  { s with now := s.now + 10 * psPerMs }

/-- An orderly entry to STANDBY (R403): step 2 of R398 without the Error record; safe stop ends (R337); the
display keeps its Lamb area (R511). -/
def State.enterStandby (s : State) : State :=
  let s := (s.setFld F.PWR_LASTOFF_CAUSE 1).setFld F.PWR_LASTOFF_DOMAIN 0
  let s := s.setFld F.PWR_LASTOFF_MINV (s.fld F.PWR_STAT_VSUP)
  (if s.safeStop then s.endSafeStop else s).dspStandby.goOff

/-! ### Mode changes on their way (R440) -/

/-- The first whole millisecond of module time after now. -/
def State.nextMs (s : State) : Nat := (s.modMs + 1) * psPerMs

/-- A mode change without a request: it takes effect at the next whole millisecond (R440). One to
STANDBY that is on its way stands. -/
def State.pendMode (s : State) (m : Mode) : State :=
  match s.boot.pend with
  | some (.standby, _, _) => s
  | _ => { s with boot := { s.boot with pend := some (m, s.nextMs, false) } }

/-! ### Supply bands (R396, R397) -/

/-- The band that a supply of `mv` leads to from band `b`: 0 NORMAL, 1 LOW, 2 CRANK, 3 OVER; `held`: it has
been at 10.0 V or above for 2 ms. -/
def nextBand (b mv : Nat) (held : Bool) : Nat :=
  if mv < 9000 then 2
  else if b = 2 then (if mv < 10000 || !held then 2 else 1)
  else if mv < 16000 then 1
  else if b = 1 then (if mv < 16500 then 1 else 0)
  else if 32500 < mv then 3
  else if b = 3 ∧ 32000 ≤ mv then 3
  else 0

/-- Show the supply, and keep the lowest of the episode outside NORMAL and OVER. -/
def State.showSupply (s : State) (mv : Nat) : State :=
  let v := min 1023 (mv / 100)
  let low := s.fld F.PWR_STAT_BAND == 1 || s.fld F.PWR_STAT_BAND == 2
  let s := { s with pwr := { s.pwr with minV := if low then min s.pwr.minV v else v } }
  s.setFld F.PWR_STAT_VSUP v

/-- A CRANK episode has used up its 200 ms, in the 10 µs step of the present instant at the latest (R397,
R417). -/
def State.crankOver (s : State) : Bool :=
  s.hubRuns && s.fld F.PWR_STAT_BAND == 2
    && decide ((s.pwr.crankAt + 200 * psPerMs) / (10 * psPerUs) ≤ s.now / (10 * psPerUs))

/-- The supply, now at `mv`, has been at 10.0 V or above for `heldUs`. It enters another band: events 16, 17, 18
and 23 while the hub runs. -/
def opSupplyBand (mv heldUs : Nat) (s : State) : State :=
  let s := s.showSupply mv
  let old := s.fld F.PWR_STAT_BAND
  let new := nextBand old mv (decide (2000 ≤ heldUs) && decide (s.pwr.crankAt + heldUs * psPerUs ≤ s.now))
  if new = old then s else
  if s.crankOver then s.powerFail 3 0 else
  let s := s.setFld F.PWR_STAT_BAND new
  let v := s.fld F.PWR_STAT_VSUP
  let s := if old = 2 then s.bumpMax F.PWR_TALLY_CRANKMAX ((s.now - s.pwr.crankAt) / psPerUs) else s
  let s := if new = 2 then { s with pwr := { s.pwr with crankAt := s.now } } else s
  if !s.hubRuns then s
  else if new = 1 then (s.bump F.PWR_TALLY_LOWEP).raise 16 v
  else if new = 2 then (s.bump F.PWR_TALLY_CRANKEP).raise 17 v
  else if new = 3 then s.raise 18 v
  else if old = 1 then s.raise 23 v else s

def execSupplyBandChange (t : Nat) (mv : SupplyHeld) (s : State) : Host.Outcome State Fault Refusal :=
  .next (opSupplyBand mv.mv mv.heldUs (s.tick t))

/-- A CRANK episode has lasted 200 ms: cause 3. -/
def opCrankTimeout (s : State) : State :=
  if s.hubRuns && s.fld F.PWR_STAT_BAND == 2 && decide (s.pwr.crankAt + 200 * psPerMs ≤ s.now) then
    s.powerFail 3 0
  else s

def execCrankTimeout (t : Nat) (s : State) : Host.Outcome State Fault Refusal :=
  .next (opCrankTimeout (s.tick t))

/-- The supply has stayed below 6.0 V for 50 µs: cause 2. -/
def opSupplyCollapse (mv : Nat) (s : State) : State :=
  if 6000 ≤ mv then s else
  let s := s.showSupply mv
  if s.hubRuns then s.powerFail 2 0 else s

def execSupplyCollapse (t : Nat) (mv : Nat) (s : State) : Host.Outcome State Fault Refusal :=
  .next (opSupplyCollapse mv (s.tick t))

/-- A rail of domain d has been outside ±5 % for 10 µs: cause 4 (R401). -/
def opRailFault (d : Nat) (s : State) : State :=
  if !s.hubRuns || d == 0 || !s.domOn d then s else
  let s := s.setFld ⟨R.PWR_DOM_STAT, 16 + d, 1⟩ 1
  (s.raise 22 d).powerFail 4 d

def execRailFault (t : Nat) (d : Fin 13) (s : State) : Host.Outcome State Fault Refusal :=
  .next (opRailFault d.val (s.tick t))

/-- The hub die (1), a slab die (4 to 7) or the power-stage die (8) reaches 125 °C: cause 5 (R531). -/
def opJunctionLimit (d : Nat) (s : State) : State :=
  let die := d == 1 || (decide (4 ≤ d) && decide (d ≤ 8))
  if !s.hubRuns || !die || !s.domOn d then s else (s.raise 24 d).powerFail 5 d

def execJunctionLimit (t : Nat) (d : Fin 13) (s : State) : Host.Outcome State Fault Refusal :=
  .next (opJunctionLimit d.val (s.tick t))

/-! ### Starts (R400, R402) -/

def opIgnChange (level : Bool) (s : State) : State :=
  { s with pwr := { s.pwr with
      ign := level, ignLowAt := if s.pwr.ign && !level then s.now else s.pwr.ignLowAt } }

def execIgnChange (t : Nat) (level : Bool) (s : State) : Host.Outcome State Fault Refusal :=
  .next (opIgnChange level (s.tick t))

/-- A wake-up pattern on controller 0 or 1, held in STANDBY until the start it causes, lost elsewhere. -/
def opCanWake (c : Nat) (s : State) : State :=
  if s.mode = .standby then { s with pwr := { s.pwr with canWake := s.pwr.canWake ||| 2 ^ c } } else s

def execCanWakePattern (t : Nat) (c : Fin 2) (s : State) : Host.Outcome State Fault Refusal :=
  .next (opCanWake c.val (s.tick t))

/-- The wake sources now active, in the bit order of PWR_WAKE_CFG. -/
def State.wakeSources (s : State) : Nat :=
  boolNat s.pwr.ign + 2 * (s.pwr.canWake % 4) + 8 * s.fld F.ROO_STAT_ALMF

/-- A start is accepted: the supply has been at 16.0 V or above for `supplyMs`. BOOT follows 3 ms later,
module time 0. -/
def opPowerUp (supplyMs : Nat) (s : State) : State :=
  let src := s.wakeSources
  let enabled := src &&& bitsOf (s.reg R.PWR_WAKE_CFG).toNat 0 4
  if s.mode ≠ .standby ∨ s.flag F.PWR_STAT_AOSRC ∨ supplyMs < 10 ∨ (enabled = 0 ∧ !s.nv.wakeOwed) then s else
  let s := s.setFld F.PWR_WAKE_STAT_SRC src
  let at_ := s.now + 3 * psPerMs
  { s with
    now := at_, bootAt := at_, mode := .boot, prevMode := .standby
    pwr := { s.pwr with canWake := 0 }
    nv := { s.nv with wakeOwed := false } }

def execPowerUpStart (t : Nat) (supplyMs : Nat) (s : State) : Host.Outcome State Fault Refusal :=
  .next (opPowerUp supplyMs (s.tick t))

/-! ### The always-on domain (R404 to R409) -/

def State.showVao (s : State) (vao : Nat) : State := s.setFld F.PWR_VOLT_VAO (min 4095 vao)

/-- VAO falls below VBAT or below 2.7 V (R405). -/
def opAoToBackup (vao vbat : Nat) (s : State) : State :=
  let s := s.showVao vao
  if s.flag F.PWR_STAT_AOSRC || (decide (vbat ≤ vao) && decide (2700 ≤ vao)) then s else
  let s := (s.setFlag F.PWR_STAT_AOSRC true).setFlag F.PWR_STAT_BKPUSED true
  if s.mode = .standby then { s with mode := .backup, prevMode := .standby, dsp := s.dsp.unpowered } else s

def execAoSwitchToBackup (t : Nat) (vao vbat : Nat) (s : State) : Host.Outcome State Fault Refusal :=
  .next (opAoToBackup vao vbat (s.tick t))

/-- VAO has stayed above max(VBAT, 2.7 V) + 100 mV for `heldUs` (R405). -/
def opAoToMain (vao vbat heldUs : Nat) (s : State) : State :=
  let s := s.showVao vao
  if !s.flag F.PWR_STAT_AOSRC || decide (vao ≤ max vbat 2700 + 100) || decide (heldUs < 2000) then s else
  let s := s.setFlag F.PWR_STAT_AOSRC false
  let s := { s with pwr := { s.pwr with holdup := none } }
  if s.mode = .backup then { s with mode := .standby, prevMode := .backup } else s

def execAoReturnToMain (t : Nat) (vao vbat heldUs : Nat) (s : State) : Host.Outcome State Fault Refusal :=
  .next (opAoToMain vao vbat heldUs (s.tick t))

/-- The cell gives out while the domain is on backup: it runs on its hold-up capacitance (R406). -/
def opCellOut (s : State) : State :=
  if s.flag F.PWR_STAT_AOSRC then { s with pwr := { s.pwr with holdup := some s.now } } else s

def execBackupCellGivesOut (t : Nat) (s : State) : Host.Outcome State Fault Refusal :=
  .next (opCellOut (s.tick t))

/-- Contents the spec no longer warrants: the sixteen words of ROO_BKP (R407, R419). -/
def State.loseBackup (s : State) : State :=
  (List.range 16).foldl (fun s i =>
    let (v, s) := s.drawFree 32
    s.setFld (F.ROO_BKP_DATA i) v.toNat) s

/-- The hold-up capacitance has carried the domain for less than 5 ms: it is above 1.6 V (R406). -/
def State.heldUp (s : State) : Bool :=
  match s.pwr.holdup with
  | some a => decide (s.now < a + 5 * psPerMs)
  | none => false

/-- The domain voltage is `mv`, below 1.6 V: the canary flips and the count and the backup bytes are
open; below 1.2 V the domain makes an AO cold start as it rises (R399, R407). -/
def opCanaryFlip (mv : Nat) (s : State) : State :=
  if s.hubRuns || s.heldUp || decide (1600 ≤ mv) then s
  else if 1200 ≤ mv then
    let (v, s) := s.drawFree 48
    let s := { s with pwr := { s.pwr with canary := true, loadOfs := v.toNat } }
    s.loseBackup
  else
    let s := { s with
      mode := .standby, prevMode := s.mode, regs := [], dsp := s.dsp.unpowered
      pwr := { State.reset.pwr with
        rawSince := s.now, ign := s.pwr.ign, ignLowAt := s.pwr.ignLowAt, switches := s.pwr.switches } }
    s.loseBackup

def execCanaryFlip (t : Nat) (mv : Nat) (s : State) : Host.Outcome State Fault Refusal :=
  .next (opCanaryFlip mv (s.tick t))

/-- The result of a VBAT measurement: 10 ms after BOOT entry, then once per hour (R409). -/
def opVbat (mv : Nat) (s : State) : State :=
  let first := 10 * psPerMs
  if !s.hubRuns || decide (s.modTime < first) || (s.modTime - first) % (3600 * psPerS) != 0 then s else
  let s := s.setFld F.PWR_VOLT_VBAT (min 4095 mv)
  if mv < 2500 then (s.setFlag F.ROO_STAT_LOWBAT true).raise 227 mv else s

def execVbatMeasure (t : Nat) (mv : Nat) (s : State) : Host.Outcome State Fault Refusal :=
  .next (opVbat mv (s.tick t))

end Sys2Proof.Machine
end

