-- ==== Sys2Proof/Machine/Clock.lean ====
section
/-!
DEFINITION. Machine/Clock.lean: oscillator judgement, the system reference, relocks, gating and CLKOBS
(R421 to R437).
-/

namespace Sys2Proof.Machine

/-! ### Relocks (R428, R429) -/

/-- A bit of CLK_OSC_STAT.STABLE: oscillators 0 XO, 1 XO32, 2 RC, 3 TCXO. -/
def State.oscStable (s : State) (o : Nat) : Bool := bitOf (s.fld F.CLK_OSC_STAT_STABLE) o

def State.setStable (s : State) (o : Nat) (b : Bool) : State :=
  s.setFld ⟨R.CLK_OSC_STAT, o, 1⟩ (boolNat b)

def State.setRelock (s : State) (d : Nat) (r : Option Relock) : State :=
  { s with clk := { s.clk with relock := spSet s.clk.relock d r } }

def State.relockOf (s : State) (d : Nat) : Option Relock := spGet s.clk.relock d

/-- Domain d parks and its PLL is reprogrammed; domain 16 has no PLL (R427, R428). -/
def State.startRelock (s : State) (d : Nat) : State :=
  if 16 ≤ d then s else
  let s := (s.setFlag (F.CLK_DOM_STAT_BUSY d) true).setFlag (F.CLK_DOM_STAT_SRC d) true
  s.setRelock d (some { (default : Relock) with startAt := s.now })

/-- The domains on the system reference; the GNSS domain takes the TCXO (R427). -/
def systemDomains : List Nat := [0, 1, 2, 3, 4, 5, 6, 7, 8, 9, 10, 11, 13, 14, 15]

/-- Every PLL on the system reference relocks; RECOVERY stays on the parking clock (R424, R426). -/
def State.relockAll (s : State) : State :=
  if s.mode = .recovery then s else systemDomains.foldl (fun s d => s.startRelock d) s

/-- Lowest and highest FREQ of a settable domain, 0.125 MHz units (R427). -/
def freqRange (d : Nat) : Option (Nat × Nat) :=
  if d < 4 then some (2000, 10000) else if d = 5 then some (3200, 16000)
  else if d = 11 then some (2000, 8000) else none

/-- Does an ENABLE of an OFF slot of slab d wait in the cycle of a FREQ write? It comes first (R435). -/
def State.enableWaits (s : State) (d : Nat) : Bool :=
  s.waitsNow (fun i => match i with
    | .cenEnable t => if slabOf (s.selSlot / 64) = d ∧ s.admitReason s.selSlot false = 0 then some t else none
    | _ => none)

/-- Is a FREQ write refused (R429)? -/
def State.freqRefused (s : State) (d v : Nat) : Bool :=
  match freqRange d with
  | none => true
  | some (lo, hi) =>
    decide (v < lo) || decide (hi < v) || s.flag (F.CLK_DOM_STAT_BUSY d)
      || (decide (d < 4) && (s.enabledSlots.any (fun g => slabOf (g / 64) == d) || s.enableWaits d))
      || (d == 11 && (List.range 16).any (fun p => s.flag (F.CAM_PORT_CFG_EN p)))

def opFreqWrite (d : Nat) (v : Word) (s : State) : State :=
  let f := bitsOf v.toNat 0 14
  if s.freqRefused d f then (s.setFlag (F.CLK_DOM_STAT_REFUSED d) true).raise 31 d
  else (s.setFld (F.CLK_DOM_CFG_FREQ d) f).startRelock d

def execClkFreqWrite (t : Nat) (d : Fin 17) (v : Word) (s : State) : Host.Outcome State Fault Refusal :=
  .next (opFreqWrite d.val v (s.tick t))

/-- The PLL reports lock (step 4), within 500 µs of the attempt's start; a relock that restarts from step 3
starts its own 500 µs (log entry 120). -/
def opPllLock (d : Nat) (s : State) : State :=
  match s.relockOf d with
  | some r => if r.locked || r.failed || decide (r.startAt + 500 * psPerUs < s.now) then s
    else s.setRelock d (some { r with locked := true, windowAt := s.now, passes := 0, fails := 0 })
  | none => s

def execPllLock (t : Nat) (d : Fin 17) (s : State) : Host.Outcome State Fault Refusal :=
  .next (opPllLock d.val (s.tick t))

/-- A relock fails: LOCKFAIL, event 30, an Error record, and a retry 100 ms later. -/
def State.lockFailed (s : State) (d : Nat) (r : Relock) : State :=
  let s := (s.setFlag (F.CLK_DOM_STAT_LOCKFAIL d) true).setRelock d
    (some { r with failed := true, locked := false, startAt := s.now })
  (s.raise 30 d).henMake sevError 30 d

/-- The end of an 8 µs window of step 5: two good ones in a row end the relock, eight failed ones fail it. -/
def opRelockWindow (d : Nat) (ok : Bool) (s : State) : State :=
  match s.relockOf d with
  | none => s
  | some r =>
    if !r.locked || decide (s.now < r.windowAt + 8 * psPerUs) then s
    else if ok && r.passes == 1 then
      let s := (s.setFlag (F.CLK_DOM_STAT_SRC d) false).setFlag (F.CLK_DOM_STAT_BUSY d) false
      (s.setRelock d none).raise 29 d
    else if ok then s.setRelock d (some { r with passes := 1, windowAt := s.now })
    else if 7 ≤ r.fails then s.lockFailed d r
    else s.setRelock d (some { r with passes := 0, fails := r.fails + 1, windowAt := s.now })

def execRelockWindow (t : Nat) (d : Fin 17) (ok : Bool) (s : State) : Host.Outcome State Fault Refusal :=
  .next (opRelockWindow d.val ok (s.tick t))

/-- Lock is not reported within 500 µs. -/
def opRelockTimeout (d : Nat) (s : State) : State :=
  match s.relockOf d with
  | none => s
  | some r =>
    if r.locked || r.failed || decide (s.now < r.startAt + 500 * psPerUs) then s else s.lockFailed d r

def execRelockTimeout (t : Nat) (d : Fin 17) (s : State) : Host.Outcome State Fault Refusal :=
  .next (opRelockTimeout d.val (s.tick t))

/-- A failed relock is retried from step 3. -/
def opRelockRetry (d : Nat) (s : State) : State :=
  match s.relockOf d with
  | none => s
  | some r =>
    if !r.failed || decide (s.now < r.startAt + 100 * psPerMs) then s
    else s.setRelock d (some { (default : Relock) with startAt := s.now })

def execRelockRetry (t : Nat) (d : Fin 17) (s : State) : Host.Outcome State Fault Refusal :=
  .next (opRelockRetry d.val (s.tick t))

/-- A running domain loses lock and relocks; one in step 5 restarts from step 3 (R428, R435). -/
def opLockLoss (d : Nat) (s : State) : State :=
  match s.relockOf d with
  | some r => if r.locked then s.startRelock d else s
  | none => if s.flag (F.CLK_DOM_STAT_SRC d) then s else s.startRelock d

def execPllLockLoss (t : Nat) (d : Fin 17) (s : State) : Host.Outcome State Fault Refusal :=
  .next (opLockLoss d.val (s.tick t))

/-! ### Oscillators and the system reference (R422 to R426) -/

/-- A count within ±2 % of the expected one: XO 2,500, XO32 81.92, RC 1,000, TCXO 2,600. -/
def countGood (o count : Nat) : Bool :=
  let e := if o = 0 then 250000 else if o = 1 then 8192 else if o = 2 then 100000 else 260000
  decide (98 * e ≤ 10000 * count) && decide (10000 * count ≤ 102 * e)

/-- A new system reference: 0 XO, 1 TCXO (R424). -/
def State.newReference (s : State) (sel : Nat) : State :=
  let s := s.setFld F.CLK_REF_REFSEL sel
  let s := { s with clk := { s.clk with refLost := false } }
  (s.raise 28 sel).relockAll

/-- Both references are lost: every domain on them parks, and the module goes to STANDBY (R426). -/
def State.allRefLost (s : State) : State :=
  let s := systemDomains.foldl (fun s d =>
    ((s.setFlag (F.CLK_DOM_STAT_SRC d) true).setFlag (F.CLK_DOM_STAT_BUSY d) false).setRelock d none) s
  let s := { s.setFld F.CLK_REF_REFSEL 2 with clk := { s.clk with refLost := true, relock := [] } }
  ((s.raise 28 2).henMake sevError 28 2).pendMode .standby

/-- A stable oscillator is judged failed (R422); XO and TCXO bear on the reference (R424, R426). -/
def State.oscFail (s : State) (o : Nat) : State :=
  let s := { s with clk := { s.clk with
    good := spSet s.clk.good o 0, bad := spSet s.clk.bad o 0, hasFailed := s.clk.hasFailed ||| 2 ^ o } }
  let s := (s.setStable o false).setFld ⟨R.CLK_OSC_STAT, 4 + o, 1⟩ 1
  let s := (s.raise 26 o).henMake sevError 26 o
  if o = 0 then
    if s.flag F.CLK_REF_TCXOFB && s.oscStable 3 then s.newReference 1 else s.allRefLost
  else if o == 3 && s.fld F.CLK_REF_REFSEL == 1 then s.allRefLost else s

/-- An oscillator becomes stable: event 27 when it had failed; XO takes the reference back, and at
power-up the PLLs lock for the first time. -/
def State.oscStabilise (s : State) (o : Nat) : State :=
  let s := s.setStable o true
  let s := if bitOf s.clk.hasFailed o then s.raise 27 o else s
  if o = 0 then
    if s.fld F.CLK_REF_REFSEL ≠ 0 then s.newReference 0 else s.relockAll
  else if o == 3 && s.mode != .recovery && s.flag (F.CLK_DOM_STAT_SRC 12) then s.startRelock 12
  else s

/-- The end of a judgement window of oscillator o (R422, R423). -/
def opJudge (o count : Nat) (s : State) : State :=
  if !s.hubRuns || ((o == 1 || o == 2) && !s.oscStable 0) then s
  else if countGood o count then
    let s := if o = 1 then s.xoRestart else s
    let n := spGet s.clk.good o + 1
    let s := { s with clk := { s.clk with good := spSet s.clk.good o (min n 8), bad := spSet s.clk.bad o 0 } }
    if 8 ≤ n ∧ !s.oscStable o then s.oscStabilise o else s
  else if o = 1 then s.oscFail 0
  else
    let n := spGet s.clk.bad o + 1
    let s := { s with clk := { s.clk with good := spSet s.clk.good o 0, bad := spSet s.clk.bad o n } }
    if s.oscStable o && (decide (2 ≤ n) || count == 0) then s.oscFail o else s

def execOscJudgeWindow (t : Nat) (o : Fin 4) (count : Nat) (s : State) : Host.Outcome State Fault Refusal :=
  .next (opJudge o.val count (s.tick t))

/-! ### Gating (R431, R432) and CLKOBS (R434) -/

/-- The blocks that never sleep: GLB, PWR, CLK, ROO, GOO, CEN, OX, MUL. -/
def neverGated (b : Nat) : Bool := [0, 1, 2, 3, 5, 10, 14, 15].contains b

/-- The clock domain of a block: CAN, the camera pipeline and the GNSS baseband have their own, the Ethernet
side of FLT too; every other hub block runs on HUBIO (R427). -/
def blockDomain (b : Nat) : Nat :=
  if b = 16 then 10 else if b = 12 then 11 else if b = 13 then 12 else if b = 18 then 13
  else if b = 8 then 4 else if b = 11 then 14 else 9

/-- The frequency of domain d now, in units of 0.125 MHz: its PLL's, or its parking clock's (R427, R430). -/
def State.domFreq (s : State) (d : Nat) : Nat :=
  if s.flag (F.CLK_DOM_STAT_SRC d) then (if d = 7 ∨ d = 10 then 400 else 800) else s.fld (F.CLK_DOM_CFG_FREQ d)

/-- IDLE cycles of the block's domain, in ps; 0 is treated as 1 (R436). -/
def State.idlePs (s : State) (b : Nat) : Nat :=
  max 1 (s.fld (F.CLK_GATE_IDLE b)) * 8000000 / max 1 (s.domFreq (blockDomain b))

/-- Does the function clock of block b run: is the enable of its gate state 1 (R431, R432)? -/
def State.blockClocked (s : State) (b : Nat) : Bool :=
  neverGated b || s.flag (match s.fld (F.CLK_GATE_STATE b) with
    | 0 => F.CLK_GATE_RUN_EN b
    | 1 => F.CLK_GATE_SLEEP_EN b
    | _ => F.CLK_GATE_DEEP_EN b)

/-- A block has had no work for IDLE cycles of its domain: it goes to SLEEP. A request of the same cycle keeps
it in RUN, whichever comes first (R431, R435). -/
def opBlockSleep (b : Nat) (s : State) : State :=
  if neverGated b || !s.hubRuns || s.fld (F.CLK_GATE_STATE b) != 0
      || decide (s.now < max s.bootAt (spGet s.clk.workAt b) + s.idlePs b) then s
  else s.setFld (F.CLK_GATE_STATE b) 1

def execBlockSleep (t : Nat) (b : Fin 21) (s : State) : Host.Outcome State Fault Refusal :=
  .next (opBlockSleep b.val (s.tick t))

/-- COMPAT is entered: hub blocks that the legacy core does not use are in DEEP. -/
def State.gateCompat (s : State) : State :=
  [4, 6, 7, 8, 9, 11, 12, 13, 18, 19].foldl (fun s b => s.setFld (F.CLK_GATE_STATE b) 2) s

/-- A write to a gate register; the enables of a block that never sleeps are not written, IDLE 0 counts
as 1. -/
def opGateWrite (b : Nat) (v : Word) (s : State) : State :=
  if neverGated b then s.setFld (F.CLK_GATE_IDLE b) (bitsOf v.toNat 8 16) else s.plainWrite (R.CLK_GATE b) v

/-- The power domain that holds a clock domain (R399, R427). -/
def clockHome (d : Nat) : Nat :=
  if d < 4 then 4 + d else if d = 6 then 2 else if d = 8 then 3 else if d = 12 then 10
  else if d = 15 then 8 else if d = 16 then 0 else 1

/-- The frequency of a CLKOBS source in Hz, 0 for one that is off, gated or absent: domain d with its PLL's or
parking clock's, then XO, XO32, RC and TCXO (R421, R434). -/
def State.obsHz (s : State) (sel : Nat) : Nat :=
  if sel < 16 then (if s.domOn (clockHome sel) then 125000 * s.domFreq sel else 0)
  else if sel = 16 ∨ sel = 18 then (if s.pwr.xoRuns then 32768 else 0)
  else if sel = 17 then 25000000 else if sel = 19 then 100000000
  else if sel = 20 then (if s.domOn 10 then 26000000 else 0) else 0

/-- The frequency of a CLKOBS source as it is after reset (R427). -/
def obsDefaultHz (sel : Nat) : Nat :=
  if sel < 16 then 125000 * (regReset (R.CLK_DOM_CFG sel)).toNat else 0

/-- What CLKOBS carries: none while it is low, else the source's frequency in Hz, the divisor and the source
cycles of the high phase, one more than those of the low phase with an odd divisor above 1 (R434). A divisor
of 1 passes the source through. -/
def State.clkObs (s : State) : Option (Nat × Nat × Nat) :=
  let f := s.obsHz (s.fld F.CLK_OBS_CFG_SEL)
  let n := s.fld F.CLK_OBS_CFG_DIV + 1
  if !s.hubRuns || !s.flag F.CLK_OBS_CFG_EN || f == 0 then none else some (f, n, (n + 1) / 2)

/-- A write to CLK_OBS_CFG: one whose divided frequency would exceed 100 MHz, by the source's default frequency
or by its present one, has no effect but REJ (log entry 121). -/
def opObsWrite (v : Word) (s : State) : State :=
  let sel := bitsOf v.toNat 0 5
  if 100000000 * (bitsOf v.toNat 16 16 + 1) < max (obsDefaultHz sel) (s.obsHz sel) then s.setFlag F.CLK_OBS_CFG_REJ true
  else s.plainWrite R.CLK_OBS_CFG v

def execClkObsWrite (t : Nat) (v : Word) (s : State) : Host.Outcome State Fault Refusal :=
  .next (opObsWrite v (s.tick t))

end Sys2Proof.Machine
end

