-- ==== Sys2Proof/Machine/Container.lean ====
section
/-!
DEFINITION. Machine/Container.lean: SHA-256, and the Pletu containers that carry the module's software
sets (R450, R451, R453).
-/

namespace Sys2Proof.Machine

/-! ### SHA-256 -/

/-- The round constants. -/
def shaK : List Nat :=
  [0x428a2f98, 0x71374491, 0xb5c0fbcf, 0xe9b5dba5, 0x3956c25b, 0x59f111f1, 0x923f82a4, 0xab1c5ed5] ++
  [0xd807aa98, 0x12835b01, 0x243185be, 0x550c7dc3, 0x72be5d74, 0x80deb1fe, 0x9bdc06a7, 0xc19bf174] ++
  [0xe49b69c1, 0xefbe4786, 0x0fc19dc6, 0x240ca1cc, 0x2de92c6f, 0x4a7484aa, 0x5cb0a9dc, 0x76f988da] ++
  [0x983e5152, 0xa831c66d, 0xb00327c8, 0xbf597fc7, 0xc6e00bf3, 0xd5a79147, 0x06ca6351, 0x14292967] ++
  [0x27b70a85, 0x2e1b2138, 0x4d2c6dfc, 0x53380d13, 0x650a7354, 0x766a0abb, 0x81c2c92e, 0x92722c85] ++
  [0xa2bfe8a1, 0xa81a664b, 0xc24b8b70, 0xc76c51a3, 0xd192e819, 0xd6990624, 0xf40e3585, 0x106aa070] ++
  [0x19a4c116, 0x1e376c08, 0x2748774c, 0x34b0bcb5, 0x391c0cb3, 0x4ed8aa4a, 0x5b9cca4f, 0x682e6ff3] ++
  [0x748f82ee, 0x78a5636f, 0x84c87814, 0x8cc70208, 0x90befffa, 0xa4506ceb, 0xbef9a3f7, 0xc67178f2]

/-- The initial hash value. -/
def shaInit : List (BitVec 32) :=
  [0x6a09e667#32, 0xbb67ae85#32, 0x3c6ef372#32, 0xa54ff53a#32,
   0x510e527f#32, 0x9b05688c#32, 0x1f83d9ab#32, 0x5be0cd19#32]

/-- Sixteen big-endian words of a block. -/
def shaWords (block : List Byte) : List (BitVec 32) :=
  (List.range 16).map (fun i => BitVec.ofNat 32 (beNat ((block.drop (4 * i)).take 4)))

/-- The next word of the message schedule; `l` holds the words so far, newest first. -/
def shaNext (l : List (BitVec 32)) (_ : Nat) : List (BitVec 32) :=
  let a := l.getD 1 0
  let b := l.getD 14 0
  let s1 := a.rotateRight 17 ^^^ a.rotateRight 19 ^^^ (a >>> 10)
  let s0 := b.rotateRight 7 ^^^ b.rotateRight 18 ^^^ (b >>> 3)
  (s1 + l.getD 6 0 + s0 + l.getD 15 0) :: l

def shaSchedule (block : List Byte) : List (BitVec 32) :=
  ((List.range 48).foldl shaNext (shaWords block).reverse).reverse

/-- One round on the eight working words. -/
def shaRound (v : List (BitVec 32)) (kw : Nat × BitVec 32) : List (BitVec 32) :=
  match v with
  | [a, b, c, d, e, f, g, h] =>
    let s1 := e.rotateRight 6 ^^^ e.rotateRight 11 ^^^ e.rotateRight 25
    let ch := (e &&& f) ^^^ (~~~ e &&& g)
    let t1 := h + s1 + ch + BitVec.ofNat 32 kw.1 + kw.2
    let s0 := a.rotateRight 2 ^^^ a.rotateRight 13 ^^^ a.rotateRight 22
    let maj := (a &&& b) ^^^ (a &&& c) ^^^ (b &&& c)
    [t1 + s0 + maj, a, b, c, d + t1, e, f, g]
  | v => v

def shaBlock (h : List (BitVec 32)) (block : List Byte) : List (BitVec 32) :=
  ((shaK.zip (shaSchedule block)).foldl shaRound h).zipWith (· + ·) h

/-- The message with its padding. -/
def shaPad (bs : List Byte) : List Byte :=
  bs ++ [0x80] ++ List.replicate ((119 - bs.length % 64) % 64) 0 ++ beBytes 8 (8 * bs.length)

def shaBlocks : Nat → List (BitVec 32) → List Byte → List (BitVec 32)
  | 0, h, _ => h
  | n + 1, h, bs => shaBlocks n (shaBlock h (bs.take 64)) (bs.drop 64)

/-- The 32 bytes of SHA-256. -/
def sha256 (bs : List Byte) : List Byte :=
  let p := shaPad bs
  (shaBlocks (p.length / 64) shaInit p).flatMap (fun w => beBytes 4 w.toNat)

/-! ### Containers (R450) -/

def bytesAt (bs : List Byte) (off n : Nat) : List Byte := (bs.drop off).take n
def natAt (bs : List Byte) (off n : Nat) : Nat := leNat (bytesAt bs off n)

/-- NCOMP. -/
def compCount (bs : List Byte) : Nat := natAt bs 6 2

/-- TYPE, OFFSET, LENGTH of component i. -/
def compType (bs : List Byte) (i : Nat) : Nat := natAt bs (64 + 64 * i) 1
def compBytes (bs : List Byte) (i : Nat) : List Byte :=
  bytesAt bs (natAt bs (64 + 64 * i + 4) 4) (natAt bs (64 + 64 * i + 8) 4)

/-- The component lies within the container and its digest agrees. -/
def compSound (bs : List Byte) (i : Nat) : Bool :=
  decide (natAt bs (64 + 64 * i + 4) 4 + natAt bs (64 + 64 * i + 8) 4 ≤ natAt bs 20 4)
    && sha256 (compBytes bs i) == bytesAt bs (64 + 64 * i + 16) 32

/-- R451: types 1 to 8 once each, type 9 at most once, no other. -/
def typesSound (bs : List Byte) : Bool :=
  let ts := (List.range (compCount bs)).map (compType bs)
  decide (1 ≤ compCount bs) && decide (compCount bs ≤ 16)
    && (List.range 8).all (fun t => ts.count (t + 1) == 1) && decide (ts.count 9 ≤ 1)
    && ts.all (fun t => decide (1 ≤ t) && decide (t ≤ 9))

/-- The first condition of R453, 1 to 4, that refuses a container of the given length; 0 when none does.
`sigOk` is the verdict of the signature under the boot ROM's key. -/
def containerReason (bs : List Byte) (len : Nat) (sigOk : Bool) (minSvn : Nat) : Nat :=
  if natAt bs 0 4 ≠ 0x50544C55 ∨ natAt bs 4 2 ≠ 1 ∨ natAt bs 16 4 ≠ 0x7204 ∨ natAt bs 20 4 ≠ len then 1
  else if !sigOk then 2
  else if !typesSound bs || !(List.range (compCount bs)).all (compSound bs) then 3
  else if natAt bs 12 2 < minSvn then 4
  else 0

/-- The bytes of the component of a type. -/
def compOf (bs : List Byte) (ty : Nat) : Option (List Byte) :=
  ((List.range (compCount bs)).find? (fun i => compType bs i == ty)).map (compBytes bs)

/-- The first-stage loader of an image (type 1). -/
def ImageInfo.loader (i : ImageInfo) : List Byte := ((i.others.find? (fun p => p.1 == 1)).map (·.2)).getD []

/-- What a container written to NAND or NOR holds. -/
def imageOf (bs : List Byte) : ImageInfo :=
  { id := natAt bs 8 4, svn := natAt bs 12 2, legacy := compOf bs 9
    microcode := (compOf bs 3).getD [], fusion := (compOf bs 4).getD []
    others := [1, 2, 5, 6, 7, 8].map (fun ty => (ty, (compOf bs ty).getD [])) }

end Sys2Proof.Machine
end

