-- ==== Sys2Proof/Machine/Modes.lean ====
section
/-!
DEFINITION. Machine/Modes.lean: mode requests and changes, the start-up sequence, GOOD and failed boots
(R438 to R446, R458).
-/

namespace Sys2Proof.Machine

/-! ### Requests (R438, R439) -/

/-- Is a change from mode `m` to `t` by request in the table of R438? With S1 set BOOT leaves only for
COMPAT or STANDBY. -/
def inTable (m t : Mode) (s1 : Bool) : Bool :=
  match t with
  | .standby => m != .backup && m != .standby
  | .field => (m == .boot && !s1) || m == .road || m == .service
  | .road => (m == .boot && !s1) || m == .field || m == .service
  | .service => (m == .boot && !s1) || m == .field || m == .road
  | _ => false

def modeOf (n : Nat) : Mode :=
  match n with
  | 0 => .backup | 1 => .standby | 2 => .boot | 3 => .recovery
  | 4 => .compat | 5 => .field | 6 => .road | _ => .service

/-- READY, the four locks, the Goose verified and XO stable (REASON 6). -/
def State.mayLeaveBoot (s : State) : Bool :=
  s.flag F.GLB_BOOT_STAT_READY && [0, 5, 17, 18].all s.locked && s.flag F.GOO_STAT_VERIFIED && s.oscStable 0

/-- S1 as read at the Goose's start. -/
def State.s1 (s : State) : Bool := bitOf (s.fld F.GOO_SW_SWBOOT) 0

/-- The first condition of R439 that fails for a request for mode `t`; 0 when none does. -/
def State.modeReason (s : State) (t : Mode) : Nat :=
  let parked := s.flag F.GOO_STAT_STILL && !s.flag F.GOO_STAT_HDRENG
  if !inTable s.mode t s.s1 then 1
  else if t = .standby then (if s.flag F.GLB_MODE_STAT_PEND then 7 else 0)
  else if s.safeStop then 2
  else if !(s.mode == .boot && t == .service) && !parked then 3
  else if t = .service && !(if s.mode = .boot then s.flag F.GLB_BOOT_STAT_SVCSTRAP
      else s.sessionOpen) then 4
  else if t = .field && s.fld F.FLT_BIND_STAT_BSTATE ≠ 2 then 5
  else if s.mode = .boot && !s.mayLeaveBoot then 6
  else if s.flag F.GLB_MODE_STAT_PEND then 7
  else 0

/-- A boot fails (R445): the cause is kept, and an orderly entry to STANDBY begins. -/
def State.bootFail (s : State) (cause : Nat) : State :=
  match s.boot.pend with
  | some (.standby, _, false) => s
  | _ =>
    let s := { s with nv := { s.nv with lastFail := cause } }
    let s := s.setFld F.GLB_BOOT_STAT_LASTFAIL cause
    ((s.raise 235 (cause + 64)).henMake sevError 235 (cause + 64)).pendMode .standby

/-- A write to GLB_MODE_REQ. A refusal for want of the Goose's verification alone fails the boot (R321,
R445). -/
def opModeRequest (v : Word) (s : State) : State :=
  if !s.hubRuns then s else
  let t := modeOf (bitsOf v.toNat 0 3)
  let r := s.modeReason t
  if r ≠ 0 then
    let s := (s.setFlag F.GLB_MODE_STAT_REFUSED true).setFld F.GLB_MODE_STAT_REASON r
    if r = 6 && s.flag F.GLB_BOOT_STAT_READY && [0, 5, 17, 18].all s.locked
        && !s.flag F.GOO_STAT_VERIFIED then s.bootFail 3 else s
  else
    let s := s.setFlag F.GLB_MODE_STAT_PEND true
    match s.boot.pend with
    | some (.standby, _, _) => s
    | _ => { s with boot := { s.boot with pend := some (t, s.nextMs, true) } }

def execModeRequest (t : Nat) (v : Word) (s : State) : Host.Outcome State Fault Refusal :=
  .next (opModeRequest v (s.tick t))

/-! ### Mode changes (R440, R446, R462) -/

/-- The slab domains power down: what tiles and bricks held is gone (R399, R462). -/
def State.slabsOff (s : State) : State :=
  let s := { s with
    regs := s.regs.filter (fun p => !(decide (0x120000 ≤ p.1) && decide (p.1 < 0x128000)))
    mor := { s.mor with bricks := [], poison := [], images := [], streams := [], flight := [], awaited := [] }
    cen := { s.cen with slot := [], spec := [], dropped := [], drops := [] } }
  s

/-- The image in the active or the inactive NAND slot. -/
def NvSt.activeImage (n : NvSt) : Option ImageInfo := if n.slotB then n.imageB else n.imageA
def NvSt.otherImage (n : NvSt) : Option ImageInfo := if n.slotB then n.imageA else n.imageB

def idOf (i : Option ImageInfo) : Nat := match i with | some x => x.id | none => 0
def svnOf (i : Option ImageInfo) : Nat := match i with | some x => x.svn | none => 0

/-- What the binding and the update registers read from MRAM and NAND (R452, R456, R460, R504). -/
def State.showUpdate (s : State) : State :=
  let set := s.boot.running.or s.nv.activeImage
  let s := s.showBinding.setFld F.GLB_UPD_ID_ACT_IMAGE_ID (idOf set)
  let s := (s.setFld F.GLB_UPD_SVN_ACTSVN (svnOf set)).setFld F.GLB_UPD_SVN_MINSVN s.nv.minSvn
  let s := s.setFlag F.GLB_UPD_STAT_STAGED s.nv.staged
  let s := s.setFld F.GLB_UPD_ID_STG_IMAGE_ID (if s.nv.staged then
    (if s.nv.firstStart then idOf s.nv.activeImage else idOf s.nv.otherImage) else 0)
  match s.nv.keptArm with
  | none => s
  | some (g, r) =>
    let s := (s.setFlag F.GLB_UPD_STAT_ARMED true).setFld F.GLB_UPD_CTL_GROUP g
    { s with nv := { s.nv with keptArm := none }
             boot := { s.boot with toConvert := some r, armRef := some r } }

/-- RECOVERY is entered through a reset of the hub domain (R399): the registers take their reset values,
and those that MRAM and NAND hold show them (R10, R460); event 235 says why (R446). -/
def State.enterRecovery (s : State) : State :=
  let kind := s.boot.recKind
  let old := s.mode
  let s := { (if s.nv.defer then s else s.updateAtOff).henFlush with dsp := s.dsp.unpowered }
  let s := s.hubReset .recovery
  let s := { s with
    boot := { s.boot with entered := true }
    hen := { s.hen with pcyc := (s.hen.pcyc + 1) % 2 ^ 24 } }
  let p := s.fld F.GLB_TALLY_CFG_PERIOD_MS
  let s := { s with host := { s.host with tallyLast := s.modMs, tallyNext := (s.modMs / p + 1) * p, tallyPeriod := p } }
  let s := (s.setFld F.GLB_BOOT_STAT_LASTFAIL s.nv.lastFail).setFlag F.GLB_BOOT_STAT_SLOT s.nv.slotB
  let s := s.showUpdate
  (s.raise 41 (3 + old.code * 16)).raise 235 (kind * 16)

/-- What COMPAT starts: the legacy core (R462, R463). -/
def State.enterCompat (s : State) : State :=
  let s := (s.slabsOff).gateCompat
  let s := { s with cmp := { s.cmp with resets := 0 } }
  s.setFlag F.CMP_STAT_RUN true

/-- Is an operation's opcode served in the mode in force (R117, R343, R502)? -/
def State.servesOp (s : State) (o : Op) : Bool :=
  if o.opcode = 0x20 ∨ o.opcode = 0x22 then s.mode.runsLoops
  else if o.opcode = 0x50 then s.canRuns (o.arg1 0 4) && !s.canLegacy (o.arg1 0 4)
  else if o.opcode = 0x63 then s.mode == .boot || s.mode == .service
  else true

/-- Operations that have not started and whose opcode the new mode does not serve complete (R220). -/
def State.refuseUnserved (s : State) : State :=
  (s.host.ops.filter (fun o => o.phase != .started && !s.servesOp o)).foldl
    (fun s o => s.finish o codeRefusedMode s.mode.code 0) s

/-- The mode changes now. -/
def State.enterMode (s : State) (m : Mode) : State :=
  let old := s.mode
  if m = .recovery then s.enterRecovery
  else if m = .standby then (s.raise 41 (1 + old.code * 16)).enterStandby
  else
    let s := { s with mode := m, prevMode := old }
    let s := if m.harvests then s else (if old.harvests then s.allNetsCause 6 else s)
    let s := (if m.runsLoops then s else s.camModeLeft).workCheck
    let s := s.raise 41 (m.code + old.code * 16)
    let s := if m = .compat then s.enterCompat else s
    s.settleSlots.mulModeEntered.gooModeEntered.canModeEntered.refuseUnserved

/-- A mode change on its way takes effect at its whole millisecond; one asked for while safe stop came
into force is refused (R440, R459). COMPAT waits for a stable XO (R426). -/
def opModeChange (s : State) : State :=
  match s.boot.pend with
  | none => s
  | some (m, at_, req) =>
    if s.modTime < at_ ∨ (m = .compat ∧ !s.oscStable 0) then s else
    let s := { s with boot := { s.boot with pend := none } }
    let s := if s.flag F.GLB_MODE_STAT_PEND then s.setFlag F.GLB_MODE_STAT_PEND false else s
    if req && s.safeStop && m != .standby then
      (s.setFlag F.GLB_MODE_STAT_REFUSED true).setFld F.GLB_MODE_STAT_REASON 2
    else
      let s := if req then s.setFlag F.GLB_MODE_STAT_DONE true else s
      s.enterMode m

def execModeChangeEffect (t : Nat) (s : State) : Host.Outcome State Fault Refusal :=
  .next (opModeChange (s.tick t))

/-- IGN has been low for IGNOFF_S seconds without a break (R441). -/
def opIgnitionOff (s : State) : State :=
  let d := s.fld F.GLB_BOOT_CFG_IGNOFF_S
  if s.hubRuns && d != 0 && !s.pwr.ign && decide (s.pwr.ignLowAt + d * psPerS ≤ s.now) then
    s.pendMode .standby
  else s

def execIgnitionOffTimeout (t : Nat) (s : State) : Host.Outcome State Fault Refusal :=
  .next (opIgnitionOff (s.tick t))

/-! ### BOOT entry (R400, R405, R408, R418, R442, R443 step 1) -/

/-- The canary is read and re-armed (R408). -/
def State.readCanary (s : State) : State :=
  let flipped := s.pwr.canary
  let s := { s with pwr := { s.pwr with canary := false } }
  let s := s.setFlag F.ROO_STAT_CANARY flipped
  if !flipped then s else
  let s := ((s.setFlag F.ROO_STAT_UNTRUST true).setFlag F.ROO_STAT_LOWBAT true).setOsf
  (s.raise 224 0).henMake sevWarning 224 0

/-- Events that the always-on domain kept for this entry (R405, R410, R415, R418). -/
def State.raiseKept (s : State) : State :=
  let cause := s.fld F.PWR_LASTOFF_CAUSE
  let s := if 2 ≤ cause ∧ cause ≤ 5 then s.raise 20 (s.reg R.PWR_LASTOFF).toNat else s
  let s := if s.flag F.PWR_STAT_BKPUSED then s.raise 21 0 else s
  let s := if s.pwr.stopPending then s.raise 226 0 else s
  let s := if s.pwr.alarmPending then s.raise 225 0 else s
  { s with pwr := { s.pwr with stopPending := false, alarmPending := false } }

/-- Choose the boot set by BOOTCNT (R442); `rcvLow` or a count of 3 leads to RECOVERY. -/
def State.chooseSet (s : State) (rcvLow : Bool) : State :=
  let n := s.nv.bootCnt
  if rcvLow || decide (3 ≤ n) then
    { s with boot := { s.boot with recKind := if rcvLow then 3 else 2 } }.pendMode .recovery
  else
    let s := s.setFlag F.GLB_BOOT_STAT_FROMNOR (n == 2)
    { s with
      nv := { s.nv with bootCnt := n + 1, newSlot := false }
      boot := { s.boot with
        wdRuns := true, settling := s.nv.firstStart, firstOn := s.nv.newSlot && n != 2, running := if n = 2 then some s.nv.nor else s.nv.activeImage } }

/-- BOOT entry, module time 0: straps, sealed switches, canary, BOOTCNT. -/
def opBootEntry (rcvLow svcLow : Bool) (s : State) : State :=
  if s.mode ≠ .boot ∨ s.boot.entered then s else
  let s := { s with
    boot := { s.boot with entered := true, step := 1 }
    hen := { s.hen with pcyc := (s.hen.pcyc + 1) % 2 ^ 24 }
    host := { s.host with tallyPeriod := s.fld F.GLB_TALLY_CFG_PERIOD_MS } }
  let n := s.tickCount
  let s := s.setFld F.ROO_BOOTTICK0_TICK (bitsOf n 0 16)
  let s := (s.setFld F.ROO_BOOTTICK1_TICK (bitsOf n 16 16)).setFld F.ROO_BOOTTICK2_TICK (bitsOf n 32 16)
  let sw := s.pwr.switches.toNat
  let s := (s.setFld F.GOO_SW_SWBOOT sw).setFld F.GOO_SW_SWNOW sw
  let s := (s.setFld F.GLB_BOOT_STAT_BOOTCNT s.nv.bootCnt).setFlag F.GLB_BOOT_STAT_SLOT s.nv.slotB
  let s := (s.setFlag F.GLB_BOOT_STAT_RCVSTRAP rcvLow).setFlag F.GLB_BOOT_STAT_SVCSTRAP svcLow
  let s := (s.setFld F.GLB_BOOT_STAT_LASTFAIL s.nv.lastFail).setFld F.GLB_BOOT_STAT_LOADED 1
  let s := s.raise 41 (2 + s.prevMode.code * 16)
  ((s.raiseKept.readCanary.dspBoot).chooseSet rcvLow).showUpdate

def execBootEntry (t : Nat) (rcvLow svcLow : Bool) (s : State) : Host.Outcome State Fault Refusal :=
  .next (opBootEntry rcvLow svcLow (s.tick t))

/-! ### Start-up steps (R443, R444) -/

/-- Load route entries, each placed on its links (R60). -/
def State.loadRoutes (s : State) (rs : Sparse (Option RouteEntry)) : State :=
  rs.foldl (fun s p => match p.2 with
    | none => s
    | some e =>
      let links := if e.en || e.reserves then placeEntry (s.linkLoads none) e else []
      s.setRoute p.1 { RouteSt.initial with active := e, activeLinks := links, staged := e }) s

/-- Step 5: the configuration store, with the formerly active coefficients as bank 0; the locks are set. -/
def State.loadStore (s : State) : State :=
  let c := s.nv.cfg
  let s := c.regs.foldl (fun s p => s.setReg p.1 ((s.reg p.1 &&& ~~~ rwlMask p.1) ||| p.2)) s
  let swap := fun (k : Nat) => if spGet c.activeBank (k / 128) = 1 then k ^^^ 64 else k
  let s := { s with
    fus := { s.fus with calBase := c.cal, calUse := c.cal, calPub := c.cal, calHost := c.cal }
    cen := { s.cen with record := c.record, bank := c.bank.foldl (fun m (p : Nat × Nat) => spSet m (swap p.1) p.2) [] }
    qos := { s.qos with segs := c.segs } }
  let s := s.loadRoutes c.routes
  let s := (s.setFld F.MOR_EPOCH_EPOCH c.epoch).setFlag F.MOR_SWEEP_STAT_LOCALCHG c.localChg
  let s := (List.range 128).foldl (fun s t => s.showSegs t) s
  [0, 5, 17, 18].foldl (fun s b => s.setFlag (F.GLB_LOCK_LOCK b) true) s

/-- Step 9: tile microcode and fusion programs into all 128 tiles. -/
def State.loadTiles (s : State) : State :=
  match s.boot.running with
  | none => s
  | some i => { s with mor := { s.mor with
      images := (List.range 128).foldl (fun m t =>
        spSet (spSet m (5 * t) i.microcode) (5 * t + 1) i.fusion) s.mor.images } }

/-- Step 11: host software runs; READY. -/
def State.bootReady (s : State) : State :=
  let s := (s.setFlag F.GLB_BOOT_STAT_READY true).startBinding
  let s := if s.boot.firstOn then s.raise 238 (idOf s.boot.running) else s
  let s := if s.nv.armDropped then
      { s.setFld F.GLB_UPD_STAT_REASON 9 with nv := { s.nv with armDropped := false } }.raise 239 9
    else s
  if !s.s1 then s
  else if s.flag F.GOO_STAT_VERIFIED then s.pendMode .compat else s.bootFail 3

/-- The cause that a failed step records (R445). -/
def stepCause (step : Nat) : Nat :=
  match step with
  | 4 => 2 | 5 => 8 | 7 => 4 | 8 => 6 | 9 => 5 | 10 => 7 | _ => 0

/-- A failed step fails the boot (R445). LASTFAIL lists no cause for steps 3 and 11: a free value stands there
(log entry 125). -/
def State.stepFail (s : State) (step : Nat) : State :=
  if stepCause step ≠ 0 then s.bootFail (stepCause step) else
  let (c, s) := s.drawFree 4
  s.bootFail c.toNat

/-- A completed step sets its LOADED bit. -/
def State.stepDone (s : State) (step : Nat) : State :=
  { s with boot := { s.boot with step := step } }.setFld ⟨R.GLB_BOOT_STAT, 16 + (step - 1), 1⟩ 1

/-- Does the step succeed? Step 4 needs a boot set, with a legacy component when S1 is set (R462). -/
def State.stepOk (s : State) (step : Nat) (ok : Bool) : Bool :=
  if step = 4 then ok && (match s.boot.running with
    | none => false
    | some i => !s.s1 || i.legacy.isSome)
  else ok

/-- The effect of a step that succeeded. -/
def State.stepEffect (s : State) (step : Nat) : State :=
  match step with
  | 5 => s.loadStore
  | 6 => { s.setFlag F.GOO_STAT_VERIFIED true with goo := { s.goo with badApp := false } }.gooShow
  | 8 =>
    if s.s1 then
      let code := match s.boot.running with | some i => i.legacy.getD [] | none => []
      { s with boot := { s.boot with step := 10 }, cmp := { s.cmp with code := code } }
    else s
  | 9 => s.loadTiles
  | 11 => s.bootReady
  | _ => s

/-- A step of R443 ends, in the order of the table; with S1 set the legacy component takes the place of
steps 9 and 10, whose LOADED bits stay 0. -/
def opBootStep (step : Nat) (ok : Bool) (s : State) : State :=
  let leaving := s.boot.pend.isSome
  if s.mode ≠ .boot ∨ !s.boot.entered ∨ leaving ∨ step ≠ s.boot.step + 1
      ∨ (step = 3 ∧ ok ∧ !s.flag F.HEN_STAT_SCANNED) then s
  else if s.stepOk step ok then (s.stepDone step).stepEffect step
  else if step = 2 then { s with boot := { s.boot with recKind := 3 } }.pendMode .recovery
  else if step = 6 then
    let s := { s with boot := { s.boot with step := 6 }, goo := { s.goo with badApp := true } }
    s.gooShow.raise 14 0
  else s.stepFail step

def execBootStepComplete (t : Nat) (step : Fin 12) (ok : Bool) (s : State) :
    Host.Outcome State Fault Refusal :=
  .next (opBootStep step.val ok (s.tick t))

/-! ### GOOD and the boot watchdog (R445, R458) -/

/-- The GOOD of the first start on a newly active slot: the set becomes the last-good one; or, on the NOR
set, the previous slot becomes active again. -/
def State.settleFirstStart (s : State) : State :=
  if !s.boot.settling then s
  else if s.flag F.GLB_BOOT_STAT_FROMNOR then
    let s := { s with nv := { s.nv with
      slotB := !s.nv.slotB, firstStart := false, failedSet := true, staged := false }
                      boot := { s.boot with settling := false } }
    let s := (s.setFlag F.GLB_UPD_STAT_STAGED false).setFld F.GLB_UPD_ID_STG_IMAGE_ID 0
    (s.setFlag F.GLB_BOOT_STAT_SLOT s.nv.slotB).raise 235 16
  else
    let img := s.nv.activeImage
    let s := { s with nv := { s.nv with
      nor := img.getD s.nv.nor, loader := (img.map ImageInfo.loader).getD s.nv.loader
      minSvn := max s.nv.minSvn (svnOf img), firstStart := false, staged := false }
                      boot := { s.boot with settling := false } }
    let s := (s.setFlag F.GLB_UPD_STAT_STAGED false).setFld F.GLB_UPD_ID_STG_IMAGE_ID 0
    s.setFld F.GLB_UPD_SVN_MINSVN s.nv.minSvn

/-- The instant at which the boot watchdog expires, in ps of module time; WDT_S 0 counts as 1. -/
def State.watchdogEnd (s : State) : Nat := max 1 (s.fld F.GLB_BOOT_CFG_WDT_S) * psPerS

/-- A write of GOOD counts while READY = 1 and the boot watchdog runs; in the cycle of its expiry the expiry
stands (R445, R459). -/
def opBootGood (v : Word) (s : State) : State :=
  if !bitOf v.toNat 0 || !s.flag F.GLB_BOOT_STAT_READY || !s.boot.wdRuns || decide (s.watchdogEnd ≤ s.modTime)
  then s else
  let s := { s with nv := { s.nv with bootCnt := 0 } }
  (s.setFlag F.GLB_BOOT_STAT_GOODSEEN true).settleFirstStart

def execBootGood (t : Nat) (v : Word) (s : State) : Host.Outcome State Fault Refusal :=
  .next (opBootGood v (s.tick t))

/-- The boot watchdog expires. -/
def opBootWatchdog (s : State) : State :=
  if !s.boot.wdRuns || decide (s.modTime < s.watchdogEnd) then s else
  let s := { s with boot := { s.boot with wdRuns := false } }
  if s.flag F.GLB_BOOT_STAT_GOODSEEN then s else s.bootFail 1

def execBootWatchdogExpiry (t : Nat) (s : State) : Host.Outcome State Fault Refusal :=
  .next (opBootWatchdog (s.tick t))

end Sys2Proof.Machine
end

