-- ==== Sys2Proof/Machine/Update.lean ====
section
/-!
DEFINITION. Machine/Update.lean: staging, arming and activation of software sets, and RECOVERY
downloads (R447 to R457).
-/

namespace Sys2Proof.Machine

/-! ### Staging (R452, R453) -/

def State.updSrc (s : State) : Nat := s.pair F.GLB_UPD_SRC_LO_ADDR F.GLB_UPD_SRC_HI_ADDR
def State.updLen (s : State) : Nat := s.fld F.GLB_UPD_LEN_BYTES

/-- Refuse a stage or an arm. -/
def State.updRefuse (s : State) (reason : Nat) : State :=
  ((s.setFlag F.GLB_UPD_STAT_REFUSED true).setFld F.GLB_UPD_STAT_REASON reason).raise 239 reason

/-- The first of the conditions 1 to 5 that refuses the container in module DRAM. -/
def State.stageReason (s : State) (sigOk : Bool) : Nat :=
  let r := containerReason (s.readBytes s.updSrc s.updLen) s.updLen sigOk s.nv.minSvn
  if r ≠ 0 then r else if inDram s.updSrc s.updLen then 0 else 5

/-- Write an image to the inactive slot. -/
def NvSt.putOther (n : NvSt) (i : Option ImageInfo) : NvSt :=
  if n.slotB then { n with imageA := i } else { n with imageB := i }

/-- No staged set waits any longer. -/
def State.dropStaged (s : State) : State :=
  let s := (s.setFlag F.GLB_UPD_STAT_STAGED false).setFld F.GLB_UPD_ID_STG_IMAGE_ID 0
  { s with nv := { s.nv with staged := false } }

/-- STAGE: refused while a set is armed or a stage runs, else the container is read. `sigOk` is the
verdict of its signature. -/
def State.stageStart (s : State) (sigOk : Bool) : State :=
  if s.flag F.GLB_UPD_STAT_ARMED || s.flag F.GLB_UPD_STAT_STAGING then
    let r := s.stageReason sigOk
    s.updRefuse (if r = 0 then 6 else r)
  else s.dropStaged.setFlag F.GLB_UPD_STAT_STAGING true

/-- The stage ends: the set waits in the inactive slot, or the stage is refused. -/
def opStageDone (sigOk : Bool) (s : State) : State :=
  if !s.flag F.GLB_UPD_STAT_STAGING then s else
  let r := s.stageReason sigOk
  let img := imageOf (s.readBytes s.updSrc s.updLen)
  let s := s.setFlag F.GLB_UPD_STAT_STAGING false
  if r ≠ 0 then s.updRefuse r else
  let s := { s with nv := { s.nv.putOther (some img) with staged := true, failedSet := false } }
  let s := (s.setFlag F.GLB_UPD_STAT_STAGED true).setFld F.GLB_UPD_ID_STG_IMAGE_ID img.id
  s.raise 236 img.id

/-! ### Arming (R454, R456) -/

/-- T_upd as GLB_UPD_TIME gives it, ns of module time; ARM takes it (R454). -/
def State.updTime (s : State) : Nat := s.pair F.GLB_UPD_TIME_LO_TIME F.GLB_UPD_TIME_HI_TIME

/-- ARM: reasons 6, 7 and 8. The reference time of the arm is known in LOCKED and in HOLDOVER. -/
def State.arm (s : State) : State :=
  let lo := s.modNs + 2 * 1000000000
  let hi := s.modNs + 7 * 86400 * 1000000000
  if s.flag F.GLB_UPD_STAT_ARMED || s.flag F.GLB_UPD_STAT_STAGING then s.updRefuse 6
  else if !s.flag F.GLB_UPD_STAT_STAGED then s.updRefuse 7
  else if s.updTime < lo ∨ hi < s.updTime then s.updRefuse 8
  else
    let ofs := toSigned 64 (s.pair F.FUS_TB_OFS_LO_OFS F.FUS_TB_OFS_HI_OFS)
    let ref := if s.tbState = 2 ∨ s.tbState = 3 then some ((s.updTime : Int) + ofs) else none
    let s := { s with boot := { s.boot with armRef := ref, toConvert := none, updAt := s.updTime } }
    s.setFlag F.GLB_UPD_STAT_ARMED true

/-- DISARM takes effect up to 1 s before T_upd, and at any time before a kept arm is converted. -/
def State.disarm (s : State) : State :=
  if s.flag F.GLB_UPD_STAT_ARMED && !s.nv.defer &&
      (s.boot.toConvert.isSome || decide (s.modNs + 1000000000 ≤ s.boot.updAt)) then
    let s := { s with boot := { s.boot with armRef := none, toConvert := none } }
    s.setFlag F.GLB_UPD_STAT_ARMED false
  else s

/-- DISCARD drops a staged set that is not armed; NAND is not written (R19, R454). -/
def State.discard (s : State) : State :=
  if s.flag F.GLB_UPD_STAT_ARMED || !s.flag F.GLB_UPD_STAT_STAGED then s
  else s.dropStaged

/-- A write to GLB_UPD_CTL: GROUP is stored, then the command of the one bit set acts; several set bits
carry out none (R539). -/
def opUpdCtl (v : Nat) (sigOk : Bool) (s : State) : State :=
  let s := s.setFld F.GLB_UPD_CTL_GROUP (bitsOf v 16 16)
  if 1 < ((List.range 4).filter (bitOf v)).length then s.badAccess else
  let s := if bitOf v 0 then s.stageStart sigOk else s
  let s := if bitOf v 1 then s.arm else s
  let s := if bitOf v 2 then s.disarm else s
  if bitOf v 3 then s.discard else s

def execUpdateStage (t : Nat) (v : Word) (sigOk : Bool) (s : State) : Host.Outcome State Fault Refusal :=
  .next (opUpdCtl (v.toNat ||| 1) sigOk (s.tick t))

def execUpdateStageDone (t : Nat) (sigOk : Bool) (s : State) : Host.Outcome State Fault Refusal :=
  .next (opStageDone sigOk (s.tick t))

def execUpdateArm (t : Nat) (v : Word) (s : State) : Host.Outcome State Fault Refusal :=
  .next (opUpdCtl (v.toNat ||| 2) true (s.tick t))

def execUpdateDisarm (t : Nat) (v : Word) (s : State) : Host.Outcome State Fault Refusal :=
  .next (opUpdCtl (v.toNat ||| 4) true (s.tick t))

def execUpdateDiscard (t : Nat) (v : Word) (s : State) : Host.Outcome State Fault Refusal :=
  .next (opUpdCtl (v.toNat ||| 8) true (s.tick t))

/-- T_upd is reached (R455): activation at once in COMPAT, ROAD, SERVICE or BOOT with the machine still,
else it is deferred. -/
def opActivationDue (s : State) : State :=
  if !s.flag F.GLB_UPD_STAT_ARMED || s.nv.defer || s.boot.toConvert.isSome || decide (s.modNs < s.boot.updAt)
  then s
  else
    let modeOk := s.mode == .compat || s.mode == .road || s.mode == .service || s.mode == .boot
    if modeOk && s.flag F.GOO_STAT_STILL && !s.flag F.GOO_STAT_HDRENG then
      let s := { s with nv := { s.nv.activate with wakeOwed := true } }
      (s.setFlag F.GLB_UPD_STAT_ARMED false).pendMode .standby
    else
      let s := { s with nv := { s.nv with defer := true } }
      (s.setFlag F.GLB_UPD_STAT_DEFER true).raise 237 (s.fld F.GLB_UPD_CTL_GROUP)

def execUpdateActivation (t : Nat) (s : State) : Host.Outcome State Fault Refusal :=
  .next (opActivationDue (s.tick t))

/-! ### RECOVERY downloads (R447 to R449) -/

/-- The ROM sends an answer. -/
def State.answerWith (s : State) (bs : List Nat) : State :=
  { s with boot := { s.boot with answer := bs.map (fun n => BitVec.ofNat 8 n) } }

/-- The file name that a write request must give. -/
def pletuName : List Byte := [0x66, 0x76, 0x37, 0x32, 0x30, 0x34, 0x2E, 0x70, 0x6C, 0x74, 0x75]

/-- The decimal digits of a number, as TFTP options carry it. -/
def decimal : Nat → Nat → List Nat
  | 0, _ => []
  | f + 1, n => if n < 10 then [48 + n] else decimal f (n / 10) ++ [48 + n % 10]

/-- "blksize" and "tsize" of an option acknowledgement. -/
def oackOptions (blksize size : Option Nat) : List Nat :=
  (match blksize with
    | some n => [98, 108, 107, 115, 105, 122, 101, 0] ++ decimal 5 n ++ [0]
    | none => [])
  ++ (match size with
    | some n => [116, 115, 105, 122, 101, 0] ++ decimal 11 n ++ [0]
    | none => [])

/-- A request to the ROM's TFTP server: one write request at a time, for the one file, in octet mode. -/
def opTftpRequest (write : Bool) (file : List Byte) (octet : Bool) (blksize size : Option Nat) (s : State) :
    State :=
  if s.mode ≠ .recovery then s
  else if !write || file != pletuName then s.answerWith [0, 5, 0, 2, 0]
  else if !octet then s.answerWith [0, 5, 0, 0, 0]
  else if s.boot.rxOpen then s
  else
    let blk := match blksize with
      | some n => if 512 ≤ n then some (min n 1468) else none
      | none => none
    let s := { s with boot := { s.boot with
      rxOpen := true, rxDone := false, rxNext := 1, rxBytes := [], rxLen := size.getD 0, tftpBlk := blk.getD 512 } }
    if blk.isNone && size.isNone then s.answerWith [0, 4, 0, 0]
    else s.answerWith ([0, 6] ++ oackOptions blk size)

def execRecoveryTftpRequest (t : Nat) (write : Bool) (file : List Byte) (octet : Bool)
    (blksize size : Option Nat) (s : State) : Host.Outcome State Fault Refusal :=
  .next (opTftpRequest write file octet blksize size (s.tick t))

/-- A TFTP data packet; the final ACK waits for R449. -/
def opTftpData (blk : Nat) (data : List Byte) (s : State) : State :=
  let b := s.boot
  if s.mode ≠ .recovery ∨ !b.rxOpen ∨ b.rxDone ∨ b.tftpBlk = 0 then s
  else if blk = b.rxNext % 65536 then
    let d := data.take b.tftpBlk
    let s := { s with boot := { b with rxNext := b.rxNext + 1, rxBytes := b.rxBytes ++ d } }
    if d.length < b.tftpBlk then
      { s with boot := { s.boot with rxDone := true, rxLen := if b.rxLen = 0 then s.boot.rxBytes.length else b.rxLen } }
    else s.answerWith [0, 4, blk / 256, blk % 256]
  else if blk = (b.rxNext - 1) % 65536 then s.answerWith [0, 4, blk / 256, blk % 256]
  else s

def execRecoveryTftpData (t : Nat) (blk : Nat) (data : List Byte) (s : State) :
    Host.Outcome State Fault Refusal :=
  .next (opTftpData blk data (s.tick t))

/-- The answer frame on 0x7E8 (R448). -/
def State.canAnswer (s : State) (cmd seq status : Nat) : State :=
  s.answerWith [0x80 + cmd, seq, status, 0, 0, 0, 0, 0]

/-- START: a download over CAN begins. -/
def opCanStart (data : List Byte) (s : State) : State :=
  if s.mode ≠ .recovery ∨ data.length ≠ 8 ∨ natAt data 0 1 ≠ 1 then s else
  let s := { s with boot := { s.boot with
    rxOpen := true, rxDone := false, rxNext := 0, rxBytes := [], rxLen := natAt data 1 4, tftpBlk := 0 } }
  s.canAnswer 1 0 0

def execRecoveryCanStart (t : Nat) (data : List Byte) (s : State) : Host.Outcome State Fault Refusal :=
  .next (opCanStart data (s.tick t))

/-- DATA: the next six bytes; a repeat of the previous sequence is answered and not stored twice. -/
def opCanData (data : List Byte) (s : State) : State :=
  let b := s.boot
  if s.mode ≠ .recovery ∨ data.length ≠ 8 ∨ natAt data 0 1 ≠ 2 ∨ b.tftpBlk ≠ 0 then s else
  let q := natAt data 1 1
  if !b.rxOpen || b.rxDone then s.canAnswer 2 q 1
  else if b.rxNext ≠ 0 ∧ q = (b.rxNext - 1) % 256 then s.canAnswer 2 q 0
  else if q ≠ b.rxNext % 256 then s.canAnswer 2 q 1
  else if b.rxLen ≤ b.rxBytes.length then s.canAnswer 2 q 2
  else
    let d := (bytesAt data 2 6).take (b.rxLen - b.rxBytes.length)
    let s := { s with boot := { b with rxNext := b.rxNext + 1, rxBytes := b.rxBytes ++ d } }
    s.canAnswer 2 q 0

def execRecoveryCanData (t : Nat) (data : List Byte) (s : State) : Host.Outcome State Fault Refusal :=
  .next (opCanData data (s.tick t))

/-- END: answered once R449 is complete; one with no download open is out of sequence, like DATA
(log entry 124). -/
def opCanEnd (data : List Byte) (s : State) : State :=
  let b := s.boot
  if s.mode ≠ .recovery ∨ data.length ≠ 8 ∨ natAt data 0 1 ≠ 3 ∨ b.tftpBlk ≠ 0 then s
  else if !b.rxOpen then s.canAnswer 3 0 1
  else { s with boot := { b with rxDone := true } }

def execRecoveryCanEnd (t : Nat) (data : List Byte) (s : State) : Host.Outcome State Fault Refusal :=
  .next (opCanEnd data (s.tick t))

/-- The ROM answers the end of a download: `status` 0 accepted, 3 check failed, 4 write failed. -/
def State.rxAnswer (s : State) (status : Nat) : State :=
  if s.boot.tftpBlk = 0 then s.canAnswer 3 0 status
  else if status = 0 then
    let n := (s.boot.rxNext - 1) % 65536
    s.answerWith [0, 4, n / 256, n % 256]
  else s.answerWith [0, 5, 0, 0, 0]

/-- A whole download is checked and written (R449); `written` is the outcome of the write. -/
def opDownloadDone (sigOk written : Bool) (s : State) : State :=
  let b := s.boot
  if s.mode ≠ .recovery ∨ !b.rxOpen ∨ !b.rxDone then s else
  let r := if b.rxBytes.length ≠ b.rxLen then 1 else containerReason b.rxBytes b.rxLen sigOk s.nv.minSvn
  let closed := { s with boot := { b with rxOpen := false, rxDone := false, rxBytes := [] } }
  if r ≠ 0 then (closed.rxAnswer 3).raise 239 r
  else if !written then closed.rxAnswer 4
  else
    let img := imageOf b.rxBytes
    let closed := closed.setFlag F.GLB_UPD_STAT_ARMED false
    let s := { closed with
      boot := { closed.boot with rxDone := true, armRef := none, toConvert := none }
      nv := { s.nv with
        imageA := some img, imageB := none, slotB := false, nor := img, loader := img.loader, bootCnt := 0
        staged := false, failedSet := false, firstStart := false, newSlot := false, defer := false, armDropped := false } }
    s.rxAnswer 0

def execRecoveryDownloadDone (t : Nat) (sigOk written : Bool) (s : State) :
    Host.Outcome State Fault Refusal :=
  .next (opDownloadDone sigOk written (s.tick t))

/-- After a download the ROM enters BOOT through a reset of the hub domain, once RCV_N is high. -/
def opRecoveryExit (rcvHigh : Bool) (s : State) : State :=
  if s.mode ≠ .recovery ∨ s.boot.rxOpen ∨ !s.boot.rxDone ∨ !rcvHigh then s
  else { s.henFlush.hubReset .boot with bootAt := s.now }

def execRecoveryExit (t : Nat) (rcvHigh : Bool) (s : State) : Host.Outcome State Fault Refusal :=
  .next (opRecoveryExit rcvHigh (s.tick t))

end Sys2Proof.Machine
end

