-- ==== Sys2Proof/Machine/Compat.lean ====
section
/-!
DEFINITION. Machine/Compat.lean: the legacy core's accesses to the HM-330 map in COMPAT (R462 to R481).
-/

namespace Sys2Proof.Machine

/-- The legacy core runs. -/
def State.legacyRuns (s : State) : Bool := s.mode == .compat && s.flag F.CMP_STAT_RUN

/-- An access by an identity at a byte offset of the MBX block; outside the side blocks a processor other
than the host finds nothing (R370). -/
def State.mbxBus (s : State) (off ident : Nat) (read : Bool) (v : Word) : State :=
  match mbxPlace (0x1C0000 + off % 65536) with
  | none => { s with busData := 0 }
  | some (ch, side, o) =>
    let (s, w) := opMbxAccess ch side o ident read v s
    if read then { s with busData := w } else s

/-- Give the bus the value that a read returns. -/
def State.onBus (s : State) (n : Nat) : State := { s with busData := BitVec.ofNat 32 n }

/-- CAN timing from the HM-330 fields: the controller joins as a classical one (R469). -/
def State.legacyTiming (s : State) (c : Nat) (nbt : Word) : State :=
  let s := (s.setFlag (F.CAN_CFG_FD_EN c) false).setReg (R.CAN_NBT c) (nbt &&& 0x7FFFFFFF)
  s.canOnbus c false

/-- What an HM-330 valve's status reports: short in bit 0, for SHORT and OVERTEMP alike, open in bit 1,
output supply off in bit 2 while the Goose cut holds (R467, R468; the places are log entry 19's). -/
def State.valveStatus (s : State) (n : Nat) : Nat :=
  boolNat (s.flag (F.OX_CH_STAT_SHORT n) || s.flag (F.OX_CH_STAT_OVERTEMP n))
    + 2 * s.fld (F.OX_CH_STAT_OPEN n) + 4 * boolNat (s.oxCut n)

/-- What an HM-330 switch's status reports: over-current in bit 0 after a thermal shutdown, open in bit 1 while
its diagnosis is on, output supply off in bit 2 while the Goose cut holds (R468). -/
def State.switchStatus (s : State) (n : Nat) : Nat :=
  s.fld (F.MUL_CH_STAT_TSD n) + 2 * boolNat ((s.mulCh n).diag && s.flag (F.MUL_CH_STAT_OPEN n)) + 4 * boolNat (s.mulCut n)

/-- The regions of the legacy address space (R465). -/
def legacyMapped (a : Nat) : Bool :=
  decide (a < 0x80000) || (decide (0x20000000 ≤ a) && decide (a < 0x20020000))
    || (decide (0x40000000 ≤ a) && decide (a < 0x40009000) && a / 4096 != 0x40005) || (decide (0x50000000 ≤ a) && decide (a < 0x50010000))

/-- An access of the legacy core (R465 to R471). One outside the regions takes an access fault, whose handler is
the legacy core's own program. -/
def opLegacy (op : LegacyOp) (s : State) : State :=
  if !s.legacyRuns then s else
  match op with
  | .ramRead a => s.onBus (spGet s.cmp.ram a.val).toNat
  | .ramWrite a b => { s with cmp := { s.cmp with ram := spSet s.cmp.ram a.val b } }
  | .codeRead a => s.onBus (s.cmp.code.getD a.val 0).toNat
  | .valve n ma period dn da kp ki => s.modOxCh n.val (fun x => { x with legacy := ⟨min 2500 ma, period, dn, da, kp, ki⟩ })
  | .valveStatus n => s.onBus (s.valveStatus n.val)
  | .switchStatus n => s.onBus (s.switchStatus n.val)
  | .canMemRead n i => s.onBus (s.reg (R.CAN_MEM n.val i.val)).toNat
  | .switch n on diag => (s.modMulCh n.val (fun x => { x with diag := diag })).mulCommand n.val on
  | .canTiming n nbt => s.legacyTiming n.val nbt
  | .canMemory n i v => s.setReg (R.CAN_MEM n.val i.val) v
  | .canRequest n mask => s.canRequest n.val mask.toNat
  | .safety i => s.onBus (s.fld (F.GOO_IN_STAT_A i.val) + 2 * s.fld (F.GOO_IN_STAT_B i.val)
      + 4 * s.fld (F.GOO_IN_STAT_OK i.val))
  | .calRead i => s.onBus (s.reg (R.ROO_CAL_SEC + 4 * i.val)).toNat
  | .calWrite f v => opCalendarWrite f true v s
  | .calFlag v => opOsfWrite v s
  | .mailbox off read v => s.mbxBus off 3 read v
  | .other a => if legacyMapped a.toNat then s else { s with cmp := { s.cmp with fault := some a } }

def execLegacyPeripheralAccess (t : Nat) (op : LegacyOp) (s : State) : Host.Outcome State Fault Refusal :=
  .next (opLegacy op (s.tick t))

/-- An access to the flash controller, or a store to the code region (R466). -/
def opUnemulated (addr : Word) (store : Bool) (s : State) : State :=
  let a := addr.toNat
  if !s.legacyRuns then s
  else if a / 4096 = 0x40003 then
    let s := (s.setFld F.CMP_UNEMU_ADDR a).setFlag F.CMP_STAT_UNEMU true
    let s := if store then s else s.onBus 0
    (s.bump F.CMP_TALLY_UNEMU).raise 245 a
  else if store && decide (a < 0x80000) then
    let s := (s.setFld F.CMP_UNEMU_ADDR a).setFlag F.CMP_STAT_CODEWR true
    (s.bump F.CMP_TALLY_UNEMU).raise 246 a
  else s

def execLegacyUnemulatedAccess (t : Nat) (addr : Word) (store : Bool) (s : State) :
    Host.Outcome State Fault Refusal :=
  .next (opUnemulated addr store (s.tick t))

/-- The legacy watchdog expires (R472): the core and its register view are reset, RAM is kept. -/
def opLegacyWatchdog (s : State) : State :=
  if !s.legacyRuns then s else
  let s := (List.range 16).foldl (fun s n => s.modOxCh n (fun x => { x with legacy := default, duty := 0 })) s
  let s := (List.range 24).foldl (fun s n =>
    (s.modMulCh n (fun x => { x with diag := false })).mulCommand n false) s
  let s := (List.range 4).foldl (fun s c => (s.canOffbus c).setReg (R.CAN_NBT c) (regReset (R.CAN_NBT c))) s
  let n := s.cmp.resets + 1
  let s := { s with cmp := { s.cmp with resets := n } }
  let s := (s.setFlag F.CMP_STAT_WDRST true).bump F.CMP_TALLY_WDRST
  (s.raise 244 n).henMake sevError 244 n

def execLegacyWatchdogExpiry (t : Nat) (s : State) : Host.Outcome State Fault Refusal :=
  .next (opLegacyWatchdog (s.tick t))

end Sys2Proof.Machine
end

