-- ==== Sys2Proof/Machine/Routes.lean ====
section
/-!
DEFINITION. Machine/Routes.lean: the commands that change a stream route (R71 to R77, R237).
-/

namespace Sys2Proof.Machine

/-- The route that the staging, control and status registers act on (R88). -/
def State.selRoute (s : State) : Nat := s.fld F.MOR_RT_SEL_ROUTE

/-- Hold a route for context 0 when no context holds it (R268). -/
def State.holdRouteFor0 (s : State) (r : Nat) : State :=
  if s.routeOwner r = 0 then s.holdRoute r 0 else s

/-! ### MOR_RT_STAGE_WRITE (R74) -/

/-- A write to STAGE0, or STAGE1 when `second`: stored, or REJ while PEND = 1. -/
def opRtStageWrite (second : Bool) (v : Word) (s : State) : State :=
  let r := s.selRoute
  let x := s.route r
  if x.pend then s.setRoute r { x with rej := true }
  else s.setRoute r { x with
    staged := RouteEntry.clean (if second then { x.staged with w1 := v } else { x.staged with w0 := v }) }

def execMorRtStageWrite (t : Nat) (second : Bool) (v : Word) (s : State) :
    Host.Outcome State Fault Refusal :=
  .next (opRtStageWrite second v (s.tick t))

/-! ### MOR_RT_COMMIT (R72) -/

/-- COMMIT acts for context 0, which acquires an index that no context holds, untested, and may
become OVER by it (R76, R264, R268). -/
def opRtCommit (s : State) : State :=
  let r := s.selRoute
  let (s1, res) := s.commitRoute r none
  match res with
  | .pending => ((s1.holdRouteFor0 r).reportOver s 0 3).reportOver s 0 5
  | _ => s1

def execMorRtCommit (t : Nat) (s : State) : Host.Outcome State Fault Refusal :=
  .next (opRtCommit (s.tick t))

/-! ### MOR_RT_CANCEL (R74) -/

/-- Drop the pending change of route r; the ROUTE_COMMIT that waits for it completes with `code`,
`detail` (R74, R86; log entry 15). DESIGN CHOICE (log entry 102): the spec does not say what STAGE0 and
STAGE1 read when the staged entry is dropped; the model puts the entry of reset there. -/
def State.dropPending (s : State) (r code detail : Nat) : State :=
  let x := s.route r
  let s := s.setRoute r { x with pend := false, staged := RouteEntry.initial, stagedLinks := [], waiter := none }
  match x.waiter with
  | none => s
  | some (c, tag) => match s.findOp c tag with
    | some o => s.finish o code detail 0
    | none => s

/-- CANCEL; a boundary in the same mortar cycle wins (R74). -/
def opRtCancel (s : State) : State :=
  let r := s.selRoute
  if !(s.route r).pend then s
  else if s.changeDue r && s.boundaryInCycle r then s.takeTarget r 0
  else s.dropPending r codeCancelledHost 0

def execMorRtCancel (t : Nat) (s : State) : Host.Outcome State Fault Refusal :=
  .next (opRtCancel (s.tick t))

/-! ### ROUTE_BOUNDARY_SWITCH (R73) -/

/-- The switch of R73 at a boundary. `frame` is the FRAME value of the first packet on the new route, which
a ROUTE_COMMIT reports (R237). -/
def opRouteSwitch (r frame : Nat) (s : State) : State :=
  if s.changeDue r && s.boundaryNow r then s.takeTarget r frame else s

def execRouteBoundarySwitch (t : Nat) (r : Fin 4096) (frame : Nat) (s : State) :
    Host.Outcome State Fault Refusal :=
  .next (opRouteSwitch r.val frame (s.tick t))

/-! ### ROUTE_RESERVATION_RELEASE (R73) -/

/-- The last end-of-stream packet of the old route has left its source: the old reservation ends, and
with it the holding of a route that R267 ends. -/
def opReservationRelease (r : Nat) (s : State) : State :=
  let x := s.route r
  let leaving := s.mor.flight.any (fun f => f.stream == r && decide (s.now < f.left))
  if x.old.isNone || !x.eosDue.isEmpty || x.oldOpen || leaving then s else
  let s := s.setRoute r { x with old := none, oldLinks := [], oldHeld := false, releasing := false }
  if x.releasing then s.freeRoute r else s

def execRouteReservationRelease (t : Nat) (r : Fin 4096) (s : State) :
    Host.Outcome State Fault Refusal :=
  .next (opReservationRelease r.val (s.tick t))

/-! ### ROUTE_COMMIT (R237, R238, R268) -/

/-- Can a staged set of epoch E be opened or added to (R238)? DETAIL of the refusal otherwise. -/
def State.stageRefusal (s : State) (e : Nat) : Option Nat :=
  let cur := s.fld F.MOR_EPOCH_EPOCH
  if s.flag F.MOR_ACT_STAT_STAGED then
    if s.fld F.MOR_STG_EPOCH_EPOCH ≠ e then some 5
    else if s.flag F.MOR_ACT_STAT_ARMED then some 1 else none
  else
    let d := (e + 2 ^ 32 - cur) % 2 ^ 32
    if d = 0 ∨ 2 ^ 31 ≤ d then some 5 else none

/-- Open staged set E, or go on with it (R83). -/
def State.openStage (s : State) (e : Nat) : State :=
  (s.setFlag F.MOR_ACT_STAT_STAGED true).setFld F.MOR_STG_EPOCH_EPOCH e

/-- By how much the use of kind 5 rises when a route takes entry e: by its BW over what is counted, or by the
larger of the two when no context holds the route yet (R262, R268). -/
def State.bwGrowth (s : State) (r : Nat) (e : RouteEntry) : Nat :=
  let bw := if e.reserves then e.bw else 0
  if s.routeOwner r = 0 then max bw (s.bwOf r) else bw - s.bwOf r

def opRouteCommit (s : State) (o : Op) : State :=
  let r := o.arg1 0 12
  let epoch := o.arg1 32 32
  let e : RouteEntry := RouteEntry.clean ⟨BitVec.ofNat 32 (o.arg2 0 32), BitVec.ofNat 32 (o.arg2 32 32)⟩
  let grow := s.bwGrowth r e
  match s.claim (s.routeOwner r) o.ctx 3 with
  | some (code, d) => s.finish o code d 0
  | none =>
    if !s.quotaAllows o.ctx 5 grow then s.finish o codeRefusedQuota 5 0 else
    let s := if s.routeOwner r = 0 then s.holdRoute r o.ctx else s
    if epoch = 0 then
      if (s.route r).pend then s.finish o codeRefusedLocked 6 0 else
      let s := s.setRoute r { s.route r with staged := e }
      match s.commitRoute r (some (o.ctx, o.tag)) with
      | (s, .pending) => s
      | (s, .refusedCount) => s.finish o codeRefusedCapacity 3 0
      | (s, .refusedLink) => s.finish o codeRefusedCapacity 17 0
      | (s, .alreadyPending) => s.finish o codeRefusedLocked 6 0
    else match s.stageRefusal epoch with
      | some d => s.finish o codeRefusedLocked d 0
      | none =>
        let s := s.openStage epoch
        let s := { s with mor := { s.mor with stagedRoutes := spSet s.mor.stagedRoutes r (some e) } }
        let (v, s) := s.drawFree 32
        s.finish o codeDone 0 v.toNat

def execRouteCommit (t : Nat) (c : Fin 4096) (tag : Nat) (s : State) :
    Host.Outcome State Fault Refusal :=
  .next ((s.tick t).beginOp c.val tag 0x12 opRouteCommit)

end Sys2Proof.Machine
end

