-- ==== Sys2Proof/Machine/Qos.lean ====
section
/-!
DEFINITION. Machine/Qos.lean: quotas, holdings, waits, RECLAIM, DMA copies and the DRAM reservation
(R257, R259, R261 to R273).
-/

namespace Sys2Proof.Machine

/-! ### Contexts that serve a ring, and the 64 kept entries (R257) -/

/-- The contexts that are ACTIVE, HALTED or DRAINING. -/
def State.liveCtxs (s : State) : List Nat :=
  s.regs.filterMap (fun p =>
    if decide (0x60000 ≤ p.1) && decide (p.1 < 0x80000) && p.1 % 32 == 16 && p.2.toNat % 4 != 0
    then some ((p.1 - 0x60000) / 32) else none)

def State.ctxClass (s : State) (c : Nat) : Nat := s.fld (F.CTX_CFG_CLASS c)

/-- The kind 0 quotas of the live contexts of class 0 to 2 other than c. -/
def State.keptByOthers (s : State) (c : Nat) : Nat :=
  ((s.liveCtxs.filter (fun d => d != c && decide (s.ctxClass d < 3))).map (fun d => s.quota d 0)).sum

/-- Does a kind 0 quota of `v` for a live context of class 0 to 2 break R257? -/
def State.breaksKept (s : State) (c v : Nat) : Bool :=
  s.ctxLive c && decide (s.ctxClass c < 3) && decide (s.quota c 0 < v) && decide (64 < s.keptByOthers c + v)

/-! ### Quota writes (R263 to R265) -/

/-- Write a quota; a context that it leaves above it becomes OVER. -/
def State.writeQuota (s : State) (c k v : Nat) : State :=
  (s.setQuota c k v).reportOver s c k

def opQuotaSet (s : State) (o : Op) : State :=
  let d := o.arg1 0 12
  let k := o.arg1 16 4
  let v := o.arg1 32 32
  if o.ctx ≠ 0 then s.finish o codeFaultAccess 1 0
  else if k = 0 && s.breaksKept d v then s.finish o codeRefusedCapacity 16 0
  else
    let n := s.use d k
    (s.writeQuota d k v).finish o codeDone 0 n

def execQuotaSet (t : Nat) (c : Fin 4096) (tag : Nat) (s : State) : Host.Outcome State Fault Refusal :=
  .next ((s.tick t).beginOp c.val tag 0x30 opQuotaSet)

/-- A write to QOS_Q_VAL, for the selected context and kind. -/
def opQuotaWrite (v : Word) (s : State) : State :=
  let c := s.fld F.QOS_Q_SEL_CTX
  let k := s.fld F.QOS_Q_SEL_KIND
  if 6 ≤ k then s.setFlag F.QOS_Q_STAT_REJ true
  else if k = 0 && s.breaksKept c v.toNat then s.setFlag F.QOS_Q_STAT_REFUSED true
  else s.writeQuota c k v.toNat

def execQosQuotaWrite (t : Nat) (v : Word) (s : State) : Host.Outcome State Fault Refusal :=
  .next (opQuotaWrite v (s.tick t))

/-! ### DRAM reservations and weights (R259, R278) -/

/-- A write to QOS_DRAM_CFG[k]: RSV of classes 0 to 2 while their sum stays within 136, WEIGHT of the
others. -/
def opDramWrite (k : Nat) (v : Word) (s : State) : State :=
  if 3 ≤ k then s.setFld (F.QOS_DRAM_CFG_WEIGHT k) (bitsOf v.toNat 16 8)
  else
    let rsv := bitsOf v.toNat 0 8
    let others := (((List.range 3).filter (fun j => j != k)).map (fun j => s.fld (F.QOS_DRAM_CFG_RSV j))).sum
    if 136 < others + rsv then (s.setFlag F.QOS_DRAM_STAT_REFUSED true).raise 43 (others + rsv)
    else (s.setFld (F.QOS_DRAM_CFG_RSV k) rsv).setFld F.QOS_DRAM_STAT_RSVSUM (others + rsv)

def execQosDramWrite (t : Nat) (k : Fin 8) (v : Word) (s : State) : Host.Outcome State Fault Refusal :=
  .next (opDramWrite k.val v (s.tick t))

/-! ### Segments (R57, R267) -/

/-- A holding ends; the allocation map of its tile changes with it (R79). -/
def State.freeSeg (s : State) (t k : Nat) : State :=
  ({ s with qos := { s.qos with segs := spSet s.qos.segs (448 * t + k) ⟨0, 0⟩ } }.showSegs t).imageChanged true

def State.holdSeg (s : State) (c t k : Nat) : State :=
  { s with qos := { s.qos with segs := spSet s.qos.segs (448 * t + k) ⟨c + 1, s.modNs⟩ } }

/-- Zero a segment: its words are written, and so no longer poisoned (R58, R267). -/
def State.zeroSeg (s : State) (t k : Nat) : State :=
  let lo := 2 ^ 21 * t + 4096 * k
  let wlo := 131072 * t + 256 * k
  { s with mor := { s.mor with
      bricks := s.mor.bricks.filter (fun p => decide (p.1 < lo) || decide (lo + 4096 ≤ p.1))
      poison := s.mor.poison.filter (fun p => decide (p.1 < wlo) || decide (wlo + 256 ≤ p.1)) } }

/-- Does the segment hold the recurrent state of an enabled fusion network (R267)? -/
def State.recurrent (s : State) (t k : Nat) : Bool :=
  (List.range 16).any (fun n => s.flag (F.FUS_NET_CFG_EN n)
    && decide (s.fld (F.FUS_NET_TILES_FIRST n) ≤ t)
    && decide (t < s.fld (F.FUS_NET_TILES_FIRST n) + s.fld (F.FUS_NET_TILES_COUNT n))
    && Config.recurrentSegment n t k)

def State.segOwner (s : State) (t k : Nat) : Nat := (spGet s.qos.segs (448 * t + k)).owner
def State.chanOwner (s : State) (k : Nat) : Nat := (spGet s.qos.dma k).owner

/-! ### The wait table (R270, R271) -/

/-- Show QOS_WAIT_STAT.WAITS. -/
def State.showWaits (s : State) : State := s.setFld F.QOS_WAIT_STAT_WAITS s.qos.waits.length

def State.dropWait (s : State) (c tag : Nat) : State :=
  { s with qos := { s.qos with
      waits := removeFirst (fun w => w.ctx == c && w.tag == tag) s.qos.waits } }.showWaits

/-- An operation that has not started completes, and its wait, if it has one, ends (R222, R235, R273). -/
def State.withdraw (s : State) (o : Op) (code detail : Nat) : State :=
  (if o.phase = .waiting then s.dropWait o.ctx o.tag else s).finish o code detail 0

/-- Do two requests want the same resource? Segments are taken tile by tile. -/
def Wait.same (a b : Wait) : Bool :=
  a.kind == b.kind && (if a.kind = 1 then a.tile == b.tile else a.index == b.index)

/-- The waiter that a freed resource goes to: by class, then by registration. -/
def State.firstWaiter (s : State) (w : Wait) : Option Wait :=
  (s.qos.waits.filter (fun x => x.same w)).foldl (fun best x => match best with
    | none => some x
    | some b => if x.cls < b.cls then some x else some b) none

/-- The owner (context plus 1, 0 free) of the index that a request of kind 2 to 4 names. -/
def State.indexOwner (s : State) (kind index : Nat) : Nat :=
  if kind = 2 then s.slotOwner index else if kind = 3 then s.routeOwner index else s.chanOwner index

/-- Is what a request asks for free now? -/
def State.isFree (s : State) (w : Wait) : Bool :=
  if w.kind = 1 then decide (w.count ≤ (s.freeSegs w.tile).length) else s.indexOwner w.kind w.index == 0

/-- The contexts that a waiting request waits for: never itself. -/
def State.holders (s : State) (w : Wait) : List Nat :=
  let owners := if w.kind = 1 then
      (s.qos.segs.filter (fun p => p.1 / 448 == w.tile)).map (fun p => p.2.owner)
    else [s.indexOwner w.kind w.index]
  ((owners.filter (fun o => o != 0 && o != w.ctx + 1)).map (fun o => o - 1)).eraseDups

/-- The contexts that context c waits for. -/
def State.waitsFor (s : State) (c : Nat) : List Nat :=
  (s.qos.waits.filter (fun w => w.ctx == c)).flatMap s.holders

/-- Edges from a set of contexts to context `target` along the graph of waits, at most `n`. -/
def State.distance (s : State) (target : Nat) : Nat → List Nat → Option Nat
  | 0, _ => none
  | n + 1, front =>
    if front.contains target then some 0
    else match front with
      | [] => none
      | _ => (s.distance target n (front.flatMap s.waitsFor).eraseDups).map (· + 1)

/-- The cycle that registering a wait would close: the holder its edge reaches, lowest-numbered, and the
number of contexts in it (R271, R272). -/
def State.cycleOf (s : State) (w : Wait) : Option (Nat × Nat) :=
  (s.holders w).foldl (fun best h =>
    match s.distance w.ctx (s.qos.waits.length + 2) [h], best with
    | none, b => b
    | some n, none => some (h, n + 1)
    | some n, some b => if h < b.1 then some (h, n + 1) else some b) none

/-! ### ACQUIRE and WAIT_GRANT (R268 to R270) -/

/-- Give context c what it asks for: the lowest-numbered free segments, whose numbers go to BUF, or the
index. Answers the amount granted. -/
def State.give (s : State) (o : Op) (w : Wait) : State × Nat :=
  if w.kind = 1 then
    let ks := (s.freeSegs w.tile).take w.count
    let s := ks.foldl (fun s k => s.holdSeg w.ctx w.tile k) s
    let s := (s.showSegs w.tile).imageChanged true
    (s.writeBytes o.buf (ks.flatMap (leBytes 2)), ks.length)
  else if w.kind = 2 then (s.holdSlot w.index w.ctx, 1)
  else if w.kind = 3 then (s.holdRoute w.index w.ctx, 1)
  else ({ s with qos := { s.qos with dma := spSet s.qos.dma w.index ⟨w.ctx + 1, s.modNs⟩ } }, 1)

/-- The request that an ACQUIRE makes. -/
def Op.request (o : Op) : Wait := ⟨o.ctx, o.tag, o.cls, o.arg1 0 8, o.arg1 16 7, o.arg1 32 9, o.arg1 48 16⟩

/-- Grant a request whose operation has started. -/
def State.grant (s : State) (o : Op) (w : Wait) : State :=
  let before := s
  let (s, n) := s.give o w
  let s := s.reportOver before o.ctx w.kind
  (if w.kind = 3 then s.reportOver before o.ctx 5 else s).finish o codeDone 0 n

def opAcquire (ecc : Bool) (s : State) (o : Op) : State :=
  let w := o.request
  let amount := if w.kind = 1 then w.count else 1
  if w.kind ≠ 1 ∧ s.indexOwner w.kind w.index = o.ctx + 1 then s.finish o codeDone 0 0
  else if !s.quotaAllows o.ctx w.kind amount then s.finish o codeRefusedQuota w.kind 0
  else if w.kind = 3 && !s.quotaAllows o.ctx 5 (s.bwOf w.index) then s.finish o codeRefusedQuota 5 0
  else if ecc && w.kind == 1 then s.finish o codeFaultAccess 2 0
  else if s.isFree w && (s.firstWaiter w).isNone then s.grant o w
  else if o.arg1 8 1 = 0 then s.finish o codeRefusedCapacity w.kind 0
  else match s.cycleOf w with
    | some (h, n) =>
      (s.raise 37 o.ctx).finish o codeCancelledCycle (place w.kind 0 8 + place h 8 12 + place (min n 15) 20 4) 0
    | none =>
      let s := s.modifyOp o.ctx o.tag (fun x => { x with phase := .waiting })
      { s with qos := { s.qos with waits := s.qos.waits ++ [w] } }.showWaits

def execAcquire (t : Nat) (c : Fin 4096) (tag : Nat) (ecc : Bool) (s : State) :
    Host.Outcome State Fault Refusal :=
  .next ((s.tick t).beginOp c.val tag 0x32 (opAcquire ecc))

/-- Has the µs of a waiting operation's deadline passed (R253, R277)? -/
def State.waitOver (s : State) (o : Op) : Bool :=
  decide (3 ≤ o.cls) && decide ((o.deadline - s.bootAt) / psPerUs < s.modUs)

/-- Grant a wait whose resource is free and which is first in its order. -/
def State.grantWait (s : State) (o : Op) (w : Wait) : State :=
  if !s.isFree w || s.firstWaiter w != some w then s
  else (((s.dropWait o.ctx o.tag).startOp o).takeTokens o).grant o w

/-- A freed resource goes to its first waiter: the wait ends, the operation starts and completes; in the µs
of its deadline the grant wins, and after it the wait is refused (R273, R277). -/
def opWaitGrant (c tag : Nat) (s : State) : State :=
  match s.findOp c tag, s.qos.waits.find? (fun w => w.ctx == c && w.tag == tag) with
  | some o, some w =>
    if s.waitOver o then s.withdraw o codeRefusedCapacity w.kind else s.grantWait o w
  | _, _ => s

def execWaitGrant (t : Nat) (c : Fin 4096) (tag : Nat) (s : State) : Host.Outcome State Fault Refusal :=
  .next (opWaitGrant c.val tag (s.tick t))

/-! ### RELEASE (R269) -/

/-- Free an index or a segment. -/
def State.freeHolding (s : State) (kind tile index : Nat) : State :=
  if kind = 1 then s.freeSeg tile index
  else if kind = 2 then { s with qos := { s.qos with slots := spSet s.qos.slots index ⟨0, 0⟩ } }
  else if kind = 3 then s.freeRoute index
  else { s with qos := { s.qos with
    dma := spSet s.qos.dma index ⟨0, 0⟩, ending := s.qos.ending.filter (fun k => k != index) } }

def opRelease (s : State) (o : Op) : State :=
  let kind := o.arg1 0 8
  let tile := o.arg1 16 7
  let index := o.arg1 48 16
  let owner := if kind = 1 then s.segOwner tile index else s.indexOwner kind index
  if owner ≠ o.ctx + 1 ∨ (kind = 2 ∧ s.lstate index ≠ 0) then s.finish o codeDone 0 0
  else (s.freeHolding kind tile index).finish o codeDone 0 1

def execRelease (t : Nat) (c : Fin 4096) (tag : Nat) (s : State) : Host.Outcome State Fault Refusal :=
  .next ((s.tick t).beginOp c.val tag 0x33 opRelease)

/-! ### RECLAIM (R266, R267) -/

/-- RECLAIM starts at once and acts at a tally boundary. -/
def opReclaim (s : State) (_ : Op) : State := s

def execReclaim (t : Nat) (c : Fin 4096) (tag : Nat) (s : State) : Host.Outcome State Fault Refusal :=
  .next ((s.tick t).beginOp c.val tag 0x31 opReclaim)

/-- The holdings of context c that a RECLAIM of a kind may take, oldest first, then lowest index: (index
or 448 * tile + segment, grant instant). -/
def State.reclaimable (s : State) (c kind : Nat) : List (Nat × Nat) :=
  let held := if kind = 1 then s.qos.segs else if kind = 2 then s.qos.slots
    else if kind = 4 then s.qos.dma else s.qos.routes
  let mine := (heldBy held c).filter (fun p =>
    if kind = 1 then !s.recurrent (p.1 / 448) (p.1 % 448)
    else if kind = 2 then s.lstate p.1 == 0
    else if kind = 4 then !s.qos.ending.contains p.1
    else !(s.route p.1).releasing && (kind == 3 || s.bwOf p.1 != 0))
  sortByKey (fun p => p.2) (mine.map (fun p => (p.1, p.2.grantedAt)))

/-- The first holdings whose BW covers an excess. -/
def coverBw (bw : Nat → Nat) : Nat → List (Nat × Nat) → List (Nat × Nat)
  | _, [] => []
  | excess, p :: l => if excess = 0 then [] else p :: coverBw bw (excess - bw p.1) l

/-- The holdings that a RECLAIM takes: COUNT of them, or as many as bring use down to the quota. -/
def State.reclaimed (s : State) (c kind count : Nat) : List (Nat × Nat) :=
  let l := s.reclaimable c kind
  let excess := s.use c kind - s.quota c kind
  (if count ≠ 0 then l.take count
    else if kind = 5 then coverBw s.bwOf excess l else l.take excess).take 256

/-- A transfer in progress on a channel: a DMA_COPY that has started (R267). -/
def State.transferOn (s : State) (k : Nat) : Bool :=
  s.host.ops.any (fun o => o.opcode == 0x34 && o.phase == .started && o.arg1 0 6 == k)

/-- A held route takes EN = 0 and ends under R73; a pending change of it goes with it. -/
def State.endRoute (s : State) (r : Nat) : State :=
  let s := if (s.route r).pend then s.dropPending r codeCancelledHost 0 else s
  let s := s.setRoute r { s.route r with next := none, nextLinks := [] }
  let e := (s.route r).active
  let s := if e.en then s.switchRoute r ⟨e.w0, e.w1 &&& 0xFFFFFFEF⟩ [] else s
  let s := s.imageChanged true
  if (s.route r).old.isSome then s.setRoute r { s.route r with releasing := true } else s.freeRoute r

def State.takeBack (s : State) (kind index : Nat) : State :=
  if kind = 1 then (s.freeSeg (index / 448) (index % 448)).zeroSeg (index / 448) (index % 448)
  else if kind = 3 ∨ kind = 5 then s.endRoute index
  else if kind = 4 ∧ s.transferOn index then
    { s with qos := { s.qos with ending := s.qos.ending ++ [index] } }
  else s.freeHolding kind 0 index

/-- The 16-byte entry of a released holding. -/
def reclaimEntry (kind : Nat) (p : Nat × Nat) : List Byte :=
  leBytes 16 (if kind = 1 then place kind 0 8 + place (p.1 / 448) 16 7 + place (p.1 % 448) 32 16 + place p.2 64 64
    else place kind 0 8 + place p.1 32 16 + place p.2 64 64)

/-- The next tally boundary, ms of module time (R245): the first falls one period after BOOT entry. -/
def State.nextBoundary (s : State) : Nat :=
  if s.host.tallyNext = 0 then s.host.tallyPeriod else s.host.tallyNext

/-- Is this instant a tally boundary, whose period is still open (R277)? -/
def State.atBoundary (s : State) : Bool := s.hubRuns && s.modTime == s.nextBoundary * psPerMs

/-- The release of a pending RECLAIM at a boundary at least 100 µs after it started. TALLY_BOUNDARY carries it
out for one that has not had this command (R277). -/
def opReclaimRelease (c tag : Nat) (s : State) : State :=
  match s.findOp c tag with
  | none => s
  | some o =>
    if o.opcode != 0x31 || o.phase != .started || !s.atBoundary
        || decide (s.now < o.startAt + 100 * psPerUs) then s else
    let kind := o.arg1 0 8
    let l := s.reclaimed c kind (o.arg1 16 9)
    let s := l.foldl (fun s p => s.takeBack kind p.1) s
    let s := if o.buf = 0 then s else s.writeBytes o.buf (l.flatMap (reclaimEntry kind))
    s.finish o codeDone 0 l.length

def execReclaimRelease (t : Nat) (c : Fin 4096) (tag : Nat) (s : State) :
    Host.Outcome State Fault Refusal :=
  .next (opReclaimRelease c.val tag (s.tick t))

/-! ### DMA_COPY (R269) -/

/-- Store bytes in a tile's bricks; words written are no longer poisoned (R58). -/
def State.brickWrite (s : State) (t a : Nat) (bs : List Byte) : State :=
  let s := { s with mor := { s.mor with
    bricks := bs.zipIdx.foldl (fun (m : Sparse Byte) (p : Byte × Nat) => spSet m (2 ^ 21 * t + a + p.2) p.1)
      s.mor.bricks } }
  (List.range (bs.length / 16)).foldl (fun s i => s.unpoison t (a / 16 + i)) s

def State.brickRead (s : State) (t a n : Nat) : List Byte :=
  (List.range n).map (fun i => spGet s.mor.bricks (2 ^ 21 * t + a + i))

/-- Errors met in a read of n brick words of a tile from word w on: those of words poisoned before, and the
new ones among `errs` (R58). -/
def State.brickReport (s : State) (t w n : Nat) (errs : List BrickError) : State :=
  let ws := (List.range n).map (w + ·)
  let new := errs.filter (fun e => e.tile == t && ws.contains e.word && !s.poisoned t e.word)
  (s.rereads t ws).eccErrors new

/-- The copy is made at the start; it completes when OPERATION_COMPLETE says so. `errs` are the uncorrectable
errors that a brick read meets. -/
def opDmaCopy (ecc : Bool) (errs : List BrickError) (s : State) (o : Op) : State :=
  let t := o.arg1 16 7
  let k := o.arg1 32 9
  let n := o.arg1 48 16
  if s.chanOwner (o.arg1 0 6) ≠ o.ctx + 1 ∨ s.segOwner t k ≠ o.ctx + 1 then s.finish o codeFaultAccess 1 0
  else if ecc then s.finish o codeFaultAccess 2 0
  else
    let s := if o.arg1 6 1 = 0 then s.brickWrite t (4096 * k) (s.readBytes o.buf n)
      else
        let s := s.brickReport t (256 * k) (n / 16) errs
        s.writeBytes o.buf (s.brickRead t (4096 * k) n)
    s.modifyOp o.ctx o.tag (fun x => { x with ready := true, code := codeDone, detail := 0, result := 0 })

def execDmaCopy (t : Nat) (c : Fin 4096) (tag : Nat) (ecc : DmaErrors) (s : State) :
    Host.Outcome State Fault Refusal :=
  .next ((s.tick t).beginOp c.val tag 0x34 (opDmaCopy ecc.dram ecc.bricks))

end Sys2Proof.Machine
end

