-- ==== Sys2Proof/Machine/Ctx.lean ====
section
/-!
DEFINITION. Machine/Ctx.lean: contexts, doorbells, the reading of descriptors, and the commands that any
operation meets: NOP, CANCEL, completion and deadline (R219 to R242, R253, R257).
-/

namespace Sys2Proof.Machine

/-! ### CTX_ENABLE, CTX_DISABLE, CONTEXT_DRAINED (R221, R222, R257) -/

/-- The modes of R220. -/
def Mode.rings (m : Mode) : Bool := m == .boot || m == .compat || m.runsLoops

def State.sqBase (s : State) (c : Nat) : Nat := s.fld (F.CTX_RING_BASE_ADDR c) * 4096
def State.cqBase (s : State) (c : Nat) : Nat := s.fld (F.CTX_CPL_BASE_ADDR c) * 4096

/-- The first condition of R221 that an ENABLE of context c fails; 0 when it is accepted. -/
def State.enableReason (s : State) (c : Nat) : Nat :=
  let a := s.sqBase c
  let b := s.cqBase c
  let na := 64 * s.sqSize c
  let nb := 16 * s.cqSize c
  let sq := s.fld (F.CTX_CFG_SQ_LOG2 c)
  let cq := s.fld (F.CTX_CFG_CQ_LOG2 c)
  if !inDram a na || !inDram b nb then 1
  else if decide (sq < 4) || decide (12 < sq) || decide (cq < 4) || decide (14 < cq) then 2
  else if decide (a < b + nb) && decide (b < a + na) then 3
  else if s.ctxState c ≠ 0 then 4
  else if !s.mode.rings then 5
  else if decide (s.ctxClass c < 3) &&
      (s.quota c 0 == 0 || decide (64 < s.keptByOthers c + s.quota c 0)) then 6
  else 0

def opCtxEnable (c : Nat) (s : State) : State :=
  let r := s.enableReason c
  if r ≠ 0 then (s.setFlag (F.CTX_STAT_REFUSED c) true).setFld (F.CTX_STAT_REASON c) r
  else
    let s := s.setCtx c { (default : CtxSt) with
      cnt := s.fld (F.CTX_COAL_CNT c), timeUs := s.fld (F.CTX_COAL_TIME_US c) }
    let s := (s.setFld (F.CTX_STAT_STATE c) 1).setFld (F.CTX_STAT_INFLIGHT c) 0
    (s.setFlag (F.CTX_STAT_REFUSED c) false).setFld (F.CTX_STAT_REASON c) 0

def execCtxEnable (t : Nat) (c : Fin 4096) (s : State) : Host.Outcome State Fault Refusal :=
  .next (opCtxEnable c.val (s.tick t))

def opCtxDisable (c : Nat) (s : State) : State :=
  if s.ctxState c ≠ 1 ∧ s.ctxState c ≠ 2 then s else
  let s := s.setFld (F.CTX_STAT_STATE c) 3
  (s.host.ops.filter (fun o => o.ctx == c && o.phase != .started)).foldl
    (fun s o => s.withdraw o codeCancelledReset 0) s

def execCtxDisable (t : Nat) (c : Fin 4096) (s : State) : Host.Outcome State Fault Refusal :=
  .next (opCtxDisable c.val (s.tick t))

/-- A DRAINING context with nothing in flight becomes OFF and releases its line. -/
def opCtxDrained (c : Nat) (s : State) : State :=
  if s.ctxState c ≠ 3 ∨ s.inflight c ≠ 0 then s
  else ((s.setFld (F.CTX_STAT_STATE c) 0).updateLine c).raise 38 c

def execContextDrained (t : Nat) (c : Fin 4096) (s : State) : Host.Outcome State Fault Refusal :=
  .next (opCtxDrained c.val (s.tick t))

/-! ### CTX_CONFIG_WRITE (R223) -/

def ctxRegOff (r : CtxReg) (c : Nat) : Nat :=
  match r with
  | .ringBase => R.CTX_RING_BASE c
  | .cplBase => R.CTX_CPL_BASE c
  | .cfg => R.CTX_CFG c
  | .dline => R.CTX_DLINE c
  | .coal => R.CTX_COAL c

def opCtxConfig (c : Nat) (r : CtxReg) (v : Word) (s : State) : State :=
  if r = .coal ∨ s.ctxState c = 0 then s.plainWrite (ctxRegOff r c) v
  else s.setFlag (F.CTX_STAT_CFGREJ c) true

def execCtxConfigWrite (t : Nat) (c : Fin 4096) (r : CtxReg) (v : Word) (s : State) :
    Host.Outcome State Fault Refusal :=
  .next (opCtxConfig c.val r v (s.tick t))

/-! ### Doorbells (R229) -/

/-- A doorbell write that fails its test (R229). -/
def State.doorbellError (s : State) (c : Nat) : State :=
  (s.setFlag (F.CTX_STAT_DBERR c) true).raiseOnce 32 c c

/-- A write to DB_SQ_TAIL. -/
def opSqTail (c : Nat) (v : Word) (s : State) : State :=
  let x := s.ctxSt c
  if s.ctxState c ≠ 1 ∧ s.ctxState c ≠ 2 then s
  else if s.sqSize c < sub16 v.toNat x.sqHead then s.doorbellError c
  else s.setCtx c { x with sqTail := v.toNat % 65536 }

/-- What host software wrote to module DRAM before the doorbell goes with it (R227; log entry 9). -/
def execDbSqTail (t : Nat) (c : Fin 4096) (v : Word) (stores : List (Nat × Byte)) (s : State) :
    Host.Outcome State Fault Refusal :=
  let s := s.tick t
  .next (opSqTail c.val v { s with dram := stores.foldl (fun m p => dramPut m p.1 p.2) s.dram })

/-- A write to DB_CQ_HEAD returns completion slots and may release the line (R242). -/
def opCqHead (c : Nat) (v : Word) (s : State) : State :=
  let x := s.ctxSt c
  let stand := sub16 x.cqTail x.cqHead
  let left := sub16 x.cqTail v.toNat
  if s.ctxState c ≠ 1 ∧ s.ctxState c ≠ 2 then s
  else if stand < left then s.doorbellError c
  else (s.setCtx c { x with cqHead := v.toNat % 65536, recs := x.recs.drop (stand - left) }).updateLine c

def execDbCqHead (t : Nat) (c : Fin 4096) (v : Word) (s : State) : Host.Outcome State Fault Refusal :=
  .next (opCqHead c.val v (s.tick t))

/-- An unconsumed record has stood for TIME_US (R242). -/
def execIrqCoalesceTimer (t : Nat) (c : Fin 4096) (s : State) : Host.Outcome State Fault Refusal :=
  .next ((s.tick t).updateLine c.val)

/-! ### DESCRIPTOR_READ (R225, R230, R233, R234, R241, R262) -/

/-- Entries that contexts of class 3 to 7 hold together (R233). -/
def State.sharedInflight (s : State) : Nat := (s.host.ops.filter (fun o => decide (3 ≤ o.cls))).length

/-- Is an in-flight entry free for a class (R233)? -/
def State.entryFree (s : State) (cls : Nat) : Bool :=
  decide (s.host.ops.length < 1024) && (decide (cls < 3) || decide (s.sharedInflight < 960))

/-- Can the descriptor at SQ_HEAD of context c be read now (R225, R262)? -/
def State.readable (s : State) (c : Nat) : Bool :=
  let x := s.ctxSt c
  s.ctxState c == 1 && x.sqTail != x.sqHead && decide (s.inflight c < s.quota c 0)
    && decide (1 ≤ s.freeSlots c) && s.entryFree (s.ctxClass c)

/-- The context whose descriptor is read next: of the lowest class, round robin by number (R230). -/
def State.nextRead (s : State) : Option Nat :=
  let cs := s.liveCtxs.filter s.readable
  match (cs.map s.ctxClass).min? with
  | none => none
  | some k =>
    let mine := cs.filter (fun c => s.ctxClass c == k)
    let last := spGet s.host.lastRead k
    match mine.find? (fun c => decide (last ≤ c)) with
    | some c => some c
    | none => mine.head?

/-- The operation of the descriptor at `a`: its deadline is DLINE_US, or CTX_DLINE, after now (R231). -/
def State.opAt (s : State) (c a : Nat) : Op :=
  let o : Op := { (default : Op) with
    ctx := c, cls := s.ctxClass c, w0 := s.readFlit a, w1 := s.readFlit (a + 16)
    w2 := s.readFlit (a + 32), w3 := s.readFlit (a + 48), readAt := s.now }
  { o with deadline := s.now + (if o.dline = 0 then s.fld (F.CTX_DLINE_US c) else o.dline) * psPerUs }

/-- An unreadable descriptor halts its context (R241). -/
def State.haltCtx (s : State) (c : Nat) : State :=
  let s := s.setFld (F.CTX_STAT_STATE c) 2
  let s := s.writeRecord c (recordBody 0xFFFF codeFaultAccess 0 2 0 s.modUs 0) false
  s.raise 33 c

/-- A descriptor that has been read takes its entry, or completes with its fault: a TAG in flight
already (R234), or an opcode that no chapter defines (R236). -/
def State.enterOp (s : State) (o : Op) : State :=
  if (s.findOp o.ctx o.tag).isSome then
    let d := ((firstFault (o.faults ++ [(0, 16, 4)])).getD (faultDetail 0 16 4))
    s.writeRecord o.ctx (recordBody o.tag codeFaultDescriptor o.opcode d 0 s.modUs 0) o.irq
  else
    let s := (s.setOps (s.host.ops ++ [o])).showInflight o.ctx
    if (opcodeBits o.opcode).isNone then s.finish o codeFaultDescriptor (faultDetail 0 0 1) 0 else s

def opDescriptorRead (c : Nat) (ecc : Bool) (s : State) : State :=
  if !s.servesRings || s.nextRead != some c then s else
  let x := s.ctxSt c
  let a := s.sqBase c + 64 * (x.sqHead % s.sqSize c)
  let k := s.ctxClass c
  let s := s.setCtx c { x with sqHead := (x.sqHead + 1) % 65536 }
  let s := { s with host := { s.host with lastRead := spSet s.host.lastRead k (c + 1) } }
  if ecc then s.haltCtx c else s.enterOp (s.opAt c a)

def execDescriptorRead (t : Nat) (c : Fin 4096) (ecc : Bool) (s : State) :
    Host.Outcome State Fault Refusal :=
  .next (opDescriptorRead c.val ecc (s.tick t))

/-! ### NOP and CANCEL (R235, R237) -/

def opNop (s : State) (o : Op) : State := s.finish o codeDone 0 0

def execNop (t : Nat) (c : Fin 4096) (tag : Nat) (s : State) : Host.Outcome State Fault Refusal :=
  .next ((s.tick t).beginOp c.val tag 0x00 opNop)

/-- Cancel the target when it has not started. -/
def opCancelTarget (s : State) (o : Op) : State :=
  match s.findOp o.ctx (o.arg1 0 16) with
  | none => s.finish o codeDone 0 0
  | some x =>
    if x.phase = .started ∨ x.tag = o.tag then s.finish o codeDone 0 0
    else (s.withdraw x codeCancelledHost o.tag).finish o codeDone 0 1

/-- A CANCEL acts when it is read, ahead of the operations that hold its context back; with FENCE it
waits like any other operation (R235). -/
def opCancel (c tag : Nat) (s : State) : State :=
  match s.findOp c tag with
  | none => s
  | some o =>
    if o.opcode != 0x01 || o.fence then s.beginOp c tag 0x01 opCancelTarget
    else if o.phase != .queued || !s.servesRings then s
    else match s.formFault o with
      | some d => (s.startOp o).finish o codeFaultDescriptor d 0
      | none => opCancelTarget (s.startOp o) o

def execCancel (t : Nat) (c : Fin 4096) (tag : Nat) (s : State) : Host.Outcome State Fault Refusal :=
  .next (opCancel c.val tag (s.tick t))

/-! ### OPERATION_COMPLETE and OPERATION_DEADLINE (R239, R253, R273) -/

/-- A started operation whose outcome is known completes once DRAM has served its tokens (R259); a channel that a RECLAIM ends with its transfer
is freed (R267). -/
def opComplete (c tag : Nat) (s : State) : State :=
  match s.findOp c tag with
  | none => s
  | some o =>
    if o.phase != .started || !o.ready || decide (s.now < o.tokensAt) then s else
    let s := s.finish o o.code o.detail o.result
    let k := o.arg1 0 6
    if o.opcode == 0x34 && s.qos.ending.contains k && !s.transferOn k then s.freeHolding 4 0 k else s

def execOperationComplete (t : Nat) (c : Fin 4096) (tag : Nat) (s : State) :
    Host.Outcome State Fault Refusal :=
  .next (opComplete c.val tag (s.tick t))

/-- At its deadline an operation of class 3 to 7 that has not started is refused: by the kind it waited
for, or kind 19 behind an earlier operation. A grant that is possible in that µs wins (R277). -/
def opDeadline (c tag : Nat) (s : State) : State :=
  match s.findOp c tag with
  | none => s
  | some o =>
    if o.phase = .started ∨ o.cls < 3 ∨ s.now < o.deadline then s
    else if o.phase ≠ .waiting then s.withdraw o codeRefusedCapacity 19
    else match s.qos.waits.find? (fun w => w.ctx == c && w.tag == tag) with
      | some w =>
        if !s.waitOver o && s.isFree w && s.firstWaiter w == some w then s.grantWait o w
        else s.withdraw o codeRefusedCapacity w.kind
      | none => s

def execOperationDeadline (t : Nat) (c : Fin 4096) (tag : Nat) (s : State) :
    Host.Outcome State Fault Refusal :=
  .next (opDeadline c.val tag (s.tick t))

end Sys2Proof.Machine
end

