-- ==== Sys2Proof/Machine/Tally.lean ====
section
/-!
DEFINITION. Machine/Tally.lean: tally boundaries (R245, R246) and RESYNC summaries (R247, R248).
-/

namespace Sys2Proof.Machine

/-! ### TALLY_BOUNDARY -/

/-- The fields that latch a period counter at a tally boundary, each by its first entry (R245). -/
def tallyFields : List Fld :=
  [F.FUS_YIELD_STAT_DROP, F.TIL_STAT_CORR 0, F.FUS_NET_STAT_GAPS 0, F.FUS_NET_STAT_ABANDONED 0,
   F.FUS_NET_STAT_LATEFRM 0, F.FUS_NET_STAT_RESETS 0, F.FUS_OUT_STAT_DROP, F.CAM_ST_STAT_DROP,
   F.CAM_PORT_CNT_DAMAGED 0, F.CAM_PORT_CNT_DROPPED 0, F.CAM_PORT_CNT_FOREIGN 0, F.CAM_PORT_CNT_ORPHAN 0,
   F.GNS_NAV_CNT_FAILED, F.GNS_NAV_CNT_PASSED, F.GNS_RING_STAT_DROP, F.CTX_TALLY_CPL 0,
   F.CTX_TALLY_REFUSED 0, F.CTX_TALLY_EVLOST 0, F.QOS_TALLY_DLY_DELAYMAX 0, F.QOS_TALLY_CNT_LATE 0,
   F.QOS_TALLY_CNT_REFUSED 0, F.QOS_WAIT_STAT_CYCLES]
  ++ [F.OX_GLB_TALLY_PULLINS, F.OX_GLB_TALLY_DLYMAX, F.OX_CH_DLY_MAX 0, F.OX_CH_MON_PULLINS 0,
   F.MUL_GLB_TALLY_TSD, F.MUL_GLB_TALLY_ILIM, F.MUL_CH_TALLY_ILIMCNT 0, F.MUL_CH_TALLY_SWON 0,
   F.MUL_CH_TALLY_TSDCNT 0, F.GOO_DIAG_ECCCORR, F.GOO_DIAG_STESTN, F.CAN_TALLY_RX 0, F.CAN_TALLY_TX 0,
   F.MBX_GLB_STAT_EPISODES, F.HEN_TALLY_DISC, F.HEN_TALLY_LOSTQ, F.HEN_TALLY_QMAX, F.HEN_TALLY_EXPDROP,
   F.PWR_TALLY_LOWEP, F.PWR_TALLY_CRANKEP, F.PWR_TALLY_CRANKMAX, F.CMP_TALLY_WDRST, F.CMP_TALLY_UNEMU,
   F.FLT_BIND_STAT_CHIGN, F.FLT_FLEET_STAT_DROP, F.FLT_ETH_CNT_RXDROP 0, F.FLT_ETH_CNT_FCSERR 0,
   F.FLT_ETH_CNT_TXERR 0, F.DSP_STAT_UNDER]

/-- The latching fields of the register at an offset. -/
def tallyFieldsAt (off : Nat) : List Fld :=
  match findReg off with
  | none => []
  | some r => tallyFields.filter (fun f => f.off == r.base)

/-- A register with its latching fields at zero. -/
def clearTallies (off : Nat) (w : Word) : Word :=
  (tallyFieldsAt off).foldl (fun w f => setBits w f.lo f.width 0) w

/-- Step 1 of R245: every block latches its period counters and restarts them. -/
def State.latchTallies (s : State) : State :=
  let s := s.regs.foldl (fun s p => s.setReg p.1 (clearTallies p.1 p.2)) s
  let s := s.host.tally.foldl (fun s p =>
    match (tallyFieldsAt (p.1 / 32)).find? (fun f => f.lo == p.1 % 32) with
    | some f => s.setFld ⟨p.1 / 32, f.lo, f.width⟩ p.2
    | none => s) s
  { s with
    host := { s.host with tally := [], once := [] }
    cen := { s.cen with slot := s.cen.slot.map (fun p => (p.1, p.2.map (fun x =>
      { x with
        word98 := place (x.live.getD 0 0) 0 16 + place (x.live.getD 1 0) 16 16 + place (x.live.getD 2 0) 32 16
          + place (x.live.getD 3 0) 48 16 + place (x.live.getD 4 0) 64 32
        live := [0, 0, 0, 0, 0] }))) } }

/-- A tally boundary: the pending RECLAIMs release (R277), the Hen's open record closes, the counters latch, SEQ advances, SHORT shows a
period shorter than PERIOD_MS, and event 39 is raised. The next boundary is the next whole multiple of
the period now set (R245, R246, R386). -/
def opTallyBoundary (s : State) : State :=
  let b := s.nextBoundary
  if !s.hubRuns || b == 0 || decide (s.modTime < b * psPerMs) then s else
  let s := s.host.ops.foldl (fun s o => opReclaimRelease o.ctx o.tag s) s
  let last := s.host.tallyLast
  let period := s.host.tallyPeriod
  let s := s.henClose.latchTallies
  let s := s.setFld F.GOO_DIAG_STESTN (satBits 16 (b / 1000 - last / 1000))
  let seq := (s.fld F.GLB_TALLY_SEQ_SEQ + 1) % 2 ^ 31
  let s := (s.setFld F.GLB_TALLY_SEQ_SEQ seq).setFlag F.GLB_TALLY_SEQ_SHORT (decide (b - last < period))
  let p := max 1 (s.fld F.GLB_TALLY_CFG_PERIOD_MS)
  let s := { s with host := { s.host with tallyLast := b, tallyNext := (b / p + 1) * p, tallyPeriod := p } }
  s.raise 39 seq

def execTallyBoundary (t : Nat) (s : State) : Host.Outcome State Fault Refusal :=
  .next (opTallyBoundary (s.tick t))

/-! ### GLB_RESYNC_REQUEST -/

/-- GLB_MODE as it reads (R460): MODE, PREV and SAFESTOP. -/
def State.glbMode (s : State) : Nat :=
  s.mode.code + place (boolNat s.safeStop) 3 1 + place s.prevMode.code 4 3

/-- The sum of one value for each index below n, each in `w` bits at `w` times the index. -/
def packed (n w : Nat) (f : Nat → Nat) : Nat := ((List.range n).map (fun i => place (f i) (w * i) w)).sum

/-- Word i of the summary of context c (R248), but for its CRC. -/
def State.summaryWord (s : State) (c seq i : Nat) : Nat :=
  let x := s.ctxSt c
  if i = 0 then place seq 0 32 + place 4096 32 32 + place s.modNs 64 64
  else if i = 1 then place (s.glbMode % 16) 0 4 + place (s.fld F.MOR_EPOCH_EPOCH) 32 32
    + place (s.pair F.MOR_ROOT_LO_DIG F.MOR_ROOT_HI_DIG) 64 64
  else if i = 2 then place (s.reg R.MOR_ACT_STAT).toNat 0 32 + place (s.reg R.GOO_STAT).toNat 32 32
    + place (s.reg R.MOR_SWEEP_STAT).toNat 64 32 + place (s.reg R.MOR_STG_EPOCH).toNat 96 32
  else if i = 3 then
    place (((s.cen.slot.map (fun p => p.1)).filter (fun g => s.lstate g == 2)).length) 0 14
      + place (((List.range 128).filter (fun t => s.flag (F.TIL_STAT_ECCFAIL t))).length) 14 8
      + place (s.reg R.GLB_STATUS).toNat 32 32 + place (s.reg R.FUS_TB_STAT).toNat 64 32
      + place (s.reg R.GLB_TALLY_SEQ).toNat 96 32
  else if i = 4 ∨ i = 5 then packed 4 32 (fun j => (s.reg (R.GLB_EVT_PEND (4 * (i - 4) + j))).toNat)
  else if i = 6 then place c 0 12 + place (s.ctxState c) 12 2 + place (s.ctxClass c) 14 3
    + place (boolNat (s.overAny c)) 17 1 + place (s.reg (R.CTX_RING_BASE c)).toNat 32 32
    + place (s.reg (R.CTX_CPL_BASE c)).toNat 64 32 + place (s.reg (R.CTX_CFG c)).toNat 96 32
  else if i = 7 then place x.sqTail 0 16 + place x.sqHead 16 16 + place x.cqTail 32 16 + place x.cqHead 48 16
    + place (s.inflight c) 64 11 + place s.host.ops.length 96 11
  else if i < 16 then packed 2 64 (fun j =>
    place (s.quota c (2 * (i - 8) + j)) 0 32 + place (s.use c (2 * (i - 8) + j)) 32 32)
  else if i < 144 then
    let tags := (s.host.ops.filter (fun o => o.ctx == c)).map Op.tag
    packed 8 16 (fun j => tags.getD (8 * (i - 16) + j) 0)
  else if i < 208 then packed 64 2 (fun j => s.ctxState (64 * (i - 144) + j))
  else if i < 240 then packed 128 1 (fun j => boolNat (s.overAny (128 * (i - 208) + j)))
  else 0

/-- The 4 KiB of a summary, with the CRC of R51 over bytes 0 to 4,091. -/
def State.summaryBytes (s : State) (c seq : Nat) : List Byte :=
  let body := ((List.range 256).flatMap (fun i => leBytes 16 (s.summaryWord c seq i))).take 4092
  body ++ leBytes 4 (crc32 body)

/-- A write to GLB_RESYNC_CTL with REQ = 1: the summary is taken now. -/
def opResync (v : Word) (s : State) : State :=
  let s := s.plainWrite R.GLB_RESYNC_CTL v
  let a := s.pair F.GLB_RESYNC_ADDR_LO_ADDR F.GLB_RESYNC_ADDR_HI_ADDR
  if s.flag F.GLB_RESYNC_STAT_BUSY || !inDram a 4096 then s.setFlag F.GLB_RESYNC_STAT_REJ true
  else
    let seq := (s.host.summarySeq + 1) % 2 ^ 32
    let bytes := s.summaryBytes (s.fld F.GLB_RESYNC_CTL_CTX) seq
    let s := { s with host := { s.host with summary := bytes, summaryAddr := a, summarySeq := seq } }
    s.setFlag F.GLB_RESYNC_STAT_BUSY true

def execGlbResyncRequest (t : Nat) (v : Word) (s : State) : Host.Outcome State Fault Refusal :=
  .next (opResync v (s.tick t))

/-- The summary is written; DONE and SEQ name it, and event 36 is raised. -/
def opResyncWritten (s : State) : State :=
  if !s.flag F.GLB_RESYNC_STAT_BUSY then s else
  let seq := s.host.summarySeq
  let s := s.writeBytes s.host.summaryAddr s.host.summary
  let s := { s with host := { s.host with summary := [] } }
  let s := (s.raise 36 seq).setFlag F.GLB_RESYNC_STAT_BUSY false
  (s.setFlag F.GLB_RESYNC_STAT_DONE true).setFld F.GLB_RESYNC_STAT_SEQ seq

def execResyncSummaryWritten (t : Nat) (s : State) : Host.Outcome State Fault Refusal :=
  .next (opResyncWritten (s.tick t))

end Sys2Proof.Machine
end

