-- ==== Sys2Proof/Machine/Epoch.lean ====
section
/-!
DEFINITION. Machine/Epoch.lean: digest sweeps (R80 to R82), configuration descriptors (R238), the arm of
a staged set and its activation (R83 to R86).
-/

namespace Sys2Proof.Machine

/-! ### DIGEST_SWEEP_START, DIGEST_SWEEP_PUBLISH, SWEEP_OVERRUN (R80 to R82) -/

/-- A unit in the layout of MOR_DIG_STAT bits [12:0]. -/
def unitCode (u : Nat) : Nat :=
  if u < 640 then
    let t := u / 5
    t / 32 + 8 * (t % 32 / 8) + 32 * (t % 8) + 256 * (u % 5)
  else 4 + 256 * (u - 640 + 4)

/-- A sweep that has not published 100 ms after its start is late, and abandoned. -/
def opSweepOverrun (s : State) : State :=
  match s.mor.sweepAt with
  | none => s
  | some a =>
    if s.modTime < (a + 100) * psPerMs then s else
    let s := { s with mor := { s.mor with sweepAt := none } }
    (s.setFlag F.MOR_SWEEP_STAT_STALE true).raise 51 ((s.fld F.MOR_SWEEP_STAT_SEQ + 1) % 65536)

def execSweepOverrun (t : Nat) (s : State) : Host.Outcome State Fault Refusal :=
  .next (opSweepOverrun (s.tick t))

/-- A sweep begins at every whole 100 ms of module time. -/
def opSweepStart (s : State) : State :=
  if !s.hubRuns || !s.atWhole (100 * psPerMs) then s else
  let s := opSweepOverrun s
  { s with mor := { s.mor with sweepAt := some s.modMs } }

def execDigestSweepStart (t : Nat) (s : State) : Host.Outcome State Fault Refusal :=
  .next (opSweepStart (s.tick t))

/-- A unit's mismatch (R81): an event and an Error record when its episode begins, and MOR_DIG_STAT while
it is free. -/
def State.mismatch (s : State) (u : Nat) : State :=
  let s := if s.flag F.MOR_DIG_STAT_VALID then s else s.setReg R.MOR_DIG_STAT (BitVec.ofNat 32 (unitCode u + 2 ^ 31))
  if s.mor.mismatched.contains u then s
  else (s.raise 48 (unitCode u)).henMake sevError 48 (unitCode u)

/-- What the sweep leaves in the tiles' registers and the node digests. -/
def State.publishTree (s : State) (f : Nat → Nat) (e : Nat) : State :=
  let s := (List.range 128).foldl (fun s t =>
    let d := tileDigest f e t
    ((s.setReg (R.TIL_EPOCH t) (BitVec.ofNat 32 e)).setReg (R.TIL_DIG_LO t) (BitVec.ofNat 32 d)).setReg
      (R.TIL_DIG_HI t) (BitVec.ofNat 32 (d / 2 ^ 32))) s
  let nodes := (List.range 20).map (fun n => (n, if n < 16 then courseDigest f e n else slabDigest f e (n - 16)))
  { s with mor := { s.mor with
    nodeDigest := nodes.foldl (fun (m : Sparse Nat) (p : Nat × Nat) => spSet m p.1 p.2) [], nodeEpoch := e } }

/-- The root is published; `ecc` are errors met in reads of words not yet poisoned, `upsets` the stored bits that differ from
what the paths of R79 wrote: (unit, byte offset, flipped bits) (log entry 4). -/
def opSweepPublish (ecc : List BrickError) (upsets : List (Nat × Nat × Nat)) (s : State) : State :=
  match s.mor.sweepAt with
  | none => s
  | some a =>
    if (a + 100) * psPerMs ≤ s.modTime then s else
    let s := (s.mor.poison.filter (fun p => decide (15 * 8192 ≤ p.1 % 131072) && decide (p.1 % 128 < 16))).foldl
      (fun (s : State) (p : Nat × Nat) => s.rereads (p.1 / 131072) [p.1 % 131072]) s
    let s := { s.eccErrors ecc with mor := { (s.eccErrors ecc).mor with sweepAt := none, upsets := upsets } }
    let e := s.fld F.MOR_EPOCH_EPOCH
    let ds := (List.range 661).map s.sweepDigest
    let f := fun u => ds.getD u 0
    let bad := (List.range 661).filter (fun u => f u != s.refDigest u)
    let s := bad.foldl (fun s u => s.mismatch u) s
    let s := s.setFlag F.MOR_SWEEP_STAT_MISMATCH (!bad.isEmpty)
    let s := { s with mor := { s.mor with mismatched := bad }, flt := { s.flt with digestDue := true } }
    let s := (s.publishTree f e).setPair F.MOR_ROOT_LO_DIG F.MOR_ROOT_HI_DIG (rootDigest f e)
    (s.setFld F.MOR_SWEEP_STAT_SEQ (s.fld F.MOR_SWEEP_STAT_SEQ + 1)).setFlag F.MOR_SWEEP_STAT_STALE false

def execDigestSweepPublish (t : Nat) (ecc : List BrickError) (upsets : List (Nat × Nat × Nat)) (s : State) :
    Host.Outcome State Fault Refusal :=
  .next (opSweepPublish ecc upsets (s.tick t))

/-! ### Images as written (R77, R238) -/

/-- Segment holders that an image of tile unit 3 gives: 0 free, else the context plus 1. -/
def imageHolder (img : List Byte) (k : Nat) : Nat :=
  let v := leNat ((img.drop (2 * k)).take 2)
  if v.testBit 15 then v % 4096 + 1 else 0

/-- Take the allocation map of tile t from an image; a segment whose holder changes is granted now. -/
def State.putSegImage (s : State) (t : Nat) (img : List Byte) : State :=
  let s := (List.range 448).foldl (fun s k =>
    let h := imageHolder img k
    if h = s.segOwner t k then s
    else { s with qos := { s.qos with
      segs := spSet s.qos.segs (448 * t + k) (if h = 0 then ⟨0, 0⟩ else ⟨h, s.modNs⟩) } }) s
  s.showSegs t

/-- The route entries of an image of tile unit 4: one for every 16 bytes that are not all zero. -/
def imageRoutes (img : List Byte) : List (Nat × RouteEntry) :=
  (List.range 256).filterMap (fun i =>
    let b := (img.drop (16 * i)).take 16
    if leNat b = 0 then none
    else some (leNat (b.take 2) % 4096, RouteEntry.clean
      ⟨BitVec.ofNat 32 (leNat ((b.drop 4).take 4)), BitVec.ofNat 32 (leNat ((b.drop 8).take 4))⟩))

/-- The entries that an image of tile unit 4 changes, against the entries `cur`: those it gives, and, for
a route of the tile that it leaves out, the entry of reset. -/
def routeChanges (cur : List (Nat × RouteEntry)) (t : Nat) (img : List Byte) : List (Nat × RouteEntry) :=
  let new := imageRoutes img
  let was := fun r => match cur.find? (fun p => p.1 == r) with | some p => p.2 | none => RouteEntry.initial
  new.filter (fun p => was p.1 != p.2)
    ++ (cur.filter (fun p => p.2.src == t && !new.any (fun q => q.1 == p.1))).map (fun p => (p.1, RouteEntry.initial))

/-- Write a register's RWL fields as a register write does: a locked block keeps them (R275). -/
def State.putRwl (s : State) (off : Nat) (v : Word) : State :=
  let m := rwlMask off
  let w := (s.reg off &&& ~~~ m) ||| (v &&& m)
  if m = 0 ∨ w = s.reg off then s
  else if s.locked (blockOf off) then s.violate off false
  else if R.GOO_IN_CFG 0 ≤ off ∧ off < R.GOO_IN_CFG 16 then opGooInCfgWrite ((off - R.GOO_IN_CFG 0) / 4) w s
  else if R.GOO_OUT_CFG 0 ≤ off ∧ off < R.GOO_OUT_CFG 8 then opGooOutCfgWrite ((off - R.GOO_OUT_CFG 0) / 4) w s
  else if R.FLT_MEM_CFG 1 ≤ off ∧ off ≤ R.FLT_MEM_CFG 31 ∧ off % 32 = 0 then
    s.setReg off (s.memCfgWord ((off - R.FLT_MEM_CFG 0) / 32) w)
  else s.setReg off w

/-- The offset of the first register whose RWL fields an image of hub block b changes. -/
def State.rwlChange (s : State) (b : Nat) (img : List Byte) : Option Nat :=
  ((List.range (blockSize b / 4)).map (fun i => blockBase b + 4 * i)).find? (fun off =>
    let m := rwlMask off
    m != 0 && (BitVec.ofNat 32 (leNat ((img.drop (off - blockBase b)).take 4)) &&& m) != (s.reg off &&& m))

/-- Take the image of hub block b: its RWL fields and, for FUS, the calibration base values. -/
def State.putHubImage (s : State) (b : Nat) (img : List Byte) : State :=
  let s := (List.range (blockSize b / 4)).foldl (fun s i =>
    let off := blockBase b + 4 * i
    if rwlMask off = 0 then s else s.putRwl off (BitVec.ofNat 32 (leNat ((img.drop (4 * i)).take 4)))) s
  if b = 11 then
    { s with fus := { s.fus with calBase := (List.range 256).foldl (fun (m : Sparse Nat) (p : Nat) =>
      if calListed p then spSet m p (leNat ((img.drop (blockSize 11 + 4 * p)).take 4)) else m) s.fus.calBase } }
  else s

/-- Word w of slot k of an image of tile unit 2. -/
def imageRecWord (img : List Byte) (k w : Nat) : Nat := leNat ((img.drop (256 * k + 16 * w)).take 16)

/-- Take the image of a unit other than 4. -/
def State.putImage (s : State) (u : Nat) (img : List Byte) : State :=
  if u < 640 then
    let t := u / 5
    match u % 5 with
    | 2 => (List.range 64).foldl (fun s k => (List.range 16).foldl (fun s w =>
        (s.setRecWord (64 * t + k) w (imageRecWord img k w)).unpoison t (recBrick (64 * t + k) w)) s) s
    | 3 => s.putSegImage t img
    | 4 => s
    | _ => { s with mor := { s.mor with images := spSet s.mor.images u img } }
  else s.putHubImage (u - 640) img

/-- Give route r entry e, placed on its links (R60): at once, or, when `wait` says so and a frame bounds the
route, at its next frame boundary (R86). An entry that waits already is replaced. -/
def State.putRoute (s : State) (wait : Bool) (r : Nat) (e : RouteEntry) : State :=
  let s := s.setRoute r { s.route r with next := none, nextLinks := [] }
  let x := s.route r
  if x.active = e then s else
  let links := if e.en || e.reserves then placeEntry (s.linkLoads (if x.active.bound then some r else none)) e else []
  if wait && !(if x.active.en then x.active.bound else e.bound) then
    s.setRoute r { x with next := some e, nextLinks := links }
  else s.switchRoute r e links

def State.putRoutes (s : State) (wait : Bool) (es : List (Nat × RouteEntry)) : State :=
  es.foldl (fun s p => s.putRoute wait p.1 p.2) s

/-- Are changed entries admitted under R68, one after another, by the rule of R72: on top of what every route
occupies, the old reservation of a sample route that changes left out? -/
def State.entriesFit (s : State) (es : List (Nat × RouteEntry)) : Bool :=
  admitsAll (s.routeList.flatMap (fun p =>
    if es.any (fun q => q.1 == p.1) then routeLoad p.2.active.bound { p.2 with pend := false, next := none }
    else routeLoad false p.2)) (es.map (fun p => p.2))

/-- Does some tile source more than 256 of these routes (R77)? -/
def tileCrowded (es : List (Nat × RouteEntry)) : Bool :=
  (List.range 128).any (fun t => decide (256 < (es.filter (fun p => p.2.src == t)).length))

/-- Entries with changed ones in their place. -/
def overlay (cur es : List (Nat × RouteEntry)) : List (Nat × RouteEntry) :=
  cur.filter (fun p => !es.any (fun q => q.1 == p.1)) ++ es

/-! ### CFG_WRITE, CFG_READ, STAGE_DISCARD (R238) -/

/-- Bytes of an image replaced from an offset on. -/
def patch (img : List Byte) (off : Nat) (bs : List Byte) : List Byte :=
  img.take off ++ bs ++ img.drop (off + bs.length)

/-- The slots whose record bytes [off, off + len) of a tile's unit 2 belong to. -/
def slotsTouched (t off len : Nat) : List Nat :=
  ((List.range 64).filter (fun k => decide (256 * k < off + len) && decide (off < 256 * k + 256))).map (64 * t + ·)

/-- Who may change the holder of a segment by its map: context 0 any, another context its own (R238). -/
def State.segWriteRefusal (s : State) (o : Op) (t : Nat) (img : List Byte) : Option (Nat × Nat) :=
  let changed := (List.range 448).filter (fun k => imageHolder img k != s.segOwner t k)
  let own := fun h => h == 0 || h == o.ctx + 1
  let gain := (changed.filter (fun k => imageHolder img k == o.ctx + 1)).length
  let loss := (changed.filter (fun k => s.segOwner t k == o.ctx + 1)).length
  if o.ctx ≠ 0 && changed.any (fun k => !own (imageHolder img k) || !own (s.segOwner t k)) then
    some (codeFaultAccess, 1)
  else if loss < gain && !s.quotaAllows o.ctx 1 (gain - loss) then some (codeRefusedQuota, 1) else none

/-- Whether the routes that a map of tile unit 4 changes may be changed by the context (R238, R262, R268,
R74). -/
def State.routeWriteRefusal (s : State) (o : Op) (es : List (Nat × RouteEntry)) (active : Bool) :
    Option (Nat × Nat) :=
  let fresh := (es.filter (fun p => s.routeOwner p.1 == 0)).length
  let grow := (es.map (fun p => s.bwGrowth p.1 p.2)).sum
  if es.any (fun p => s.routeOwner p.1 != 0 && s.routeOwner p.1 != o.ctx + 1) then some (codeFaultAccess, 1)
  else if fresh ≠ 0 && !s.quotaAllows o.ctx 3 fresh then some (codeRefusedQuota, 3)
  else if !s.quotaAllows o.ctx 5 grow then some (codeRefusedQuota, 5)
  else if active && es.any (fun p => (s.route p.1).pend) then some (codeRefusedLocked, 6)
  else if active && tileCrowded (overlay s.activeEntries es) then some (codeRefusedCapacity, 3)
  else if active && !s.entriesFit es then some (codeRefusedCapacity, 17)
  else none

/-- Routes that no context holds become the context's (R268). -/
def State.holdRoutes (s : State) (c : Nat) (es : List (Nat × RouteEntry)) : State :=
  es.foldl (fun s p => if s.routeOwner p.1 = 0 then s.holdRoute p.1 c else s) s

/-- A write of the active configuration: `img` is the whole new image of unit u. -/
def State.writeActive (s : State) (o : Op) (u off len : Nat) (img : List Byte) : State :=
  let t := u / 5
  let done := fun (s : State) => s.finish o codeDone 0 (s.refDigest u % 2 ^ 32)
  if 640 ≤ u then
    match if s.locked (u - 640) then s.rwlChange (u - 640) img else none with
    | some r => (s.violate r true).finish o codeRefusedLocked 4 0
    | none => done ((s.putImage u img).imageChanged true)
  else match u % 5 with
    | 2 =>
      if (slotsTouched t off len).any (fun g => s.lstate g != 0 && s.lstate g != 2) then
        s.finish o codeRefusedLocked 2 0
      else done ((s.putImage u img).imageChanged true)
    | 3 => match s.segWriteRefusal o t img with
      | some (code, d) => s.finish o code d 0
      | none => done ((s.putImage u img).imageChanged true)
    | 4 =>
      let es := routeChanges s.activeEntries t img
      match s.routeWriteRefusal o es true with
      | some (code, d) => s.finish o code d 0
      | none => done (((s.holdRoutes o.ctx es).putRoutes false es).imageChanged true)
    | _ => done ((s.putImage u img).imageChanged false)

/-- A write into the staged set of epoch e, which it opens where no set is staged (R238). -/
def State.writeStaged (s : State) (o : Op) (e u : Nat) (img : List Byte) : State :=
  let t := u / 5
  let done := fun (s : State) => s.finish o codeDone 0 (digestOf u (s.stagedImage u) % 2 ^ 32)
  let put := fun (s : State) => { s with mor := { s.mor with staged := spSet s.mor.staged u (some img) } }
  if 640 ≤ u then
    match if s.locked (u - 640) then s.rwlChange (u - 640) img else none with
    | some r => (s.violate r true).finish o codeRefusedLocked 4 0
    | none => done (put (s.openStage e))
  else if u % 5 = 3 then
    match s.segWriteRefusal o t img with
    | some (code, d) => s.finish o code d 0
    | none => done (put (s.openStage e))
  else if u % 5 = 4 then
    let es := routeChanges s.stagedEntries t img
    match s.routeWriteRefusal o es false with
    | some (code, d) => s.finish o code d 0
    | none =>
      let s := (s.openStage e).holdRoutes o.ctx es
      done { s with mor := { s.mor with
        stagedRoutes := es.foldl (fun m (p : Nat × RouteEntry) => spSet m p.1 (some p.2)) s.mor.stagedRoutes } }
  else done (put (s.openStage e))

def opCfgWrite (ecc : Bool) (s : State) (o : Op) : State :=
  let u := o.unit
  let epoch := o.arg1 32 32
  if ecc then s.finish o codeFaultAccess 2 0 else
  let off := o.arg1 64 32
  let len := o.arg1 96 16
  let bs := s.readBytes o.buf len
  if epoch = 0 then s.writeActive o u off len (patch (s.unitImage u) off bs)
  else match s.stageRefusal epoch with
    | some d => s.finish o codeRefusedLocked d 0
    | none => s.writeStaged o epoch u (patch (s.stagedImage u) off bs)

def execCfgWrite (t : Nat) (c : Fin 4096) (tag : Nat) (ecc : Bool) (s : State) :
    Host.Outcome State Fault Refusal :=
  .next ((s.tick t).beginOp c.val tag 0x10 (opCfgWrite ecc))

/-- Is set E staged? -/
def State.isStaged (s : State) (e : Nat) : Bool :=
  s.flag F.MOR_ACT_STAT_STAGED && s.fld F.MOR_STG_EPOCH_EPOCH == e

def opCfgRead (ecc : Bool) (s : State) (o : Op) : State :=
  let u := o.unit
  let epoch := o.arg1 32 32
  if epoch ≠ 0 ∧ !s.isStaged epoch then s.finish o codeRefusedLocked 5 0
  else if ecc then s.finish o codeFaultAccess 2 0 else
  let img := if epoch = 0 then s.unitImage u else s.stagedImage u
  (s.writeBytes o.buf ((img.drop (o.arg1 64 32)).take (o.arg1 96 16))).finish o codeDone 0
    (digestOf u img % 2 ^ 32)

def execCfgRead (t : Nat) (c : Fin 4096) (tag : Nat) (ecc : Bool) (s : State) :
    Host.Outcome State Fault Refusal :=
  .next ((s.tick t).beginOp c.val tag 0x11 (opCfgRead ecc))

/-- The staged set is gone; what MOR_STG_EPOCH and MOR_STG_ROOT read while STAGED = 0 is open. -/
def State.dropStage (s : State) : State :=
  let (e, s) := s.drawFree 32
  let (lo, s) := s.drawFree 32
  let (hi, s) := s.drawFree 32
  let s := ((s.setReg R.MOR_STG_EPOCH e).setReg R.MOR_STG_ROOT_LO lo).setReg R.MOR_STG_ROOT_HI hi
  { s.setFlag F.MOR_ACT_STAT_STAGED false with mor := { s.mor with staged := [], stagedRoutes := [] } }

def opStageDiscard (s : State) (o : Op) : State :=
  if !s.isStaged (o.arg1 0 32) then s.finish o codeRefusedLocked 5 0
  else if s.flag F.MOR_ACT_STAT_ARMED then s.finish o codeRefusedLocked 1 0
  else s.dropStage.finish o codeDone 0 0

def execStageDiscard (t : Nat) (c : Fin 4096) (tag : Nat) (s : State) : Host.Outcome State Fault Refusal :=
  .next ((s.tick t).beginOp c.val tag 0x13 opStageDiscard)

/-! ### MOR_ACT_ARM, MOR_ACT_DISARM (R84, R85) -/

/-- The route entries that set E changes. -/
def State.stagedChanges (s : State) : List (Nat × RouteEntry) :=
  (s.mor.stagedRoutes.filterMap (fun p => p.2.map (fun e => (p.1, e)))).filter
    (fun p => (s.route p.1).shown != p.2)

/-- The REASON of a refused arm, in the order 5, 6, 2, 4, 3, 1; 0 when the arm is accepted. -/
def State.armReason (s : State) : Nat :=
  let e := s.fld F.MOR_ACT_EPOCH_EPOCH
  let d := (e + 2 ^ 32 - s.fld F.MOR_EPOCH_EPOCH) % 2 ^ 32
  if !(s.mode == .boot || s.mode.runsLoops) then 5
  else if s.flag F.MOR_ACT_STAT_ARMED then 6
  else if !s.isStaged e then 2
  else if d = 0 ∨ 2 ^ 31 ≤ d then 4
  else if s.tAct < s.modTime + 2 * psPerMs ∨ s.modTime + 86400 * psPerS < s.tAct then 3
  else if !s.entriesFit s.stagedChanges || tileCrowded s.stagedEntries then 1
  else 0

/-- Slots whose record the staged set changes. -/
def State.stagedSlots (s : State) : List Nat :=
  s.enabledSlots.filter (fun g => match spGet s.mor.staged (5 * (g / 64) + 2) with
    | none => false
    | some img => (List.range 16).any (fun w => imageRecWord img (g % 64) w != s.recWord g w))

/-- Frames for samples at or after the activation time `at_` of the slots that the set changes are computed
again (R86). -/
def State.recomputeStaged (s : State) (at_ : Nat) : State :=
  s.stagedSlots.foldl (fun s g => s.recomputeFrames g at_) s

def opActArm (s : State) : State :=
  let r := s.armReason
  if r ≠ 0 then ((s.setFlag F.MOR_ACT_STAT_REFUSED true).setFld F.MOR_ACT_STAT_REASON r).raise 50 r
  else
    let at_ := s.tAct
    let s := (s.setFlag F.MOR_ACT_STAT_ARMED true).setFlag F.MOR_ACT_STAT_REFUSED false
    { s with mor := { s.mor with actAt := at_ / 1000 } }.recomputeStaged at_

def execMorActArm (t : Nat) (s : State) : Host.Outcome State Fault Refusal :=
  .next (opActArm (s.tick t))

def opActDisarm (s : State) : State :=
  if !s.flag F.MOR_ACT_STAT_ARMED || decide (s.tAct < s.modTime + psPerMs) then s
  else (s.setFlag F.MOR_ACT_STAT_ARMED false).recomputeStaged s.tAct

def execMorActDisarm (t : Nat) (s : State) : Host.Outcome State Fault Refusal :=
  .next (opActDisarm (s.tick t))

/-! ### ACTIVATION (R86) -/

/-- Slot g is about to take its staged record: its law state starts from zero when the law type or the order
changes, and frames numbered by a timing that E replaces are gone, with the frames that hold their tags. -/
def State.activateSlot (s : State) (g : Nat) : State :=
  let old := s.record g
  let new := s.recordAt g s.tAct
  let s := if sameLaw old new then s else s.modSlot g (fun x => { x with zeroState := true })
  if recPeriod old = recPeriod new ∧ recSph old = recSph new then s else
  let gone := (s.slot g).frames.filter (fun f => decide (s.tAct ≤ sampleInstant old f.sample))
  let lost := (gone.filter Frame.live).map (fun f => f.sample)
  let s := s.modSlot g (fun x => { x with frames := x.frames.filter (fun f => !gone.contains f) })
  (lost.foldl (fun s n => s.sendDrop g n false) s).dropAll (g / 64) (lost.map (fun n => (g, n))) [] [] false

/-- The staged unit images become active. -/
def State.activateUnits (s : State) : State :=
  let programs := (s.mor.staged.filter (fun p => decide (p.1 < 640) && p.1 % 5 == 1)).map (fun p => p.1 / 5)
  let s := s.stagedSlots.foldl (fun s g => s.activateSlot g) s
  let s := s.mor.staged.foldl (fun s p => match p.2 with
    | some img => s.putImage p.1 img
    | none => s) s
  (List.range 16).foldl (fun s k =>
    let first := s.fld (F.FUS_NET_TILES_FIRST k)
    if programs.any (fun t => decide (first ≤ t) && decide (t < first + s.fld (F.FUS_NET_TILES_COUNT k)))
    then s.addCause k 2 else s) s

/-- A pending change that E replaces is dropped; then E's entry is the route's: a sample route switches now, a
frame route at its first frame boundary (R86). -/
def State.activateRoutes (s : State) : State :=
  let es := s.stagedChanges
  let s := es.foldl (fun s p => if (s.route p.1).pend then s.dropPending p.1 codeRefusedLocked 1 else s) s
  s.putRoutes true es

/-- A SAFE slot whose cause E removes starts to return; a running slot meets a new cause at its first
sample on E (R86, R125). -/
def State.settleSafe (s : State) : State :=
  (s.enabledSlots.filter (fun g => s.lstate g == 3)).foldl (fun s g => s.settleSlot g) s

def opActivation (s : State) : State :=
  if !s.flag F.MOR_ACT_STAT_ARMED || decide (s.modTime < s.tAct) then s else
  let e := s.fld F.MOR_STG_EPOCH_EPOCH
  let s := s.activateRoutes.activateUnits
  let s := { s.dropStage with mor := { s.dropStage.mor with sweepAt := none } }
  let s := (s.setFlag F.MOR_ACT_STAT_ARMED false).setFld F.MOR_EPOCH_EPOCH e
  let s := (s.setFlag F.MOR_SWEEP_STAT_LOCALCHG false).writeStore false
  let s := (List.range 128).foldl (fun s t => if (s.enabledOn t).isEmpty then s else s.showUtil t) s
  let s := s.settleSafe
  (s.setFlag F.MOR_ACT_STAT_DONE true).raise 49 e

def execActivation (t : Nat) (s : State) : Host.Outcome State Fault Refusal :=
  .next (opActivation (s.tick t))

end Sys2Proof.Machine
end

