-- ==== Sys2Proof/Machine/Gnss.lean ====
section
/-!
DEFINITION. Machine/Gnss.lean: the GNSS baseband (R200 to R218).
-/

namespace Sys2Proof.Machine

/-- The modes in which the baseband runs. -/
def Mode.gnss (m : Mode) : Bool :=
  m == .boot || m == .compat || m == .field || m == .road || m == .service

/-- The record ring (R213). -/
def gnssRing : RingDesc :=
  ⟨R.GNS_RING_BASE_LO, 128, 512, 4, some F.GNS_RING_STAT_DROP, some F.GNS_RING_STAT_PEND, 132, true⟩

/-- A 128-byte record from its words (word 7 without the CRC), written while the ring is on (R214). -/
def State.gnssRecord (s : State) (ws : List Nat) : State :=
  if !s.flag F.GNS_RING_CTL_EN then s else
  let body := ((List.range 8).flatMap (fun i => leBytes 16 (ws.getD i 0))).take 124
  s.ringPush gnssRing (body ++ leBytes 4 (crc32 body)) 0

/-- SIG of a channel's signal (R207): even channels track L1 or E1, odd ones L5 or E5a. -/
def sigOf (chan : Nat) (gal : Bool) : Nat := 2 * boolNat gal + chan % 2

/-- Epoch period in ps (R203). -/
def State.epochPeriod (s : State) : Nat :=
  (match s.fld F.GNS_CFG_RATE with | 0 => 1000 | 1 => 200 | _ => 100) * psPerMs

/-- Is a satellite excluded by the masks (R201)? -/
def State.excluded (s : State) (gal : Bool) (prn : Nat) : Bool :=
  let i := prn - 1
  if !gal then bitOf (s.fld F.GNS_SV_MASK_GPS_EXCL) i
  else if i < 32 then bitOf (s.fld F.GNS_SV_MASK_GAL_LO_EXCL) i
  else bitOf (s.fld F.GNS_SV_MASK_GAL_HI_EXCL) (i - 32)

/-- May a channel track this satellite under the settings in force (R200, R201)? -/
def State.trackable (s : State) (chan : Nat) (gal : Bool) (prn elev : Nat) : Bool :=
  decide (chan < 96) && decide (1 ≤ prn) && decide (prn ≤ if gal then 36 else 32)
    && decide (100 * s.fld F.GNS_CFG_ELMASK < elev)
    && !s.excluded gal prn && (!gal || s.flag F.GNS_CFG_GAL_EN) && (chan % 2 == 0 || s.flag F.GNS_CFG_L5_EN)

/-- What the tracking channels measure: each channel once, the two of a slot on one satellite, and a
satellite in one slot; of two that differ the one listed first stands (R201, R203). -/
def State.measured (s : State) (meas : List GnsMeas) : List GnsMeas :=
  (meas.filter (fun m => s.trackable m.chan m.gal m.prn m.elev)).foldl (fun l m =>
    let clash := fun (q : GnsMeas) =>
      q.chan == m.chan || ((q.chan / 2 == m.chan / 2) != (q.gal == m.gal && q.prn == m.prn))
    if l.any clash then l else l ++ [m]) []

/-- A measurement's pseudorange is valid: flag bit 64 of R214. -/
def ranged (m : GnsMeas) : Bool := bitOf m.flags 0

/-- The ionosphere-free pseudorange and the L1 delay, rounded to mm, of two pseudoranges in nm (R204), with
f1 and f5 in 10 kHz (log entry 110). -/
def ionoFree (p1 p5 : Int) : Int × Int :=
  let a : Int := 157542 * 157542
  let b : Int := 117645 * 117645
  let d := ((157542 * 157542 - 117645 * 117645) * 1000000 : Nat)
  (roundDivInt (a * p1 - b * p5) d, roundDivInt (b * (p5 - p1)) d)

/-- Usable slots: (slot, Galileo, dual-frequency); the ephemeris is complete and comes from units that
passed their check (R205). -/
def State.usableSlots (s : State) (ms : List GnsMeas) : List (Nat × Bool × Bool) :=
  (ms.filter (fun m => m.chan % 2 == 0 && m.usable && s.gns.heard.contains (m.gal, m.prn) && ranged m)).map (fun m =>
    (m.chan / 2, m.gal, ms.any (fun q => q.chan == m.chan + 1 && ranged q)))

/-- FIX of an epoch and the slots used (R205). -/
def solveFix (us : List (Nat × Bool × Bool)) : Nat × List (Nat × Bool × Bool) :=
  let dual := us.filter (fun u => u.2.2)
  let both := us.any (fun u => u.2.1) && us.any (fun u => !u.2.1)
  if 4 ≤ (dual.filter (fun u => u.2.1)).length ∨ 4 ≤ (dual.filter (fun u => !u.2.1)).length ∨ 5 ≤ dual.length
  then (2, dual)
  else if us.length < (if both then 5 else 4) then (0, [])
  else (1, us)

/-- The measurement record of one channel (R214). -/
def measWords (s : State) (ms : List GnsMeas) (used : List (Nat × Bool × Bool)) (dualOnly : Bool)
    (m : GnsMeas) : List Nat :=
  let partner := ms.find? (fun q => q.chan == m.chan + 1)
  let iono := if m.chan % 2 = 0 && ranged m then
      (match partner with
        | some q => if ranged q then some (ionoFree (1000000 * m.range - m.delay) (1000000 * q.range - q.delay)) else none
        | none => none)
    else none
  let isUsed := used.any (fun u => u.1 == m.chan / 2) && (m.chan % 2 == 0 || dualOnly)
  let w0 := place s.modNs 0 64 + place 1 64 8 + place m.chan 72 8 + place (sigOf m.chan m.gal) 80 4
    + place m.prn 88 8 + place s.gns.epoch 96 32
  let w1 := place m.range 0 64 + place (ofSigned 64 m.phase) 64 64
  let w2 := place (ofSigned 32 m.doppler) 0 32 + place (satBits 16 m.cn0) 32 16 + place (satBits 16 m.lock) 48 16
    + place (m.flags % 16 + 16 * boolNat isUsed) 64 5
  let w3 := match iono with
    | some (p, d) => place (ofSigned 64 p) 0 64 + place (ofSigned 32 d) 64 32 + place 1 96 1
    | none => 0
  [w0, w1, w2, w3]

/-- The solution record of the newest epoch (R214); without FIX it carries no position (R205). -/
def solWords (s : State) (x : GnsSol) (fix nUsed nDual : Nat) (inj : Bool) : List Nat :=
  let w0 := place (s.gns.epochAt.getD 0) 0 64 + place 2 64 8 + place 0xFF 72 8 + place 0xF 80 4 + place s.gns.epoch 96 32
  let tail := place fix 80 3 + place nUsed 83 6 + place nDual 89 6 + place (boolNat inj) 95 1
  if fix = 0 then [w0, 0, place tail 0 128] else
  [w0,
   place (ofSigned 32 x.lat) 0 32 + place (ofSigned 32 x.lon) 32 32 + place (ofSigned 32 x.height) 64 32
     + place x.hacc 96 32,
   place x.gpsNs 0 64 + place x.hdop 64 16 + tail,
   place (ofSigned 32 x.velN) 0 32 + place (ofSigned 32 x.velE) 32 32 + place (ofSigned 32 x.velD) 64 32
     + place (ofSigned 32 x.galOff) 96 32]

/-- PPS_OUT starts or stops pulsing (R211). -/
def State.setPps (s : State) (on : Bool) (src : Nat) : State :=
  if s.flag F.GNS_STAT_PPSACT == on then s
  else if on then (s.setFlag F.GNS_STAT_PPSACT true).raise 131 src
  else { s.setFlag F.GNS_STAT_PPSACT false with gns := { s.gns with pulse := none } }.raise 130 0

/-- A pulse of PW ms begins at PPS_OUT now (R211). -/
def State.ppsPulse (s : State) (src : Nat) : State :=
  let s := s.setPps true src
  { s with gns := { s.gns with pulse := some (s.modNs, s.modNs + s.fld F.GNS_PPS_CFG_PW * 1000000) } }

/-- The level of PPS_OUT: the active level, as POL says, while a pulse lasts (R211, R217). -/
def State.ppsLevel (s : State) : Bool :=
  (match s.gns.pulse with | some (a, b) => decide (a ≤ s.modNs) && decide (s.modNs < b) | none => false)
    != s.flag F.GNS_PPS_CFG_POL

/-- The integer square root of a number below 2^66. -/
def isqrt (n : Nat) : Nat :=
  (List.range 33).foldl (fun r i => let c := r + 2 ^ (32 - i); if c * c ≤ n then c else r) 0

/-- The machine's pose is reset to a solution of the newest epoch as it arrives: its origin is the antenna's
place less the antenna's offset (R161, R169, R212). -/
def State.takeSolution (s : State) (x : GnsSol) (fix : Nat) : State :=
  let s := { s with gns := { s.gns with
    fix := fix, sol := x, speed := isqrt (x.velN ^ 2 + x.velE ^ 2).toNat
    solAt := if fix = 0 then s.gns.solAt else s.gns.epochAt.getD 0 * 1000 } }
  if fix = 0 then s
  else { s with fus := { s.fus with pose := s.originOf x.lat x.lon x.height x.heading } }

/-- Is the epoch of the present instant still to come (R203)? -/
def State.epochDue (s : State) : Bool :=
  s.flag F.GNS_CFG_EN && s.mode.gnss && s.atWhole s.epochPeriod && s.gns.epochAt != some s.modNs

/-- GNSS_EPOCH: what the tracking channels measure, which channels search, and what the solver yields
(R203 to R206). -/
def opGnssEpoch (meas : List GnsMeas) (search : List (Nat × Nat × Nat × Nat)) (sol : GnsSol) (s : State) :
    State :=
  if !s.epochDue then s else
  let ms := s.measured meas
  let s := { s with gns := { s.gns with
    epoch := (s.gns.epoch + 1) % 2 ^ 32, epochAt := some s.modNs, fresh := true
    elev := ms.foldl (fun (l : Sparse Nat) (m : GnsMeas) => spSet l (m.chan / 2) m.elev) [] } }
  let s := (List.range 96).foldl (fun s c =>
    match ms.find? (fun m => m.chan == c), search.find? (fun x => x.1 == c) with
    | some m, _ => s.setReg (R.GNS_CH_STAT c) (BitVec.ofNat 32
        (place (if m.sync then 3 else 2) 0 2 + place (boolNat m.gal) 2 1 + place m.prn 3 6 + place (satBits 16 m.cn0) 16 16))
    | none, some (_, g, prn, elev) =>
      if s.trackable c (g == 1) prn elev then s.setReg (R.GNS_CH_STAT c) (BitVec.ofNat 32
        (place 1 0 2 + place g 2 1 + place prn 3 6)) else s.setReg (R.GNS_CH_STAT c) 0
    | none, none => s.setReg (R.GNS_CH_STAT c) 0) s
  let us := s.usableSlots ms
  let (fix, used) := solveFix us
  let nDual := (used.filter (fun u => u.2.2)).length
  let s := if s.flag F.GNS_RING_CTL_MEAS then
      ms.foldl (fun s m => s.gnssRecord (measWords s ms used (fix == 2) m)) s else s
  let s := s.gnssRecord (solWords s sol fix used.length nDual false)
  let s := ((s.setFld F.GNS_STAT_FIX fix).setFld F.GNS_STAT_SVUSED used.length).setFld F.GNS_STAT_SVDUAL nDual
  let s := s.takeSolution (if fix = 0 then default else sol) fix
  if fix = 0 then s else
  let was := s.flag F.GNS_STAT_TIMEVALID
  let s := { s with gns := { s.gns with
    lastFix := s.modTime, validFrom := if was then s.gns.validFrom else s.modTime } }
  let s := s.setFlag F.GNS_STAT_TIMEVALID true
  if s.gns.firstSeen then s
  else { s with gns := { s.gns with firstSeen := true } }.raise 128 fix

def execGnssEpoch (t : Nat) (meas : List GnsMeas) (search : List (Nat × Nat × Nat × Nat)) (sol : GnsSol)
    (s : State) : Host.Outcome State Fault Refusal :=
  .next (opGnssEpoch meas search sol (s.tick t))

/-- GNSS_TIME_INVALID: no solution for 2 s (R206). -/
def opTimeInvalid (s : State) : State :=
  if !s.flag F.GNS_STAT_TIMEVALID || decide (s.modTime < s.gns.lastFix + 2 * psPerS) then s else
  let s := s.setFlag F.GNS_STAT_TIMEVALID false
  let s := { s with gns := { s.gns with firstSeen := false } }.raise 129 0
  if s.flag F.GNS_PPS_CFG_FREERUN then s else s.setPps false 0

def execGnssTimeInvalid (t : Nat) (s : State) : Host.Outcome State Fault Refusal :=
  .next (opTimeInvalid (s.tick t))

/-- Message bits of a unit by SIG (R207). -/
def navBits (sig : Nat) : Nat := if sig < 2 then 300 else if sig = 2 then 240 else 244

/-- Bit i of a unit's number, bit 0 first transmitted. -/
def unitBits (v lo n : Nat) : List Bool := (List.range n).map (fun i => bitOf v (lo + i))

def xorAll (l : List Bool) : Bool := l.foldl (· != ·) false

/-- CRC-24Q of a bit string, the first bit first. -/
def crc24q (l : List Bool) : Nat :=
  l.foldl (fun c b => if bitOf c 23 != b then (2 * c % 2 ^ 24) ^^^ 0x864CFB else 2 * c % 2 ^ 24) 0

/-- A string of bits as a number, its first bit the least significant (R214). -/
def bitsNumber (l : List Bool) : Nat := l.foldr (fun b n => 2 * n + boolNat b) 0

/-- A string of bits as a number, its first bit the most significant. -/
def bitsValue (l : List Bool) : Nat := l.foldl (fun n b => 2 * n + boolNat b) 0

/-- The source bits that each of the six parity bits of a GPS L1 C/A word takes in, from bit 1, and whether
it takes D29* in place of D30* (IS-GPS-200). -/
def parityTaps : List (Bool × List Nat) :=
  [(true, [1, 2, 3, 5, 6, 10, 11, 12, 13, 14, 17, 18, 20, 23]), (false, [2, 3, 4, 6, 7, 11, 12, 13, 14, 15, 18, 19, 21, 24]),
   (true, [1, 3, 4, 5, 7, 8, 12, 13, 14, 15, 16, 19, 20, 22]), (false, [2, 4, 5, 6, 8, 9, 13, 14, 15, 16, 17, 20, 21, 23]),
   (false, [1, 3, 5, 6, 7, 9, 10, 14, 15, 16, 17, 18, 21, 22, 24]), (true, [3, 5, 6, 8, 9, 10, 11, 13, 15, 19, 22, 23, 24])]

/-- Word w of a subframe as received, its last two bits before it D29* and D30* (0 before word 0): the 30 bits
with the D30* inversion removed from the 24 data bits. -/
def gpsWord (v w : Nat) : List Bool :=
  let star := w != 0 && bitOf v (30 * w - 1)
  (unitBits v (30 * w) 24).map (· != star) ++ unitBits v (30 * w + 24) 6

/-- Does word w of a subframe pass its parity (R207)? -/
def gpsWordOk (v w : Nat) : Bool :=
  let d := gpsWord v w
  let d29 := w != 0 && bitOf v (30 * w - 2)
  let d30 := w != 0 && bitOf v (30 * w - 1)
  parityTaps.zipIdx.all (fun p =>
    d.getD (24 + p.2) false == ((if p.1.1 then d29 else d30) != xorAll (p.1.2.map (fun i => d.getD (i - 1) false))))

/-- The CHECK field of a unit (R207); where its CRC stands is the interface documents' (log entry 111). -/
def navCheck (sig v : Nat) : Nat :=
  if sig = 0 then ((List.range 10).map (fun w => if gpsWordOk v w then 2 ^ w else 0)).sum
  else if sig = 1 then boolNat (crc24q (unitBits v 0 276) == bitsValue (unitBits v 276 24))
  else if sig = 2 then
    boolNat (crc24q (unitBits v 0 114 ++ unitBits v 120 82) == bitsValue (unitBits v 202 24))
  else boolNat (crc24q (unitBits v 0 214 ++ unitBits v 238 6) == bitsValue (unitBits v 214 24))

/-- The message bits as the record delivers them: without the D30* inversion (R207). -/
def navMessage (sig v : Nat) : Nat :=
  if sig = 0 then bitsNumber ((List.range 10).flatMap (gpsWord v)) else v

/-- The bits of a unit of n bits, the polarity that its preamble or pattern shows resolved (R207). -/
def navValue (n : Nat) (bits : List Flit) (inverted : Bool) : Nat :=
  let v := ((List.range 3).map (fun i => place ((bits.getD i 0).toNat) (128 * i) 128)).sum % 2 ^ n
  if inverted then 2 ^ n - 1 - v else v

/-- GNSS_NAV_UNIT: a message unit of a channel, its code decoded, received in true or inverted polarity; its
first bit's leading edge at `startNs` (R207). -/
def opNavUnit (chan : Nat) (bits : List Flit) (inverted : Bool) (startNs : Nat) (s : State) : State :=
  if !s.flag F.GNS_CFG_EN || s.fld (F.GNS_CH_STAT_STATE chan) != 3 then s else
  let gal := s.flag (F.GNS_CH_STAT_SYS chan)
  let sig := sigOf chan gal
  let n := navBits sig
  let v := navValue n bits inverted
  let check := navCheck sig v
  let pass := check == if sig = 0 then 1023 else 1
  let sat := (gal, s.fld (F.GNS_CH_STAT_PRN chan))
  let s := if pass then { s.bump F.GNS_NAV_CNT_PASSED with
      gns := { s.gns with heard := if s.gns.heard.contains sat then s.gns.heard else sat :: s.gns.heard } } else (s.bump F.GNS_NAV_CNT_FAILED).raiseOnce 133 0 chan
  if !s.flag F.GNS_RING_CTL_NAV || !(pass || s.flag F.GNS_RING_CTL_NAVFAIL) then s else
  let w0 := place startNs 0 64 + place 3 64 8 + place chan 72 8 + place sig 80 4
    + place (s.fld (F.GNS_CH_STAT_PRN chan)) 88 8 + place n 96 9 + place check 112 10
  let v := navMessage sig v
  s.gnssRecord [w0, bitsOf v 0 128, bitsOf v 128 128, bitsOf v 256 128]

def execGnssNavUnit (t : Nat) (chan : Fin 96) (bits : List Flit) (inverted : Bool) (startNs : Nat) (s : State) :
    Host.Outcome State Fault Refusal :=
  .next (opNavUnit chan.val bits inverted startNs (s.tick t))

/-- GNSS_PPS_EDGE: the internal edge of a whole GPS second, at a point of the 5 ns grid; `est` is the second as
the solution places it at the antenna, minus the edge, in ps. QERR allows for GNS_ANTDLY; at a tie the
earlier grid point is taken (R209, R210; log entry 112). -/
def opPpsEdge (second : Nat) (est : Int) (s : State) : State :=
  let qerr := est - 1000 * s.fld F.GNS_ANTDLY_NS
  let ok := s.flag F.GNS_STAT_TIMEVALID && decide (s.gns.validFrom + 100 * psPerMs ≤ s.modTime)
  if !ok || s.gns.lastSec == some second || decide (qerr ≤ -2500) || decide (2500 < qerr) then s else
  let s := { s with gns := { s.gns with
    edge := some (s.modNs, qerr), due := some (s.modNs, second), lastSec := some second } }
  if s.flag F.GNS_PPS_CFG_EN then s.ppsPulse 0 else s

def execGnssPpsEdge (t : Nat) (edge : PpsPoint) (s : State) : Host.Outcome State Fault Refusal :=
  .next (opPpsEdge edge.second edge.est (s.tick t))

/-- A TYPE 4 record (R214). -/
def ppsWords (ns src : Nat) (qerr : Int) : List Nat :=
  [place ns 0 64 + place 4 64 8 + place 0xFF 72 8 + place 0xF 80 4 + place src 96 32, ofSigned 32 qerr]

/-- GNSS_QERR_REPORT: within 100 ms of the edge, to the record, the register and the timebase (R210). -/
def opQerr (s : State) : State :=
  match s.gns.edge with
  | none => s
  | some (ns, q) =>
    if ns + 100000000 < s.modNs then s else
    let s := { s with gns := { s.gns with edge := none } }
    let s := (s.gnssRecord (ppsWords ns 0 q)).setFld F.GNS_PPS_QERR_QERR (ofSigned 32 q)
    s.correctEdge ns q

def execGnssQerrReport (t : Nat) (s : State) : Host.Outcome State Fault Refusal :=
  .next (opQerr (s.tick t))

/-- PPS_FREERUN_PULSE: at a whole second of module time plus FUS_TB_OFS, while time is not valid
(R211). -/
def opFreerun (s : State) : State :=
  let whole := s.atWhole 1000 && decide ((s.modNs + s.tbOfs) % 1000000000 = 0)
  if s.flag F.GNS_STAT_TIMEVALID || !s.flag F.GNS_PPS_CFG_FREERUN || !s.flag F.GNS_PPS_CFG_EN || !whole
      || !s.mode.gnss then s
  else (s.ppsPulse 1).gnssRecord (ppsWords s.modNs 1 0)

def execPpsFreerunPulse (t : Nat) (s : State) : Host.Outcome State Fault Refusal :=
  .next (opFreerun (s.tick t))

/-- A write to GNS_PPS_CFG: PW is limited; PPS_OUT stops when it is disabled or nothing drives it. -/
def opPpsCfgWrite (v : Word) (s : State) : State :=
  let s := s.plainWrite R.GNS_PPS_CFG v
  let s := s.setFld F.GNS_PPS_CFG_PW (clampNat 1 500 (s.fld F.GNS_PPS_CFG_PW))
  if s.flag F.GNS_PPS_CFG_EN && (s.flag F.GNS_STAT_TIMEVALID || s.flag F.GNS_PPS_CFG_FREERUN) then s
  else s.setPps false 0

/-- GNS_INJ_COMMIT: a write to GNS_INJ_CTL with COMMIT = 1 (R212). Its record is a later solution record of the
epoch; at the instant of the next epoch it is refused (R215). -/
def opInjCommit (v : Word) (s : State) : State :=
  let s := s.plainWrite R.GNS_INJ_CTL v
  if !v.getLsbD 3 then s else
  let fix := s.fld F.GNS_INJ_CTL_FIX
  if !(fix == 3 || fix == 4) || !s.gns.fresh || s.epochDue || s.fld F.GNS_INJ_CTL_EPOCH != s.gns.epoch % 65536 then
    s.setFlag F.GNS_STAT_INJREJ true
  else
    let lat := toSigned 32 (s.fld F.GNS_INJ_LAT_VALUE)
    let lon := toSigned 32 (s.fld F.GNS_INJ_LON_VALUE)
    let hgt := toSigned 32 (s.fld F.GNS_INJ_HGT_VALUE)
    let x := { s.gns.sol with lat := lat, lon := lon, height := hgt, heading := s.fus.pose.heading / 10000000 }
    let s := (s.takeSolution x fix).setFld F.GNS_STAT_FIX fix
    let s := { s with gns := { s.gns with fresh := false } }
    s.gnssRecord (solWords s x fix
      (s.fld F.GNS_STAT_SVUSED) (s.fld F.GNS_STAT_SVDUAL) true)

def execGnsInjCommit (t : Nat) (v : Word) (s : State) : Host.Outcome State Fault Refusal :=
  .next (opInjCommit (v ||| 8#32) (s.tick t))

/-- Idle the channels of every slot whose satellite a mask excludes, or whose satellite was not above the
elevation mask at the last epoch (R201, R215). -/
def State.releaseSlots (s : State) : State :=
  (List.range 96).foldl (fun s c =>
    let st := s.fld (F.GNS_CH_STAT_STATE c)
    if st != 0 && (s.gns.elev.any (fun p => p.1 == c / 2 && decide (p.2 ≤ 100 * s.fld F.GNS_CFG_ELMASK))
        || s.excluded (s.flag (F.GNS_CH_STAT_SYS c)) (s.fld (F.GNS_CH_STAT_PRN c))) then
      s.setReg (R.GNS_CH_STAT c) 0 else s) s

/-- GNS_CFG_WRITE: a write to GNS_CFG (r = 0) or a satellite mask (r = 1 to 3) (R215). -/
def opGnsCfgWrite (r : Nat) (v : Word) (s : State) : State :=
  if r = 0 then
    let old := s.reg R.GNS_CFG
    let s :=
      if s.flag F.GNS_CFG_EN then
        let s := if bitsOf v.toNat 1 4 != bitsOf old.toNat 1 4 then s.setFlag F.GNS_STAT_CFGREJ true else s
        s.plainWrite R.GNS_CFG (setBits v 1 4 (bitsOf old.toNat 1 4))
      else s.plainWrite R.GNS_CFG v
    let s := s.setFld F.GNS_CFG_ELMASK (min 90 (s.fld F.GNS_CFG_ELMASK))
    if s.flag F.GNS_CFG_EN then s.releaseSlots
    else (List.range 96).foldl (fun s c => s.setReg (R.GNS_CH_STAT c) 0) s
  else (s.plainWrite (R.GNS_CFG + 4 + 4 * r) v).releaseSlots

def execGnsCfgWrite (t : Nat) (r : Fin 4) (v : Word) (_ : Unit) (s : State) : Host.Outcome State Fault Refusal :=
  .next (opGnsCfgWrite r.val v (s.tick t))

/-- The antenna flag of R216. -/
def antFlag (short : Bool) : Fld := if short then F.GNS_STAT_ANTSHORT else F.GNS_STAT_ANTOPEN

/-- Is a bias current, µA, out of range: below 2 mA, or at the limit of 150 mA (R216)? -/
def biasFault (ua : Nat) (short : Bool) : Bool := if short then decide (150000 ≤ ua) else decide (ua < 2000)

/-- A flag takes the judgement of the bias current; an episode's begin raises event 134 (R216). -/
def State.judgeBias (s : State) (ua : Nat) (short : Bool) : State :=
  if !biasFault ua short then s.setFlag (antFlag short) false
  else if s.flag (antFlag short) then s else (s.setFlag (antFlag short) true).raise 134 (boolNat short)

/-- GNSS_ANTENNA_FAULT and ANTENNA_BIAS_FAULT_END: the bias current is `ua` µA, while the front end has power
(R216, R399). -/
def opAntenna (ua : Nat) (s : State) : State :=
  if !s.mode.gnss then s else (s.judgeBias ua false).judgeBias ua true

def execGnssAntennaFault (t ua : Nat) (s : State) : Host.Outcome State Fault Refusal :=
  .next (opAntenna ua (s.tick t))

/-- The bias current is within its range again: the flag of the episode that ends clears (R216). -/
def opAntennaEnd (ua : Nat) (s : State) : State :=
  if biasFault ua false || biasFault ua true then s else opAntenna ua s

def execAntennaBiasFaultEnd (t ua : Nat) (s : State) : Host.Outcome State Fault Refusal :=
  .next (opAntennaEnd ua (s.tick t))

end Sys2Proof.Machine
end

