-- ==== Sys2Proof/Machine/Fabric.lean ====
section
/-!
DEFINITION. Machine/Fabric.lean: the arrival of a mortar packet at its endpoint (R61 to R64, R73,
R119, R191), and host writes to the read pointers of module-written rings (R53).
-/

namespace Sys2Proof.Machine

/-! ### MORTAR_PACKET_ARRIVE (R61 to R63) -/

/-- The block that serves a hub endpoint (R61, R535). -/
def endpointBlock (d : Nat) : Option Nat :=
  if 130 ≤ d ∧ d ≤ 145 then some 12 else if d = 146 then some 13 else if d = 147 then some 14
  else if d = 148 then some 15 else if d = 149 then some 11 else if d = 150 then some 16
  else if d = 151 then some 18 else if d = 152 then some 4 else none

/-- A stream's flit reaches a tile: the value that loop inputs of the route read from the next tile
cycle on (R119 step 3, R120). -/
def State.streamFlit (s : State) (tile r : Nat) (f : Flit) : State :=
  let new : StreamIn := match spGet s.mor.streams (4096 * tile + r) with
    | none => ⟨f, s.modTime, none, 1, false⟩
    | some x =>
      ⟨f, s.modTime, if Machine.cycleOf x.at_ == Machine.cycleOf s.modTime then x.prev else some x.flit, x.count + 1, false⟩
  { s with mor := { s.mor with streams := spSet s.mor.streams (4096 * tile + r) (some new) } }

/-- A destination treats the stream as ended (R73). -/
def State.streamEnd (s : State) (tile r : Nat) : State :=
  match spGet s.mor.streams (4096 * tile + r) with
  | none => s
  | some x => { s with mor := { s.mor with
      streams := spSet s.mor.streams (4096 * tile + r) (some { x with ended := true }) } }

/-- A camera tap's status packet of a clean frame (R191): port and trigger instant in ns. -/
def cameraStatus (p : Packet) : Option (Nat × Nat) :=
  match p.payload with
  | [f] =>
    if decide (130 ≤ p.src) && decide (p.src ≤ 145) && p.eof && p.addr == 2 ^ 64 - 1
        && bitsOf f.toNat 110 4 == 0 then some (p.src - 130, bitsOf f.toNat 0 64) else none
  | _ => none

/-- Stream data for a tile. -/
def State.tileStream (s : State) (p : Packet) : State :=
  let s := match p.payload.getLast? with
    | some f => s.streamFlit p.dst p.stream f
    | none => s
  match cameraStatus p with
  | some (n, at_) => s.frameArrived n at_ p.dst
  | none => s

/-- A SPEC packet at an endpoint other than a tile is discarded unread (R63). -/
def State.specMisdelivered (s : State) (d : Nat) : State :=
  (s.raise 53 d).henMake sevError 53 d

/-- Bytes of bricks 0 to 13 of a tile, the part that packets reach (R57; log entry 115). -/
def brickSpace : Nat := 14 * 2 ^ 17

/-- A write reaches its endpoint: DRAM, or a tile's bricks 0 to 13. -/
def State.takeWrite (s : State) (p : Packet) : State :=
  let bs := p.payload.flatMap (fun f => leBytes 16 f.toNat)
  if p.dst = 128 then s.writeBytes p.addr bs
  else if p.dst < 128 ∧ p.addr % 16 = 0 ∧ p.addr + bs.length ≤ brickSpace then s.brickWrite p.dst p.addr bs
  else s

/-- The response to a read request goes back on the response channel with the flit at ADDR, on the links of a
packet that belongs to no route (R60, R62, R64). -/
def State.answerRead (s : State) (p : Packet) (bs : List Byte) : State :=
  let r : Packet := ⟨p.src, p.dst, p.cls, true, false, 2, false, false, false, 0, p.frame, p.addr, [BitVec.ofNat 128 (leNat bs)]⟩
  let s := { s with mor := { s.mor with awaited := s.mor.awaited ++ [(p.src, p.addr)] } }
  s.fly r (looseLinks p.dst p.src) s.now

/-- A read request reaches DRAM or a tile: its issuer has reserved space for the whole response (log entry 115). -/
def State.takeRead (s : State) (p : Packet) : State :=
  if p.dst = 128 then s.answerRead p (s.readBytes p.addr 16)
  else if p.dst < 128 ∧ p.addr % 16 = 0 ∧ p.addr + 16 ≤ brickSpace then
    (s.brickReport p.dst (p.addr / 16) 1 []).answerRead p (s.brickRead p.dst p.addr 16)
  else s

/-- A response is accepted without condition, and its reserved space is free again (R64). -/
def State.takeResponse (s : State) (p : Packet) : State :=
  { s with mor := { s.mor with awaited := removeFirst (fun a => a == (p.dst, p.addr)) s.mor.awaited } }

/-- Deliver a packet that has arrived, by destination and TYPE (R61, R62). Configuration packets and digest
records act through the operations that cause them. -/
def State.deliver (s : State) (p : Packet) : State :=
  if p.spec then (s.takeSpec p).takeDrop p
  else match p.typ with
    | 0 => s.takeWrite p
    | 1 => s.takeRead p
    | 2 => s.takeResponse p
    | 3 => if p.dst < 128 then s.tileStream p else ((s.takeOxFlit p).takeMulFlit p).takeCanFlit p
    | 4 => if p.dst < 128 then s.streamEnd p.dst p.stream else s
    | _ => s

/-- A packet arrives at its endpoint. One to an unused endpoint is discarded and counted as a route fault
(R61), a SPEC packet too: the spec does not say whether event 53 is raised beside it (DESIGN CHOICE: it is
not, log entry 116). -/
def opPacketArrive (p : Packet) (s : State) : State :=
  if !s.lands p then s else
  let s := s.arrived p
  if 153 ≤ p.dst then
    (if p.dst < 255 then { s with mor := { s.mor with routeFaults := s.mor.routeFaults + 1 } } else s)
  else
    let s := match endpointBlock p.dst with
      | some b => s.wakeBlock b
      | none => s
    if p.spec && decide (128 ≤ p.dst) then s.specMisdelivered p.dst else s.deliver p

def execMortarPacketArrive (t : Nat) (p : Packet) (s : State) : Host.Outcome State Fault Refusal :=
  .next (opPacketArrive p (s.tick t))

/-! ### RING_RPTR_WRITE (R53 step 7) -/

/-- BASE_LO offset of a module-written ring, and its writer where it has an internal buffer (R54, R485). -/
def ringOf : RingName → Nat × Option RingDesc
  | .yieldCells => (R.FUS_YIELD_BASE_LO, some yieldRing)
  | .fusionOut => (R.FUS_OUT_BASE_LO, some fusionRing)
  | .camStats => (R.CAM_ST_BASE_LO, some camRing)
  | .gnss => (R.GNS_RING_BASE_LO, some gnssRing)
  | .henExport => (R.HEN_EXP_BASE_LO, some henExport)
  | .ethRx p => (R.FLT_ETH_RX_BASE_LO p.val, none)
  | .fleet => (R.FLT_FLEET_BASE_LO, some fleetRing)

/-- A write to the PTR register of a ring: RPTR takes bits [31:16] when they lie in the consumed range,
and waiting records are then written; the current value has no effect; any other value sets RINGERR. -/
def opRptrWrite (r : RingName) (v : Word) (s : State) : State :=
  let (off, d) := ringOf r
  let p := bitsOf v.toNat 16 16
  if p = s.fld (rptrOf off) then s
  else if s.rptrAccepted off p then
    let s := s.setFld (rptrOf off) p
    match d with
    | some d => if off = R.CAM_ST_BASE_LO && !s.flag F.CAM_GLB_CFG_WIDE then s else s.ringFlush d
    | none => s
  else s.setFlag F.GLB_STATUS_RINGERR true

def execRingRptrWrite (t : Nat) (ring : RingName) (v : Word) (s : State) :
    Host.Outcome State Fault Refusal :=
  .next (opRptrWrite ring v (s.tick t))

end Sys2Proof.Machine
end

