-- ==== Sys2Proof/Machine/Registers.lean ====
section
/-!
DEFINITION. Machine/Registers.lean: register accesses by host software through the set-up and doorbell
windows (R7 to R9, R228, R536, R537, R539): what each read shows, and the effect of each write. A write
that has a row of its own acts as that row; what such a row takes from outside the module is drawn free
here (log entries 4 and 11).
-/

namespace Sys2Proof.Machine

/-! ### Parts of writes -/

/-- Draw an open truth value. -/
def State.freeBit (s : State) : Bool × State :=
  let (b, s) := s.drawFree 1
  (b == 1#1, s)

/-- The number of WO command bits, from bit 0 up, of a register that R539 names. -/
def commandBits (off : Nat) : Nat :=
  if off = R.CEN_CTL ∨ off = R.GLB_UPD_CTL then 4
  else if off = R.MOR_RT_CTL ∨ off = R.MOR_ACT_CTL ∨ off = R.DSP_CTL then 2
  else if 0x60000 ≤ off ∧ off < 0x80000 ∧ off % 32 = 12 then 2
  else 0

/-- Does a write set more than one command bit (R539)? -/
def manyCommands (off : Nat) (v : Word) : Bool :=
  decide (1 < ((List.range (commandBits off)).filter (fun i => bitOf v.toNat i)).length)

/-- Is the offset the SIZE register of a ring group (R54, R536)? -/
def ringSizeAt (off : Nat) : Bool :=
  off == R.HEN_EXP_SIZE || off == R.FUS_OUT_SIZE || off == R.FUS_YIELD_SIZE || off == R.CAM_ST_SIZE
    || off == R.GNS_RING_SIZE || off == R.FLT_FLEET_SIZE
    || (List.range 9).any (fun p => off == R.FLT_ETH_RX_SIZE p || off == R.FLT_ETH_TX_SIZE p)

/-- A write to a ring's SIZE: LOG2 outside 4 to 15 is stored as the nearer limit (R54). -/
def opRingSize (off : Nat) (v : Word) (s : State) : State :=
  s.plainWrite off (setBits v 0 4 (clampNat 4 15 (bitsOf v.toNat 0 4)))

/-- A write to CAM_ST_CTL: EN acts in the full configuration alone (R196), and HOLD notes when it was set
(R197). -/
def opCamStCtl (v : Word) (s : State) : State :=
  let s := if !s.flag F.CAM_ST_CTL_HOLD && v.getLsbD 1 then { s with cam := { s.cam with holdAt := s.modTime } } else s
  if s.flag F.CAM_GLB_CFG_WIDE then
    let was := s.flag F.CAM_ST_CTL_EN
    let s := s.plainWrite R.CAM_ST_CTL v
    if !was && v.getLsbD 0 then (s.ringSample R.CAM_ST_BASE_LO 6).ringFlush camRing else s
  else s.plainWrite R.CAM_ST_CTL v

/-- A write to a register whose EN, bit 0, starts a ring: 0 to 1 samples BASE and SIZE (R53 step 2), and
records that waited are then written. -/
def opRingEnable (off : Nat) (d : RingDesc) (baseLo : Nat) (v : Word) (s : State) : State :=
  let was := bitOf (s.reg off).toNat 0
  let s := s.plainWrite off v
  if !was && bitOf v.toNat 0 then (s.ringSample d.off baseLo).ringFlush d else s

/-! ### Writes by block -/

def State.writeGlb (s : State) (off : Nat) (v : Word) : State :=
  if off = R.GLB_MODE_REQ then opModeRequest v s
  else if off = R.GLB_BOOT_CTL then opBootGood v s
  else if off = R.GLB_UPD_CTL then
    let (ok, s) := s.freeBit
    opUpdCtl v.toNat ok s
  else if off = R.GLB_TALLY_CFG then s.setFld F.GLB_TALLY_CFG_PERIOD_MS (clampNat 1 60000 (bitsOf v.toNat 0 16))
  else if off = R.GLB_RESYNC_CTL ∧ v.getLsbD 0 = true then opResync v s
  else s.plainWrite off v

def State.writeClk (s : State) (off : Nat) (v : Word) : State :=
  if 0x20100 ≤ off ∧ off < 0x20210 ∧ off % 16 = 0 then opFreqWrite ((off - 0x20100) / 16) v s
  else if 0x20400 ≤ off ∧ off < 0x20454 then opGateWrite ((off - 0x20400) / 4) v s
  else if off = R.CLK_OBS_CFG then opObsWrite v s
  else s.plainWrite off v

/-- The calendar field at an offset (R473). -/
def calFieldAt (off : Nat) : Option CalField :=
  [CalField.sec, .min, .hour, .dow, .date, .mon, .year].find? (fun f => (calFld f).off == off)

def State.writeRoo (s : State) (off : Nat) (v : Word) : State :=
  if off = R.ROO_SET0 ∨ off = R.ROO_SET1 ∨ off = R.ROO_SET2 then
    (if s.flag F.ROO_STAT_LOADPEND then s else s.plainWrite off v)
  else if off = R.ROO_CTL ∨ off = R.ROO_ALM0 ∨ off = R.ROO_ALM1 ∨ off = R.ROO_ALM2 then opAlarmWrite off v s
  else if off = R.ROO_TRIM then opTrimWrite v s
  else match calFieldAt off with
    | some f => opCalendarWrite f false v s
    | none => if off = R.ROO_CAL_STAT then opOsfWrite v s else s.plainWrite off v

def State.writeHen (s : State) (off : Nat) (v : Word) : State :=
  if off = R.HEN_CUR_SEQ then
    let (bad, s) := s.freeBit
    opHenCurSeqWrite v bad s
  else if off = R.HEN_CTL then
    if v.getLsbD 0 then
      let (bad, s) := s.freeBit
      opHenNext bad s
    else s
  else if off = R.HEN_EXP_PTR then opRptrWrite .henExport v s
  else if off = R.HEN_EXP_CTL then opRingEnable off henExport 6 v s
  else s.plainWrite off v

def State.writeGoo (s : State) (off : Nat) (v : Word) : State :=
  if off = R.GOO_CTL then
    if v.getLsbD 0 then opGooStop s else if v.getLsbD 1 then opGooRelease s else s
  else if off = R.GOO_OUT_REQ then opOutputRequest v s
  else if 0x50100 ≤ off ∧ off < 0x50140 then opGooInCfgWrite ((off - 0x50100) / 4) v s
  else if 0x50140 ≤ off ∧ off < 0x50180 then (s.plainWrite off v).gooShow
  else if 0x50200 ≤ off ∧ off < 0x50220 then opGooOutCfgWrite ((off - 0x50200) / 4) v s
  else if 0x50240 ≤ off ∧ off < 0x50260 then (s.plainWrite off v).gooShow
  else s.plainWrite off v

def State.writeCtx (s : State) (off : Nat) (v : Word) : State :=
  let c := (off - 0x60000) / 32
  let r := (off - 0x60000) % 32
  if r = 0 then opCtxConfig c .ringBase v s
  else if r = 4 then opCtxConfig c .cplBase v s
  else if r = 8 then opCtxConfig c .cfg v s
  else if r = 12 then
    (if v.getLsbD 0 then opCtxEnable c s else if v.getLsbD 1 then opCtxDisable c s else s)
  else if r = 0x14 then opCtxConfig c .coal v s
  else if r = 0x18 then opCtxConfig c .dline v s
  else s.plainWrite off v

def State.writeQos (s : State) (off : Nat) (v : Word) : State :=
  if off = R.QOS_Q_VAL then opQuotaWrite v s
  else if 0x80100 ≤ off ∧ off < 0x80118 then s
  else if 0x80200 ≤ off ∧ off < 0x80220 then opDramWrite ((off - 0x80200) / 4) v s
  else s.plainWrite off v

/-- Clear the flags of the selected route that a write to MOR_RT_STAT names. -/
def State.clearRouteFlags (s : State) (v : Word) : State :=
  let r := s.selRoute
  let x := s.route r
  s.setRoute r { x with
    switched := x.switched && !v.getLsbD 1
    rej := x.rej && !v.getLsbD 2
    refused := x.refused && !v.getLsbD 3 }

def State.writeMor (s : State) (off : Nat) (v : Word) : State :=
  if off < 0xA000C then s
  else if off = R.MOR_RT_STAGE0 then opRtStageWrite false v s
  else if off = R.MOR_RT_STAGE1 then opRtStageWrite true v s
  else if off = R.MOR_RT_CTL then
    (if v.getLsbD 0 then opRtCommit s else if v.getLsbD 1 then opRtCancel s else s)
  else if off = R.MOR_RT_STAT then s.clearRouteFlags v
  else if off = R.MOR_ACT_CTL then
    (if v.getLsbD 0 then opActArm s else if v.getLsbD 1 then opActDisarm s else s)
  else s.plainWrite off v

def State.writeCen (s : State) (off : Nat) (v : Word) : State :=
  if off = R.CEN_SEL then opCenSel v s
  else if off = R.CEN_CTL then
    (if v.getLsbD 0 then opCenAdmit false s else if v.getLsbD 1 then opCenDisable s
     else if v.getLsbD 2 then opCenAdmit true s else if v.getLsbD 3 then opCenSwap s else s)
  else if 0x101000 ≤ off ∧ off < 0x101800 then opRecWrite ((off - 0x101000) / 4) v s
  else if 0x102000 ≤ off ∧ off < 0x102400 then opBankWrite ((off - 0x102000) / 4) v s
  else if 0x102400 ≤ off ∧ off < 0x102800 then s.setFlag F.CEN_CMD_STAT_BANKREJ true
  else s.plainWrite off v

/-- A write to FUS_PIEZO_CFG; a FAULT bit that it clears ends the channel's bias fault (R35). -/
def opPiezoCfgWrite (c : Nat) (v : Word) (s : State) : State :=
  let was := s.flag (F.FUS_PIEZO_CFG_FAULT c)
  let s := s.plainWrite (R.FUS_PIEZO_CFG c) v
  if was && v.getLsbD 2 then s.piezoCleared c else s

/-- Writes to the crop registers of FUS with limits (R50, R54). -/
def State.writeCrop (s : State) (off : Nat) (v : Word) : State :=
  if off = R.FUS_FCST_CFG then opFcstCfgWrite v s
  else if off = R.FUS_STATION_DLY 0 then s
  else if 0x14C014 ≤ off ∧ off < 0x14C020 then s.plainWrite off (setBits v 0 16 (min 10000 (bitsOf v.toNat 0 16)))
  else if off = R.FUS_CROP then opCropWrite v s
  else if off = R.FUS_CUTW then (s.noteSecond 1 (s.reg off).toNat).plainWrite off v
  else if off = R.FUS_LOSS_CFG then
    s.plainWrite off (setBits (setBits v 0 16 (max 0x148 (bitsOf v.toNat 0 16))) 16 16
      (max 0x148 (bitsOf v.toNat 16 16)))
  else if 0x14C040 ≤ off ∧ off < 0x14C080 then opPiezoCfgWrite ((off - 0x14C040) / 4) v s
  else if off = R.FUS_YIELD_CFG then
    s.plainWrite off (setBits (setBits v 0 16 (min 30000 (bitsOf v.toNat 0 16))) 16 16
      (min 30000 (bitsOf v.toNat 16 16)))
  else if off = R.FUS_YIELD_CTL then opYieldCtlWrite v s
  else if off = R.FUS_YIELD_PTR then opRptrWrite .yieldCells v s
  else s.plainWrite off v

def State.writeFus (s : State) (off : Nat) (v : Word) : State :=
  if 0x14C000 ≤ off then s.writeCrop off v
  else if off = R.FUS_TB_CFG then opTbSrcWrite v s
  else if 0x140100 ≤ off ∧ off < 0x140180 then
    opTrgWrite ((off - 0x140100) / 8) (off % 8 == 4) v s
  else if 0x141000 ≤ off ∧ off < 0x141100 ∧ off % 16 = 0 then opNetCfgWrite ((off - 0x141000) / 16) v s
  else if off = R.FUS_CAL_VAL then opCalValWrite v s
  else if off = R.FUS_CAL_CTL then opCalPublish v s
  else if off = R.FUS_OUT_PTR then opRptrWrite .fusionOut v s
  else if off = R.FUS_OUT_CTL then opRingEnable off fusionRing 6 v s
  else s.plainWrite off v

def State.writeCam (s : State) (off : Nat) (v : Word) : State :=
  let n := (off - 0x161000) / 256
  let o := off % 256
  if off = R.CAM_GLB_CFG then opWideWrite v s
  else if off = R.CAM_ST_CTL then opCamStCtl v s
  else if off = R.CAM_ST_PTR then opRptrWrite .camStats v s
  else if 0x161000 ≤ off ∧ off < 0x162000 then
    if o = 0 then opPortCfgWrite n v s
    else if o = 4 ∨ o = 8 then opPortFixedWrite n off v s
    else if 0x0C ≤ o ∧ o < 0x40 then opSettingWrite n ((o - 0x0C) / 4) v s
    else if o = 0x40 then opI2cStart n v s
    else s.plainWrite off v
  else s.plainWrite off v

def State.writeGns (s : State) (off : Nat) (v : Word) : State :=
  if off = R.GNS_CFG ∨ (0x180008 ≤ off ∧ off ≤ 0x180010) then
    opGnsCfgWrite (if off = R.GNS_CFG then 0 else (off - 0x180004) / 4) v s
  else if off = R.GNS_PPS_CFG then opPpsCfgWrite v s
  else if off = R.GNS_INJ_CTL then opInjCommit v s
  else if off = R.GNS_RING_PTR then opRptrWrite .gnss v s
  else if off = R.GNS_RING_CTL then opRingEnable off gnssRing 7 v s
  else s.plainWrite off v

/-- The junction temperature in degrees Celsius that a fault clear finds: open (R299, R312). -/
def State.freeJunction (s : State) : Int × State :=
  let (j, s) := s.drawFree 9
  (j.toInt, s)

/-- A write to OX_CH_STAT (R299): whether the conditions still hold is open. -/
def State.writeOxStat (s : State) (n : Nat) (v : Word) : State :=
  let (short, s) := s.freeBit
  let (j, s) := s.freeJunction
  s.oxClear n v.toNat short j

def State.writeOx (s : State) (off : Nat) (v : Word) : State :=
  let n := (off - 0x191000) / 32
  let o := off % 32
  if off < 0x191000 then s.plainWrite off v
  else if o = 0 then opOxCfgWrite n v s
  else if s.oxLegacy n then s
  else if o = 8 then opOxPiWrite n v s
  else if o = 0x0C then opOxDithWrite n v s
  else if o = 0x10 then opOxLimWrite n v s
  else if o = 0x14 then s.writeOxStat n v
  else s.plainWrite off v

def State.writeMul (s : State) (off : Nat) (v : Word) : State :=
  let n := (off - 0x1A1000) / 16
  let o := off % 16
  if off < 0x1A1000 then s.plainWrite off v
  else if o = 0 then opMulCfgWrite n v s
  else if s.mulLegacy n then s
  else if o = 4 then opMulCmdWrite n v s
  else if o = 8 then
    let (j, s) := s.freeJunction
    s.mulClear n v.toNat j
  else s.plainWrite off v

def State.writeCan (s : State) (off : Nat) (v : Word) : State :=
  let c := (off - 0x1B0000) / 4096
  let o := off % 4096
  if o = 0 then opCanCfgWrite c v s
  else if (o = 0xA0 ∨ o = 0xA4) ∧ 2 ≤ c then s
  else if o = 4 ∨ o = 8 ∨ o = 0x34 ∨ o = 0xA0 ∨ o = 0xA4 then opCanInitWrite c off v s
  else if o = 0x14 then opTxReqWrite c v s
  else if o = 0x20 then opTxCanWrite c v s
  else if o = 0x30 then opFifoAck c v s
  else if o = 0x24 ∧ s.canLegacy c = false then opNdatWrite c v s
  else if 0x100 ≤ o then opCanMemWrite c ((o - 0x100) / 4) v s
  else if s.canLegacy c then s.canReject c
  else s.plainWrite off v

def State.writeFlt (s : State) (off : Nat) (v : Word) : State :=
  let p := (off - 0x1D1000) / 64
  let o := off % 64
  if 0x1D0220 ≤ off ∧ off < 0x1D0600 ∧ off % 32 = 0 then opMemCfgWrite ((off - 0x1D0200) / 32) v s
  else if off = R.FLT_FLEET_CFG then opFleetCfgWrite v s
  else if off = R.FLT_FLEET_PTR then opRptrWrite .fleet v s
  else if off < 0x1D1000 then s.plainWrite off v
  else if o = 0 then opEthCfgWrite p v s
  else if o = 0x14 then opRptrWrite (.ethRx (Fin.ofNat 9 p)) v s
  else if o = 0x24 then opEthTxWptr p v s
  else s.plainWrite off v

def State.writeDsp (s : State) (off : Nat) (v : Word) : State :=
  if off = R.DSP_CTL then
    (if v.getLsbD 0 then opDspOn s else if v.getLsbD 1 then opDspOff s else s)
  else if off = R.DSP_LINK ∨ off = R.DSP_TIM_H ∨ off = R.DSP_TIM_V ∨ off = R.DSP_PCLK then
    opDspTimingWrite off v s
  else s.plainWrite off v

/-- A write to a defined register, by block (R536). -/
def State.writeBlock (s : State) (off ident : Nat) (v : Word) : State :=
  if ringSizeAt off then opRingSize off v s
  else match blockOf off with
    | 0 => s.writeGlb off v
    | 2 => s.writeClk off v
    | 3 => s.writeRoo off v
    | 4 => s.writeHen off v
    | 5 => s.writeGoo off v
    | 6 => s.writeCtx off v
    | 7 => s.writeQos off v
    | 8 => s.writeMor off v
    | 10 => s.writeCen off v
    | 11 => s.writeFus off v
    | 12 => s.writeCam off v
    | 13 => s.writeGns off v
    | 14 => s.writeOx off v
    | 15 => s.writeMul off v
    | 16 => s.writeCan off v
    | 17 => match mbxPlace off with
      | some (ch, side, o) => (opMbxAccess ch side o ident false v s).1
      | none => s.plainWrite off v
    | 18 => s.writeFlt off v
    | 19 => s.writeDsp off v
    | _ => s.plainWrite off v

/-- The value with its command bits cleared. -/
def withoutCommands (off : Nat) (v : Word) : Word := setBits v 0 (commandBits off) 0

/-- A write to a defined register: one that sets several command bits carries out none of them and sets
BADACC; its other fields take effect (R539). -/
def opRegisterWrite (off ident : Nat) (v : Word) (s : State) : State :=
  if manyCommands off v then (s.writeBlock off ident (withoutCommands off v)).badAccess
  else s.writeBlock off ident v

/-! ### Reads -/

/-- Interrupt line l of the module: a context's line mapped to it, or a pending event routed to it
(R242, R243). -/
def State.lineAsserted (s : State) (l : Nat) : Bool :=
  s.host.ctx.any (fun p => p.2.line && s.fld (F.CTX_CFG_IRQ p.1) == l)
    || (List.range 256).any (fun e => s.flag (F.GLB_EVT_RT_LINE_EN e) && s.fld (F.GLB_EVT_RT_LINE e) == l
      && s.flag ⟨R.GLB_EVT_PEND (e / 32), e % 32, 1⟩)

/-- GLB_IRQ_STAT.LINE. -/
def State.irqLines (s : State) : Nat :=
  ((List.range 16).map (fun l => if s.lineAsserted l then 2 ^ l else 0)).sum

/-- The root digest of the staged configuration (R83), for its epoch. -/
def State.stagedRoot (s : State) : Nat :=
  let ds := (List.range 661).map (fun u => digestOf u (s.stagedImage u))
  rootDigest (fun u => ds.getD u 0) (s.fld F.MOR_STG_EPOCH_EPOCH)

/-- Corrected errors of the last complete tally period (R58, R333): open, 0 before the first period. -/
def State.corrected (s : State) (source : Nat) : Nat :=
  let seq := s.fld F.GLB_TALLY_SEQ_SEQ
  if seq = 0 then 0 else (Config.correctedErrors source seq s.bootAt).toNat

/-- A tile runs: its slab is powered and its microcode is loaded (R443 step 9). -/
def State.tileRuns (s : State) (t : Nat) : Bool :=
  s.domOn (4 + slabOf t) && s.flag ⟨R.GLB_BOOT_STAT, 24, 1⟩

/-- MOR_RT_STAT of the selected route. -/
def State.routeStat (s : State) : Nat :=
  let x := s.route s.selRoute
  boolNat x.pend + 2 * boolNat x.switched + 4 * boolNat x.rej + 8 * boolNat x.refused

def State.readMor (s : State) (off : Nat) : Nat :=
  let x := s.route s.selRoute
  let stored := (s.reg off).toNat
  let node := s.fld F.MOR_NODE_SEL_NODE
  if off < 0xA0020 then stored / 65536 * 65536 + s.resvOf ((off - 0xA0000) / 4)
  else if off = R.MOR_RT_STAGE0 then x.staged.w0.toNat
  else if off = R.MOR_RT_STAGE1 then x.staged.w1.toNat
  else if off = R.MOR_RT_STAT then s.routeStat
  else if off = R.MOR_RT_ACTIVE0 then x.active.w0.toNat
  else if off = R.MOR_RT_ACTIVE1 then x.active.w1.toNat
  else if off = R.MOR_STG_ROOT_LO ∨ off = R.MOR_STG_ROOT_HI then
    (if s.flag F.MOR_ACT_STAT_STAGED then
      bitsOf s.stagedRoot (if off = R.MOR_STG_ROOT_LO then 0 else 32) 32 else stored)
  else if off = R.MOR_NODE_EPOCH then (if node < 20 then s.mor.nodeEpoch else 0)
  else if off = R.MOR_NODE_DIG_LO then (if node < 20 then bitsOf (spGet s.mor.nodeDigest node) 0 32 else 0)
  else if off = R.MOR_NODE_DIG_HI then (if node < 20 then bitsOf (spGet s.mor.nodeDigest node) 32 32 else 0)
  else stored

def State.readQos (s : State) (off : Nat) : Nat :=
  let c := s.fld F.QOS_Q_SEL_CTX
  let k := s.fld F.QOS_Q_SEL_KIND
  if off = R.QOS_Q_VAL then (if k < 6 then s.quota c k else 0)
  else if off = R.QOS_Q_USE then (if k < 6 then s.use c k else 0)
  else if off = R.QOS_Q_STAT then
    (s.reg off).toNat / 2 * 2 + (if k < 6 then boolNat (s.over c k) else 0)
  else (s.reg off).toNat

def State.readCen (s : State) (off : Nat) : Nat :=
  let g := s.selSlot
  let part := fun (b i : Nat) => bitsOf (s.bankWord g b (i / 4)) (32 * (i % 4)) 32
  if off = R.CEN_ADM then (s.slot g).bound
  else if 0x102000 ≤ off ∧ off < 0x102400 then part (s.inactiveBank g) ((off - 0x102000) / 4)
  else if 0x102400 ≤ off ∧ off < 0x102800 then part (s.fld (F.CEN_LSTAT_BANK g)) ((off - 0x102400) / 4)
  else (s.reg off).toNat

/-- What a read of a register shows where reading changes nothing. -/
def State.readView (s : State) (off : Nat) : Nat :=
  let stored := (s.reg off).toNat
  match blockOf off with
  | 0 =>
    if off = R.GLB_MODE then s.glbMode
    else if off = R.GLB_IRQ_STAT then s.irqLines
    else stored
  | 1 => if off = R.PWR_DOM_STAT then stored / 65536 * 65536 + s.domains else stored
  | 4 =>
    if off = R.HEN_SEQ then s.hen.nextSeq
    else if off = R.HEN_HOURS then s.hen.hours
    else if off = R.HEN_PCYC then s.hen.pcyc % 2 ^ 24
    else stored
  | 5 =>
    if off = R.GOO_DIAG then (setBits (s.reg off) 8 8 (s.corrected 128)).toNat
    else if R.GOO_OUT_STAT 0 ≤ off ∧ off ≤ R.GOO_OUT_STAT 7 then
      (setBits (s.reg off) 5 1 (boolNat (s.fbIn ((off - R.GOO_OUT_STAT 0) / 4)))).toNat
    else stored
  | 6 =>
    if off % 32 = 16 then (setBits (s.reg off) 8 1 (boolNat (s.overAny ((off - 0x60000) / 32)))).toNat
    else stored
  | 7 => s.readQos off
  | 8 => s.readMor off
  | 9 =>
    if off % 64 = 0 then
      let t := (off - 0xC0000) / 64
      (setBits (setBits (s.reg off) 0 1 (boolNat (s.tileRuns t))) 8 8 (s.corrected t)).toNat
    else stored
  | 10 => s.readCen off
  | 11 =>
    if off = R.FUS_TB_ERREST then s.errest else if off = R.FUS_CAL_VAL then s.calVal else stored
  | 12 => if 0x170000 ≤ off ∧ s.flag F.CAM_GLB_CFG_WIDE = true then 0 else stored
  | 14 => if off = R.OX_GLB_STAT then s.oxGlbStat.toNat else stored
  | 18 => if off = R.FLT_MISSING then s.missingMask else stored
  | _ => stored

/-- Bits of a register that show what is measured at the moment of the read: the
boost rail's and the load supply's voltage, the current of a Mule channel that is on. -/
def State.measuredWord (s : State) (off : Nat) : Word :=
  if off = R.OX_GLB_STAT ∨ off = R.MUL_GLB_STAT then 0x3FF
  else if R.MUL_CH_STAT 0 ≤ off ∧ off ≤ R.MUL_CH_STAT 63 ∧ off % 16 = 8
      ∧ s.fld (F.MUL_CH_STAT_STATE ((off - R.MUL_CH_STAT 0) / 16)) = 1 then 0xFFFF0000
  else 0

/-- A read of PWR_TEMP: the temperatures, which are measured and so open, hold between updates every 100 ms;
SLAB reads 0x80 while every slab is off (R531; log entry 27). -/
def opTempRead (s : State) : State :=
  let n := s.now / (100 * psPerMs) + 1
  let s := if s.pwr.tempAt = n then s else
    let (v, s) := s.drawFree 32
    { s.setReg R.PWR_TEMP v with pwr := { s.pwr with tempAt := n } }
  let w := s.reg R.PWR_TEMP
  s.onBus (if [4, 5, 6, 7].any s.domOn then w else setBits w 16 8 0x80).toNat

/-- A read of a defined register: the value goes to the bus. What is measured at that moment is open
(log entry 27); ticks, the module-time pair, the record window and the nonce act as their rows. -/
def opRegisterRead (off ident : Nat) (s : State) : State :=
  if off = R.ROO_TICK0 then opTick0Read ident s
  else if off = R.ROO_TICK1 then s.onBus (s.tickPart ident 1)
  else if off = R.ROO_TICK2 then opTick2Read ident s
  else if off = R.FUS_TB_NOW_LO then opTbNowRead false s
  else if off = R.FUS_TB_NOW_HI then opTbNowRead true s
  else if 0x101000 ≤ off ∧ off < 0x101800 then opRecRead ((off - 0x101000) / 4) s
  else if off = R.FLT_SES_NONCE 0 then opNonceDraw s
  else if off = R.PWR_TEMP then opTempRead s
  else match mbxPlace off with
    | some (ch, side, o) =>
      let (s, w) := opMbxAccess ch side o ident true 0 s
      { s with busData := w }
    | none =>
      let (w, s) := s.readMeasured (s.measuredWord off) (BitVec.ofNat 32 (s.readView off))
      s.onBus w.toNat

/-! ### The doorbell window (R228, R537) -/

def opDoorbell (off : Nat) (read : Bool) (v : Word) (s : State) : State :=
  let c := off / 4096
  let r := off % 4096
  if 4096 ≤ c ∨ 16 ≤ r then (if read then s.onBus 0 else s).badAccess
  else if read then
    let x := s.ctxSt c
    s.onBus (if r = 0 then x.sqTail else if r = 4 then x.cqHead else if r = 8 then x.sqHead else x.cqTail)
  else if r = 0 then opSqTail c v s
  else if r = 4 then opCqHead c v s
  else s

/-! ### REGISTER_WRITE (R7, R8, R539) -/

/-- An access by a bus master. No master runs while the hub is unpowered. An access of another size, an
unaligned one, or one to an offset that holds no register completes and sets BADACC (R7). -/
def opAccess (a : Access) (s : State) : State :=
  if !s.hubRuns then s
  else if a.size ≠ 4 ∨ a.off % 4 ≠ 0 then (if a.read then s.onBus 0 else s).badAccess
  else match a.win with
    | .doorbell => opDoorbell a.off a.read a.value s
    | .setup =>
      match findReg a.off with
      | none => (if a.read then s.onBus 0 else s).badAccess
      | some _ => if a.read then opRegisterRead a.off a.ident s else opRegisterWrite a.off a.ident a.value s

def execRegisterWrite (t : Nat) (a : Access) (s : State) : Host.Outcome State Fault Refusal :=
  .next (opAccess a (s.tick t))

/-! ### GLB_LOCK_SET (R274) -/

/-- LOCK is set only: writing 1 to a set LOCK has no effect. -/
def opLockSet (b : Nat) (s : State) : State := s.setFlag (F.GLB_LOCK_LOCK b) true

def execGlbLockSet (t : Nat) (b : Fin 21) (s : State) : Host.Outcome State Fault Refusal :=
  .next (opLockSet b.val (s.tick t))

end Sys2Proof.Machine
end

