-- ==== Sys2Proof/Machine/Dispatch.lean ====
section
/-!
DEFINITION. Machine/Dispatch.lean: which meaning each command has, one arm per constructor.
-/

namespace Sys2Proof.Machine

def exec (i : Instr) (s : State) : Host.Outcome State Fault Refusal :=
  match i with
  | .registerWrite t a => Sys2Proof.Machine.execRegisterWrite t a s
  | .glbLockSet t b => Sys2Proof.Machine.execGlbLockSet t b s
  | .piezoImpact t ch => Sys2Proof.Machine.execPiezoImpact t ch s
  | .piezoWindowClose t ch grain chaff => Sys2Proof.Machine.execPiezoWindowClose t ch grain chaff s
  | .lossInterval t => Sys2Proof.Machine.execLossInterval t s
  | .piezoBiasFault t ch began => Sys2Proof.Machine.execPiezoBiasFault t ch began s
  | .massFlowInterval t u v => Sys2Proof.Machine.execMassFlowInterval t u v s
  | .massFlowZeroUpdate t => Sys2Proof.Machine.execMassFlowZeroUpdate t s
  | .moistureInterval t conv => Sys2Proof.Machine.execMoistureInterval t conv s
  | .forecastFramePublish t feed conf covered meas => Sys2Proof.Machine.execForecastFramePublish t feed conf covered meas s
  | .forecastStale t => Sys2Proof.Machine.execForecastStale t s
  | .fusFcstGainrst t v => Sys2Proof.Machine.execFusFcstGainrst t v s
  | .fusCropWrite t v => Sys2Proof.Machine.execFusCropWrite t v s
  | .yieldCellClose t height => Sys2Proof.Machine.execYieldCellClose t height s
  | .yieldCellWrite t => Sys2Proof.Machine.execYieldCellWrite t s
  | .fusYieldEnable t v => Sys2Proof.Machine.execFusYieldEnable t v s
  | .ringRptrWrite t ring v => Sys2Proof.Machine.execRingRptrWrite t ring v s
  | .mortarPacketArrive t p => Sys2Proof.Machine.execMortarPacketArrive t p s
  | .morRtStageWrite t second v => Sys2Proof.Machine.execMorRtStageWrite t second v s
  | .morRtCommit t => Sys2Proof.Machine.execMorRtCommit t s
  | .morRtCancel t => Sys2Proof.Machine.execMorRtCancel t s
  | .routeBoundarySwitch t r frame => Sys2Proof.Machine.execRouteBoundarySwitch t r frame s
  | .routeReservationRelease t r => Sys2Proof.Machine.execRouteReservationRelease t r s
  | .digestSweepStart t => Sys2Proof.Machine.execDigestSweepStart t s
  | .digestSweepPublish t ecc upsets => Sys2Proof.Machine.execDigestSweepPublish t ecc upsets s
  | .sweepOverrun t => Sys2Proof.Machine.execSweepOverrun t s
  | .morActArm t => Sys2Proof.Machine.execMorActArm t s
  | .morActDisarm t => Sys2Proof.Machine.execMorActDisarm t s
  | .activation t => Sys2Proof.Machine.execActivation t s
  | .cenSelWrite t v => Sys2Proof.Machine.execCenSelWrite t v s
  | .cenEnable t => Sys2Proof.Machine.execCenEnable t s
  | .cenDisable t => Sys2Proof.Machine.execCenDisable t s
  | .cenRearm t => Sys2Proof.Machine.execCenRearm t s
  | .cenSwap t => Sys2Proof.Machine.execCenSwap t s
  | .cenRecWrite t ix v => Sys2Proof.Machine.execCenRecWrite t ix v s
  | .cenRecRead t ix => Sys2Proof.Machine.execCenRecRead t ix s
  | .cenBankWrite t ix v => Sys2Proof.Machine.execCenBankWrite t ix v s
  | .loopSampleInstant t slot ecc => Sys2Proof.Machine.execLoopSampleInstant t slot ecc s
  | .evaluationStart t tile ecc => Sys2Proof.Machine.execEvaluationStart t tile ecc s
  | .evaluationComplete t slot => Sys2Proof.Machine.execEvaluationComplete t slot s
  | .loopGuard t slot => Sys2Proof.Machine.execLoopGuard t slot s
  | .loopOutputPhase t slot => Sys2Proof.Machine.execLoopOutputPhase t slot s
  | .specFrameStart t slot n => Sys2Proof.Machine.execSpecFrameStart t slot n s
  | .specFrameComplete t slot n => Sys2Proof.Machine.execSpecFrameComplete t slot n s
  | .confirmResult t slot => Sys2Proof.Machine.execConfirmResult t slot s
  | .specPacketReceive t p => Sys2Proof.Machine.execSpecPacketReceive t p s
  | .dropPacketReceive t p => Sys2Proof.Machine.execDropPacketReceive t p s
  | .timebaseReferenceEdge t as ref => Sys2Proof.Machine.execTimebaseReferenceEdge t as ref s
  | .timebaseHoldover t => Sys2Proof.Machine.execTimebaseHoldover t s
  | .timebaseSlewEnd t => Sys2Proof.Machine.execTimebaseSlewEnd t s
  | .fusTbSrcWrite t v => Sys2Proof.Machine.execFusTbSrcWrite t v s
  | .fusTbNowRead t hi => Sys2Proof.Machine.execFusTbNowRead t hi s
  | .cameraTrigger t n => Sys2Proof.Machine.execCameraTrigger t n s
  | .fusTrgWrite t n phase v => Sys2Proof.Machine.execFusTrgWrite t n phase v s
  | .egoMotionSample t enc encBad yaw1 yaw2 pitch roll imuValid imuAll => Sys2Proof.Machine.execEgoMotionSample t enc encBad yaw1 yaw2 pitch roll imuValid imuAll s
  | .slipUpdate t slip => Sys2Proof.Machine.execSlipUpdate t slip s
  | .posePropagate t pose => Sys2Proof.Machine.execPosePropagate t pose s
  | .poseRecord t => Sys2Proof.Machine.execPoseRecord t s
  | .fusNetEnable t k v => Sys2Proof.Machine.execFusNetEnable t k v s
  | .fusNetRst t k v => Sys2Proof.Machine.execFusNetRst t k v s
  | .fusionStepStart t k bad ecc => Sys2Proof.Machine.execFusionStepStart t k bad ecc s
  | .fusionStepComplete t k out => Sys2Proof.Machine.execFusionStepComplete t k out s
  | .fusionStepAbandon t k => Sys2Proof.Machine.execFusionStepAbandon t k s
  | .calRefine t est => Sys2Proof.Machine.execCalRefine t est s
  | .fusCalPublish t v => Sys2Proof.Machine.execFusCalPublish t v s
  | .camWideWrite t v => Sys2Proof.Machine.execCamWideWrite t v s
  | .camPortEnable t n v => Sys2Proof.Machine.execCamPortEnable t n v s
  | .camSettingWrite t n ix v => Sys2Proof.Machine.execCamSettingWrite t n ix v s
  | .camI2cStart t n v => Sys2Proof.Machine.execCamI2cStart t n v s
  | .camI2cDone t n ack byte => Sys2Proof.Machine.execCamI2cDone t n ack byte s
  | .camLinkLost t n => Sys2Proof.Machine.execCamLinkLost t n s
  | .camLinkRestored t n => Sys2Proof.Machine.execCamLinkRestored t n s
  | .csiFrameStart t n => Sys2Proof.Machine.execCsiFrameStart t n s
  | .csiLongPacket t n vc dt badHeader badCrc oneFlip sites => Sys2Proof.Machine.execCsiLongPacket t n vc dt badHeader badCrc oneFlip sites s
  | .tapLineSend t n tapB => Sys2Proof.Machine.execTapLineSend t n tapB s
  | .csiFrameEnd t n => Sys2Proof.Machine.execCsiFrameEnd t n s
  | .camFrameDeadline t n => Sys2Proof.Machine.execCamFrameDeadline t n s
  | .camStatsReady t n => Sys2Proof.Machine.execCamStatsReady t n s
  | .gnssEpoch t meas search sol => Sys2Proof.Machine.execGnssEpoch t meas search sol s
  | .gnssTimeInvalid t => Sys2Proof.Machine.execGnssTimeInvalid t s
  | .gnssNavUnit t chan bits inverted startNs => Sys2Proof.Machine.execGnssNavUnit t chan bits inverted startNs s
  | .gnssPpsEdge t edge => Sys2Proof.Machine.execGnssPpsEdge t edge s
  | .gnssQerrReport t => Sys2Proof.Machine.execGnssQerrReport t s
  | .ppsFreerunPulse t => Sys2Proof.Machine.execPpsFreerunPulse t s
  | .gnsInjCommit t v => Sys2Proof.Machine.execGnsInjCommit t v s
  | .gnsCfgWrite t r v gone => Sys2Proof.Machine.execGnsCfgWrite t r v gone s
  | .gnssAntennaFault t ua => Sys2Proof.Machine.execGnssAntennaFault t ua s
  | .ctxEnable t c => Sys2Proof.Machine.execCtxEnable t c s
  | .ctxDisable t c => Sys2Proof.Machine.execCtxDisable t c s
  | .contextDrained t c => Sys2Proof.Machine.execContextDrained t c s
  | .ctxConfigWrite t c r v => Sys2Proof.Machine.execCtxConfigWrite t c r v s
  | .dbSqTail t c v stores => Sys2Proof.Machine.execDbSqTail t c v stores s
  | .dbCqHead t c v => Sys2Proof.Machine.execDbCqHead t c v s
  | .descriptorRead t c ecc => Sys2Proof.Machine.execDescriptorRead t c ecc s
  | .nop t c tag => Sys2Proof.Machine.execNop t c tag s
  | .cancel t c tag => Sys2Proof.Machine.execCancel t c tag s
  | .cfgWrite t c tag ecc => Sys2Proof.Machine.execCfgWrite t c tag ecc s
  | .cfgRead t c tag ecc => Sys2Proof.Machine.execCfgRead t c tag ecc s
  | .routeCommit t c tag => Sys2Proof.Machine.execRouteCommit t c tag s
  | .stageDiscard t c tag => Sys2Proof.Machine.execStageDiscard t c tag s
  | .loopEnable t c tag => Sys2Proof.Machine.execLoopEnable t c tag s
  | .loopDisable t c tag => Sys2Proof.Machine.execLoopDisable t c tag s
  | .loopRearm t c tag => Sys2Proof.Machine.execLoopRearm t c tag s
  | .loopSwap t c tag => Sys2Proof.Machine.execLoopSwap t c tag s
  | .loopBankWrite t c tag ecc => Sys2Proof.Machine.execLoopBankWrite t c tag ecc s
  | .loopRead t c tag ecc => Sys2Proof.Machine.execLoopRead t c tag ecc s
  | .operationComplete t c tag => Sys2Proof.Machine.execOperationComplete t c tag s
  | .irqCoalesceTimer t c => Sys2Proof.Machine.execIrqCoalesceTimer t c s
  | .operationDeadline t c tag => Sys2Proof.Machine.execOperationDeadline t c tag s
  | .tallyBoundary t => Sys2Proof.Machine.execTallyBoundary t s
  | .glbResyncRequest t v => Sys2Proof.Machine.execGlbResyncRequest t v s
  | .resyncSummaryWritten t => Sys2Proof.Machine.execResyncSummaryWritten t s
  | .quotaSet t c tag => Sys2Proof.Machine.execQuotaSet t c tag s
  | .reclaim t c tag => Sys2Proof.Machine.execReclaim t c tag s
  | .reclaimRelease t c tag => Sys2Proof.Machine.execReclaimRelease t c tag s
  | .acquire t c tag ecc => Sys2Proof.Machine.execAcquire t c tag ecc s
  | .release t c tag => Sys2Proof.Machine.execRelease t c tag s
  | .dmaCopy t c tag ecc => Sys2Proof.Machine.execDmaCopy t c tag ecc s
  | .waitGrant t c tag => Sys2Proof.Machine.execWaitGrant t c tag s
  | .qosQuotaWrite t v => Sys2Proof.Machine.execQosQuotaWrite t v s
  | .qosDramWrite t k v => Sys2Proof.Machine.execQosDramWrite t k v s
  | .oxPwmPeriod t n cur vb => Sys2Proof.Machine.execOxPwmPeriod t n cur vb s
  | .oxCommandFlit t p => Sys2Proof.Machine.execOxCommandFlit t p s
  | .oxCommandTimeout t n => Sys2Proof.Machine.execOxCommandTimeout t n s
  | .oxDutyLimitEval t n => Sys2Proof.Machine.execOxDutyLimitEval t n s
  | .oxPairWrite t n v => Sys2Proof.Machine.execOxPairWrite t n v s
  | .oxPigWrite t n v => Sys2Proof.Machine.execOxPigWrite t n v s
  | .oxPullinGrant t n => Sys2Proof.Machine.execOxPullinGrant t n s
  | .oxPullinEnd t n cur mj => Sys2Proof.Machine.execOxPullinEnd t n cur mj s
  | .oxTokenReturn t => Sys2Proof.Machine.execOxTokenReturn t s
  | .oxRailLow t vb => Sys2Proof.Machine.execOxRailLow t vb s
  | .oxRailRecover t vb => Sys2Proof.Machine.execOxRailRecover t vb s
  | .oxRailClamp t vb => Sys2Proof.Machine.execOxRailClamp t vb s
  | .oxSupplyLow t mv => Sys2Proof.Machine.execOxSupplyLow t mv s
  | .oxSupplyRestored t mv => Sys2Proof.Machine.execOxSupplyRestored t mv s
  | .oxShort t n ma => Sys2Proof.Machine.execOxShort t n ma s
  | .oxOpen t n => Sys2Proof.Machine.execOxOpen t n s
  | .oxOvertemp t n celsius => Sys2Proof.Machine.execOxOvertemp t n celsius s
  | .oxChStatClear t n v shortHolds openHolds junction => Sys2Proof.Machine.execOxChStatClear t n v shortHolds openHolds junction s
  | .oxFaultClear t c tag shortHolds openHolds junction => Sys2Proof.Machine.execOxFaultClear t c tag shortHolds openHolds junction s
  | .oxStatusRead t c tag => Sys2Proof.Machine.execOxStatusRead t c tag s
  | .mulCommandFlit t p => Sys2Proof.Machine.execMulCommandFlit t p s
  | .mulChCmdWrite t n v => Sys2Proof.Machine.execMulChCmdWrite t n v s
  | .mulUvlo t mv => Sys2Proof.Machine.execMulUvlo t mv s
  | .mulUvloRelease t mv => Sys2Proof.Machine.execMulUvloRelease t mv s
  | .mulLimitStart t n ma => Sys2Proof.Machine.execMulLimitStart t n ma s
  | .mulLimitLong t n => Sys2Proof.Machine.execMulLimitLong t n s
  | .mulThermalShutdown t n celsius => Sys2Proof.Machine.execMulThermalShutdown t n celsius s
  | .mulRetry t n celsius => Sys2Proof.Machine.execMulRetry t n celsius s
  | .mulRetryCountClear t n => Sys2Proof.Machine.execMulRetryCountClear t n s
  | .mulOffstateCheck t n mv => Sys2Proof.Machine.execMulOffstateCheck t n mv s
  | .mulChStatClear t n v junction => Sys2Proof.Machine.execMulChStatClear t n v junction s
  | .mulFaultClear t c tag junction => Sys2Proof.Machine.execMulFaultClear t c tag junction s
  | .mulStatusRead t c tag => Sys2Proof.Machine.execMulStatusRead t c tag s
  | .safetyContactChange t ix contactB level => Sys2Proof.Machine.execSafetyContactChange t ix contactB level s
  | .safetyDiscrepancy t ix => Sys2Proof.Machine.execSafetyDiscrepancy t ix s
  | .safetyCrossCircuit t ix => Sys2Proof.Machine.execSafetyCrossCircuit t ix s
  | .gooStop t => Sys2Proof.Machine.execGooStop t s
  | .gooRelease t => Sys2Proof.Machine.execGooRelease t s
  | .gooOutputRequest t v => Sys2Proof.Machine.execGooOutputRequest t v s
  | .safetyOutputTest t o mv => Sys2Proof.Machine.execSafetyOutputTest t o mv s
  | .safetyOutputReadback t o mv supply => Sys2Proof.Machine.execSafetyOutputReadback t o mv supply s
  | .contactorFeedbackCheck t fb level => Sys2Proof.Machine.execContactorFeedbackCheck t fb level s
  | .sealedSwitchChange t sw => Sys2Proof.Machine.execSealedSwitchChange t sw s
  | .gooseDiagFailure t k => Sys2Proof.Machine.execGooseDiagFailure t k s
  | .gooseSpeedUpdate t low high => Sys2Proof.Machine.execGooseSpeedUpdate t low high s
  | .speedDiscrepancy t => Sys2Proof.Machine.execSpeedDiscrepancy t s
  | .gooseStill t => Sys2Proof.Machine.execGooseStill t s
  | .gooseStatusFlit t => Sys2Proof.Machine.execGooseStatusFlit t s
  | .canOffbusSet t c v => Sys2Proof.Machine.execCanOffbusSet t c v s
  | .canBusJoin t c => Sys2Proof.Machine.execCanBusJoin t c s
  | .canFrameReceived t c head data sofUs rate rec => Sys2Proof.Machine.execCanFrameReceived t c head data sofUs rate rec s
  | .canFifoAckWrite t c v => Sys2Proof.Machine.execCanFifoAckWrite t c v s
  | .canTxreqWrite t c v => Sys2Proof.Machine.execCanTxreqWrite t c v s
  | .canTxcanWrite t c v => Sys2Proof.Machine.execCanTxcanWrite t c v s
  | .canTxStart t c fits => Sys2Proof.Machine.execCanTxStart t c fits s
  | .canFrameSent t c tec => Sys2Proof.Machine.execCanFrameSent t c tec s
  | .canTxFailure t c arb tec => Sys2Proof.Machine.execCanTxFailure t c arb tec s
  | .canTxrtFlit t p => Sys2Proof.Machine.execCanTxrtFlit t p s
  | .canErrorStateChange t c b tec rec => Sys2Proof.Machine.execCanErrorStateChange t c b tec rec s
  | .canBusoffRecovered t c => Sys2Proof.Machine.execCanBusoffRecovered t c s
  | .canAbdStart t c v => Sys2Proof.Machine.execCanAbdStart t c v s
  | .canAbdCandidateTimeout t c error => Sys2Proof.Machine.execCanAbdCandidateTimeout t c error s
  | .canTtTrigger t c ix busy => Sys2Proof.Machine.execCanTtTrigger t c ix busy s
  | .canTtReference t c won => Sys2Proof.Machine.execCanTtReference t c won s
  | .canWakePattern t c => Sys2Proof.Machine.execCanWakePattern t c s
  | .canTx t c tag ecc => Sys2Proof.Machine.execCanTx t c tag ecc s
  | .canFifoDrain t c tag => Sys2Proof.Machine.execCanFifoDrain t c tag s
  | .mbxSend t ch sideB ident v => Sys2Proof.Machine.execMbxSend t ch sideB ident v s
  | .mbxAck t ch sideB ident v => Sys2Proof.Machine.execMbxAck t ch sideB ident v s
  | .mbxBothpend t ch => Sys2Proof.Machine.execMbxBothpend t ch s
  | .henRecordWrite t => Sys2Proof.Machine.execHenRecordWrite t s
  | .henOpenRefresh t => Sys2Proof.Machine.execHenOpenRefresh t s
  | .henTokenReturn t => Sys2Proof.Machine.execHenTokenReturn t s
  | .henHoursWrite t => Sys2Proof.Machine.execHenHoursWrite t s
  | .henScanComplete t bad => Sys2Proof.Machine.execHenScanComplete t bad s
  | .henCurSeqWrite t v crcBad => Sys2Proof.Machine.execHenCurSeqWrite t v crcBad s
  | .henNext t crcBad => Sys2Proof.Machine.execHenNext t crcBad s
  | .henWrite t c tag => Sys2Proof.Machine.execHenWrite t c tag s
  | .henRead t c tag ecc => Sys2Proof.Machine.execHenRead t c tag ecc s
  | .henClear t c tag => Sys2Proof.Machine.execHenClear t c tag s
  | .supplyBandChange t mv => Sys2Proof.Machine.execSupplyBandChange t mv s
  | .crankTimeout t => Sys2Proof.Machine.execCrankTimeout t s
  | .supplyCollapse t mv => Sys2Proof.Machine.execSupplyCollapse t mv s
  | .railFault t d => Sys2Proof.Machine.execRailFault t d s
  | .junctionLimit t d => Sys2Proof.Machine.execJunctionLimit t d s
  | .ignChange t level => Sys2Proof.Machine.execIgnChange t level s
  | .powerUpStart t supplyMs => Sys2Proof.Machine.execPowerUpStart t supplyMs s
  | .aoSwitchToBackup t vao vbat => Sys2Proof.Machine.execAoSwitchToBackup t vao vbat s
  | .aoReturnToMain t vao vbat heldUs => Sys2Proof.Machine.execAoReturnToMain t vao vbat heldUs s
  | .canaryFlip t mv => Sys2Proof.Machine.execCanaryFlip t mv s
  | .vbatMeasure t mv => Sys2Proof.Machine.execVbatMeasure t mv s
  | .xo32Stop t => Sys2Proof.Machine.execXo32Stop t s
  | .rooTick0Read t ident => Sys2Proof.Machine.execRooTick0Read t ident s
  | .rooTick2Read t ident => Sys2Proof.Machine.execRooTick2Read t ident s
  | .rooLoad t => Sys2Proof.Machine.execRooLoad t s
  | .rooLoadApply t => Sys2Proof.Machine.execRooLoadApply t s
  | .rooAlarm t => Sys2Proof.Machine.execRooAlarm t s
  | .calendarSecond t => Sys2Proof.Machine.execCalendarSecond t s
  | .calendarWrite t f v => Sys2Proof.Machine.execCalendarWrite t f v s
  | .oscJudgeWindow t o count => Sys2Proof.Machine.execOscJudgeWindow t o count s
  | .clkFreqWrite t d v => Sys2Proof.Machine.execClkFreqWrite t d v s
  | .pllLock t d => Sys2Proof.Machine.execPllLock t d s
  | .relockWindow t d ok => Sys2Proof.Machine.execRelockWindow t d ok s
  | .relockTimeout t d => Sys2Proof.Machine.execRelockTimeout t d s
  | .relockRetry t d => Sys2Proof.Machine.execRelockRetry t d s
  | .pllLockLoss t d => Sys2Proof.Machine.execPllLockLoss t d s
  | .blockSleep t b => Sys2Proof.Machine.execBlockSleep t b s
  | .clkObsWrite t v => Sys2Proof.Machine.execClkObsWrite t v s
  | .modeRequest t v => Sys2Proof.Machine.execModeRequest t v s
  | .modeChangeEffect t => Sys2Proof.Machine.execModeChangeEffect t s
  | .ignitionOffTimeout t => Sys2Proof.Machine.execIgnitionOffTimeout t s
  | .bootEntry t rcvLow svcLow => Sys2Proof.Machine.execBootEntry t rcvLow svcLow s
  | .bootStepComplete t step ok => Sys2Proof.Machine.execBootStepComplete t step ok s
  | .bootGood t v => Sys2Proof.Machine.execBootGood t v s
  | .bootWatchdogExpiry t => Sys2Proof.Machine.execBootWatchdogExpiry t s
  | .recoveryTftpRequest t write file octet blksize size => Sys2Proof.Machine.execRecoveryTftpRequest t write file octet blksize size s
  | .recoveryTftpData t blk data => Sys2Proof.Machine.execRecoveryTftpData t blk data s
  | .recoveryCanStart t data => Sys2Proof.Machine.execRecoveryCanStart t data s
  | .recoveryCanData t data => Sys2Proof.Machine.execRecoveryCanData t data s
  | .recoveryCanEnd t data => Sys2Proof.Machine.execRecoveryCanEnd t data s
  | .recoveryDownloadDone t sigOk written => Sys2Proof.Machine.execRecoveryDownloadDone t sigOk written s
  | .recoveryExit t rcvHigh => Sys2Proof.Machine.execRecoveryExit t rcvHigh s
  | .updateStage t v sigOk => Sys2Proof.Machine.execUpdateStage t v sigOk s
  | .updateStageDone t sigOk => Sys2Proof.Machine.execUpdateStageDone t sigOk s
  | .updateArm t v => Sys2Proof.Machine.execUpdateArm t v s
  | .updateDisarm t v => Sys2Proof.Machine.execUpdateDisarm t v s
  | .updateDiscard t v => Sys2Proof.Machine.execUpdateDiscard t v s
  | .updateActivation t => Sys2Proof.Machine.execUpdateActivation t s
  | .legacyPeripheralAccess t op => Sys2Proof.Machine.execLegacyPeripheralAccess t op s
  | .legacyUnemulatedAccess t addr store => Sys2Proof.Machine.execLegacyUnemulatedAccess t addr store s
  | .legacyWatchdogExpiry t => Sys2Proof.Machine.execLegacyWatchdogExpiry t s
  | .ethFrameReceived t p frame fcsOk sfdNs => Sys2Proof.Machine.execEthFrameReceived t p frame fcsOk sfdNs s
  | .ethTxWptrWrite t p v => Sys2Proof.Machine.execEthTxWptrWrite t p v s
  | .ethFrameSend t p fell => Sys2Proof.Machine.execEthFrameSend t p fell s
  | .ethLinkChange t p up speed => Sys2Proof.Machine.execEthLinkChange t p up speed s
  | .ptpMessageReceived t p m => Sys2Proof.Machine.execPtpMessageReceived t p m s
  | .ptpSyncSend t p => Sys2Proof.Machine.execPtpSyncSend t p s
  | .unitRecordReceived t can port src payload => Sys2Proof.Machine.execUnitRecordReceived t can port src payload s
  | .machineDigestUpdate t => Sys2Proof.Machine.execMachineDigestUpdate t s
  | .machineRecordSend t => Sys2Proof.Machine.execMachineRecordSend t s
  | .memberMissing t ix => Sys2Proof.Machine.execMemberMissing t ix s
  | .fleetRecord t => Sys2Proof.Machine.execFleetRecord t s
  | .identityChallenge t path payload => Sys2Proof.Machine.execIdentityChallenge t path payload s
  | .anchorChallenge t => Sys2Proof.Machine.execAnchorChallenge t s
  | .anchorResponse t payload okRec okNew => Sys2Proof.Machine.execAnchorResponse t payload okRec okNew s
  | .bindingAbsent t => Sys2Proof.Machine.execBindingAbsent t s
  | .sessionNonceDraw t => Sys2Proof.Machine.execSessionNonceDraw t s
  | .sessionExpiry t => Sys2Proof.Machine.execSessionExpiry t s
  | .idSign t c tag ecc => Sys2Proof.Machine.execIdSign t c tag ecc s
  | .sessionOpen t c tag ecc sigOk => Sys2Proof.Machine.execSessionOpen t c tag ecc sigOk s
  | .sessionClose t c tag => Sys2Proof.Machine.execSessionClose t c tag s
  | .rebind t c tag ecc => Sys2Proof.Machine.execRebind t c tag ecc s
  | .rebindTimeout t c tag => Sys2Proof.Machine.execRebindTimeout t c tag s
  | .dspOn t => Sys2Proof.Machine.execDspOn t s
  | .dspOff t => Sys2Proof.Machine.execDspOff t s
  | .dspLinkTraining t => Sys2Proof.Machine.execDspLinkTraining t s
  | .dspTrainingEnd t ok => Sys2Proof.Machine.execDspTrainingEnd t ok s
  | .dspHpdChange t level => Sys2Proof.Machine.execDspHpdChange t level s
  | .dspVerticalStart t late => Sys2Proof.Machine.execDspVerticalStart t late s
  | .dspBacklightDelay t => Sys2Proof.Machine.execDspBacklightDelay t s
  | .mulLimitEnd t n ma => Sys2Proof.Machine.execMulLimitEnd t n ma s
  | .oxRailClampEnd t vb => Sys2Proof.Machine.execOxRailClampEnd t vb s
  | .antennaBiasFaultEnd t ua => Sys2Proof.Machine.execAntennaBiasFaultEnd t ua s
  | .backupCellGivesOut t => Sys2Proof.Machine.execBackupCellGivesOut t s

end Sys2Proof.Machine
end

