-- ==== Sys2Proof/Safety.lean ====
section
/-!
DEFINITION. Safety.lean: what counts as a sound state and a safe run, in the terms the claims use.
-/

namespace Sys2Proof

open Sys2Proof.Machine

/-- Keys strictly rising, and no word equal to its register's reset value. -/
def regsWf : Sparse Word → Bool
  | [] => true
  | [(k, v)] => decide (v ≠ regReset k)
  | (k, v) :: (k', v') :: m => decide (v ≠ regReset k) && decide (k < k') && regsWf ((k', v') :: m)

/-- The memory list is in its canonical form and lists only addresses of module DRAM (R14). -/
def memOk (m : List Host.Cell) : Prop := dramWf m = true ∧ ∀ c ∈ m, c.1 < dramSize

/-- Module DRAM is held canonically. -/
def MemInv (s : State) : Prop := memOk s.dram

/-- The set-up registers are held canonically. -/
def RegInv (s : State) : Prop := regsWf s.regs = true

/-- A step answers a next state: it stops neither with a fault nor with a refusal. -/
def Runs (s : State) : Prop := ∃ s', Machine.step s = .next s'

/-- Two states hold the same contents of module DRAM. -/
def sameMemory (s s' : State) : Prop := ∀ a, s'.readByte a = s.readByte a

/-! ### What a command answers and what a report may touch -/

/-- The command answers a next state, and `P` holds of it. -/
def Gives (i : Instr) (s : State) (P : State → Prop) : Prop := ∃ u, Machine.exec i s = .next u ∧ P u

/-- Offsets of the registers that raising an event or making a Hen record writes: GLB_EVT_PEND,
GLB_EVT_ARG (R243), HEN_STAT (its USED field, R394), and the pointers of the Hen's export ring (R391). -/
def reportReg (off : Nat) : Bool :=
  (decide (0x200 ≤ off) && decide (off < 0x220)) || (decide (0x1400 ≤ off) && decide (off < 0x1800))
    || off == 0x40000 || off == 0x4008C

/-- An address inside the completion ring of context c (R224). -/
def inCplRing (s : State) (c a : Nat) : Prop :=
  s.fld (F.CTX_CPL_BASE_ADDR c) * 4096 ≤ a ∧ a < s.fld (F.CTX_CPL_BASE_ADDR c) * 4096 + 16 * s.cqSize c

/-- An address inside the Hen's export ring (R391). -/
def inHenRing (s : State) (a : Nat) : Prop :=
  (s.ring R.HEN_EXP_BASE_LO).base ≤ a ∧
    a < (s.ring R.HEN_EXP_BASE_LO).base + 32 * 2 ^ (s.ring R.HEN_EXP_BASE_LO).log2

/-- The bytes of module DRAM that reports may store to: completion rings and the Hen's export ring. -/
def reportByte (s : State) (a : Nat) : Prop := (∃ c, c < 4096 ∧ inCplRing s c a) ∨ inHenRing s a

/-- The records that wait for the Hen's export ring have the ring's record size (R391). -/
def HenBufInv (s : State) : Prop := ∀ r ∈ (s.ring R.HEN_EXP_BASE_LO).buf, r.length = 32

/-- From `v` the machine has come to `u` by reports alone: events raised (R243), Hen records made
(R383 to R388), period counters advanced (R245). Everything else stands. -/
structure Reports (v u : State) : Prop where
  rest : u = { v with regs := u.regs, dram := u.dram, rings := u.rings, host := u.host, hen := u.hen }
  reg : ∀ off, reportReg off = false → u.reg off = v.reg off
  scanned : u.fld F.HEN_STAT_SCANNED = v.fld F.HEN_STAT_SCANNED
  badrec : u.fld F.HEN_STAT_BADREC = v.fld F.HEN_STAT_BADREC
  ring : ∀ off, off ≠ R.HEN_EXP_BASE_LO → u.ring off = v.ring off
  place : (u.ring R.HEN_EXP_BASE_LO).base = (v.ring R.HEN_EXP_BASE_LO).base ∧
    (u.ring R.HEN_EXP_BASE_LO).log2 = (v.ring R.HEN_EXP_BASE_LO).log2
  buf : HenBufInv v → HenBufInv u
  mem : HenBufInv v → ∀ a, ¬ reportByte v a → u.readByte a = v.readByte a
  ops : u.host.ops = v.host.ops
  lastRead : u.host.lastRead = v.host.lastRead
  period : u.host.tallyLast = v.host.tallyLast ∧ u.host.tallyNext = v.host.tallyNext ∧
    u.host.tallyPeriod = v.host.tallyPeriod
  summary : u.host.summary = v.host.summary ∧ u.host.summaryAddr = v.host.summaryAddr ∧
    u.host.summarySeq = v.host.summarySeq
  ptrs : ∀ c, (u.ctxSt c).sqTail = (v.ctxSt c).sqTail ∧ (u.ctxSt c).sqHead = (v.ctxSt c).sqHead ∧
    (u.ctxSt c).cqHead = (v.ctxSt c).cqHead
  hen : u.hen.hours = v.hen.hours ∧ u.hen.pcyc = v.hen.pcyc ∧ u.hen.tokens = v.hen.tokens

/-- The pending bit of event e in GLB_EVT_PEND (R243). -/
def pendBit (e : Nat) : Fld := ⟨R.GLB_EVT_PEND (e / 32), e % 32, 1⟩

/-- Event e has been raised with this argument, once more than in `v` (R243, R244). -/
def Raised (e arg : Nat) (v u : State) : Prop :=
  u.flag (pendBit e) = true ∧ u.fld (F.GLB_EVT_ARG_ARG e) = arg % 2 ^ 32 ∧
    spGet u.host.raises e = (spGet v.host.raises e + 1) % 2 ^ 32

/-- Event e stands as it stood. -/
def SameEvent (e : Nat) (v u : State) : Prop :=
  u.flag (pendBit e) = v.flag (pendBit e) ∧ u.fld (F.GLB_EVT_ARG_ARG e) = v.fld (F.GLB_EVT_ARG_ARG e) ∧
    spGet u.host.raises e = spGet v.host.raises e

/-! ### The start of an operation (R231 to R233) -/

/-- Operation `o` of context c with this tag is in flight, may start (R231, R232, R253) while rings are served
(R220), its descriptor passes the checks of form (R240), and its class waits on no threshold (R254). -/
structure Startable (s : State) (c tag opcode : Nat) (o : Op) : Prop where
  found : s.findOp c tag = some o
  code : o.opcode = opcode
  may : s.mayStart o = true
  serves : s.servesRings = true
  form : s.formFault o = none
  cls : o.cls < 6

/-- The state in which a started operation acts: marked started, its delay noted, the block that serves
the opcode awake (R278, R431), its DRAM tokens taken (R259). -/
def begun (s : State) (o : Op) : State := ((s.startOp o).wakeBlock (opcodeBlock o.opcode)).takeTokens o

/-- The operation as it runs. -/
def running (s : State) (o : Op) : Op := { o with phase := .started, startAt := s.now }

end Sys2Proof
end

