-- ==== Sys2Proof/Certificates/Slice0/Obligations.lean ====
section
/-!
DEFINITION. Certificates/Slice0/Obligations.lean: the statements for the provers, each with the rule of the
spec that it formalises. `Gives i s P`: the command i, in state s, answers a next state of which P holds.
-/

open Sys2Proof Sys2Proof.Machine

/-- For every state with command c at the front of its queue, a step is exec of c on that state with the
queue's rest. (The queue is the model's: log entry 2.) -/
def Obligations.StepFront : Prop :=
  ∀ (s : State) (c : Instr) (rest : List Instr), s.pending = c :: rest →
    Machine.step s = Machine.exec c { s with pending := rest }

/-- With an empty queue a step answers the same state. This is the model's choice (log entry 2): time passes
only with the commands. -/
def Obligations.StepIdle : Prop := ∀ s : State, s.pending = [] → Machine.step s = .next s

/-- After reset module DRAM and the set-up registers are held in canonical form, no command waits, and no
record waits for the Hen's export ring. -/
def Obligations.ResetInv : Prop :=
  MemInv State.reset ∧ RegInv State.reset ∧ HenBufInv State.reset ∧ State.reset.pending = []

/-- After reset every set-up register holds its reset value (R10), and every byte of module DRAM reads 0,
which is the model's choice (log entry 5). -/
def Obligations.ResetRegisters : Prop :=
  (∀ off, State.reset.reg off = regReset off) ∧ ∀ a, State.reset.readByte a = 0

/-- From every state whose DRAM list is canonical (addresses strictly rising, below 64 GiB, no byte equal to
what an unlisted one reads as), whatever command a step runs, the DRAM list after it is canonical. -/
def Obligations.StepMemory : Prop := ∀ s u : State, MemInv s → Machine.step s = .next u → MemInv u

/-- From every state whose register list is canonical (offsets strictly rising, no word equal to its
register's reset value), whatever command a step runs, the register list after it is canonical. -/
def Obligations.StepRegisters : Prop := ∀ s u : State, RegInv s → Machine.step s = .next u → RegInv u

/-- Whatever command a step runs, it takes that command and no other from the queue, adds none, and neither
the instant nor the index of free values goes back. (The timeline, the queue and the index are the model's:
log entries 1, 2 and 11.) -/
def Obligations.StepOrder : Prop :=
  ∀ s u : State, Machine.step s = .next u →
    u.pending = s.pending.tail ∧ s.now ≤ u.now ∧ s.freeCtr ≤ u.freeCtr

/-- For every command i of the table, whatever its operands, and every state s, Machine.exec i s answers a
next state t, in which the queue stands, neither the instant nor the index of free values has gone back, and
module DRAM and the set-up registers are held canonically if they were in s. No command stops with a fault or
a refusal, and so a step answers a next state from every state. -/
def Obligations.StepRuns : Prop :=
  (∀ (i : Instr) (s : State), ∃ t, Machine.exec i s = .next t ∧ t.pending = s.pending ∧ s.now ≤ t.now ∧
    s.freeCtr ≤ t.freeCtr ∧ (MemInv s → MemInv t) ∧ (RegInv s → RegInv t)) ∧
  (∀ s : State, Runs s)

/-- Raising event e (any but 34, which reports lost records of other events and may follow it) with an
argument: GLB_EVT_ARG of e holds the argument, its GLB_EVT_PEND bit is set, its raise count is one more modulo
2^32; and every other event but 34 stands as it stood. -/
def Obligations.EventRaised : Prop :=
  ∀ (s : State) (e arg : Nat), e < 256 → e ≠ 34 →
    Raised e arg s (s.raise e arg) ∧ ∀ d, d < 256 → d ≠ 34 → d ≠ e → SameEvent d s (s.raise e arg)

/-- Raising an event changes only GLB_EVT_ARG and GLB_EVT_PEND, the counters and pointers of the host rings,
and bytes of DRAM inside a completion ring; every other register, every other byte of DRAM and every other
part of the module stands. -/
def Obligations.EventFrame : Prop :=
  ∀ (s : State) (e arg : Nat), e < 256 → Reports s (s.raise e arg)

/-- Making a Hen record changes the Hen's records, queue and open record, HEN_STAT.USED, the export ring's
pointers and buffer, the registers of the events that it may raise, the host rings, and bytes of DRAM inside a
completion ring or the export ring; everything else stands, and so does every event but 34, 42, 216, 217 and
220. -/
def Obligations.HenRecordFrame : Prop :=
  ∀ (s : State) (sev event arg : Nat) (host : Option Nat), Reports s (s.henMakeSeq sev event arg host).1 ∧
    ∀ e, e < 256 → e ∉ [34, 42, 216, 217, 220] → SameEvent e s (s.henMakeSeq sev event arg host).1

/-- Storing a list of bytes at an address within the 64 GiB of module DRAM: each byte of the list reads back
at its address, and every byte outside the stored range reads as before. -/
def Obligations.StoredBytes : Prop :=
  ∀ (s : State) (a : Nat) (bs : List Byte), a + bs.length ≤ dramSize →
    (∀ i (h : i < bs.length), (s.writeBytes a bs).readByte (a + i) = bs[i]) ∧
    ∀ b, (b < a ∨ a + bs.length ≤ b) → (s.writeBytes a bs).readByte b = s.readByte b

/-- Completing an operation in flight removes the first operation of its context and tag from those in flight
and leaves the others. Unless QUIET is set and the code is DONE, CQ_TAIL advances by one. The code is
DONE_LATE in place of DONE when a started operation completes after its deadline; then a record is written
though QUIET is set. -/
def Obligations.OperationCompletes : Prop :=
  ∀ (s : State) (o : Op) (code detail result : Nat),
    let u := s.finish o code detail result
    u.host.ops = removeFirst (fun x => x.ctx == o.ctx && x.tag == o.tag) s.host.ops ∧
    (u.ctxSt o.ctx).cqTail = if o.quiet = true ∧ code = codeDone ∧ s.now ≤ o.deadline
      then (s.ctxSt o.ctx).cqTail else ((s.ctxSt o.ctx).cqTail + 1) % 65536

/-- `x` is a command that carries out a descriptor, with its opcode; `b`, `b'`, `j` and `es` are what some of
them meet. -/
def OpCommand (t : Nat) (c : Fin 4096) (tag : Nat) (b b' : Bool) (j : Int) (es : List BrickError) (x : Nat × Instr) : Prop := x ∈ (
  [(0x00, .nop t c tag), (0x10, .cfgWrite t c tag b), (0x11, .cfgRead t c tag b), (0x12, .routeCommit t c tag),
   (0x13, .stageDiscard t c tag), (0x20, .loopEnable t c tag), (0x21, .loopDisable t c tag), (0x22, .loopRearm t c tag),
   (0x23, .loopSwap t c tag), (0x24, .loopBankWrite t c tag b), (0x25, .loopRead t c tag b), (0x30, .quotaSet t c tag),
   (0x31, .reclaim t c tag), (0x32, .acquire t c tag b), (0x33, .release t c tag), (0x34, .dmaCopy t c tag ⟨b, es⟩),
   (0x40, .oxFaultClear t c tag b () j), (0x41, .oxStatusRead t c tag), (0x48, .mulFaultClear t c tag j),
   (0x49, .mulStatusRead t c tag), (0x50, .canTx t c tag b), (0x51, .canFifoDrain t c tag), (0x60, .idSign t c tag b),
   (0x61, .sessionOpen t c tag b b'), (0x62, .sessionClose t c tag), (0x63, .rebind t c tag b), (0x70, .henWrite t c tag),
   (0x71, .henRead t c tag b), (0x72, .henClear t c tag)] : List (Nat × Instr))

/-- A descriptor command acts on an operation that may start, and ends one that is malformed or past its
deadline -/
def Obligations.OperationStarts : Prop :=
  (∀ (s : State) (t : Nat) (c : Fin 4096) (tag : Nat) (o : Op), Startable (s.tick t) c.val tag 0x00 o →
    Machine.exec (.nop t c tag) s =
      .next ((begun (s.tick t) o).finish (running (s.tick t) o) codeDone 0 0)) ∧
  (∀ (s : State) (t : Nat) (c : Fin 4096) (tag : Nat) (b b' : Bool) (j : Int) (es : List BrickError) (x : Nat × Instr),
    OpCommand t c tag b b' j es x →
    (∀ (d : Nat) (o : Op), (s.tick t).findOp c.val tag = some o → o.opcode = x.1 → (s.tick t).mayStart o = true →
      (s.tick t).servesRings = true → (s.tick t).formFault o = some d →
      Machine.exec x.2 s = .next ((((s.tick t).startOp o).wakeBlock (opcodeBlock x.1)).finish o codeFaultDescriptor d 0)) ∧
    (∀ o : Op, (s.tick t).findOp c.val tag = some o → o.opcode = x.1 → o.phase = .queued → (s.tick t).servesRings = true →
      3 ≤ o.cls → o.deadline < (s.tick t).now → Machine.exec x.2 s = .next ((s.tick t).finish o codeRefusedCapacity 19 0)) ∧
    ((∀ o, (s.tick t).findOp c.val tag = some o →
      o.opcode ≠ x.1 ∨ (s.tick t).servesRings = false ∨
      ((s.tick t).mayStart o = false ∧ (o.phase = .queued → o.cls < 3 ∨ (s.tick t).now ≤ o.deadline))) →
      Machine.exec x.2 s = .next (s.tick t))) ∧
  (∀ o : Op, let bad := fun (bit : Nat) => (1, bit, 3) ∈ o.faults
    ((o.opcode = 0x50 ∨ o.opcode = 0x51) → 12 ≤ o.arg1 0 4 → bad 0) ∧
    (o.opcode = 0x51 → (o.arg1 4 4 = 0 ∨ 8 < o.arg1 4 4) → bad 4) ∧
    (o.opcode = 0x24 → (o.arg1 22 7 = 0 ∨ 64 < o.arg1 16 6 + o.arg1 22 7) → bad 22) ∧
    (o.opcode = 0x30 → 6 ≤ o.arg1 16 4 → bad 16) ∧
    ((o.opcode = 0x32 ∨ o.opcode = 0x33) → (o.arg1 0 8 = 0 ∨ 4 < o.arg1 0 8) → bad 0) ∧
    (o.opcode = 0x32 → o.arg1 0 8 = 1 → (o.arg1 32 9 = 0 ∨ 448 < o.arg1 32 9) → bad 32) ∧
    ((o.opcode = 0x32 ∨ o.opcode = 0x33) → 2 ≤ o.arg1 0 8 → o.arg1 0 8 ≤ 4 → quotaCap (o.arg1 0 8) ≤ o.arg1 48 16 → bad 48) ∧
    (o.opcode = 0x33 → o.arg1 0 8 = 1 → 448 ≤ o.arg1 48 16 → bad 48) ∧
    ((o.opcode = 0x10 ∨ o.opcode = 0x11) → (if o.arg1 7 1 = 1 then 20 else 4) < o.arg1 8 5 → bad 8) ∧
    ((o.opcode = 0x10 ∨ o.opcode = 0x11) → o.arg1 64 32 % 16 ≠ 0 → bad 64) ∧
    ((o.opcode = 0x10 ∨ o.opcode = 0x11) → (o.arg1 96 16 % 16 ≠ 0 ∨ o.arg1 96 16 < 16 ∨ 4096 < o.arg1 96 16) → bad 96) ∧
    (o.opcode = 0x31 → (o.arg1 0 8 = 0 ∨ 5 < o.arg1 0 8) → bad 0) ∧
    (o.opcode = 0x31 → 256 < o.arg1 16 9 → bad 16) ∧
    (o.opcode = 0x34 → 448 ≤ o.arg1 32 9 → bad 32) ∧
    (o.opcode = 0x34 → (o.arg1 48 16 % 16 ≠ 0 ∨ o.arg1 48 16 < 16 ∨ 4096 < o.arg1 48 16) → bad 48) ∧
    (o.opcode = 0x40 → 48 ≤ o.arg1 0 6 → bad 0) ∧
    (o.opcode = 0x71 → (o.arg1 32 16 = 0 ∨ 4096 < o.arg1 32 16) → bad 32))

/-- While the hub runs: a supply below 16.0 V and at or above 9.0 V takes NORMAL to LOW with event 16 and the
shown supply, one below 9.0 V takes it to CRANK with event 17 and the start of the episode noted; one that has
been at 10.0 V or above for 2 ms of the episode, and is below 16.0 V, takes CRANK to LOW within the 200 ms,
with the length of the episode and event 16; 200 ms of CRANK, a collapse below 6.0 V, a fault of a powered
rail (with its FAULT bit and event 22) and a die at 125 C (event 24) each run the power-fail sequence with its
cause: 3, 2, 4 and 5. -/
def Obligations.PowerSupply : Prop :=
  (∀ (s : State) (t mv h : Nat), let v := s.tick t; v.hubRuns = true → (v.showSupply mv).fld F.PWR_STAT_BAND = 0 →
    9000 ≤ mv → mv < 16000 →
    Machine.exec (.supplyBandChange t ⟨mv, h⟩) s = .next (
      let w := (v.showSupply mv).setFld F.PWR_STAT_BAND 1
      (w.bump F.PWR_TALLY_LOWEP).raise 16 (w.fld F.PWR_STAT_VSUP))) ∧
  (∀ (s : State) (t mv h : Nat), let v := s.tick t; v.hubRuns = true → (v.showSupply mv).fld F.PWR_STAT_BAND = 0 →
    mv < 9000 →
    Machine.exec (.supplyBandChange t ⟨mv, h⟩) s = .next (
      let w := (v.showSupply mv).setFld F.PWR_STAT_BAND 2
      let w' := { w with pwr := { w.pwr with crankAt := w.now } }
      (w'.bump F.PWR_TALLY_CRANKEP).raise 17 (w.fld F.PWR_STAT_VSUP))) ∧
  (∀ (s : State) (t mv h : Nat), let v := s.tick t; v.hubRuns = true → (v.showSupply mv).fld F.PWR_STAT_BAND = 2 →
    10000 ≤ mv → mv < 16000 → 2000 ≤ h → v.pwr.crankAt + h * psPerUs ≤ v.now → (v.showSupply mv).crankOver = false →
    Machine.exec (.supplyBandChange t ⟨mv, h⟩) s = .next (
      let w := ((v.showSupply mv).setFld F.PWR_STAT_BAND 1).bumpMax F.PWR_TALLY_CRANKMAX ((v.now - v.pwr.crankAt) / psPerUs)
      (w.bump F.PWR_TALLY_LOWEP).raise 16 (((v.showSupply mv).setFld F.PWR_STAT_BAND 1).fld F.PWR_STAT_VSUP))) ∧
  (∀ (s : State) (t : Nat), let v := s.tick t; v.hubRuns = true → v.fld F.PWR_STAT_BAND = 2 →
    v.pwr.crankAt + 200 * psPerMs ≤ v.now → Machine.exec (.crankTimeout t) s = .next (v.powerFail 3 0)) ∧
  (∀ (s : State) (t mv : Nat), let v := s.tick t; v.hubRuns = true → mv < 6000 →
    Machine.exec (.supplyCollapse t mv) s = .next ((v.showSupply mv).powerFail 2 0)) ∧
  (∀ (s : State) (t : Nat) (d : Fin 13), let v := s.tick t; v.hubRuns = true → d.val ≠ 0 → v.domOn d.val = true →
    Machine.exec (.railFault t d) s =
      .next (((v.setFld ⟨R.PWR_DOM_STAT, 16 + d.val, 1⟩ 1).raise 22 d.val).powerFail 4 d.val)) ∧
  (∀ (s : State) (t : Nat) (d : Fin 13), let v := s.tick t; v.hubRuns = true →
    (d.val = 1 ∨ (4 ≤ d.val ∧ d.val ≤ 8)) → v.domOn d.val = true →
    Machine.exec (.junctionLimit t d) s = .next ((v.raise 24 d.val).powerFail 5 d.val))

/-- The ignition level is kept with the instant it went low; a CAN wake pattern is held in STANDBY; a start
with an enabled active source and a supply good for 10 ms leads to BOOT 3 ms later with module time 0, the
active sources recorded and held patterns cleared. VAO at or above VBAT and 2.7 V keeps main; VAO below
switches the domain to backup with AOSRC and BKPUSED set, and STANDBY becomes BACKUP; main returns after 2,000
us above by 100 mV and BACKUP becomes STANDBY. The cell giving out on backup starts the hold-up. Below 1.6 V
and at or above 1.2 V the canary flips and backup bytes are open; below 1.2 V the domain makes a cold start.
VBAT is shown 10 ms after BOOT entry and each hour, below 2.5 V with LOWBAT and event 227. -/
def Obligations.PowerStarts : Prop :=
  (∀ (s : State) (t : Nat) (level : Bool), let v := s.tick t; Machine.exec (.ignChange t level) s = .next { v with
    pwr := { v.pwr with ign := level, ignLowAt := if v.pwr.ign = true ∧ level = false then v.now else v.pwr.ignLowAt } }) ∧
  (∀ (s : State) (t : Nat) (c : Fin 2), let v := s.tick t; v.mode = .standby →
    Machine.exec (.canWakePattern t c) s =
      .next { v with pwr := { v.pwr with canWake := v.pwr.canWake ||| 2 ^ c.val } }) ∧
  (∀ (s : State) (t ms : Nat), let v := s.tick t; v.mode = .standby → v.flag F.PWR_STAT_AOSRC = false → 10 ≤ ms →
    v.wakeSources &&& bitsOf (v.reg R.PWR_WAKE_CFG).toNat 0 4 ≠ 0 →
    Machine.exec (.powerUpStart t ms) s = .next { v.setFld F.PWR_WAKE_STAT_SRC v.wakeSources with
      now := v.now + 3 * psPerMs, bootAt := v.now + 3 * psPerMs, mode := .boot, prevMode := .standby
      pwr := { v.pwr with canWake := 0 }, nv := { v.nv with wakeOwed := false } }) ∧
  (∀ (s : State) (t vao vbat : Nat), let v := s.tick t; (v.showVao vao).flag F.PWR_STAT_AOSRC = false →
    (vao < vbat ∨ vao < 2700) → Machine.exec (.aoSwitchToBackup t vao vbat) s = .next (
      let w := ((v.showVao vao).setFlag F.PWR_STAT_AOSRC true).setFlag F.PWR_STAT_BKPUSED true
      if v.mode = .standby then { w with mode := .backup, prevMode := .standby, dsp := w.dsp.unpowered } else w)) ∧
  (∀ (s : State) (t vao vbat held : Nat), let v := s.tick t; (v.showVao vao).flag F.PWR_STAT_AOSRC = true →
    max vbat 2700 + 100 < vao → 2000 ≤ held → Machine.exec (.aoReturnToMain t vao vbat held) s = .next (
      let w := (v.showVao vao).setFlag F.PWR_STAT_AOSRC false
      let w := { w with pwr := { w.pwr with holdup := none } }
      if v.mode = .backup then { w with mode := .standby, prevMode := .backup } else w)) ∧
  (∀ (s : State) (t : Nat), let v := s.tick t; v.flag F.PWR_STAT_AOSRC = true →
    Machine.exec (.backupCellGivesOut t) s = .next { v with pwr := { v.pwr with holdup := some v.now } }) ∧
  (∀ (s : State) (t mv : Nat), let v := s.tick t; v.hubRuns = false → v.heldUp = false → 1200 ≤ mv → mv < 1600 →
    Machine.exec (.canaryFlip t mv) s = .next (
      let w := (v.drawFree 48).2
      { w with pwr := { w.pwr with canary := true, loadOfs := (v.drawFree 48).1.toNat } }.loseBackup)) ∧
  (∀ (s : State) (t mv : Nat), let v := s.tick t; v.hubRuns = true → v.modTime = 10 * psPerMs → mv < 2500 →
    Machine.exec (.vbatMeasure t mv) s = .next
      (((v.setFld F.PWR_VOLT_VBAT (min 4095 mv)).setFlag F.ROO_STAT_LOWBAT true).raise 227 mv))

/-- XO32_STOP of a running crystal stops it at the count it had 4 ms before, sets OSCSTOP, UNTRUST and OSF,
and raises event 226 (or keeps it for the next BOOT). A read of ROO_TICK0 answers bits [15:0] of the count and
freezes the reader's shadow; a read of ROO_TICK2 answers bits [47:32] and ends the freeze. LOAD sets LOADPEND,
and does nothing while a load waits; at the next tick edge the count becomes ROO_SET, LOADPEND and UNTRUST
clear and event 228 is raised. The alarm with ALMEN, at a tick after the last write to ROO_CTL or ROO_ALM and
a count at or above ROO_ALM, sets ALMF, clears ALMEN and raises event 225; at none such it does nothing. -/
def Obligations.RoosterCount : Prop :=
  (∀ (s : State) (t : Nat), let v := s.tick t; v.pwr.xoRuns = true → v.hubRuns = true →
    Machine.exec (.xo32Stop t) s = .next (
      let w : State := { v with pwr := { v.pwr with
        rawBase := max v.pwr.rawBase ({ v with now := v.now - 4 * psPerMs } : State).rawTicks, xoRuns := false } }
      (((w.setFlag F.ROO_STAT_OSCSTOP true).setFlag F.ROO_STAT_UNTRUST true).setOsf).raise 226 0)) ∧
  (∀ (s : State) (t : Nat) (i : Fin 16), let v := s.tick t; Gives (.rooTick0Read t i) s fun u =>
    u.busData.toNat = v.tickCount % 65536 ∧ (∀ p, u.tickPart i.val p = bitsOf v.tickCount (16 * p) 16) ∧
      (∀ j p, j ≠ i.val → u.tickPart j p = v.tickPart j p) ∧ u.regs = v.regs ∧ u.dram = v.dram) ∧
  (∀ (s : State) (t : Nat) (i : Fin 16), let v := s.tick t; Gives (.rooTick2Read t i) s fun u =>
    u.busData.toNat = v.tickPart i.val 2 ∧ (∀ p, u.tickPart i.val p = bitsOf v.tickCount (16 * p) 16) ∧
      (∀ j p, j ≠ i.val → u.tickPart j p = v.tickPart j p) ∧ u.regs = v.regs ∧ u.dram = v.dram) ∧
  (∀ (s : State) (t : Nat), let v := s.tick t; Machine.exec (.rooLoad t) s =
    .next (if v.flag F.ROO_STAT_LOADPEND = true then v
      else { v.setFlag F.ROO_STAT_LOADPEND true with pwr := { v.pwr with loadRaw := v.rawTicks } })) ∧
  (∀ (s : State) (t : Nat), let v := s.tick t; v.flag F.ROO_STAT_LOADPEND = true → v.pwr.loadRaw < v.rawTicks →
    v.hubRuns = true → Machine.exec (.rooLoadApply t) s = .next (
      let w : State := { v with pwr := { v.pwr with
        loadOfs := (v.triple F.ROO_SET0_VALUE F.ROO_SET1_VALUE F.ROO_SET2_VALUE + 2 ^ 48 -
          v.trimmedAt (v.pwr.loadRaw + 1) % 2 ^ 48) % 2 ^ 48 } }
      ((w.setFlag F.ROO_STAT_LOADPEND false).setFlag F.ROO_STAT_UNTRUST false).raise 228 0)) ∧
  (∀ (s : State) (t : Nat), let v := s.tick t; v.flag F.ROO_STAT_LOADPEND = false → v.flag F.ROO_CTL_ALMEN = true →
    v.pwr.almRaw < v.rawTicks → v.triple F.ROO_ALM0_VALUE F.ROO_ALM1_VALUE F.ROO_ALM2_VALUE ≤ v.tickCount →
    v.hubRuns = true → Machine.exec (.rooAlarm t) s = .next
      (((v.setFlag F.ROO_STAT_ALMF true).setFlag F.ROO_CTL_ALMEN false).raise 225 0)) ∧
  (∀ (s : State) (t : Nat), let v := s.tick t; v.flag F.ROO_STAT_LOADPEND = false →
    (v.flag F.ROO_CTL_ALMEN = false ∨ v.rawTicks ≤ v.pwr.almRaw ∨
      v.tickCount < v.triple F.ROO_ALM0_VALUE F.ROO_ALM1_VALUE F.ROO_ALM2_VALUE) →
    Machine.exec (.rooAlarm t) s = .next v)

/-- 32,768 trimmed ticks after the last second, with no field written in the present AO cycle, a valid SEC
other than 59 advances by one in BCD, alone; at 59 it becomes 0 and a valid MIN other than 59 advances by one,
these two alone. Where a write to SEC waits in that cycle it comes first, and the second waits. A host write,
where the legacy core has not written the field in that cycle, notes the write and stores the value's bits; of
SEC it also clears the sub-second divider; a value that is not valid in its field raises event 247 with the
field's index and the value. Where the legacy core has, the host's write changes nothing. -/
def Obligations.RoosterCalendar : Prop :=
  (∀ (s : State) (t : Nat), let v := s.tick t; let x := v.fld F.ROO_CAL_SEC_SEC
    v.pwr.calBase + 32768 ≤ v.trimmed → v.secWaits = false → v.calWritten = [] → bcdOk x = true → x < 0x59 →
    Machine.exec (.calendarSecond t) s = .next (({ v with pwr := { v.pwr with calBase := v.pwr.calBase + 32768 } } :
      State).setFld F.ROO_CAL_SEC_SEC (if x % 16 = 9 then x + 7 else x + 1))) ∧
  (∀ (s : State) (t : Nat), let v := s.tick t; let x := v.fld F.ROO_CAL_MIN_MIN
    v.pwr.calBase + 32768 ≤ v.trimmed → v.secWaits = false → v.calWritten = [] → v.fld F.ROO_CAL_SEC_SEC = 0x59 →
    bcdOk x = true → x < 0x59 →
    Machine.exec (.calendarSecond t) s = .next ((({ v with pwr := { v.pwr with calBase := v.pwr.calBase + 32768 } } :
      State).setFld F.ROO_CAL_SEC_SEC 0).setFld F.ROO_CAL_MIN_MIN (if x % 16 = 9 then x + 7 else x + 1))) ∧
  (∀ (s : State) (t : Nat), let v := s.tick t; v.secWaits = true →
    Machine.exec (.calendarSecond t) s = .next v) ∧
  (∀ (s : State) (t : Nat) (x : Word), let v := s.tick t
    v.calWritten.any (fun w => w.field == .sec && w.legacy) = false → bcdOk (x.toNat % 128) = true → x.toNat % 128 ≤ 0x59 →
    Machine.exec (.calendarWrite t .sec x) s = .next (
      let w := (v.noteCalWrite .sec false).setFld F.ROO_CAL_SEC_SEC (x.toNat % 128)
      { w with pwr := { w.pwr with calBase := w.trimmed } })) ∧
  (∀ (s : State) (t : Nat) (x : Word), let v := s.tick t
    v.calWritten.any (fun w => w.field == .min && w.legacy) = false → 0x59 < x.toNat % 128 →
    Machine.exec (.calendarWrite t .min x) s = .next (
      ((v.noteCalWrite .min false).setFld F.ROO_CAL_MIN_MIN (x.toNat % 128)).raise 247 (1 + (x.toNat % 128) * 256))) ∧
  (∀ (s : State) (t : Nat) (f : CalField) (x : Word), let v := s.tick t
    v.calWritten.any (fun w => w.field == f && w.legacy) = true → Machine.exec (.calendarWrite t f x) s = .next v)

/-- A refused FREQ write sets REFUSED with event 31, and an accepted one sets FREQ and begins a relock with
BUSY and SRC set. Lock within 500 us of the attempt's start begins the judgement windows, and none later; a
second good window in a row ends the relock with SRC and BUSY clear and event 29; an eighth bad window fails
it, as does no lock within 500 us, with LOCKFAIL, event 30 and an Error record; a failed relock starts anew
after 100 ms. A running domain below 16 that loses lock relocks. -/
def Obligations.ClockRelocks : Prop :=
  (∀ (s : State) (t : Nat) (d : Fin 17) (x : Word), let v := s.tick t; Machine.exec (.clkFreqWrite t d x) s = .next
    (if v.freqRefused d.val (x.toNat % 2 ^ 14) then (v.setFlag (F.CLK_DOM_STAT_REFUSED d.val) true).raise 31 d.val
     else (v.setFld (F.CLK_DOM_CFG_FREQ d.val) (x.toNat % 2 ^ 14)).startRelock d.val)) ∧
  (∀ (s : State) (t : Nat) (d : Fin 17) (r : Relock), let v := s.tick t; v.relockOf d.val = some r →
    r.locked = false → r.failed = false → Machine.exec (.pllLock t d) s =
      .next (if v.now ≤ r.startAt + 500 * psPerUs then
        v.setRelock d.val (some { r with locked := true, windowAt := v.now, passes := 0, fails := 0 }) else v)) ∧
  (∀ (s : State) (t : Nat) (d : Fin 17) (r : Relock), let v := s.tick t; v.relockOf d.val = some r →
    r.locked = true → r.windowAt + 8 * psPerUs ≤ v.now → r.passes = 1 → Machine.exec (.relockWindow t d true) s =
      .next ((((v.setFlag (F.CLK_DOM_STAT_SRC d.val) false).setFlag (F.CLK_DOM_STAT_BUSY d.val) false).setRelock
        d.val none).raise 29 d.val)) ∧
  (∀ (s : State) (t : Nat) (d : Fin 17) (r : Relock), let v := s.tick t; v.relockOf d.val = some r →
    r.locked = true → r.windowAt + 8 * psPerUs ≤ v.now → 7 ≤ r.fails → Machine.exec (.relockWindow t d false) s =
      .next ((((v.setFlag (F.CLK_DOM_STAT_LOCKFAIL d.val) true).setRelock d.val
        (some { r with failed := true, locked := false, startAt := v.now })).raise 30 d.val).henMake sevError 30
          d.val)) ∧
  (∀ (s : State) (t : Nat) (d : Fin 17) (r : Relock), let v := s.tick t; v.relockOf d.val = some r →
    r.locked = false → r.failed = false → r.startAt + 500 * psPerUs ≤ v.now →
    Machine.exec (.relockTimeout t d) s =
      .next ((((v.setFlag (F.CLK_DOM_STAT_LOCKFAIL d.val) true).setRelock d.val
        (some { r with failed := true, locked := false, startAt := v.now })).raise 30 d.val).henMake sevError 30
          d.val)) ∧
  (∀ (s : State) (t : Nat) (d : Fin 17) (r : Relock), let v := s.tick t; v.relockOf d.val = some r →
    r.failed = true → r.startAt + 100 * psPerMs ≤ v.now → Machine.exec (.relockRetry t d) s =
      .next (v.setRelock d.val (some { (default : Relock) with startAt := v.now }))) ∧
  (∀ (s : State) (t : Nat) (d : Fin 17), let v := s.tick t; d.val < 16 → v.relockOf d.val = none →
    v.flag (F.CLK_DOM_STAT_SRC d.val) = false → Machine.exec (.pllLockLoss t d) s =
      .next (((v.setFlag (F.CLK_DOM_STAT_BUSY d.val) true).setFlag (F.CLK_DOM_STAT_SRC d.val) true).setRelock d.val
        (some { (default : Relock) with startAt := v.now })))

/-- A judged window of XO within 2 percent counts as good and clears the bad ones; with no window good before
the eighth nothing else changes. A second bad window in a row of a stable RC oscillator fails it: STABLE
clear, FAIL set, event 26 and an Error record. A block that may sleep and has had no work for IDLE cycles of
its domain, since its last request or the start, goes from RUN to SLEEP, and not before. A CLKOBS setting
whose divided default or present frequency (log entry 121) is above 100 MHz is refused with REJ, and any other
is written. -/
def Obligations.ClockJudgement : Prop :=
  (∀ (s : State) (t count : Nat), let v := s.tick t; v.hubRuns = true → countGood 0 count = true →
    spGet v.clk.good 0 + 1 < 8 → Machine.exec (.oscJudgeWindow t 0 count) s = .next { v with clk := { v.clk with
      good := spSet v.clk.good 0 (spGet v.clk.good 0 + 1), bad := spSet v.clk.bad 0 0 } }) ∧
  (∀ (s : State) (t count : Nat), let v := s.tick t; v.hubRuns = true → v.oscStable 0 = true → v.oscStable 2 = true →
    countGood 2 count = false → 1 ≤ spGet v.clk.bad 2 → Machine.exec (.oscJudgeWindow t 2 count) s = .next (
      let w : State := { v with clk := { v.clk with
        good := spSet (spSet v.clk.good 2 0) 2 0, bad := spSet (spSet v.clk.bad 2 (spGet v.clk.bad 2 + 1)) 2 0
        hasFailed := v.clk.hasFailed ||| 2 ^ 2 } }
      (((w.setStable 2 false).setFld ⟨R.CLK_OSC_STAT, 6, 1⟩ 1).raise 26 2).henMake sevError 26 2)) ∧
  (∀ (s : State) (t : Nat) (b : Fin 21), let v := s.tick t; b.val ∉ [0, 1, 2, 3, 5, 10, 14, 15] → v.hubRuns = true →
    v.fld (F.CLK_GATE_STATE b.val) = 0 → Machine.exec (.blockSleep t b) s =
      .next (if v.now < max v.bootAt (spGet v.clk.workAt b.val) + v.idlePs b.val then v
        else v.setFld (F.CLK_GATE_STATE b.val) 1)) ∧
  (∀ (s : State) (t : Nat) (x : Word), let v := s.tick t; let sel := bitsOf x.toNat 0 5
    (100000000 * (bitsOf x.toNat 16 16 + 1) < obsDefaultHz sel ∨ 100000000 * (bitsOf x.toNat 16 16 + 1) < v.obsHz sel) →
    Machine.exec (.clkObsWrite t x) s = .next (v.setFlag F.CLK_OBS_CFG_REJ true)) ∧
  (∀ (s : State) (t : Nat) (x : Word), let v := s.tick t; let sel := bitsOf x.toNat 0 5
    obsDefaultHz sel ≤ 100000000 * (bitsOf x.toNat 16 16 + 1) → v.obsHz sel ≤ 100000000 * (bitsOf x.toNat 16 16 + 1) →
    Machine.exec (.clkObsWrite t x) s = .next (v.plainWrite R.CLK_OBS_CFG x))

/-- A request whose first failing condition is a reason of R439 (other than 6) sets REFUSED with that reason;
an accepted one sets PEND and waits for the next whole millisecond. A change that is due clears PEND, sets
DONE and enters the mode, but a requested one is refused with reason 2 when safe stop came into force. IGN low
for IGNOFF_S seconds sends the module to STANDBY. A start-up step in the order of the table sets its LOADED
bit and has its effect; a failing step 4 ends the boot with cause 2. GOOD, with READY before the boot
watchdog's end and on no first start of a set, clears BOOTCNT and sets GOODSEEN; at that end or later it has
no effect, and the expiry without it fails the boot with cause 1. -/
def Obligations.ModeChanges : Prop :=
  (∀ (s : State) (t : Nat) (x : Word), let v := s.tick t; let r := v.modeReason (modeOf (bitsOf x.toNat 0 3))
    v.hubRuns = true → r ≠ 0 → r ≠ 6 → Machine.exec (.modeRequest t x) s =
      .next ((v.setFlag F.GLB_MODE_STAT_REFUSED true).setFld F.GLB_MODE_STAT_REASON r)) ∧
  (∀ (s : State) (t : Nat) (x : Word), let v := s.tick t; let m := modeOf (bitsOf x.toNat 0 3)
    v.hubRuns = true → v.modeReason m = 0 → v.boot.pend = none → Machine.exec (.modeRequest t x) s =
      .next { v.setFlag F.GLB_MODE_STAT_PEND true with
        boot := { v.boot with pend := some (m, (v.modMs + 1) * psPerMs, true) } }) ∧
  (∀ (s : State) (t at_ : Nat) (m : Mode), let v := s.tick t; v.boot.pend = some (m, at_, true) → at_ ≤ v.modTime →
    m ≠ .compat → v.safeStop = false → v.flag F.GLB_MODE_STAT_PEND = true →
    Machine.exec (.modeChangeEffect t) s = .next ((({ v with boot := { v.boot with pend := none } } :
      State).setFlag F.GLB_MODE_STAT_PEND false).setFlag F.GLB_MODE_STAT_DONE true |>.enterMode m)) ∧
  (∀ (s : State) (t at_ : Nat), let v := s.tick t; v.boot.pend = some (.road, at_, true) → at_ ≤ v.modTime →
    v.safeStop = true → v.flag F.GLB_MODE_STAT_PEND = true → Machine.exec (.modeChangeEffect t) s =
      .next (((({ v with boot := { v.boot with pend := none } } : State).setFlag F.GLB_MODE_STAT_PEND false).setFlag
        F.GLB_MODE_STAT_REFUSED true).setFld F.GLB_MODE_STAT_REASON 2)) ∧
  (∀ (s : State) (t : Nat), let v := s.tick t; v.hubRuns = true → v.fld F.GLB_BOOT_CFG_IGNOFF_S ≠ 0 →
    v.pwr.ign = false → v.pwr.ignLowAt + v.fld F.GLB_BOOT_CFG_IGNOFF_S * psPerS ≤ v.now → v.boot.pend = none →
    Machine.exec (.ignitionOffTimeout t) s =
      .next { v with boot := { v.boot with pend := some (.standby, (v.modMs + 1) * psPerMs, false) } }) ∧
  (∀ (s : State) (t : Nat) (k : Fin 12), let v := s.tick t; v.mode = .boot → v.boot.entered = true →
    v.boot.pend = none → k.val = v.boot.step + 1 → k.val ≠ 3 → v.stepOk k.val true = true →
    Machine.exec (.bootStepComplete t k true) s = .next ((v.stepDone k.val).stepEffect k.val)) ∧
  (∀ (s : State) (t : Nat), let v := s.tick t; v.mode = .boot → v.boot.entered = true → v.boot.pend = none →
    v.boot.step = 3 → Machine.exec (.bootStepComplete t 4 false) s = .next (v.bootFail 2)) ∧
  (∀ (s : State) (t : Nat) (x : Word), let v := s.tick t; bitOf x.toNat 0 = true →
    v.flag F.GLB_BOOT_STAT_READY = true → v.boot.wdRuns = true → v.modTime < v.watchdogEnd → v.boot.settling = false →
    Machine.exec (.bootGood t x) s =
      .next (({ v with nv := { v.nv with bootCnt := 0 } } : State).setFlag F.GLB_BOOT_STAT_GOODSEEN true)) ∧
  (∀ (s : State) (t : Nat) (x : Word), let v := s.tick t; v.watchdogEnd ≤ v.modTime → Machine.exec (.bootGood t x) s = .next v) ∧
  (∀ (s : State) (t : Nat), let v := s.tick t; v.boot.wdRuns = true → v.watchdogEnd ≤ v.modTime → v.flag F.GLB_BOOT_STAT_GOODSEEN = false →
    Machine.exec (.bootWatchdogExpiry t) s =
      .next (({ v with boot := { v.boot with wdRuns := false } } : State).bootFail 1))

/-- BOOT_ENTRY in BOOT, once per start, marks step 1 done, advances PCYC modulo 2^24, takes the tally period,
records the tick count, the sealed switches, BOOTCNT, the slot, both straps and the last failure in their
registers with LOADED 1, and raises event 41 with the mode before; then the events that the always-on domain
kept are raised, the canary is read, the display's boot begins, the boot set is chosen by BOOTCNT or the
recovery strap, and the update registers show what MRAM and NAND hold. -/
def Obligations.BootEntered : Prop :=
  ∀ (s : State) (t : Nat) (rcv svc : Bool), (s.tick t).mode = .boot → (s.tick t).boot.entered = false →
    Machine.exec (.bootEntry t rcv svc) s = .next (
      let v := s.tick t
      let a : State := { v with
        boot := { v.boot with entered := true, step := 1 }
        hen := { v.hen with pcyc := (v.hen.pcyc + 1) % 2 ^ 24 }
        host := { v.host with tallyPeriod := v.fld F.GLB_TALLY_CFG_PERIOD_MS } }
      let n := v.tickCount
      let b := ((a.setFld F.ROO_BOOTTICK0_TICK (bitsOf n 0 16)).setFld F.ROO_BOOTTICK1_TICK (bitsOf n 16 16)).setFld
        F.ROO_BOOTTICK2_TICK (bitsOf n 32 16)
      let c := (b.setFld F.GOO_SW_SWBOOT v.pwr.switches.toNat).setFld F.GOO_SW_SWNOW v.pwr.switches.toNat
      let d := (c.setFld F.GLB_BOOT_STAT_BOOTCNT v.nv.bootCnt).setFlag F.GLB_BOOT_STAT_SLOT v.nv.slotB
      let e := (d.setFlag F.GLB_BOOT_STAT_RCVSTRAP rcv).setFlag F.GLB_BOOT_STAT_SVCSTRAP svc
      let f := (e.setFld F.GLB_BOOT_STAT_LASTFAIL v.nv.lastFail).setFld F.GLB_BOOT_STAT_LOADED 1
      let g := f.raise 41 (2 + v.prevMode.code * 16)
      ((g.raiseKept.readCanary.dspBoot).chooseSet rcv).showUpdate)

/-- While the legacy core runs: a store to its RAM writes that byte and a load gives the byte on the bus; an
access to the flash controller records the address, sets UNEMU, counts and raises event 245, a load giving 0;
a store to the code region records it, sets CODEWR, counts and raises event 246. An access outside the regions
of the map is held as the core's access fault. The watchdog's expiry resets the core's valve, switch and CAN
view, keeps RAM and code, counts one more reset, sets WDRST, and raises event 244 with an Error record. -/
def Obligations.Compatibility : Prop :=
  (∀ (s : State) (t : Nat) (a : Fin 131072) (b : Byte), let v := s.tick t; v.legacyRuns = true →
    Gives (.legacyPeripheralAccess t (.ramWrite a b)) s fun u => spGet u.cmp.ram a.val = b ∧
      (∀ a', a' ≠ a.val → spGet u.cmp.ram a' = spGet v.cmp.ram a') ∧ u.regs = v.regs ∧ u.dram = v.dram) ∧
  (∀ (s : State) (t : Nat) (a : Fin 131072), let v := s.tick t; v.legacyRuns = true →
    Machine.exec (.legacyPeripheralAccess t (.ramRead a)) s =
      .next { v with busData := BitVec.ofNat 32 (spGet v.cmp.ram a.val).toNat }) ∧
  (∀ (s : State) (t : Nat) (x : Word), let v := s.tick t; v.legacyRuns = true → x.toNat / 4096 = 0x40003 →
    Machine.exec (.legacyUnemulatedAccess t x true) s =
      .next ((((v.setFld F.CMP_UNEMU_ADDR x.toNat).setFlag F.CMP_STAT_UNEMU true).bump F.CMP_TALLY_UNEMU).raise 245
        x.toNat)) ∧
  (∀ (s : State) (t : Nat) (x : Word), let v := s.tick t; v.legacyRuns = true → x.toNat < 0x80000 →
    Machine.exec (.legacyUnemulatedAccess t x true) s =
      .next ((((v.setFld F.CMP_UNEMU_ADDR x.toNat).setFlag F.CMP_STAT_CODEWR true).bump F.CMP_TALLY_UNEMU).raise 246
        x.toNat)) ∧
  (∀ (s : State) (t : Nat) (a : Word), let v := s.tick t; v.legacyRuns = true → legacyMapped a.toNat = false →
    Machine.exec (.legacyPeripheralAccess t (.other a)) s = .next { v with cmp := { v.cmp with fault := some a } }) ∧
  (∀ (s : State) (t : Nat), let v := s.tick t; v.legacyRuns = true → Machine.exec (.legacyWatchdogExpiry t) s = .next (
    let a := (List.range 16).foldl (fun w n => w.modOxCh n (fun x => { x with legacy := default, duty := 0 })) v
    let b := (List.range 24).foldl (fun w n => (w.modMulCh n (fun x => { x with diag := false })).mulCommand n false) a
    let c := (List.range 4).foldl (fun w k => (w.canOffbus k).setReg (R.CAN_NBT k) (regReset (R.CAN_NBT k))) b
    let n := c.cmp.resets + 1
    let d : State := { c with cmp := { c.cmp with resets := n } }
    (((d.setFlag F.CMP_STAT_WDRST true).bump F.CMP_TALLY_WDRST).raise 244 n).henMake sevError 244 n))

/-- A send by the bound identity with fewer than four messages pending, or with four of which an acknowledge
of the same instant frees one, appends words 0 to 3 with the next SEQ to its direction alone, and advances it
modulo 256; with four pending and no such acknowledge it sets FULLERR and raises event 203. An acknowledge
drops the oldest message and writes its acknowledge record with the SEQ, the acknowledger's 16 bits and NEW,
and with nothing pending sets EMPTYERR and raises event 204. Any other identity is excluded. When both
directions have been pending for the observation time, and no acknowledge of that instant empties one, an
episode is counted and event 201 raised, once. -/
def Obligations.Mailboxes : Prop :=
  (∀ (s : State) (t : Nat) (ch : Fin 64) (b : Bool) (i : Fin 16) (x : Word), let v := s.tick t
    let d := (v.mbxCh ch.val).dir b
    v.mbxAllowed ch.val b i.val = true → (d.queue.length < 4 ∨ (d.queue.length = 4 ∧ v.ackNow ch.val (!b) = true)) → Machine.exec (.mbxSend t ch b i x) s = .next (
      (((v.setMbxCh ch.val ((v.mbxCh ch.val).setDir b { d with
        queue := d.queue ++ [(d.next, BitVec.ofNat 128
          (d.w0.toNat + d.w1.toNat * 2 ^ 32 + d.w2.toNat * 2 ^ 64 + x.toNat * 2 ^ 96))]
        next := (d.next + 1) % 256 })).showMbx ch.val).mbxSignal ch.val (!b) 0))) ∧
  (∀ (s : State) (t : Nat) (ch : Fin 64) (b : Bool) (i : Fin 16) (x : Word), let v := s.tick t
    v.mbxAllowed ch.val b i.val = true → 4 ≤ ((v.mbxCh ch.val).dir b).queue.length → v.ackNow ch.val (!b) = false →
    Machine.exec (.mbxSend t ch b i x) s =
      .next ((v.setFlag (F.MBX_STAT_FULLERR ch.val (boolNat b)) true).raise 203 (ch.val + 64 * boolNat b))) ∧
  (∀ (s : State) (t : Nat) (ch : Fin 64) (b : Bool) (i : Fin 16) (x : Word), let v := s.tick t
    v.mbxAllowed ch.val b i.val = false →
    Machine.exec (.mbxSend t ch b i x) s = .next (v.mbxExclude ch.val b i.val) ∧
    Machine.exec (.mbxAck t ch b i x) s = .next (v.mbxExclude ch.val b i.val)) ∧
  (∀ (s : State) (t : Nat) (ch : Fin 64) (b : Bool) (i : Fin 16) (x : Word), let v := s.tick t
    v.mbxAllowed ch.val b i.val = true → ((v.mbxCh ch.val).dir (!b)).queue = [] →
    Machine.exec (.mbxAck t ch b i x) s =
      .next ((v.setFlag (F.MBX_STAT_EMPTYERR ch.val (boolNat b)) true).raise 204 (ch.val + 64 * boolNat b))) ∧
  (∀ (s : State) (t : Nat) (ch : Fin 64) (b : Bool) (i : Fin 16) (x : Word) (q : Nat) (m : Flit)
    (rest : List (Nat × Flit)), let v := s.tick t; let d := (v.mbxCh ch.val).dir (!b)
    v.mbxAllowed ch.val b i.val = true → d.queue = (q, m) :: rest →
    v.flag (F.MBX_ACKREC_NEW ch.val (boolNat (!b)) (q % 4)) = false →
    Machine.exec (.mbxAck t ch b i x) s = .next (
      let w := v.setMbxCh ch.val ((v.mbxCh ch.val).setDir (!b) { d with queue := rest, acked := some (v.now, q % 4) })
      ((w.setReg (R.MBX_ACKREC ch.val (boolNat (!b)) (q % 4))
        (BitVec.ofNat 32 (bitsOf x.toNat 0 16 + place q 16 8 + 2 ^ 31))).showMbx ch.val).mbxSignal ch.val (!b) 1)) ∧
  (∀ (s : State) (t a ms : Nat) (ch : Fin 64), let v := s.tick t; (v.mbxCh ch.val).since = some (a, ms) →
    (v.mbxCh ch.val).episode = false → ms ≠ 0 → a + ms * psPerMs ≤ v.modTime →
    (∀ b, ((v.mbxCh ch.val).dir b).queue.length ≠ 1 ∨ v.ackNow ch.val (!b) = false) →
    Machine.exec (.mbxBothpend t ch) s =
      .next ((((v.setMbxCh ch.val { v.mbxCh ch.val with episode := true }).showMbx ch.val).bump
        F.MBX_GLB_STAT_EPISODES).raise 201 ch.val))

/-- At the boundary of the period the pending RECLAIMs release, the Hen's open record closes, the counters
latch, the number of the Goose's self-tests is shown, SEQ advances modulo 2^31, SHORT shows a short period,
the next boundary is the next whole multiple, and event 39 is raised with SEQ. A RESYNC request takes the
summary with the next SEQ and sets BUSY; one while busy or beyond DRAM is refused with REJ. When the summary
is written it stands at its address and event 36, DONE and SEQ report it. -/
def Obligations.TallyAndResync : Prop :=
  (∀ (s : State) (t : Nat), let v := s.tick t; let b := v.nextBoundary
    v.hubRuns = true → b ≠ 0 → b * psPerMs ≤ v.modTime → Machine.exec (.tallyBoundary t) s = .next (
      let a := v.host.ops.foldl (fun w o => opReclaimRelease o.ctx o.tag w) v
      let c := a.henClose.latchTallies.setFld F.GOO_DIAG_STESTN (satBits 16 (b / 1000 - a.host.tallyLast / 1000))
      let q := (c.fld F.GLB_TALLY_SEQ_SEQ + 1) % 2 ^ 31
      let d := (c.setFld F.GLB_TALLY_SEQ_SEQ q).setFlag F.GLB_TALLY_SEQ_SHORT (decide (b - a.host.tallyLast < a.host.tallyPeriod))
      let p := max 1 (d.fld F.GLB_TALLY_CFG_PERIOD_MS)
      ({ d with host := { d.host with tallyLast := b, tallyNext := (b / p + 1) * p, tallyPeriod := p } } : State).raise 39 q)) ∧
  (∀ (s : State) (t : Nat), let v := s.tick t; v.modTime < v.nextBoundary * psPerMs →
    Machine.exec (.tallyBoundary t) s = .next v) ∧
  (∀ (s : State) (t : Nat) (x : Word), let v := (s.tick t).plainWrite R.GLB_RESYNC_CTL x
    v.flag F.GLB_RESYNC_STAT_BUSY = true → Machine.exec (.glbResyncRequest t x) s =
      .next (v.setFlag F.GLB_RESYNC_STAT_REJ true)) ∧
  (∀ (s : State) (t : Nat) (x : Word), let v := (s.tick t).plainWrite R.GLB_RESYNC_CTL x
    let a := v.pair F.GLB_RESYNC_ADDR_LO_ADDR F.GLB_RESYNC_ADDR_HI_ADDR; let n := (v.host.summarySeq + 1) % 2 ^ 32
    v.flag F.GLB_RESYNC_STAT_BUSY = false → a + 4096 ≤ dramSize → Machine.exec (.glbResyncRequest t x) s =
      .next (({ v with host := { v.host with summary := v.summaryBytes (v.fld F.GLB_RESYNC_CTL_CTX) n, summaryAddr := a, summarySeq := n } } : State).setFlag F.GLB_RESYNC_STAT_BUSY true)) ∧
  (∀ (s : State) (t : Nat), let v := s.tick t; v.flag F.GLB_RESYNC_STAT_BUSY = true →
    Machine.exec (.resyncSummaryWritten t) s = .next (
      let w := v.writeBytes v.host.summaryAddr v.host.summary
      let w' : State := { w with host := { w.host with summary := [] } }
      (((w'.raise 36 v.host.summarySeq).setFlag F.GLB_RESYNC_STAT_BUSY false).setFlag F.GLB_RESYNC_STAT_DONE
        true).setFld F.GLB_RESYNC_STAT_SEQ v.host.summarySeq))

/-- With no power-off phase ending: ON while off switches the panel supply on and waits for HPD; OFF while on
puts the backlight out at once and begins the power-off delay; HPD high begins training; training that
succeeds sets TRAINED and waits for the vertical start; a fall of HPD while on trains anew; a vertical start,
a frame time after the one before, begins the black frames after training, scans out the framebuffer after the
last of them, with the lines not fetched in time counted and shown as the line before, and ends the black
frame of a power-off with TRAINED clear; the backlight delay after scan-out began switches the backlight on
and STATE becomes 2. -/
def Obligations.Panel : Prop :=
  ∀ (s : State) (t : Nat), let v := s.tick t; v.dspRuns = true → v.dsp.phase ≠ .offLast →
    (v.dsp.phase = .off → Machine.exec (.dspOn t) s = .next v.dspStart) ∧
    (v.dsp.phase = .run → Machine.exec (.dspOff t) s =
      .next ((v.setDsp { v.dsp with backlight := false, training := false }).dspEnter .offDelay)) ∧
    (v.dsp.phase = .waitHpd → v.dsp.training = false → v.flag F.DSP_STAT_HPD = true →
      Machine.exec (.dspLinkTraining t) s =
        .next ((v.setDsp { v.dsp with training := true, trainAt := v.now }).dspEnter .training)) ∧
    (v.dsp.phase = .training → v.dsp.training = true → Machine.exec (.dspTrainingEnd t true) s =
      .next (((v.setDsp { v.dsp with training := false, attempts := 0 }).setFlag
        F.DSP_STAT_TRAINED true).dspEnter .waitStart)) ∧
    (v.dsp.phase = .run → v.dsp.hpd = true → Machine.exec (.dspHpdChange t false) s =
      .next (((v.setDsp { v.dsp with hpd := false }).setFlag F.DSP_STAT_HPD false).setDsp
        { v.dsp with hpd := false, training := true, trainAt := v.now } |>.setFlag F.DSP_STAT_TRAINED false)) ∧
    ((v.dsp.vertAt = 0 ∨ v.dsp.vertAt + v.framePs ≤ v.now + 1) → ∀ late,
      let w := v.setDsp { v.dsp with vertAt := v.now + 1 }
      (v.dsp.phase = .waitStart → Machine.exec (.dspVerticalStart t late) s =
        .next (w.dspEnter (.black (max 1 (v.fld F.DSP_SEQ_CLRFR) - 1)))) ∧
      (∀ n, v.dsp.phase = .black (n + 1) → Machine.exec (.dspVerticalStart t late) s = .next (w.dspEnter (.black n))) ∧
      (v.dsp.phase = .black 0 → Machine.exec (.dspVerticalStart t late) s = .next ((w.dspEnter .scan).dspScan late)) ∧
      (v.dsp.phase = .run → Machine.exec (.dspVerticalStart t late) s = .next (w.dspScan late)) ∧
      (v.dsp.phase = .offBlack → Machine.exec (.dspVerticalStart t late) s =
        .next ((w.dspEnter .offLast).setFlag F.DSP_STAT_TRAINED false))) ∧
    (v.dsp.phase = .scan → v.dsp.since + v.fld F.DSP_SEQ_BLDLY * psPerMs ≤ v.now →
      Machine.exec (.dspBacklightDelay t) s = .next ((v.setDsp { v.dsp with backlight := true }).dspEnter .run))

/-- After the tokens that are due have returned, a queued write takes one token and its record is written,
waiting operations then completing; nothing is written before the start scan has ended or while 64 tokens are
out. Once per second the open record's write is queued again, or counted as lost when it finds no entry.
Tokens return 10 ms after they were taken. The hours count advances each 36 s. A start scan that finds no bad
slot sets SCANNED with BADREC 0 and changes no slot. -/
def Obligations.HenStore : Prop :=
  (∀ (s : State) (t : Nat) (w : HenWrite) (rest : List HenWrite), let v := opHenTokenReturn (s.tick t)
    v.hubRuns = true → v.flag F.HEN_STAT_SCANNED = true → v.hen.tokens.length < 64 → v.hen.queue = w :: rest →
    Machine.exec (.henRecordWrite t) s = .next
      ((({ v with hen := { v.hen with queue := rest, tokens := v.hen.tokens ++ [v.now] } } : State).henStore w).henWake)) ∧
  (∀ (s : State) (t : Nat), let v := opHenTokenReturn (s.tick t); (v.flag F.HEN_STAT_SCANNED = false ∨ 64 ≤ v.hen.tokens.length) →
    Machine.exec (.henRecordWrite t) s = .next v) ∧
  (∀ (s : State) (t q k : Nat) (x : HenSlot), let v := s.tick t; v.hen.openSeq = some q → v.henFind q = some (k, x) →
    v.now - v.hen.openAt ≠ 0 → (v.now - v.hen.openAt) % psPerS = 0 → Machine.exec (.henOpenRefresh t) s =
      .next (if v.henEntry x.cls = true then v.henEnqueue ⟨q, x.cls, none⟩ else v.henLost x.record.event)) ∧
  (∀ (s : State) (t : Nat), let v := s.tick t; Gives (.henTokenReturn t) s fun u =>
    u = { v with hen := { v.hen with tokens := u.hen.tokens } } ∧
      ∀ a, a ∈ u.hen.tokens ↔ a ∈ v.hen.tokens ∧ v.now < a + 10 * psPerMs) ∧
  (∀ (s : State) (t : Nat), let v := s.tick t; v.hubRuns = true → v.modTime ≠ 0 → v.atWhole (36 * psPerS) = true →
    Machine.exec (.henHoursWrite t) s = .next { v with hen := { v.hen with hours := (v.hen.hours + 1) % 2 ^ 32 } }) ∧
  (∀ (s : State) (t : Nat), let v := s.tick t; v.hubRuns = true → v.flag F.HEN_STAT_SCANNED = false →
    Machine.exec (.henScanComplete t []) s = .next (
      ((({ v with hen := { v.hen with badSlots := [] } } : State).setFlag F.HEN_STAT_SCANNED true).setFld
        F.HEN_STAT_BADREC 0).henUsed))

/-- A write to HEN_CUR_SEQ loads the window with the record at or above that SEQ; NEXT loads the one after the
record shown, and nothing when none is shown. HEN_WRITE of severity 3 from a context other than 0 answers
FAULT_ACCESS; HEN_READ copies COUNT records from FROM on to BUF, and answers FAULT_ACCESS where they meet an
error the store cannot correct; its COUNT offends by range (word 1, bit 32, kind 3) exactly where it is 0 or
above 4,096; HEN_CLEAR from another context answers FAULT_ACCESS, with SEVMAX 3 outside SERVICE REFUSED_MODE,
and else removes the records, raises event 218 and makes a Notice record. -/
def Obligations.HenWindow : Prop :=
  (∀ (s : State) (t : Nat) (x : Word) (crc : Bool), let v := s.tick t; Machine.exec (.henCurSeqWrite t x crc) s =
    .next ((v.setFld F.HEN_CUR_SEQ_SEQ x.toNat).henLoad x.toNat crc)) ∧
  (∀ (s : State) (t q : Nat) (crc : Bool), let v := s.tick t; v.hen.shown = some q →
    Machine.exec (.henNext t crc) s = .next (v.henLoad (q + 1) crc)) ∧
  (∀ (s : State) (t : Nat) (crc : Bool), let v := s.tick t; v.hen.shown = none → Machine.exec (.henNext t crc) s = .next v) ∧
  (∀ (s : State) (t : Nat) (c : Fin 4096) (tag : Nat) (o : Op), Startable (s.tick t) c.val tag 0x70 o →
    let v := begun (s.tick t) o; let r := running (s.tick t) o
    (o.arg1 0 2 = 3 → o.ctx ≠ 0 → Machine.exec (.henWrite t c tag) s = .next (v.finish r codeFaultAccess 1 0)) ∧
    (¬(o.arg1 0 2 = 3 ∧ o.ctx ≠ 0) → Machine.exec (.henWrite t c tag) s = .next (
      let m := v.henMakeSeq (o.arg1 0 2) (o.arg1 8 8) (o.arg1 32 32) (some o.cls)
      if m.2.2 = .lost ∨ m.1.henSettled m.2.1 = true then m.1.finish r codeDone 0 m.2.1
      else m.1.modifyOp o.ctx o.tag (fun y => { y with aux := m.2.1 })))) ∧
  (∀ (s : State) (t : Nat) (c : Fin 4096) (tag : Nat) (o : Op), Startable (s.tick t) c.val tag 0x71 o →
    let v := begun (s.tick t) o; let r := running (s.tick t) o; let n := o.arg1 32 16;
    (Machine.exec (.henRead t c tag true) s = .next (v.finish r codeFaultAccess 2 0)) ∧
    (Machine.exec (.henRead t c tag false) s = .next (
      let xs := (v.henInOrder.filter (fun x => decide (o.arg1 0 32 ≤ x.record.seq))).take n
      (v.writeBytes o.buf (xs.flatMap (fun x => henBytes (v.henShows x)))).finish r codeDone 0 xs.length))) ∧
  (∀ o : Op, o.opcode = 0x71 → (o.arg1 32 16 = 0 ∨ 4096 < o.arg1 32 16 ↔ (1, 32, 3) ∈ o.faults)) ∧
  (∀ (s : State) (t : Nat) (c : Fin 4096) (tag : Nat) (o : Op), Startable (s.tick t) c.val tag 0x72 o →
    let v := begun (s.tick t) o; let r := running (s.tick t) o
    (o.ctx ≠ 0 → Machine.exec (.henClear t c tag) s = .next (v.finish r codeFaultAccess 1 0)) ∧
    (o.ctx = 0 → o.arg1 32 2 = 3 → v.mode ≠ .service → Machine.exec (.henClear t c tag) s =
      .next (v.finish r codeRefusedMode v.mode.code 0)) ∧
    (o.ctx = 0 → o.arg1 32 2 < 3 → Machine.exec (.henClear t c tag) s = .next (
      let m := v.henRemove (o.arg1 0 32) (o.arg1 32 2)
      (((m.1.raise 218 m.2).henMake sevNotice 218 m.2).finish r codeDone 0 m.2).henWake)))

/-- Two seconds after the last solution time becomes invalid, event 129 is raised, and without FREERUN PPS_OUT
stops. The internal edge of a GPS second, once per second, is kept while time has been valid for 100 ms and
its QERR, which allows for GNS_ANTDLY, lies in (-2500, 2500] ps, and begins a pulse at PPS_OUT when enabled;
any other is dropped. QERR is reported within 100 ms to the record, the register and the timebase, and not
later. With time invalid and FREERUN and EN set, a pulse begins at each whole second of module time plus
offset with a TYPE 4 record. While the front end has power, a bias current below 2 mA sets ANTOPEN and one at
150 mA sets ANTSHORT, each raising event 134 once until its end; a current in range clears both. -/
def Obligations.GnssTime : Prop :=
  (∀ (s : State) (t : Nat), let v := s.tick t; v.flag F.GNS_STAT_TIMEVALID = true → v.gns.lastFix + 2 * psPerS ≤ v.modTime →
    Machine.exec (.gnssTimeInvalid t) s = .next (
      let w := v.setFlag F.GNS_STAT_TIMEVALID false
      let u := ({ w with gns := { w.gns with firstSeen := false } } : State).raise 129 0
      if u.flag F.GNS_PPS_CFG_FREERUN = true then u else u.setPps false 0)) ∧
  (∀ (s : State) (t second : Nat) (est : Int), let v := s.tick t; let q := est - 1000 * v.fld F.GNS_ANTDLY_NS
    let ok := v.flag F.GNS_STAT_TIMEVALID = true ∧ v.gns.validFrom + 100 * psPerMs ≤ v.modTime ∧
      v.gns.lastSec ≠ some second ∧ -2500 < q ∧ q ≤ 2500
    (¬ok → Machine.exec (.gnssPpsEdge t ⟨second, est⟩) s = .next v) ∧
    (ok → Machine.exec (.gnssPpsEdge t ⟨second, est⟩) s = .next (
      let w : State := { v with gns := { v.gns with
        edge := some (v.modNs, q), due := some (v.modNs, second), lastSec := some second } }
      if v.flag F.GNS_PPS_CFG_EN = true then w.ppsPulse 0 else w))) ∧
  (∀ (s : State) (t ns : Nat) (q : Int), let v := s.tick t; v.gns.edge = some (ns, q) →
    (v.modNs ≤ ns + 100000000 → Machine.exec (.gnssQerrReport t) s = .next (
      let w : State := { v with gns := { v.gns with edge := none } }
      ((w.gnssRecord (ppsWords ns 0 q)).setFld F.GNS_PPS_QERR_QERR (ofSigned 32 q)).correctEdge ns q)) ∧
    (ns + 100000000 < v.modNs → Machine.exec (.gnssQerrReport t) s = .next v)) ∧
  (∀ (s : State) (t : Nat), let v := s.tick t; v.flag F.GNS_STAT_TIMEVALID = false → v.flag F.GNS_PPS_CFG_FREERUN = true →
    v.flag F.GNS_PPS_CFG_EN = true → v.atWhole 1000 = true → (v.modNs + v.tbOfs) % 1000000000 = 0 → v.mode.gnss = true →
    Machine.exec (.ppsFreerunPulse t) s = .next ((v.ppsPulse 1).gnssRecord (ppsWords v.modNs 1 0))) ∧
  (∀ (s : State) (t ua : Nat), let v := s.tick t; v.mode.gnss = true →
    (ua < 2000 → v.flag F.GNS_STAT_ANTOPEN = false → Machine.exec (.gnssAntennaFault t ua) s =
      .next (((v.setFlag F.GNS_STAT_ANTOPEN true).raise 134 0).setFlag F.GNS_STAT_ANTSHORT false)) ∧
    (ua < 2000 → v.flag F.GNS_STAT_ANTOPEN = true → Machine.exec (.gnssAntennaFault t ua) s =
      .next (v.setFlag F.GNS_STAT_ANTSHORT false)) ∧
    (150000 ≤ ua → v.flag F.GNS_STAT_ANTSHORT = false → Machine.exec (.gnssAntennaFault t ua) s =
      .next (((v.setFlag F.GNS_STAT_ANTOPEN false).setFlag F.GNS_STAT_ANTSHORT true).raise 134 1)) ∧
    (2000 ≤ ua → ua < 150000 → Machine.exec (.antennaBiasFaultEnd t ua) s =
      .next ((v.setFlag F.GNS_STAT_ANTOPEN false).setFlag F.GNS_STAT_ANTSHORT false))) ∧
  (∀ (s : State) (t ua : Nat), let v := s.tick t; v.mode.gnss = false → Machine.exec (.gnssAntennaFault t ua) s = .next v)

/-- An epoch advances the epoch number by one, once at its instant; one in which no channel measures idles the
channels, writes a solution record without position, yields FIX 0 and leaves the position; without EN, outside
the baseband's modes, between epochs or a second time nothing happens. A message unit of a channel in frame
sync counts as passed or failed by the parity or CRC of its bits, a passed one marks its satellite as heard, a
failed one raises event 133 once a period; its record follows if NAV, or for a failed one NAVFAIL too, is set.
An injected solution of FIX 3 or 4 for the newest epoch becomes the position and FIX and a later solution
record of the epoch; any other sets INJREJ. While EN is set, a write that changes RATE, L5_EN or GAL_EN sets
CFGREJ and leaves them; the other bits apply. -/
def Obligations.GnssChannels : Prop :=
  (∀ (s : State) (t : Nat) (x : GnsSol), let v := s.tick t; v.epochDue = true →
    Machine.exec (.gnssEpoch t [] [] x) s = .next (
      let w : State := { v with gns := { v.gns with
        epoch := (v.gns.epoch + 1) % 2 ^ 32, epochAt := some v.modNs, fresh := true, elev := [] } }
      let w := (List.range 96).foldl (fun w c => w.setReg (R.GNS_CH_STAT c) 0) w
      let w := w.gnssRecord (solWords w x 0 0 0 false)
      (((w.setFld F.GNS_STAT_FIX 0).setFld F.GNS_STAT_SVUSED 0).setFld F.GNS_STAT_SVDUAL 0).takeSolution default 0)) ∧
  (∀ (s : State) (t : Nat) (m : List GnsMeas) (y : List (Nat × Nat × Nat × Nat)) (x : GnsSol), let v := s.tick t
    (v.flag F.GNS_CFG_EN = false ∨ v.mode.gnss = false ∨ v.atWhole v.epochPeriod = false ∨ v.gns.epochAt = some v.modNs) →
    Machine.exec (.gnssEpoch t m y x) s = .next v) ∧
  (∀ (s : State) (t : Nat) (ch : Fin 96) (bits : List Flit) (inv : Bool) (ns : Nat), let v := s.tick t
    let sig := sigOf ch.val (v.flag (F.GNS_CH_STAT_SYS ch.val))
    let u := navValue (navBits sig) bits inv
    let sat := (v.flag (F.GNS_CH_STAT_SYS ch.val), v.fld (F.GNS_CH_STAT_PRN ch.val))
    v.flag F.GNS_CFG_EN = true → v.fld (F.GNS_CH_STAT_STATE ch.val) = 3 → v.flag F.GNS_RING_CTL_NAV = false →
    (navCheck sig u = (if sig = 0 then 1023 else 1) → Machine.exec (.gnssNavUnit t ch bits inv ns) s = .next { v.bump F.GNS_NAV_CNT_PASSED with
      gns := { v.gns with heard := if v.gns.heard.contains sat = true then v.gns.heard else sat :: v.gns.heard } }) ∧
    (navCheck sig u ≠ (if sig = 0 then 1023 else 1) → Machine.exec (.gnssNavUnit t ch bits inv ns) s =
      .next ((v.bump F.GNS_NAV_CNT_FAILED).raiseOnce 133 0 ch.val))) ∧
  (∀ (s : State) (t : Nat) (x : Word), let v := (s.tick t).plainWrite R.GNS_INJ_CTL (x ||| 8#32)
    let f := v.fld F.GNS_INJ_CTL_FIX
    ((f ≠ 3 ∧ f ≠ 4) ∨ v.gns.fresh = false ∨ v.epochDue = true ∨ v.fld F.GNS_INJ_CTL_EPOCH ≠ v.gns.epoch % 65536 →
      Machine.exec (.gnsInjCommit t x) s = .next (v.setFlag F.GNS_STAT_INJREJ true)) ∧
    ((f = 3 ∨ f = 4) → v.gns.fresh = true → v.epochDue = false → v.fld F.GNS_INJ_CTL_EPOCH = v.gns.epoch % 65536 →
      Machine.exec (.gnsInjCommit t x) s = .next (
        let y := { v.gns.sol with lat := toSigned 32 (v.fld F.GNS_INJ_LAT_VALUE), lon := toSigned 32 (v.fld F.GNS_INJ_LON_VALUE)
                                  height := toSigned 32 (v.fld F.GNS_INJ_HGT_VALUE), heading := v.fus.pose.heading / 10000000 }
        let w := (v.takeSolution y f).setFld F.GNS_STAT_FIX f
        let w : State := { w with gns := { w.gns with fresh := false } }
        w.gnssRecord (solWords w y f (w.fld F.GNS_STAT_SVUSED) (w.fld F.GNS_STAT_SVDUAL) true)))) ∧
  (∀ (s : State) (t : Nat) (x : Word), let v := s.tick t; let old := (v.reg R.GNS_CFG).toNat
    v.flag F.GNS_CFG_EN = true → bitsOf x.toNat 1 4 ≠ bitsOf old 1 4 → Machine.exec (.gnsCfgWrite t 0 x ()) s = .next (
      let w := (v.setFlag F.GNS_STAT_CFGREJ true).plainWrite R.GNS_CFG (setBits x 1 4 (bitsOf old 1 4))
      let w := w.setFld F.GNS_CFG_ELMASK (min 90 (w.fld F.GNS_CFG_ELMASK))
      if w.flag F.GNS_CFG_EN = true then w.releaseSlots
      else (List.range 96).foldl (fun w c => w.setReg (R.GNS_CH_STAT c) 0) w))

/-- With the Goose running, at a whole millisecond: a contact's accepted level is shown, inverted for contact
B of an antivalent input; a contact of an enabled input that opens while both are closed trips the input and
starts its discrepancy time unless it runs; of an input not enabled it only shows its level, and a level that
stands changes nothing. A discrepancy past its time, a cross circuit, GOO_STOP, a failure of self-diagnosis
and a sealed switch off its boot position for 30 ms each set their bit, are reported, and impose safe stop
with causes 2, 3, 7, 8 and 6. A release ends local trips whose input is OK, and ends safe stop only if every
cause can end; else it stands. -/
def Obligations.GooseStop : Prop :=
  (∀ (s : State) (t : Nat) (i : Fin 16) (b closed : Bool), let v := s.tick t
    let f := if b then F.GOO_IN_STAT_B i.val else F.GOO_IN_STAT_A i.val
    let level := closed != (b && v.flag (F.GOO_IN_CFG_ANTIV i.val))
    (v.gooRuns = true → v.atWhole psPerMs = true → v.flag f = level → Machine.exec (.safetyContactChange t i b closed) s = .next v) ∧
    (v.gooRuns = true → v.atWhole psPerMs = true → v.flag f = !level → v.flag (F.GOO_IN_CFG_EN i.val) = false →
      Machine.exec (.safetyContactChange t i b closed) s = .next (v.setFlag f level).gooShow) ∧
    (v.gooRuns = true → v.atWhole psPerMs = true → level = false → v.flag (F.GOO_IN_CFG_EN i.val) = true → v.flag (F.GOO_IN_STAT_A i.val) = true →
      v.flag (F.GOO_IN_STAT_B i.val) = true → Machine.exec (.safetyContactChange t i b closed) s = .next (
        let w := (v.setFlag f false).tripInput i.val
        (w.modGooIn i.val (fun x => { x with discAt := if x.discAt.isSome then x.discAt else some w.modTime })).gooShow)) ∧
    ((v.gooRuns = false ∨ v.atWhole psPerMs = false) → Machine.exec (.safetyContactChange t i b closed) s = .next v)) ∧
  (∀ (s : State) (t d : Nat) (i : Fin 16), let v := s.tick t; (v.gooIn i.val).discAt = some d → v.gooRuns = true →
    v.flag (F.GOO_IN_CFG_EN i.val) = true → d + v.fld (F.GOO_IN_CFG_DISC_MS i.val) * psPerMs ≤ v.modTime →
    Machine.exec (.safetyDiscrepancy t i) s = .next (
      let w := (v.setFlag (F.GOO_IN_STAT_DISCF i.val) true).modGooIn i.val (fun x =>
        { x with discAt := none, cause2 := true, tripped := true, sawLow := false })
      ((w.raise 3 i.val).henMake sevError 3 i.val).impose 2)) ∧
  (∀ (s : State) (t : Nat) (i : Fin 16), let v := s.tick t; v.gooRuns = true → v.flag (F.GOO_IN_CFG_EN i.val) = true →
    v.flag (F.GOO_IN_STAT_XF i.val) = false → Machine.exec (.safetyCrossCircuit t i) s =
      .next ((((v.setFlag (F.GOO_IN_STAT_XF i.val) true).modGooIn i.val (fun x => { x with cause3 := true })).raise 4
        i.val).impose 3)) ∧
  (∀ (s : State) (t : Nat), let v := s.tick t
    (v.gooRuns = true → Machine.exec (.gooStop t) s = .next ((v.addGooCause 7).impose 7)) ∧
    (v.gooRuns = false → Machine.exec (.gooStop t) s = .next v) ∧
    let w := v.endLocalTrips
    (w.flag F.GOO_STAT_SAFESTOP = true → w.releasable = true → Machine.exec (.gooRelease t) s = .next w.endSafeStop) ∧
    (w.releasable = false → Machine.exec (.gooRelease t) s = .next w.gooShow)) ∧
  (∀ (s : State) (t : Nat) (k : Fin 4), let v := s.tick t; v.gooRuns = true → v.flag (diagFld k.val) = false →
    Machine.exec (.gooseDiagFailure t k) s = .next (
      let w := (v.setFlag (diagFld k.val) true).setFlag F.GOO_STAT_FAILSAFE true
      ((((w.openDisconnect).addGooCause 8).impose 8).raise (8 + k.val) 0).henMake sevError (8 + k.val) 0)) ∧
  (∀ (s : State) (t d : Nat) (sw : Byte), let v := s.tick t
    let w := ({ v with pwr := { v.pwr with switches := sw } } : State).setFld F.GOO_SW_SWNOW sw.toNat
    v.gooRuns = true → v.atWhole (10 * psPerMs) = true → sw.toNat ≠ w.fld F.GOO_SW_SWBOOT → v.goo.swDiff = some d →
    d + 30 * psPerMs ≤ v.modTime → v.gooCause 6 = false → Machine.exec (.sealedSwitchChange t sw) s =
      .next (((w.addGooCause 6).impose 6).raise 7 sw.toNat |>.henMake sevError 7 sw.toNat))

/-- A request serves outputs 0 to 7 in order. A test pulse of an energised output that reads 5 V or more is a
stuck output: TESTF, the disconnect opens, cause 4. A read-back of 5 V or more while off is the same; more
than 3 V below the supply while on is a test fault that switches the output off. A contactor feedback is kept
and, FBTIME after switching, checked on every output bound to it. Every 10 ms the pulses of the two chosen
frequency inputs enter their windows of 100 ms, the speeds follow, GOO_SPD takes the lower, agreement for 1 s
clears SPDDISC, and a speed of 139 mm/s or more, or SPDDISC, clears STILL. Speeds more than 20 % apart for 1 s
set SPDDISC, clear STILL and raise event 12; both below 139 mm/s for 500 ms set STILL. The status flit is
emitted each ms while its route is enabled. -/
def Obligations.GooseOutputs : Prop :=
  (∀ (s : State) (t : Nat) (x : Word), let v := s.tick t; Machine.exec (.gooOutputRequest t x) s =
    .next (((List.range 8).foldl (fun w o => w.requestOutput o (bitOf x.toNat o)) v).gooShow)) ∧
  (∀ (s : State) (t mv k : Nat) (o : Fin 8), let v := s.tick t; v.outOn o.val = true →
    v.modTime = o.val * 12500 * psPerUs + k * (100 * psPerMs) →
    Machine.exec (.safetyOutputTest t o mv) s = .next (if mv < 5000 then v else v.stuckOn o.val)) ∧
  (∀ (s : State) (t mv sup : Nat) (o : Fin 8), let v := s.tick t
    let w := v.setFlag (F.GOO_OUT_STAT_RB o.val) (decide (5000 ≤ mv))
    v.gooRuns = true → Machine.exec (.safetyOutputReadback t o mv sup) s =
      .next (if w.outOn o.val = false then (if mv < 5000 then w else w.stuckOn o.val)
        else if mv + 3000 < sup then ((w.testFault o.val).outputOff o.val).gooShow
        else if sup + 3000 < mv then w.testFault o.val else w)) ∧
  (∀ (s : State) (t : Nat) (k : Fin 4) (level : Bool), let v := s.tick t
    let w : State := { v with goo := { v.goo with feedback :=
      if level then v.goo.feedback ||| 1#4 <<< k.val else v.goo.feedback &&& ~~~ (1#4 <<< k.val) } }
    v.gooRuns = true → Machine.exec (.contactorFeedbackCheck t k level) s = .next (
      (((List.range 8).filter (fun o => w.fld (F.GOO_OUT_CFG_FB o) == k.val)).filter
        (fun o => w.flag (F.GOO_OUT_CFG_FBEN o))).foldl (fun w o => w.checkFeedback o) w).gooShow) ∧
  (∀ (s : State) (t : Nat) (low high : List Nat), let v := s.tick t; let pulses := low ++ high; v.gooRuns = true → v.atWhole (10 * psPerMs) = true →
    Machine.exec (.gooseSpeedUpdate t low high) s = .next (
      let as := (pulses.getD (v.fld F.GOO_SPD_CFG_FIN_A) 0 :: v.goo.pulsesA).take 10
      let bs := (pulses.getD (v.fld F.GOO_SPD_CFG_FIN_B) 0 :: v.goo.pulsesB).take 10
      let a := v.speedOf as
      let b := v.speedOf bs
      let low := decide (a < 139 ∧ b < 139)
      let differ := decide (556 < a ∧ 556 < b ∧ max a b < 5 * (max a b - min a b))
      let w : State := { v with goo := { v.goo with
        pulsesA := as, pulsesB := bs, speedA := a, speedB := b
        stillAt := spanOf low v.goo.stillAt v.modTime
        discAt := spanOf differ v.goo.discAt v.modTime
        agreeAt := spanOf (!differ) v.goo.agreeAt v.modTime } }
      let w := w.setFld F.GOO_SPD_SPEED (satBits 16 (min a b))
      let w := if spanLasts w.goo.agreeAt w.modTime psPerS = true then w.setFlag F.GOO_SPD_SPDDISC false else w
      if low = true ∧ w.flag F.GOO_SPD_SPDDISC = false then w else w.setFlag F.GOO_STAT_STILL false)) ∧
  (∀ (s : State) (t : Nat), let v := s.tick t; v.gooRuns = true → spanLasts v.goo.discAt v.modTime psPerS = true →
    v.flag F.GOO_SPD_SPDDISC = false → Machine.exec (.speedDiscrepancy t) s =
      .next (((v.setFlag F.GOO_SPD_SPDDISC true).setFlag F.GOO_STAT_STILL false).raise 12 0)) ∧
  (∀ (s : State) (t : Nat), let v := s.tick t; v.gooRuns = true → v.flag F.GOO_SPD_SPDDISC = false →
    Machine.exec (.gooseStill t) s = .next (
      if spanLasts v.goo.stillAt v.modTime (500 * psPerMs) = true then v.setFlag F.GOO_STAT_STILL true else v)) ∧
  (∀ (s : State) (t : Nat), let v := s.tick t; let q := fun f => if v.flag f = true then (32767 : Int) else 0
    v.flag F.GOO_STAT_RT_EN = true → v.atWhole psPerMs = true → Machine.exec (.gooseStatusFlit t) s = .next (
      v.emit 149 (v.fld F.GOO_STAT_RT_ROUTE) v.modMs 0 true true [outFlit [((min 32767 (2 * v.fld F.GOO_SPD_SPEED) : Nat) : Int),
        q F.GOO_STAT_STILL, q F.GOO_STAT_HDRENG, q F.GOO_STAT_SAFESTOP]
        (if v.flag F.GOO_SPD_SPDDISC = true then 14 else 15) false false v.modMs 0]))

/-- Ox channels: periods, commands, duty limit, pairing and pull-in tokens -/
def Obligations.OxChannel : Prop :=
  (∀ (s : State) (t cur vb : Nat) (n : Fin 48), let v := s.tick t; v.mode ≠ .compat →
    (v.modTime < pwmPhase n.val ∨ (v.modTime - pwmPhase n.val) % pwmPeriod ≠ 0 ∨ v.oxBase n.val ≠ n.val →
      Machine.exec (.oxPwmPeriod t n cur vb) s = .next v) ∧
    (pwmPhase n.val ≤ v.modTime → (v.modTime - pwmPhase n.val) % pwmPeriod = 0 → v.oxBase n.val = n.val →
      Machine.exec (.oxPwmPeriod t n cur vb) s = .next (
        let k := (v.modTime - pwmPhase n.val) / pwmPeriod
        let a := v.setFld F.OX_GLB_STAT_VBOOST (min vb 1023)
        let b := if k = 0 then a else a.oxClose n.val k cur vb
        let c := b.modOxCh n.val (fun x => { x with live := b.flag (F.OX_CH_CFG_EN n.val) })
        let d := if (c.oxCh n.val).live = true then c.oxApply n.val else c.modOxCh n.val (fun x => { x with noCmd := 0 })
        ((d.oxRun n.val cur).modOxCh n.val (fun x => { x with acc := x.acc + x.duty })).showOx n.val))) ∧
  (∀ (s : State) (t : Nat) (p : Packet) (f : Flit), let v := s.tick t; p.payload = [f] → p.dst = 147 → p.typ = 3 →
    p.spec = false → v.lands p = true → Machine.exec (.oxCommandFlit t p) s = .next ((v.arrived p).oxFlit p.stream f)) ∧
  (∀ (s : State) (t : Nat) (n : Fin 48), let v := s.tick t; v.oxBase n.val = n.val → (v.oxCh n.val).live = true →
    v.fld (F.OX_CH_LIM_TMO n.val) ≠ 0 → v.fld (F.OX_CH_LIM_TMO n.val) ≤ (v.oxCh n.val).noCmd →
    (v.oxCh n.val).timedOut = false → v.mode ≠ .compat → Machine.exec (.oxCommandTimeout t n) s =
      .next ((((v.setFlag (F.OX_CH_STAT_TIMEOUT n.val) true).modOxCh n.val (fun y =>
        { y with timedOut := true })).oxForceOff n.val false).raise 139 n.val)) ∧
  (∀ (s : State) (t : Nat) (n : Fin 48), let v := s.tick t; let x := v.oxCh n.val; let win := (x.acc :: x.win).take 6000
    let w := v.setOxCh n.val { x with win := win, acc := 0 }; let spans := 100 * w.fld (F.OX_CH_LIM_DWIN n.val)
    v.atWhole (10 * psPerMs) = true → v.oxBase n.val = n.val → v.mode ≠ .compat →
    w.flag (F.OX_CH_STAT_DLIMACT n.val) = false → Machine.exec (.oxDutyLimitEval t n) s = .next (
      if w.fld (F.OX_CH_LIM_DLIM n.val) * (spans * 200 * 10000) ≤ (win.take spans).sum * 32768
      then ((w.setFlag (F.OX_CH_STAT_DLIMACT n.val) true).showOx n.val).raise 140 n.val else w)) ∧
  (∀ (s : State) (t : Nat) (n : Fin 48) (x : Word), let v := s.tick t; let old := v.reg (R.OX_CH_CFG n.val)
    v.oxLegacy n.val = false → v.flag (F.OX_CH_CFG_EN n.val) = true → x = old ^^^ 2#32 → n.val % 2 = 0 → old.getLsbD 22 = false →
    old.getLsbD 0 = true → Machine.exec (.oxPairWrite t n x) s = .next (
      let a := (v.setFlag (F.OX_CH_CFG_CFGREJ n.val) true).oxWritePair n.val (x.getLsbD 1)
      let b := (a.setFlag (F.OX_CH_CFG_EN n.val) true).setFlag (F.OX_CH_CFG_GCUT n.val) (x.getLsbD 2)
      b.showOx (b.oxBase n.val))) ∧
  (∀ (s : State) (t : Nat) (n : Fin 48) (x : Word), let v := s.tick t; let old := (v.reg (R.OX_CH_CFG n.val)).toNat
    v.oxLegacy n.val = false → v.flag (F.OX_CH_CFG_EN n.val) = false → bitOf x.toNat 22 = false →
    let a := ((v.setFld (F.OX_CH_CFG_CLASS n.val) (bitsOf x.toNat 4 3)).setFld (F.OX_CH_CFG_ROUTE n.val)
      (bitsOf x.toNat 8 12)).setFld (F.OX_CH_CFG_LANE n.val) (bitsOf x.toNat 20 2)
    let b := if bitOf x.toNat 1 ≠ bitOf old 1 ∧ n.val % 2 = 0 then a.oxWritePair n.val (bitOf x.toNat 1) else a
    let c := if bitOf x.toNat 3 ≠ bitOf old 3 then b.oxWritePig n.val (bitOf x.toNat 3) else b
    let d := (c.setFlag (F.OX_CH_CFG_EN n.val) (bitOf x.toNat 0)).setFlag (F.OX_CH_CFG_GCUT n.val) (bitOf x.toNat 2)
    Machine.exec (.oxPairWrite t n x) s = .next (d.showOx (d.oxBase n.val)) ∧
    Machine.exec (.oxPigWrite t n x) s = .next (d.showOx (d.oxBase n.val))) ∧
  (∀ (s : State) (t : Nat) (n : Fin 48) (x : Word), let v := s.tick t; v.oxLegacy n.val = true →
    Machine.exec (.oxPigWrite t n x) s = .next (v.setFlag (F.OX_CH_CFG_CFGREJ n.val) true) ∧
    Machine.exec (.oxPairWrite t n x) s = .next (v.setFlag (F.OX_CH_CFG_CFGREJ n.val) true)) ∧
  (∀ (s : State) (t : Nat) (n : Fin 48), let v := (s.tick t).returnTokens
    ((n.val ∉ v.oxWaiting ∨ v.flag F.OX_GLB_STAT_LOW = true ∨ v.oxTokens n.val = false) →
      Machine.exec (.oxPullinGrant t n) s = .next v) ∧
    (n.val ∈ v.oxWaiting → v.flag F.OX_GLB_STAT_LOW = false → v.oxTokens n.val = true → v.modTime < pwmPhase n.val →
      Machine.exec (.oxPullinGrant t n) s = .next (
        let tok : OxToken := ⟨n.val, v.flag (F.OX_CH_CFG_PIG n.val), none⟩
        let w : State := { v with ox := { v.ox with out := v.ox.out ++ List.replicate (v.oxNeed n.val) tok } }
        (w.modOxCh n.val (fun x => { x with granted := true })).showOx n.val))) ∧
  (∀ (s : State) (t cur mj b : Nat) (n : Fin 48), let v := s.tick t; (v.oxCh n.val).begun = some b →
    Machine.exec (.oxPullinEnd t n cur mj) s = .next (
      if b + v.fld (F.OX_CH_PI_PI_US n.val) * psPerUs ≤ v.modTime ∨
          max 1 (v.fld (F.OX_CH_PI_PI_MA n.val)) * (if v.oxPaired n.val = true then 2 else 1) ≤ cur ∨ 120 * v.oxNeed n.val ≤ mj
      then v.modOxCh n.val (fun x => { x with begun := none }) else v)) ∧
  (∀ (s : State) (t : Nat), let v := s.tick t; Machine.exec (.oxTokenReturn t) s = .next (
    let w : State := { v with ox := { v.ox with out := v.ox.out.filter (fun k => match k.returnAt with
      | some a => decide (v.modTime / 5000 < a / 5000)
      | none => true) } }
    w.setFld F.OX_GLB_STAT_TOKFREE w.oxSharedFree))

/-- A rail below 40 V sets LOW and raises event 142 once until it is at 44 V or above; above 58 V the clamp
sets CLAMP and raises event 143, until it is not. A supply below 9 V is noted and switches every channel off,
to restart, with SUPLOW and event 146, until it has been at 10 V or above for 2 ms since. Above 5 A (10 A for
a pair) SHORT, above 165 degrees OVERTEMP, are reported and force the channel off; 400 periods of an open load
only report OPEN. Clearing leaves a bit whose condition holds. OX_FAULT_CLEAR clears the fault bits of its
channel for context 0, and answers FAULT_ACCESS to another; OX_STATUS_READ writes the 48 channels' registers
to BUF. -/
def Obligations.OxStage : Prop :=
  (∀ (s : State) (t vb : Nat), let v := s.tick t; let w := v.setBoost vb
    (vb < 400 → w.flag F.OX_GLB_STAT_LOW = false → Machine.exec (.oxRailLow t vb) s =
      .next ((w.setFlag F.OX_GLB_STAT_LOW true).raise 142 vb)) ∧
    (440 ≤ vb → Machine.exec (.oxRailRecover t vb) s = .next (w.setFlag F.OX_GLB_STAT_LOW false)) ∧
    (vb < 440 → Machine.exec (.oxRailRecover t vb) s = .next v) ∧
    (580 < vb → w.flag F.OX_GLB_STAT_CLAMP = false → Machine.exec (.oxRailClamp t vb) s =
      .next ((w.setFlag F.OX_GLB_STAT_CLAMP true).raise 143 (min vb 1023))) ∧
    (vb ≤ 580 → Machine.exec (.oxRailClampEnd t vb) s = .next (w.setFlag F.OX_GLB_STAT_CLAMP false))) ∧
  (∀ (s : State) (t mv : Nat), let v := s.tick t
    (mv < 9000 → v.flag F.OX_GLB_STAT_SUPLOW = false → Machine.exec (.oxSupplyLow t mv) s = .next (
      let w := ({ v with ox := { v.ox with lowAt := v.modTime } } : State).setFlag F.OX_GLB_STAT_SUPLOW true
      (w.oxBases.foldl (fun w n => w.oxForceOff n true) w).raise 146 0)) ∧
    (9000 ≤ mv → Machine.exec (.oxSupplyLow t mv) s = .next v) ∧
    (∀ ok, 10000 ≤ mv → v.ox.lowAt < ok → ok + 2 * psPerMs ≤ v.modTime → v.flag F.OX_GLB_STAT_SUPLOW = true →
      Machine.exec (.oxSupplyRestored t ⟨mv, ok⟩) s = .next (
        let w := v.setFlag F.OX_GLB_STAT_SUPLOW false
        w.oxBases.foldl (fun w n => w.showOx n) w)) ∧
    (∀ ok, (mv < 10000 ∨ ok ≤ v.ox.lowAt ∨ v.modTime < ok + 2 * psPerMs) →
      Machine.exec (.oxSupplyRestored t ⟨mv, ok⟩) s = .next v)) ∧
  (∀ (s : State) (t ma : Nat) (deg : Int) (n : Fin 48), let v := s.tick t; v.oxBase n.val = n.val →
    ((if v.oxPaired n.val = true then 10000 else 5000) < ma → Machine.exec (.oxShort t n ma) s =
      .next ((v.oxFault n.val (F.OX_CH_STAT_SHORT n.val) 136 sevError).oxForceOff n.val true)) ∧
    (400 ≤ (v.oxCh n.val).openCnt → Machine.exec (.oxOpen t n) s =
      .next ((v.oxFault n.val (F.OX_CH_STAT_OPEN n.val) 137 sevWarning).showOx n.val)) ∧
    (165 < deg → Machine.exec (.oxOvertemp t n deg) s =
      .next ((v.oxFault n.val (F.OX_CH_STAT_OVERTEMP n.val) 138 sevError).oxForceOff n.val true)) ∧
    (deg ≤ 165 → Machine.exec (.oxOvertemp t n deg) s = .next v)) ∧
  (∀ (s : State) (t : Nat) (n : Fin 48) (x : Word) (a : Bool) (j : Int),
    (s.oxLegacy n.val = false → Machine.exec (.oxChStatClear t n x a () j) s = .next ((s.tick t).oxClear n.val x.toNat a j)) ∧
    (s.oxLegacy n.val = true → Machine.exec (.oxChStatClear t n x a () j) s = .next (s.tick t))) ∧
  (∀ (s : State) (t : Nat) (c : Fin 4096) (tag : Nat) (a : Bool) (j : Int) (o : Op), Startable (s.tick t) c.val tag 0x40 o →
    let v := begun (s.tick t) o; let r := running (s.tick t) o; let n := o.arg1 0 6
    (o.ctx ≠ 0 → Machine.exec (.oxFaultClear t c tag a () j) s = .next (v.finish r codeFaultAccess 1 0)) ∧
    (o.ctx = 0 → Machine.exec (.oxFaultClear t c tag a () j) s = .next (
      let w := v.oxClear n 0x70 a j
      w.finish r codeDone 0 (w.reg (R.OX_CH_STAT n)).toNat))) ∧
  (∀ (s : State) (t : Nat) (c : Fin 4096) (tag : Nat) (o : Op), Startable (s.tick t) c.val tag 0x41 o →
    let v := begun (s.tick t) o; let r := running (s.tick t) o
    Machine.exec (.oxStatusRead t c tag) s = .next (
      let m := v.readMeasured 0x3FF v.oxGlbStat
      (m.2.writeBytes o.buf ((List.range 48).flatMap (fun n => [R.OX_CH_STAT n, R.OX_CH_DLY n, R.OX_CH_MON n,
        R.OX_CH_CFG n].flatMap (fun a => leBytes 4 (v.reg a).toNat)))).finish r codeDone 0 m.1.toNat))

/-- A command flit to endpoint 148 goes to the channels of its route, and a speculative one only counts as
arrived; MUL_CH_CMD commands a register-sourced channel. Below 4.5 V for 100 us every channel switches off
with UVLO and event 165; at 6 V for 2 ms channels follow their commands again with event 166 (each measured
from the last change of UVLO). Limiting begins when a channel that is on reaches its limit, raises event 161
once after 10 ms and ends below the limit. At 175 degrees a channel shuts down with TSD, event 160 and an
Error record, and with its restarts used up stays faulted with event 164. A retry comes after 100 ms below 150
degrees; one second on without limiting clears RETRIES. The third 10 ms check in a row above 3.5 V reports
OPEN. -/
def Obligations.MuleSwitching : Prop :=
  (∀ (s : State) (t : Nat) (p : Packet) (f : Flit), let v := s.tick t; p.payload = [f] → p.dst = 148 → p.typ = 3 → v.lands p = true →
    Machine.exec (.mulCommandFlit t p) s = .next (if p.spec = true then v.arrived p else (v.arrived p).mulFlit p.stream f)) ∧
  (∀ (s : State) (t : Nat) (n : Fin 64) (x : Word), let v := s.tick t; let w := v.setFlag (F.MUL_CH_CMD_ON n.val) (bitOf x.toNat 0)
    v.mulLegacy n.val = false → Machine.exec (.mulChCmdWrite t n x) s = .next (
      if w.flag (F.MUL_CH_CFG_SRC n.val) = true ∧ v.mode ≠ .compat then w.mulCommand n.val (bitOf x.toNat 0) else w)) ∧
  (∀ (s : State) (t mv : Nat), let v := s.tick t
    let u : State := { v with mul := { v.mul with uvloAt := v.modTime } }
    (mv < 4500 → v.flag F.MUL_GLB_STAT_UVLO = false → v.mul.uvloAt + 100 * psPerUs ≤ v.modTime → Machine.exec (.mulUvlo t mv) s = .next (
      ((List.range 64).foldl (fun w n => w.mulOff n) ((u.setFlag F.MUL_GLB_STAT_UVLO true).setFld F.MUL_GLB_STAT_VSUP
        (mv / 100))).raise 165 (mv / 100))) ∧
    (4500 ≤ mv → Machine.exec (.mulUvlo t mv) s = .next v) ∧
    (6000 ≤ mv → v.flag F.MUL_GLB_STAT_UVLO = true → v.mul.uvloAt + 2 * psPerMs ≤ v.modTime → Machine.exec (.mulUvloRelease t mv) s = .next (
      ((List.range 64).foldl (fun w n => w.mulFollow n) ((u.setFlag F.MUL_GLB_STAT_UVLO false).setFld F.MUL_GLB_STAT_VSUP
        (min 1023 (mv / 100)))).raise 166 (min 1023 (mv / 100))))) ∧
  (∀ (s : State) (t ma : Nat) (n : Fin 64), let v := s.tick t; let x := v.mulCh n.val
    (x.on = true → mulLimit n.val ≤ ma → x.limitAt = none → Machine.exec (.mulLimitStart t n ma) s = .next (
      let w := v.setMulCh n.val { x with limitAt := some v.modTime, limitLong := false, lastLimit := v.modTime }
      (((w.bump (F.MUL_CH_TALLY_ILIMCNT n.val)).bump F.MUL_GLB_TALLY_ILIM).setFld (F.MUL_CH_STAT_CURR n.val)
        (mulLimit n.val)).showMul n.val)) ∧
    (∀ a, x.limitAt = some a → x.limitLong = false → a + 10 * psPerMs ≤ v.modTime →
      Machine.exec (.mulLimitLong t n) s = .next ((v.setMulCh n.val { x with limitLong := true }).raise 161 n.val)) ∧
    (x.limitAt ≠ none → ma < mulLimit n.val → Machine.exec (.mulLimitEnd t n ma) s = .next (
      let w := v.setMulCh n.val { x with limitAt := none, limitLong := false, lastLimit := v.modTime }
      (w.setFld (F.MUL_CH_STAT_CURR n.val) (satBits 16 ma)).showMul n.val))) ∧
  (∀ (s : State) (t : Nat) (deg : Int) (n : Fin 64), let v := s.tick t
    let last := decide ((if v.mulLegacy n.val = true then 0 else v.fld (F.MUL_CH_CFG_RETRY n.val)) ≤ v.fld (F.MUL_CH_STAT_RETRIES n.val))
    (v.mulCh n.val).on = true → 175 ≤ deg → Machine.exec (.mulThermalShutdown t n deg) s = .next (
      let a := (((v.setFlag (F.MUL_CH_STAT_TSD n.val) true).bump (F.MUL_CH_TALLY_TSDCNT n.val)).bump F.MUL_GLB_TALLY_TSD).mulOff n.val
      let b := (a.modMulCh n.val (fun y => { y with shutAt := if last = true then none else some a.modTime, fault := last, tsdAt := a.modTime })).showMul n.val
      let u := (b.raise 160 n.val).henMake sevError 160 n.val
      if last = true then u.raise 164 n.val else u)) ∧
  (∀ (s : State) (t a : Nat) (deg : Int) (n : Fin 64), let v := s.tick t; let x := v.mulCh n.val
    let w := v.setMulCh n.val { x with shutAt := none }
    x.shutAt = some a → deg < 150 → a + 100 * psPerMs ≤ v.modTime → x.cmd = true → Machine.exec (.mulRetry t n deg) s = .next (
      if w.mulDrives n.val = true then (w.setFld (F.MUL_CH_STAT_RETRIES n.val)
        (min 7 (w.fld (F.MUL_CH_STAT_RETRIES n.val) + 1))).mulOn n.val
      else w.showMul n.val)) ∧
  (∀ (s : State) (t : Nat) (n : Fin 64), let v := s.tick t; let x := v.mulCh n.val
    Machine.exec (.mulRetryCountClear t n) s = .next (
      if x.on = true ∧ x.limitAt = none ∧ max x.onSince x.lastLimit + psPerS ≤ v.modTime
      then v.setFld (F.MUL_CH_STAT_RETRIES n.val) 0 else v)) ∧
  (∀ (s : State) (t mv : Nat) (n : Fin 64), let v := s.tick t; let x := v.mulCh n.val
    v.atWhole (10 * psPerMs) = true → x.on = false → v.mulEnabled n.val = true → v.mulLegacy n.val = false →
    v.flag (F.MUL_CH_CFG_OLDET n.val) = true → x.offSince + psPerMs ≤ v.modTime → 3500 < mv → mv ≤ 6000 →
    Machine.exec (.mulOffstateCheck t n mv) s = .next (
      let w := v.setMulCh n.val { x with openCnt := x.openCnt + 1, batCnt := 0 }
      if 2 ≤ x.openCnt then w.mulReport n.val (F.MUL_CH_STAT_OPEN n.val) 162 else w))

/-- A write to MUL_CH_STAT clears the bits written, unless the channel serves the legacy core; a TSD set at
this very instant stays. Clearing TSD below 150 degrees clears the fault and RETRIES, and the channel follows
its command; at 150 degrees or above TSD stands and the channel stays as it is. MUL_FAULT_CLEAR is for context
0 and answers MUL_CH_STAT; MUL_STATUS_READ writes CFG, CMD, STAT and TALLY of channels 0 to 63 and answers
MUL_GLB_STAT, the measured fields as read. -/
def Obligations.MuleClearing : Prop :=
  (∀ (s : State) (t : Nat) (n : Fin 64) (x : Word) (j : Int), let v := s.tick t
    (s.mulLegacy n.val = true → Machine.exec (.mulChStatClear t n x j) s = .next v) ∧
    (s.mulLegacy n.val = false → Machine.exec (.mulChStatClear t n x j) s = .next (v.mulClear n.val x.toNat j)) ∧
    (s.mulLegacy n.val = false → bitsOf x.toNat 3 3 = 0 → Machine.exec (.mulChStatClear t n x j) s = .next v) ∧
    (s.mulLegacy n.val = false → bitsOf x.toNat 3 3 = 1 → j < 150 →
      ¬(v.flag (F.MUL_CH_STAT_TSD n.val) = true ∧ (v.mulCh n.val).tsdAt = v.modTime) → Machine.exec (.mulChStatClear t n x j) s = .next (
      (((v.setFlag (F.MUL_CH_STAT_TSD n.val) false).setFld (F.MUL_CH_STAT_RETRIES n.val) 0).modMulCh n.val (fun y =>
        { y with fault := false, shutAt := none })).mulFollow n.val)) ∧
    (s.mulLegacy n.val = false → bitsOf x.toNat 3 3 = 1 → 150 ≤ j → v.flag (F.MUL_CH_STAT_TSD n.val) = true →
      (v.mulCh n.val).tsdAt ≠ v.modTime →
      Machine.exec (.mulChStatClear t n x j) s = .next (
        ((v.setFlag (F.MUL_CH_STAT_TSD n.val) true).setFld (F.MUL_CH_STAT_RETRIES n.val) 0).showMul n.val)) ∧
    (s.mulLegacy n.val = false → bitsOf x.toNat 3 3 = 1 → v.flag (F.MUL_CH_STAT_TSD n.val) = true →
      (v.mulCh n.val).tsdAt = v.modTime → Machine.exec (.mulChStatClear t n x j) s = .next v)) ∧
  (∀ (s : State) (t : Nat) (c : Fin 4096) (tag : Nat) (j : Int) (o : Op), Startable (s.tick t) c.val tag 0x48 o →
    let v := begun (s.tick t) o; let r := running (s.tick t) o; let n := o.arg1 0 6
    (o.ctx ≠ 0 → Machine.exec (.mulFaultClear t c tag j) s = .next (v.finish r codeFaultAccess 1 0)) ∧
    (o.ctx = 0 → Machine.exec (.mulFaultClear t c tag j) s = .next (
      let m := (v.mulClear n 0x38 j).readMulStat n
      m.2.finish r codeDone 0 m.1.toNat))) ∧
  (∀ (s : State) (t : Nat) (c : Fin 4096) (tag : Nat) (o : Op), Startable (s.tick t) c.val tag 0x49 o →
    let m := (List.range 64).foldl (fun (p : List Byte × State) n =>
      let m := p.2.readMulStat n
      (p.1 ++ (([m.2.reg (R.MUL_CH_CFG n), m.2.reg (R.MUL_CH_CMD n), m.1, m.2.reg (R.MUL_CH_TALLY n)] : List Word).flatMap
        (fun x => leBytes 4 x.toNat)), m.2)) ([], begun (s.tick t) o)
    let g := m.2.readMeasured 0x3FF (m.2.reg R.MUL_GLB_STAT)
    Machine.exec (.mulStatusRead t c tag) s = .next ((g.2.writeBytes o.buf m.1).finish (running (s.tick t) o) codeDone 0 g.1.toNat))

/-- OFFBUS written 1 with the INIT bits unchanged takes the controller off the bus; a controller of the legacy
core refuses. It joins 11 bit times after it began to wait, when it runs with OFFBUS 0 and is not bus-off.
OFFBUS cleared with LISTEN and ABD starts detection, whose candidate ends after 200 ms or an error; after two
passes ABDFAIL and code 5. A received frame sets the receive count and is filtered. An ACK beyond FILL is
refused. A new bus state raises event 1; recovery, 1,408 bit times after bus-off, clears the counters and
joins. An arbitrating trigger opens the window; a reference that loses arbitration clears MASTER, one that
wins begins the next basic cycle. CAN_FIFO_DRAIN is for context 0, is refused in a controller of the legacy
core, and else copies up to FILL elements and advances RP. -/
def Obligations.CanBus : Prop :=
  (∀ (s : State) (t : Nat) (c : Fin 12) (x : Word), let v := s.tick t; let n := (x ||| 1).toNat
    let y := if c.val < 2 then n else n - place (bitsOf n 8 1) 8 1
    let put := fun (w : State) (i : Nat) => w.setFld ⟨R.CAN_CFG c.val, i, 1⟩ (bitsOf y i 1)
    (v.canLegacy c.val = true → Machine.exec (.canOffbusSet t c x) s = .next (v.canReject c.val)) ∧
    (v.canLegacy c.val = false → v.flag (F.CAN_CFG_OFFBUS c.val) = false → bitOf y 0 = true →
      (∀ i ∈ canInitBits, bitOf y i = bitOf (v.reg (R.CAN_CFG c.val)).toNat i) →
      Machine.exec (.canOffbusSet t c x) s = .next (
        let w := put (put v 4) 7
        (if bitOf y 7 = true then w else w.modCanCh c.val (fun z => { z with abd := none })).canOffbus c.val))) ∧
  (∀ (s : State) (t : Nat) (c : Fin 12), let v := s.tick t; Machine.exec (.canBusJoin t c) s = .next (
    if v.canRuns c.val = true ∧ v.flag (F.CAN_CFG_OFFBUS c.val) = false ∧ v.fld (F.CAN_STAT_BSTATE c.val) ≠ 2 ∧
      (v.canCh c.val).waitFrom + 11 * v.canBit c.val ≤ v.modTime
    then v.setFlag (F.CAN_STAT_SYNC c.val) true else v)) ∧
  (∀ (s : State) (t : Nat) (c : Fin 12) (x : Word), let v := s.tick t
    let y := if c.val < 2 then x.toNat else x.toNat - place (bitsOf x.toNat 8 1) 8 1
    let put := fun (w : State) (i : Nat) => w.setFld ⟨R.CAN_CFG c.val, i, 1⟩ (bitsOf y i 1)
    v.canLegacy c.val = false → v.flag (F.CAN_CFG_OFFBUS c.val) = true → bitOf y 0 = false → bitOf y 3 = true → bitOf y 7 = true →
    Machine.exec (.canAbdStart t c x) s = .next ((put (put (canInitBits.foldl put v) 4) 7).canOnbus c.val true)) ∧
  (∀ (s : State) (t : Nat) (c : Fin 12) (e : Bool) (a : CanAbd), let v := s.tick t; (v.canCh c.val).abd = some a → a.wonAt = none →
    (e = false → v.modTime < a.since + 200 * psPerMs → Machine.exec (.canAbdCandidateTimeout t c e) s = .next v) ∧
    ((e = true ∨ a.since + 200 * psPerMs ≤ v.modTime) → Machine.exec (.canAbdCandidateTimeout t c e) s = .next (
      if a.idx < 7 then v.modCanCh c.val (fun x => { x with abd := some ⟨a.idx + 1, a.pass, v.modTime, 0, none, 0⟩ })
      else if a.pass = 0 then v.modCanCh c.val (fun x => { x with abd := some ⟨0, 1, v.modTime, 0, none, 0⟩ })
      else (((v.setFlag (F.CAN_STAT_ABDFAIL c.val) true).setFlag (F.CAN_CFG_ABD c.val) false).modCanCh c.val
        (fun x => { x with abd := none })).canEvent2 c.val 5 0))) ∧
  (∀ (s : State) (t us rec : Nat) (c : Fin 12) (h : Flit) (data : List Byte) (rate : Fin 4), let v := s.tick t
    let w := (v.setFld (F.CAN_STAT_REC c.val) (min 127 rec)).setFlag (F.CAN_STAT_RP c.val) (decide (128 ≤ rec))
    v.canRuns c.val = true → v.flag (F.CAN_CFG_OFFBUS c.val) = false → headFd h.toNat = false →
    v.flag (F.CAN_STAT_SYNC c.val) = true → v.canFrozen c.val = false → (v.canCh c.val).abd = none →
    w.isReference c.val h.toNat = false → Machine.exec (.canFrameReceived t c h data us rate rec) s =
      .next (w.canFilter c.val h.toNat us (data.take (canLength false (headDlc h.toNat))))) ∧
  (∀ (s : State) (t : Nat) (c : Fin 12) (x : Word), let v := s.tick t; let r := bitsOf x.toNat 0 4
    Machine.exec (.canFifoAckWrite t c x) s = .next (
      if v.canLegacy c.val = true ∨ v.canFill c.val < (v.fld (F.CAN_FIFO_WP c.val) + 16 - r) % 16 then v.canReject c.val
      else (v.setFld (F.CAN_FIFO_ACK_RP c.val) r).showFifo c.val)) ∧
  (∀ (s : State) (t tec rec : Nat) (c : Fin 12) (b : Fin 3), let v := s.tick t
    let w := ((v.setFld (F.CAN_STAT_TEC c.val) (satBits 8 tec)).setFld (F.CAN_STAT_REC c.val) (min 127 rec)).setFlag
      (F.CAN_STAT_RP c.val) (decide (128 ≤ rec))
    v.canRuns c.val = true → v.flag (F.CAN_CFG_OFFBUS c.val) = false → v.canFrozen c.val = false → b.val ≠ 2 →
    Machine.exec (.canErrorStateChange t c b tec rec) s = .next (
      if w.fld (F.CAN_STAT_BSTATE c.val) = b.val then w else (w.setFld (F.CAN_STAT_BSTATE c.val) b.val).canEvent1 c.val b.val)) ∧
  (∀ (s : State) (t : Nat) (c : Fin 12), let v := s.tick t; v.canRuns c.val = true → v.flag (F.CAN_CFG_OFFBUS c.val) = false →
    v.fld (F.CAN_STAT_BSTATE c.val) = 2 → (v.canCh c.val).waitFrom + 128 * 11 * v.canBit c.val ≤ v.modTime → Machine.exec (.canBusoffRecovered t c) s = .next (
      (((((v.setFld (F.CAN_STAT_TEC c.val) 0).setFld (F.CAN_STAT_REC c.val) 0).setFlag (F.CAN_STAT_RP c.val) false).setFld
        (F.CAN_STAT_BSTATE c.val) 0).setFlag (F.CAN_STAT_SYNC c.val) true).canEvent1 c.val 0)) ∧
  (∀ (s : State) (t : Nat) (c : Fin 2) (i : Fin 32) (busy : Bool), let v := s.tick t; let e := v.ttElement c.val i.val
    v.ttOn c.val = true → v.canJoined c.val = true → (v.canCh c.val).refAt ≠ 0 → i.val < (v.ttList c.val).length →
    ttKind e = 2 → ttActs e (v.fld (F.CAN_TT_STAT_CYCCNT c.val)) = true → v.modUs = (v.canCh c.val).refAt - 1 + bitsOf e 16 16 →
    Machine.exec (.canTtTrigger t c i busy) s = .next ((v.modCanCh c.val (fun y => { y with open_ := false })).modCanCh c.val
      (fun y => { y with open_ := true }))) ∧
  (∀ (s : State) (t : Nat) (c : Fin 2), let v := s.tick t; v.ttOn c.val = true → v.flag (F.CAN_TT_CFG_POTM c.val) = true →
    v.canSends c.val = true → (v.canCh c.val).onBus = none → v.referenceDue c.val = true →
    Machine.exec (.canTtReference t c false) s = .next (v.setFlag (F.CAN_TT_STAT_MASTER c.val) false) ∧
    Machine.exec (.canTtReference t c true) s = .next (
      let m := if (v.canCh c.val).refAt = 0 then 0 else (v.fld (F.CAN_TT_STAT_CYCCNT c.val) + 1) % v.ttCycles c.val
      let id := v.fld (F.CAN_TT_REF_ID c.val) / 8 * 8 + v.fld (F.CAN_TT_CFG_PRIO c.val)
      let h := place id 32 29 + place (v.fld (F.CAN_TT_REF_XTD c.val)) 61 1 + place 1 72 4
      ((v.ttCycle c.val v.modUs m true).bump (F.CAN_TALLY_TX c.val)).modCanCh c.val (fun x => { x with wire := some (h, [BitVec.ofNat 8 m]) }))) ∧
  (∀ (s : State) (t : Nat) (ctx : Fin 4096) (tag : Nat) (o : Op), Startable (s.tick t) ctx.val tag 0x51 o →
    let v := begun (s.tick t) o; let r := running (s.tick t) o; let c := o.arg1 0 4; let n := o.arg1 4 4
    (o.ctx ≠ 0 → Machine.exec (.canFifoDrain t ctx tag) s = .next (v.finish r codeFaultAccess 1 0)) ∧
    (o.ctx = 0 → v.canLegacy c = true → Machine.exec (.canFifoDrain t ctx tag) s =
      .next (v.finish r codeRefusedMode v.mode.code 0)) ∧
    (o.ctx = 0 → v.canLegacy c = false → Machine.exec (.canFifoDrain t ctx tag) s = .next (
      let k := min n (v.canFill c); let rp := v.fld (F.CAN_FIFO_ACK_RP c)
      (((v.writeBytes o.buf ((List.range k).flatMap (fun i => leBytes 16 (v.canWord c (canFifoSlot (rp + i))) ++
        v.canData c (canFifoSlot (rp + i))))).setFld (F.CAN_FIFO_ACK_RP c) (rp + k)).showFifo c).finish r codeDone 0 k)))

/-- TXREQ adds requests and TXCAN withdraws them; a controller of the legacy core refuses both. On an idle bus
the frame that goes next starts. A frame sent sets TEC, counts, and completes its buffer with TXDONE or its
CAN_TX with DONE. A failed frame in one-shot operation sets TXFAIL with code 1, or completes its CAN_TX; else
it is retried. A flit to endpoint 150 reaches the bound buffers; a speculative one only counts as arrived.
CAN_TX is refused by mode or with 32 frames waiting, faults where data beyond 16 bytes meet an uncorrectable
error in DRAM, completes with OUTCOME 3 off the bus, and else joins the queue. -/
def Obligations.CanTransmit : Prop :=
  (∀ (s : State) (t : Nat) (c : Fin 12) (x : Word), let v := s.tick t
    Machine.exec (.canTxreqWrite t c x) s = .next (if v.canLegacy c.val = true then v.canReject c.val else v.canRequest c.val x.toNat) ∧
    Machine.exec (.canTxcanWrite t c x) s = .next (if v.canLegacy c.val = true then v.canReject c.val else
      (List.range 8).foldl (fun w b => if bitOf x.toNat b = false then w
        else if w.canBufferOn c.val = some b then w.setFld ⟨R.CAN_TXCAN c.val, b, 1⟩ 1
        else w.setFld ⟨R.CAN_TXREQ c.val, b, 1⟩ 0) v)) ∧
  (∀ (s : State) (t k : Nat) (c : Fin 12) (fits : Bool), let v := s.tick t; v.canSends c.val = true →
    (v.canCh c.val).onBus = none → v.ttOn c.val = false →
    (v.canNext c.val = none → Machine.exec (.canTxStart t c fits) s = .next v) ∧
    (∀ b e, v.canNext c.val = some (k, .buffer b e) → Machine.exec (.canTxStart t c fits) s = .next (v.canStartBuffer c.val b false)) ∧
    (∀ q, v.canNext c.val = some (k, .queued q) → Machine.exec (.canTxStart t c fits) s = .next (
      v.setCanCh c.val { v.canCh c.val with onBus := some (.queued q), wire := some (v.canWire c.val q.head q.data) }))) ∧
  (∀ (s : State) (t tec : Nat) (c : Fin 12), let v := s.tick t
    let w := (v.setFld (F.CAN_STAT_TEC c.val) (satBits 8 tec)).bump (F.CAN_TALLY_TX c.val)
    (∀ b e, (v.canCh c.val).onBus = some (.buffer b e) → Machine.exec (.canFrameSent t c tec) s =
      .next (((w.setFld ⟨R.CAN_TXDONE c.val, b, 1⟩ 1).canBufferDone c.val b).canFrameEnd c.val)) ∧
    (∀ q, (v.canCh c.val).onBus = some (.queued q) → Machine.exec (.canFrameSent t c tec) s = .next
      (((w.canUnqueue c.val q).finishWaiter (some (q.ctx, q.tag)) codeDone 0 (w.canResult c.val 0)).canFrameEnd c.val)) ∧
    ((v.canCh c.val).onBus = none → Machine.exec (.canFrameSent t c tec) s = .next v)) ∧
  (∀ (s : State) (t tec : Nat) (c : Fin 12) (arb : Bool), let v := s.tick t; let w := v.setFld (F.CAN_STAT_TEC c.val) (satBits 8 tec)
    (∀ b, (v.canCh c.val).onBus = some (.buffer b true) → Machine.exec (.canTxFailure t c arb tec) s = .next
      ((((w.setFld ⟨R.CAN_TXFAIL c.val, b, 1⟩ 1).canBufferDone c.val b).canEvent2 c.val 1 b).canFrameEnd c.val)) ∧
    (∀ q, (v.canCh c.val).onBus = some (.queued q) → q.oneShot = true → Machine.exec (.canTxFailure t c arb tec) s = .next
      (((w.canUnqueue c.val q).finishWaiter (some (q.ctx, q.tag)) codeDone 0 (w.canResult c.val (if arb = true then 1 else 2))).canFrameEnd
        c.val)) ∧
    (∀ q, (v.canCh c.val).onBus = some (.queued q) → q.oneShot = false → Machine.exec (.canTxFailure t c arb tec) s =
      .next (w.canFrameEnd c.val))) ∧
  (∀ (s : State) (t : Nat) (p : Packet) (f : Flit), let v := s.tick t; p.payload = [f] → p.dst = 150 → p.typ = 3 → v.lands p = true →
    Machine.exec (.canTxrtFlit t p) s = .next (if p.spec = true then v.arrived p else (v.arrived p).canFlit p.stream f)) ∧
  (∀ (s : State) (t : Nat) (ctx : Fin 4096) (tag : Nat) (o : Op), Startable (s.tick t) ctx.val tag 0x50 o →
    let v := begun (s.tick t) o; let r := running (s.tick t) o; let c := o.arg1 0 4
    let head := headClean o.w2.toNat; let len := canLength (headFd head) (headDlc head)
    ((v.canRuns c = false ∨ v.canLegacy c = true) → ∀ ecc, Machine.exec (.canTx t ctx tag ecc) s =
      .next (v.finish r codeRefusedMode v.mode.code 0)) ∧
    (v.canRuns c = true → v.canLegacy c = false → 32 ≤ (v.canCh c).queue.length → ∀ ecc,
      Machine.exec (.canTx t ctx tag ecc) s = .next (v.finish r codeRefusedCapacity 18 0)) ∧
    (v.canRuns c = true → v.canLegacy c = false → (v.canCh c).queue.length < 32 → 16 < len →
      Machine.exec (.canTx t ctx tag true) s = .next (v.finish r codeFaultAccess 2 0)) ∧
    (∀ ecc, v.canRuns c = true → v.canLegacy c = false → (v.canCh c).queue.length < 32 → (ecc = true → len ≤ 16) →
      (v.flag (F.CAN_CFG_OFFBUS c) = true ∨ v.fld (F.CAN_STAT_BSTATE c) = 2) →
      Machine.exec (.canTx t ctx tag ecc) s = .next (v.finish r codeDone 0 (v.canResult c 3))) ∧
    (∀ ecc, v.canRuns c = true → v.canLegacy c = false → (v.canCh c).queue.length < 32 → (ecc = true → len ≤ 16) →
      v.flag (F.CAN_CFG_OFFBUS c) = false → v.fld (F.CAN_STAT_BSTATE c) ≠ 2 → Machine.exec (.canTx t ctx tag ecc) s = .next (
        v.modCanCh c (fun x => { x with queue := x.queue ++ [⟨o.ctx, o.tag, bitOf o.w1.toNat 4, head,
          if len ≤ 16 then (leBytes 16 o.w3.toNat).take len else v.readBytes o.buf len⟩] }))))

/-- ENABLE fails with the first unmet condition as REASON, or makes the context ACTIVE with nothing in flight,
its ring pointers at 0 and CTX_COAL sampled; one not OFF is refused with REASON 4 when its rings are sound.
DISABLE makes an ACTIVE or HALTED context DRAINING and cancels what has not started; drained, it goes OFF with
event 38. Configuration other than CTX_COAL is refused with CFGREJ unless OFF. A doorbell outside its ring
sets DBERR with event 32 once; what host software stored before ringing SQ_TAIL is in module DRAM, and a tail
within the ring is taken; CQ_HEAD returns the slots passed and judges the line; a doorbell of another state is
ignored. -/
def Obligations.Contexts : Prop :=
  (∀ (s : State) (t : Nat) (c : Fin 4096), let v := s.tick t; let r := v.enableReason c.val
    (r ≠ 0 → Machine.exec (.ctxEnable t c) s =
      .next ((v.setFlag (F.CTX_STAT_REFUSED c.val) true).setFld (F.CTX_STAT_REASON c.val) r)) ∧
    (v.ctxState c.val ≠ 0 → r ≠ 0) ∧ (v.mode.rings = false → r ≠ 0) ∧
    (r = 0 → Machine.exec (.ctxEnable t c) s = .next (
      ((((v.setCtx c.val { (default : CtxSt) with cnt := v.fld (F.CTX_COAL_CNT c.val), timeUs := v.fld (F.CTX_COAL_TIME_US c.val) }).setFld
        (F.CTX_STAT_STATE c.val) 1).setFld (F.CTX_STAT_INFLIGHT c.val) 0).setFlag (F.CTX_STAT_REFUSED c.val) false).setFld
        (F.CTX_STAT_REASON c.val) 0))) ∧
  (∀ d : CtxSt, d = default → d.sqTail = 0 ∧ d.sqHead = 0 ∧ d.cqTail = 0 ∧ d.cqHead = 0 ∧ d.recs = []) ∧
  (∀ (s : State) (t : Nat) (c : Fin 4096), let v := s.tick t
    ((v.ctxState c.val = 1 ∨ v.ctxState c.val = 2) → Machine.exec (.ctxDisable t c) s = .next (
      (v.host.ops.filter (fun o => o.ctx == c.val && o.phase != .started)).foldl
        (fun w o => w.withdraw o codeCancelledReset 0) (v.setFld (F.CTX_STAT_STATE c.val) 3))) ∧
    (v.ctxState c.val = 0 ∨ v.ctxState c.val = 3 → Machine.exec (.ctxDisable t c) s = .next v) ∧
    (v.ctxState c.val = 3 → v.inflight c.val = 0 → Machine.exec (.contextDrained t c) s =
      .next (((v.setFld (F.CTX_STAT_STATE c.val) 0).updateLine c.val).raise 38 c.val)) ∧
    (v.ctxState c.val ≠ 3 ∨ v.inflight c.val ≠ 0 → Machine.exec (.contextDrained t c) s = .next v)) ∧
  (∀ (s : State) (t : Nat) (c : Fin 4096) (r : CtxReg) (x : Word), let v := s.tick t
    ((r = .coal ∨ v.ctxState c.val = 0) → Machine.exec (.ctxConfigWrite t c r x) s = .next (v.plainWrite (ctxRegOff r c.val) x)) ∧
    (r ≠ .coal → v.ctxState c.val ≠ 0 → Machine.exec (.ctxConfigWrite t c r x) s =
      .next (v.setFlag (F.CTX_STAT_CFGREJ c.val) true))) ∧
  (∀ (s : State) (t : Nat) (c : Fin 4096) (x : Word) (stores : List (Nat × Byte)), let w := s.tick t; let y := w.ctxSt c.val
    let v : State := { w with dram := stores.foldl (fun m p => dramPut m p.1 p.2) w.dram }
    (w.ctxState c.val ≠ 1 → w.ctxState c.val ≠ 2 → Machine.exec (.dbSqTail t c x stores) s = .next v) ∧
    ((w.ctxState c.val = 1 ∨ w.ctxState c.val = 2) →
      (w.sqSize c.val < sub16 x.toNat y.sqHead → Machine.exec (.dbSqTail t c x stores) s = .next (v.doorbellError c.val)) ∧
      (sub16 x.toNat y.sqHead ≤ w.sqSize c.val → Machine.exec (.dbSqTail t c x stores) s =
        .next (v.setCtx c.val { y with sqTail := x.toNat % 65536 })))) ∧
  (∀ (s : State) (t : Nat) (c : Fin 4096) (x : Word), let v := s.tick t; let y := v.ctxSt c.val
    (v.ctxState c.val ≠ 1 → v.ctxState c.val ≠ 2 → Machine.exec (.dbCqHead t c x) s = .next v) ∧
    ((v.ctxState c.val = 1 ∨ v.ctxState c.val = 2) →
      (sub16 y.cqTail y.cqHead < sub16 y.cqTail x.toNat → Machine.exec (.dbCqHead t c x) s = .next (v.doorbellError c.val)) ∧
      (sub16 y.cqTail x.toNat ≤ sub16 y.cqTail y.cqHead → Machine.exec (.dbCqHead t c x) s = .next ((v.setCtx c.val { y with
        cqHead := x.toNat % 65536, recs := y.recs.drop (sub16 y.cqTail y.cqHead - sub16 y.cqTail x.toNat) }).updateLine c.val)))) ∧
  (∀ (s : State) (t : Nat) (c : Fin 4096), Machine.exec (.irqCoalesceTimer t c) s = .next ((s.tick t).updateLine c.val))

/-- When the context is the next to be read, the descriptor at SQ_HEAD is read, SQ_HEAD advances and the
operation enters, or an unreadable one halts the context; otherwise nothing is read. CANCEL without FENCE
completes with RESULT 1 and its target with CANCELLED_HOST when the target has not started, else with RESULT
0. A started operation whose outcome is known completes with it once its DRAM tokens are served, and a
transfer's channel that a RECLAIM ends is then freed. At its deadline an operation of class 3 to 7 that has
not started is refused with REFUSED_CAPACITY and 19, a waiting one with the kind it waits for unless a grant
is possible in that microsecond; one of class 0 to 2, started or before its deadline stands. -/
def Obligations.OperationsInFlight : Prop :=
  (∀ (s : State) (t : Nat) (c : Fin 4096) (ecc : Bool), let v := s.tick t; let x := v.ctxSt c.val
    (v.servesRings = true → v.nextRead = some c.val → Machine.exec (.descriptorRead t c ecc) s = .next (
      let w := v.setCtx c.val { x with sqHead := (x.sqHead + 1) % 65536 }
      let w : State := { w with host := { w.host with lastRead := spSet w.host.lastRead (v.ctxClass c.val) (c.val + 1) } }
      if ecc = true then w.haltCtx c.val else w.enterOp (w.opAt c.val (v.sqBase c.val + 64 * (x.sqHead % v.sqSize c.val))))) ∧
    (v.servesRings = false ∨ v.nextRead ≠ some c.val → Machine.exec (.descriptorRead t c ecc) s = .next v)) ∧
  (∀ (s : State) (t : Nat) (c : Fin 4096) (tag : Nat) (o : Op), let v := s.tick t; v.findOp c.val tag = some o →
    o.opcode = 1 → o.fence = false → o.phase = .queued → v.servesRings = true → v.formFault o = none →
    let w := v.startOp o
    (w.findOp o.ctx (o.arg1 0 16) = none → Machine.exec (.cancel t c tag) s = .next (w.finish o codeDone 0 0)) ∧
    (∀ x, w.findOp o.ctx (o.arg1 0 16) = some x → (x.phase = .started ∨ x.tag = o.tag) →
      Machine.exec (.cancel t c tag) s = .next (w.finish o codeDone 0 0)) ∧
    (∀ x, w.findOp o.ctx (o.arg1 0 16) = some x → x.phase ≠ .started → x.tag ≠ o.tag →
      Machine.exec (.cancel t c tag) s = .next ((w.withdraw x codeCancelledHost o.tag).finish o codeDone 0 1))) ∧
  (∀ (s : State) (t : Nat) (c : Fin 4096) (tag : Nat) (o : Op), let v := s.tick t; v.findOp c.val tag = some o →
    (o.phase ≠ .started ∨ o.ready = false ∨ v.now < o.tokensAt → Machine.exec (.operationComplete t c tag) s = .next v) ∧
    (o.phase = .started → o.ready = true → o.tokensAt ≤ v.now → Machine.exec (.operationComplete t c tag) s = .next (
      let w := v.finish o o.code o.detail o.result; let k := o.arg1 0 6
      if o.opcode = 0x34 ∧ w.qos.ending.contains k = true ∧ w.transferOn k = false then w.freeHolding 4 0 k else w)) ∧
    (o.phase = .started ∨ o.cls < 3 ∨ v.now < o.deadline → Machine.exec (.operationDeadline t c tag) s = .next v) ∧
    (o.phase = .queued → 3 ≤ o.cls → o.deadline ≤ v.now → Machine.exec (.operationDeadline t c tag) s =
      .next (v.withdraw o codeRefusedCapacity 19)) ∧
    (∀ w : Wait, o.phase = .waiting → 3 ≤ o.cls → o.deadline ≤ v.now → v.qos.waits.find? (fun w => w.ctx == c.val && w.tag == tag) = some w →
      Machine.exec (.operationDeadline t c tag) s = .next (
        if v.waitOver o = false ∧ v.isFree w = true ∧ v.firstWaiter w = some w then v.grantWait o w
        else v.withdraw o codeRefusedCapacity w.kind)))

/-- QUOTA_SET is for context 0; a kind 0 quota that breaks the 64 kept entries is REFUSED_CAPACITY; else the
quota is written, event 40 reports OVER, and RESULT is the use. QOS_Q_VAL does the same with REJ and REFUSED.
A DRAM reservation whose sum exceeds 136 is refused with event 43, else it applies; classes 3 to 7 take a
weight. RECLAIM starts and waits; at a tally boundary at least 100 us after it started it takes the holdings
back, writes their entries to BUF and answers their number. -/
def Obligations.Quotas : Prop :=
  (∀ (s : State) (t : Nat) (c : Fin 4096) (tag : Nat) (o : Op), Startable (s.tick t) c.val tag 0x30 o →
    let v := begun (s.tick t) o; let r := running (s.tick t) o; let d := o.arg1 0 12; let k := o.arg1 16 4; let n := o.arg1 32 32
    (o.ctx ≠ 0 → Machine.exec (.quotaSet t c tag) s = .next (v.finish r codeFaultAccess 1 0)) ∧
    (o.ctx = 0 → k = 0 → v.breaksKept d n = true → Machine.exec (.quotaSet t c tag) s = .next (v.finish r codeRefusedCapacity 16 0)) ∧
    (o.ctx = 0 → (k = 0 → v.breaksKept d n = false) → Machine.exec (.quotaSet t c tag) s =
      .next (((v.setQuota d k n).reportOver v d k).finish r codeDone 0 (v.use d k)))) ∧
  (∀ (s : State) (t : Nat) (x : Word), let v := s.tick t; let d := v.fld F.QOS_Q_SEL_CTX; let k := v.fld F.QOS_Q_SEL_KIND
    Machine.exec (.qosQuotaWrite t x) s = .next (
      if 6 ≤ k then v.setFlag F.QOS_Q_STAT_REJ true
      else if k = 0 ∧ v.breaksKept d x.toNat = true then v.setFlag F.QOS_Q_STAT_REFUSED true
      else (v.setQuota d k x.toNat).reportOver v d k)) ∧
  (∀ (s : State) (t : Nat) (k : Fin 8) (x : Word), let v := s.tick t; let rsv := bitsOf x.toNat 0 8
    let sum := (((List.range 3).filter (fun j => j != k.val)).map (fun j => v.fld (F.QOS_DRAM_CFG_RSV j))).sum + rsv
    (3 ≤ k.val → Machine.exec (.qosDramWrite t k x) s = .next (v.setFld (F.QOS_DRAM_CFG_WEIGHT k.val) (bitsOf x.toNat 16 8))) ∧
    (k.val < 3 → 136 < sum → Machine.exec (.qosDramWrite t k x) s =
      .next ((v.setFlag F.QOS_DRAM_STAT_REFUSED true).raise 43 sum)) ∧
    (k.val < 3 → sum ≤ 136 → Machine.exec (.qosDramWrite t k x) s =
      .next ((v.setFld (F.QOS_DRAM_CFG_RSV k.val) rsv).setFld F.QOS_DRAM_STAT_RSVSUM sum))) ∧
  (∀ (s : State) (t : Nat) (c : Fin 4096) (tag : Nat) (o : Op), Startable (s.tick t) c.val tag 0x31 o →
    Machine.exec (.reclaim t c tag) s = .next (begun (s.tick t) o)) ∧
  (∀ (s : State) (t : Nat) (c : Fin 4096) (tag : Nat) (o : Op), let v := s.tick t; v.findOp c.val tag = some o → o.opcode = 0x31 →
    o.phase = .started → v.atBoundary = true →
    (v.now < o.startAt + 100 * psPerUs → Machine.exec (.reclaimRelease t c tag) s = .next v) ∧
    (o.startAt + 100 * psPerUs ≤ v.now → Machine.exec (.reclaimRelease t c tag) s = .next (
      let k := o.arg1 0 8; let l := v.reclaimed c.val k (o.arg1 16 9)
      let w := l.foldl (fun w p => w.takeBack k p.1) v
      (if o.buf = 0 then w else w.writeBytes o.buf (l.flatMap (reclaimEntry k))).finish o codeDone 0 l.length)))

/-- ACQUIRE of an index held already answers 0; beyond the quota of its kind, or for a route of the bandwidth,
it is REFUSED_QUOTA; for segments an uncorrectable error in BUF is FAULT_ACCESS; free with no waiter before
it, it is granted; not free without WAIT it is REFUSED_CAPACITY; with WAIT it is cancelled with event 37 when
its edge closes a cycle, and waits otherwise. A freed resource is granted to its first waiter; a wait past its
deadline is refused instead. RELEASE of what the context holds frees it and answers 1, else 0. DMA_COPY faults
unless the context holds its channel and segment or where BUF cannot be read, and else copies between BUF and
the bricks, reporting the errors that a brick read meets. -/
def Obligations.Holdings : Prop :=
  (∀ (s : State) (t : Nat) (c : Fin 4096) (tag : Nat) (o : Op) (ecc : Bool), Startable (s.tick t) c.val tag 0x32 o →
    let v := begun (s.tick t) o; let r := running (s.tick t) o; let w := o.request; let run := Machine.exec (.acquire t c tag ecc) s
    (w.kind ≠ 1 → v.indexOwner w.kind w.index = o.ctx + 1 → run = .next (v.finish r codeDone 0 0)) ∧
    ((w.kind = 1 ∨ v.indexOwner w.kind w.index ≠ o.ctx + 1) →
      (v.quotaAllows o.ctx w.kind (if w.kind = 1 then w.count else 1) = false → run = .next (v.finish r codeRefusedQuota w.kind 0)) ∧
      (v.quotaAllows o.ctx w.kind (if w.kind = 1 then w.count else 1) = true → w.kind = 3 →
        v.quotaAllows o.ctx 5 (v.bwOf w.index) = false → run = .next (v.finish r codeRefusedQuota 5 0)) ∧
      (v.quotaAllows o.ctx 1 w.count = true → w.kind = 1 → ecc = true → run = .next (v.finish r codeFaultAccess 2 0)) ∧
      (v.quotaAllows o.ctx w.kind (if w.kind = 1 then w.count else 1) = true →
        (w.kind = 3 → v.quotaAllows o.ctx 5 (v.bwOf w.index) = true) → (w.kind = 1 → ecc = false) →
        (v.isFree w = true → v.firstWaiter w = none → run = .next (v.grant r w)) ∧
        (v.isFree w = false → o.arg1 8 1 = 0 → run = .next (v.finish r codeRefusedCapacity w.kind 0)) ∧
        (v.isFree w = false → o.arg1 8 1 = 1 → ∀ h n, v.cycleOf w = some (h, n) → run = .next ((v.raise 37 o.ctx).finish r
          codeCancelledCycle (place w.kind 0 8 + place h 8 12 + place (min n 15) 20 4) 0)) ∧
        (v.isFree w = false → o.arg1 8 1 = 1 → v.cycleOf w = none → run = .next (
          let u := v.modifyOp o.ctx o.tag (fun x => { x with phase := .waiting })
          ({ u with qos := { u.qos with waits := u.qos.waits ++ [w] } } : State).showWaits))))) ∧
  (∀ (s : State) (t : Nat) (c : Fin 4096) (tag : Nat) (o : Op) (w : Wait), let v := s.tick t; v.findOp c.val tag = some o →
    v.qos.waits.find? (fun w => w.ctx == c.val && w.tag == tag) = some w →
    (v.waitOver o = true → Machine.exec (.waitGrant t c tag) s = .next (v.withdraw o codeRefusedCapacity w.kind)) ∧
    (v.waitOver o = false → v.isFree w = true → v.firstWaiter w = some w → Machine.exec (.waitGrant t c tag) s =
      .next ((((v.dropWait o.ctx o.tag).startOp o).takeTokens o).grant o w)) ∧
    (v.waitOver o = false → v.isFree w = false ∨ v.firstWaiter w ≠ some w → Machine.exec (.waitGrant t c tag) s = .next v)) ∧
  (∀ (s : State) (t : Nat) (c : Fin 4096) (tag : Nat) (o : Op), Startable (s.tick t) c.val tag 0x33 o →
    let v := begun (s.tick t) o; let r := running (s.tick t) o; let k := o.arg1 0 8; let tile := o.arg1 16 7; let i := o.arg1 48 16
    let owner := if k = 1 then v.segOwner tile i else v.indexOwner k i
    ((owner ≠ o.ctx + 1 ∨ (k = 2 ∧ v.lstate i ≠ 0)) → Machine.exec (.release t c tag) s =
      .next (v.finish r codeDone 0 0)) ∧
    (owner = o.ctx + 1 → (k = 2 → v.lstate i = 0) → Machine.exec (.release t c tag) s =
      .next ((v.freeHolding k tile i).finish r codeDone 0 1))) ∧
  (∀ (s : State) (t : Nat) (c : Fin 4096) (tag : Nat) (o : Op), Startable (s.tick t) c.val tag 0x34 o →
    let v := begun (s.tick t) o; let r := running (s.tick t) o; let tile := o.arg1 16 7; let k := o.arg1 32 9; let n := o.arg1 48 16
    let held := v.chanOwner (o.arg1 0 6) = o.ctx + 1 ∧ v.segOwner tile k = o.ctx + 1
    let done := fun (w : State) => w.modifyOp o.ctx o.tag (fun x => { x with ready := true, code := codeDone, detail := 0, result := 0 })
    ∀ es : List BrickError,
      (¬held → ∀ ecc, Machine.exec (.dmaCopy t c tag ⟨ecc, es⟩) s = .next (v.finish r codeFaultAccess 1 0)) ∧
      (held → Machine.exec (.dmaCopy t c tag ⟨true, es⟩) s = .next (v.finish r codeFaultAccess 2 0)) ∧
      (held → o.arg1 6 1 = 0 → Machine.exec (.dmaCopy t c tag ⟨false, es⟩) s = .next (done (v.brickWrite tile (4096 * k) (v.readBytes o.buf n)))) ∧
      (held → o.arg1 6 1 = 1 → Machine.exec (.dmaCopy t c tag ⟨false, es⟩) s = .next (
        let w := v.brickReport tile (256 * k) (n / 16) es; done (w.writeBytes o.buf (w.brickRead tile (4096 * k) n)))))

/-- Routes: staging, commit, cancel, switch and release; packets and ring pointers -/
def Obligations.StreamRoutes : Prop :=
  (∀ (s : State) (t : Nat) (b : Bool) (x : Word), let v := s.tick t; let r := v.selRoute; let y := v.route r
    (y.pend = true → Machine.exec (.morRtStageWrite t b x) s = .next (v.setRoute r { y with rej := true })) ∧
    (y.pend = false → Machine.exec (.morRtStageWrite t b x) s = .next (v.setRoute r { y with
      staged := RouteEntry.clean (if b = true then { y.staged with w1 := x } else { y.staged with w0 := x }) }))) ∧
  (∀ (s : State) (t : Nat), let v := s.tick t; let r := v.selRoute; let m := v.commitRoute r none
    (m.2 = .pending → Machine.exec (.morRtCommit t) s = .next
      (((if v.routeOwner r = 0 then m.1.holdRoute r 0 else m.1).reportOver v 0 3).reportOver v 0 5)) ∧
    (m.2 ≠ .pending → Machine.exec (.morRtCommit t) s = .next m.1) ∧
    ((v.route r).pend = true → m = (v.setRoute r { v.route r with rej := true }, .alreadyPending)) ∧
    ((v.route r).pend = true → (v.changeDue r = false ∨ v.boundaryInCycle r = false) →
      Machine.exec (.morRtCancel t) s = .next (v.dropPending r codeCancelledHost 0)) ∧
    ((v.route r).pend = true → v.changeDue r = true → v.boundaryInCycle r = true →
      Machine.exec (.morRtCancel t) s = .next (v.takeTarget r 0)) ∧
    ((v.route r).pend = false → Machine.exec (.morRtCancel t) s = .next v)) ∧
  (∀ (s : State) (t frame : Nat) (r : Fin 4096), let v := s.tick t; let y := v.route r.val
    ((y.pend = false ∧ y.next = none) ∨ v.boundaryNow r.val = false ∨ (y.pend = true ∧ v.now / 640 ≤ y.pendAt / 640) →
      Machine.exec (.routeBoundarySwitch t r frame) s = .next v) ∧
    (y.pend = true → v.boundaryNow r.val = true → y.pendAt / 640 < v.now / 640 →
      Machine.exec (.routeBoundarySwitch t r frame) s = .next (
        let w := v.switchRoute r.val y.staged y.stagedLinks
        let w := (w.setRoute r.val { w.route r.val with
          pend := false, switched := true, waiter := none, stagedLinks := [], next := none, nextLinks := [] }).imageChanged true
        match y.waiter with
        | none => w
        | some (c, tag) => match w.findOp c tag with
          | some o => w.finish o codeDone 0 (if y.staged.en = true then frame % 65536 else 0)
          | none => w)) ∧
    (∀ e, y.pend = false → y.next = some e → v.boundaryNow r.val = true → y.waiter = none →
      Machine.exec (.routeBoundarySwitch t r frame) s = .next (
        let w := v.switchRoute r.val e y.nextLinks
        w.setRoute r.val { w.route r.val with
          pend := false, switched := y.switched, waiter := none, stagedLinks := [], next := none, nextLinks := [] })) ∧
    (let leaving := v.mor.flight.any (fun f => f.stream == r.val && decide (v.now < f.left))
     (y.old = none ∨ y.eosDue ≠ [] ∨ y.oldOpen = true ∨ leaving = true → Machine.exec (.routeReservationRelease t r) s = .next v) ∧
     (y.old ≠ none → y.eosDue = [] → y.oldOpen = false → leaving = false → Machine.exec (.routeReservationRelease t r) s = .next (
      let w := v.setRoute r.val { y with old := none, oldLinks := [], oldHeld := false, releasing := false }
      if y.releasing = true then w.freeRoute r.val else w)))) ∧
  (∀ (s : State) (t : Nat) (c : Fin 4096) (tag : Nat) (o : Op), Startable (s.tick t) c.val tag 0x12 o →
    let v := begun (s.tick t) o; let z := running (s.tick t) o; let r := o.arg1 0 12
    let e := RouteEntry.clean ⟨BitVec.ofNat 32 (o.arg2 0 32), BitVec.ofNat 32 (o.arg2 32 32)⟩
    let grow := v.bwGrowth r e; let ep := o.arg1 32 32
    let u := if v.routeOwner r = 0 then v.holdRoute r o.ctx else v
    let ok := v.claim (v.routeOwner r) o.ctx 3 = none ∧ v.quotaAllows o.ctx 5 grow = true
    (∀ k d, v.claim (v.routeOwner r) o.ctx 3 = some (k, d) → Machine.exec (.routeCommit t c tag) s = .next (v.finish z k d 0)) ∧
    (v.claim (v.routeOwner r) o.ctx 3 = none → v.quotaAllows o.ctx 5 grow = false → Machine.exec (.routeCommit t c tag) s =
      .next (v.finish z codeRefusedQuota 5 0)) ∧
    (ok → ep = 0 → (u.route r).pend = true → Machine.exec (.routeCommit t c tag) s = .next (u.finish z codeRefusedLocked 6 0)) ∧
    (ok → ep = 0 → (u.route r).pend = false → ∀ w m, (u.setRoute r { u.route r with staged := e }).commitRoute r (some (o.ctx, o.tag)) = (w, m) →
      Machine.exec (.routeCommit t c tag) s = .next (match m with
        | .pending => w
        | .refusedCount => w.finish z codeRefusedCapacity 3 0
        | .refusedLink => w.finish z codeRefusedCapacity 17 0
        | .alreadyPending => w.finish z codeRefusedLocked 6 0)) ∧
    (ok → ep ≠ 0 → ∀ d, u.stageRefusal ep = some d → Machine.exec (.routeCommit t c tag) s =
      .next (u.finish z codeRefusedLocked d 0)) ∧
    (ok → ep ≠ 0 → u.stageRefusal ep = none → Machine.exec (.routeCommit t c tag) s = .next (
      let w := u.openStage ep
      let m := State.drawFree { w with mor := { w.mor with stagedRoutes := spSet w.mor.stagedRoutes r (some e) } } 32
      m.2.finish z codeDone 0 m.1.toNat))) ∧
  (∀ (s : State) (t : Nat) (p : Packet), (s.tick t).lands p = false → Machine.exec (.mortarPacketArrive t p) s = .next (s.tick t)) ∧
  (∀ (s : State) (t : Nat) (p : Packet), (s.tick t).lands p = true → let v := (s.tick t).arrived p
    let bs := p.payload.flatMap (fun f => leBytes 16 f.toNat)
    (153 ≤ p.dst → p.dst < 255 → Machine.exec (.mortarPacketArrive t p) s =
      .next { v with mor := { v.mor with routeFaults := v.mor.routeFaults + 1 } }) ∧
    (p.spec = true → 128 ≤ p.dst → p.dst < 153 → Machine.exec (.mortarPacketArrive t p) s = .next (
      ((match endpointBlock p.dst with | some b => v.wakeBlock b | none => v).raise 53 p.dst).henMake sevError 53 p.dst)) ∧
    (p.spec = false → p.typ = 0 → p.dst = 128 → Machine.exec (.mortarPacketArrive t p) s = .next (v.writeBytes p.addr bs)) ∧
    (p.spec = false → p.typ = 0 → p.dst < 128 → Machine.exec (.mortarPacketArrive t p) s = .next (
      if p.addr % 16 = 0 ∧ p.addr + bs.length ≤ brickSpace then v.brickWrite p.dst p.addr bs else v)) ∧
    (p.spec = false → p.typ = 1 → p.dst = 128 → Machine.exec (.mortarPacketArrive t p) s =
      .next (v.answerRead p (v.readBytes p.addr 16))) ∧
    (p.spec = false → p.typ = 2 → p.dst < 128 → Machine.exec (.mortarPacketArrive t p) s =
      .next { v with mor := { v.mor with awaited := removeFirst (fun a => a == (p.dst, p.addr)) v.mor.awaited } }) ∧
    (p.spec = false → p.typ = 4 → p.dst < 128 → Machine.exec (.mortarPacketArrive t p) s = .next (v.streamEnd p.dst p.stream))) ∧
  (∀ (s : State) (t : Nat) (n : RingName) (x : Word), let v := s.tick t; let off := (ringOf n).1; let p := bitsOf x.toNat 16 16
    (p = v.fld (rptrOf off) → Machine.exec (.ringRptrWrite t n x) s = .next v) ∧
    (p ≠ v.fld (rptrOf off) → v.rptrAccepted off p = false → Machine.exec (.ringRptrWrite t n x) s =
      .next (v.setFlag F.GLB_STATUS_RINGERR true)) ∧
    (p ≠ v.fld (rptrOf off) → v.rptrAccepted off p = true → Machine.exec (.ringRptrWrite t n x) s = .next (
      let w := v.setFld (rptrOf off) p
      match (ringOf n).2 with
      | some d => if off = R.CAM_ST_BASE_LO ∧ w.flag F.CAM_GLB_CFG_WIDE = false then w else w.ringFlush d
      | none => w)))

/-- A sweep begins at each whole 100 ms; one not published 100 ms after its start is abandoned with STALE and
event 51. Publishing reports the errors met, recomputes the digest of each of the 661 units, reports those
that differ from their reference with MISMATCH, shows the tree and the root, counts SEQ and clears STALE.
CFG_WRITE and CFG_READ fault where BUF meets an uncorrectable error; epoch 0 acts on the active configuration,
another on the staged set of that epoch or is REFUSED_LOCKED. STAGE_DISCARD drops the staged set of its epoch
unless armed. ARM is refused with REASON and event 50, or arms and takes T_act; DISARM disarms until 1 ms
before T_act. At T_act an armed set becomes active: its routes and units, MOR_EPOCH, DONE and event 49. -/
def Obligations.StagedSets : Prop :=
  (∀ (s : State) (t : Nat), let v := s.tick t
    (v.hubRuns = true → v.atWhole (100 * psPerMs) = true → v.mor.sweepAt = none → Machine.exec (.digestSweepStart t) s =
      .next { v with mor := { v.mor with sweepAt := some v.modMs } }) ∧
    (∀ a, v.mor.sweepAt = some a → (a + 100) * psPerMs ≤ v.modTime → Machine.exec (.sweepOverrun t) s = .next (
      let w : State := { v with mor := { v.mor with sweepAt := none } }
      (w.setFlag F.MOR_SWEEP_STAT_STALE true).raise 51 ((w.fld F.MOR_SWEEP_STAT_SEQ + 1) % 65536))) ∧
    (∀ a e u, v.mor.sweepAt = some a → (a + 100) * psPerMs ≤ v.modTime → Machine.exec (.digestSweepPublish t e u) s = .next v) ∧
    (∀ e u, v.mor.sweepAt = none → Machine.exec (.digestSweepPublish t e u) s = .next v) ∧
    (∀ a e u, v.mor.sweepAt = some a → v.modTime < (a + 100) * psPerMs → Machine.exec (.digestSweepPublish t e u) s = .next (
      let w := (v.mor.poison.filter (fun p => decide (15 * 8192 ≤ p.1 % 131072) && decide (p.1 % 128 < 16))).foldl
        (fun (w : State) (p : Nat × Nat) => w.rereads (p.1 / 131072) [p.1 % 131072]) v
      let w := w.eccErrors e
      let w : State := { w with mor := { w.mor with sweepAt := none, upsets := u } }
      let ep := w.fld F.MOR_EPOCH_EPOCH
      let ds := (List.range 661).map w.sweepDigest
      let f := fun k => ds.getD k 0
      let bad := (List.range 661).filter (fun k => f k != w.refDigest k)
      let w := (bad.foldl (fun w k => w.mismatch k) w).setFlag F.MOR_SWEEP_STAT_MISMATCH (!bad.isEmpty)
      let w : State := { w with mor := { w.mor with mismatched := bad }, flt := { w.flt with digestDue := true } }
      let w := (w.publishTree f ep).setPair F.MOR_ROOT_LO_DIG F.MOR_ROOT_HI_DIG (rootDigest f ep)
      (w.setFld F.MOR_SWEEP_STAT_SEQ (w.fld F.MOR_SWEEP_STAT_SEQ + 1)).setFlag F.MOR_SWEEP_STAT_STALE false))) ∧
  (∀ (s : State) (t : Nat) (c : Fin 4096) (tag : Nat) (o : Op), Startable (s.tick t) c.val tag 0x10 o →
    let v := begun (s.tick t) o; let z := running (s.tick t) o; let e := o.arg1 32 32; let bs := v.readBytes o.buf (o.arg1 96 16)
    Machine.exec (.cfgWrite t c tag true) s = .next (v.finish z codeFaultAccess 2 0) ∧
    (e = 0 → Machine.exec (.cfgWrite t c tag false) s = .next (
      v.writeActive z o.unit (o.arg1 64 32) (o.arg1 96 16) (patch (v.unitImage o.unit) (o.arg1 64 32) bs))) ∧
    (e ≠ 0 → ∀ d, v.stageRefusal e = some d → Machine.exec (.cfgWrite t c tag false) s =
      .next (v.finish z codeRefusedLocked d 0)) ∧
    (e ≠ 0 → v.stageRefusal e = none → Machine.exec (.cfgWrite t c tag false) s =
      .next (v.writeStaged z e o.unit (patch (v.stagedImage o.unit) (o.arg1 64 32) bs)))) ∧
  (∀ (s : State) (t : Nat) (c : Fin 4096) (tag : Nat) (o : Op), Startable (s.tick t) c.val tag 0x11 o →
    let v := begun (s.tick t) o; let z := running (s.tick t) o; let e := o.arg1 32 32
    let img := if e = 0 then v.unitImage o.unit else v.stagedImage o.unit
    (∀ ecc, e ≠ 0 → v.isStaged e = false → Machine.exec (.cfgRead t c tag ecc) s =
      .next (v.finish z codeRefusedLocked 5 0)) ∧
    ((e = 0 ∨ v.isStaged e = true) → Machine.exec (.cfgRead t c tag true) s = .next (v.finish z codeFaultAccess 2 0)) ∧
    ((e = 0 ∨ v.isStaged e = true) → Machine.exec (.cfgRead t c tag false) s = .next (
      (v.writeBytes o.buf ((img.drop (o.arg1 64 32)).take (o.arg1 96 16))).finish z codeDone 0 (digestOf o.unit img % 2 ^ 32)))) ∧
  (∀ (s : State) (t : Nat) (c : Fin 4096) (tag : Nat) (o : Op), Startable (s.tick t) c.val tag 0x13 o →
    let v := begun (s.tick t) o; let z := running (s.tick t) o; let e := o.arg1 0 32
    (v.isStaged e = false → Machine.exec (.stageDiscard t c tag) s = .next (v.finish z codeRefusedLocked 5 0)) ∧
    (v.isStaged e = true → v.flag F.MOR_ACT_STAT_ARMED = true → Machine.exec (.stageDiscard t c tag) s =
      .next (v.finish z codeRefusedLocked 1 0)) ∧
    (v.isStaged e = true → v.flag F.MOR_ACT_STAT_ARMED = false → Machine.exec (.stageDiscard t c tag) s =
      .next (v.dropStage.finish z codeDone 0 0))) ∧
  (∀ (s : State) (t : Nat), let v := s.tick t; let r := v.armReason
    (r ≠ 0 → Machine.exec (.morActArm t) s =
      .next (((v.setFlag F.MOR_ACT_STAT_REFUSED true).setFld F.MOR_ACT_STAT_REASON r).raise 50 r)) ∧
    (r = 0 → Machine.exec (.morActArm t) s = .next (
      let w := (v.setFlag F.MOR_ACT_STAT_ARMED true).setFlag F.MOR_ACT_STAT_REFUSED false
      State.recomputeStaged { w with mor := { w.mor with actAt := v.tAct / 1000 } } v.tAct)) ∧
    (v.flag F.MOR_ACT_STAT_ARMED = true → v.modTime + psPerMs ≤ v.tAct → Machine.exec (.morActDisarm t) s =
      .next ((v.setFlag F.MOR_ACT_STAT_ARMED false).recomputeStaged v.tAct)) ∧
    (v.flag F.MOR_ACT_STAT_ARMED = false ∨ v.tAct < v.modTime + psPerMs → Machine.exec (.morActDisarm t) s = .next v)) ∧
  (∀ (s : State) (t : Nat), let v := s.tick t; let e := v.fld F.MOR_STG_EPOCH_EPOCH
    (v.flag F.MOR_ACT_STAT_ARMED = false ∨ v.modTime < v.tAct → Machine.exec (.activation t) s = .next v) ∧
    (v.flag F.MOR_ACT_STAT_ARMED = true → v.tAct ≤ v.modTime → Machine.exec (.activation t) s = .next (
      let a := v.activateRoutes.activateUnits.dropStage
      let b := (({ a with mor := { a.mor with sweepAt := none } } : State).setFlag F.MOR_ACT_STAT_ARMED false).setFld F.MOR_EPOCH_EPOCH e
      let d := (b.setFlag F.MOR_SWEEP_STAT_LOCALCHG false).writeStore false
      let u := (List.range 128).foldl (fun u k => if (u.enabledOn k).isEmpty = true then u else u.showUtil k) d
      (u.settleSafe.setFlag F.MOR_ACT_STAT_DONE true).raise 49 e)))

/-- While the hub domain runs, an access to the set-up window that is not an aligned 32-bit word, or whose
offset holds no register, completes normally on the bus. A read returns zero; a write has no effect. In both
cases GLB_STATUS.BADACC is set. No other register changes, so it is no lock violation: LOCKV, GLB_LOCKV_ADDR
and event 35 stand; nor does any other state. -/
def Obligations.AccessOutside : Prop :=
  ∀ (s : State) (t : Nat) (a : Access), let v := s.tick t
    v.hubRuns = true → a.win = .setup → (a.size ≠ 4 ∨ a.off % 4 ≠ 0 ∨ findReg a.off = none) →
    Gives (.registerWrite t a) s fun u => u.flag F.GLB_STATUS_BADACC = true ∧
      (∀ off, off ≠ R.GLB_STATUS → u.reg off = v.reg off) ∧ (∀ b < 21, u.flag (F.GLB_LOCK_LOCKV b) = v.flag (F.GLB_LOCK_LOCKV b)) ∧
      SameEvent 35 v u ∧ u = { v with regs := u.regs, busData := u.busData } ∧
      u.busData = if a.read = true then 0 else v.busData

/-- While SWPEND = 1, a write to the inactive bank through the window, and a further swap request, set
CEN_CMD_STAT.BANKREJ and have no other effect. So does a write aimed at the active bank, at any time.
LOOP_BANK_WRITE and LOOP_SWAP of such a slot by its owner complete with REFUSED_LOCKED and leave the slot as
it was. None of them is a lock violation: no LOCKV bit is set. -/
def Obligations.BankRefusal : Prop :=
  (∀ (s : State) (t : Nat) (i : Fin 256) (x : Word), let v := s.tick t; v.flag (F.CEN_LSTAT_SWPEND v.selSlot) = true →
    Machine.exec (.cenBankWrite t i x) s = .next (v.setFlag F.CEN_CMD_STAT_BANKREJ true) ∧
    Machine.exec (.cenSwap t) s = .next (v.setFlag F.CEN_CMD_STAT_BANKREJ true)) ∧
  (∀ (s : State) (t ident : Nat) (i : Fin 256) (x : Word), let v := s.tick t; v.hubRuns = true →
    Machine.exec (.registerWrite t ⟨ident, .setup, 0x102400 + 4 * i.val, 4, false, x⟩) s =
      .next (v.setFlag F.CEN_CMD_STAT_BANKREJ true)) ∧
  (∀ (s : State), ∀ b < 21, (s.setFlag F.CEN_CMD_STAT_BANKREJ true).flag (F.GLB_LOCK_LOCKV b) = s.flag (F.GLB_LOCK_LOCKV b)) ∧
  (∀ (s : State) (t : Nat) (c : Fin 4096) (tag : Nat) (o : Op), Startable (s.tick t) c.val tag 0x24 o →
    let v := begun (s.tick t) o; (v.slotOwner o.slot = o.ctx + 1 ∨ o.ctx = 0) → v.flag (F.CEN_LSTAT_SWPEND o.slot) = true →
    ∀ ecc, Gives (.loopBankWrite t c tag ecc) s fun u =>
      u = v.finish (running (s.tick t) o) codeRefusedLocked 3 0 ∧ u.cen = (s.tick t).cen ∧
        ∀ b < 21, u.flag (F.GLB_LOCK_LOCKV b) = (s.tick t).flag (F.GLB_LOCK_LOCKV b)) ∧
  (∀ (s : State) (t : Nat) (c : Fin 4096) (tag : Nat) (o : Op), Startable (s.tick t) c.val tag 0x23 o →
    let v := begun (s.tick t) o; (v.slotOwner o.slot = o.ctx + 1 ∨ o.ctx = 0) → v.flag (F.CEN_LSTAT_SWPEND o.slot) = true →
    Gives (.loopSwap t c tag) s fun u => u = v.finish (running (s.tick t) o) codeRefusedLocked 3 0 ∧ u.cen = (s.tick t).cen ∧
      ∀ b < 21, u.flag (F.GLB_LOCK_LOCKV b) = (s.tick t).flag (F.GLB_LOCK_LOCKV b))

/-- While the hub runs, an aligned 32-bit write to a register acts as its block states, except that one
setting more than one command bit of CEN_CTL, MOR_RT_CTL, MOR_ACT_CTL, CTX_CTL, GLB_UPD_CTL or DSP_CTL carries
out none of those commands, sets BADACC, and its other fields take effect. STOP and RELEASE written together
to GOO_CTL act as STOP. Setting a lock sets LOCK of that block alone. -/
def Obligations.CommandRegisters : Prop :=
  (∀ (s : State) (t ident off : Nat) (x : Word) (r : RegSpec), let v := s.tick t; v.hubRuns = true → off % 4 = 0 → findReg off = some r →
    let run := Machine.exec (.registerWrite t ⟨ident, .setup, off, 4, false, x⟩) s
    (manyCommands off x = true → run = .next ((v.writeBlock off ident (setBits x 0 (commandBits off) 0)).badAccess)) ∧
    (manyCommands off x = false → run = .next (v.writeBlock off ident x))) ∧
  (∀ (s : State) (t ident : Nat) (x : Word), let v := s.tick t; v.hubRuns = true → x.getLsbD 0 = true →
    Machine.exec (.registerWrite t ⟨ident, .setup, R.GOO_CTL, 4, false, x⟩) s = .next (opGooStop v)) ∧
  (∀ (s : State) (t : Nat) (b : Fin 21), let v := s.tick t; Machine.exec (.glbLockSet t b) s =
    .next (v.setFlag (F.GLB_LOCK_LOCK b.val) true))

/-- A write to CEN_SEL selects a slot and clears the shadow. A read of bits [31:0] of a record word latches
the word; other parts read the shadow. A record write that R100 permits changes that part of the word, else
sets CFGREJ; a bank write changes the inactive bank. ENABLE or REARM is refused with REFUSED, its REASON, DONE
cleared and event 68, leaving the slot, or admits the slot for context 0 with DONE and REFUSED cleared.
DISABLE of a slot that is neither OFF nor ending begins its end; of another it has no effect. SWAP with SWPEND
clear sets it. -/
def Obligations.LoopCommands : Prop :=
  (∀ (s : State) (t : Nat) (x : Word), let w := (s.tick t).setFld F.CEN_SEL_SLOT x.toNat
    Machine.exec (.cenSelWrite t x) s = .next { w with cen := { w.cen with shadow := 0 } } ∧ w.selSlot = x.toNat % 8192) ∧
  (∀ (s : State) (t : Nat) (i : Fin 512), let v := s.tick t
    let w := if i.val % 4 = 0 then v.recImageWord v.selSlot (i.val / 4) else v.cen.shadow
    Machine.exec (.cenRecRead t i) s = .next { v with
      cen := { v.cen with shadow := w }, busData := BitVec.ofNat 32 (bitsOf w (32 * (i.val % 4)) 32) }) ∧
  (∀ (s : State) (t : Nat) (i : Fin 512) (x : Word), let v := s.tick t; let g := v.selSlot; let w := i.val / 4
    Machine.exec (.cenRecWrite t i x) s = .next (if v.recWritable g w = true
      then v.putRecWord g w (setPart (v.recWord g w) (i.val % 4) x.toNat) else v.setFlag F.CEN_CMD_STAT_CFGREJ true)) ∧
  (∀ (s : State) (t : Nat) (i : Fin 256) (x : Word), let v := s.tick t; let g := v.selSlot; let b := v.inactiveBank g
    v.flag (F.CEN_LSTAT_SWPEND g) = false → Machine.exec (.cenBankWrite t i x) s = .next
      (v.setBankWord g b (i.val / 4) (setPart (v.bankWord g b (i.val / 4)) (i.val % 4) x.toNat)).storeBanks) ∧
  (∀ (s : State) (t : Nat) (re : Bool), let v := s.tick t; let g := v.selSlot; let r := v.admitReason g re
    let run := if re = true then Machine.exec (.cenRearm t) s else Machine.exec (.cenEnable t) s
    (r ≠ 0 → run = .next ((((v.setFlag F.CEN_CMD_STAT_REFUSED true).setFld F.CEN_CMD_STAT_REASON r).setFlag
      F.CEN_CMD_STAT_DONE false).raise 68 g)) ∧
    (r = 0 → run = .next ((((if re = true then v.rearmSlot g else v.enableSlot g 0).setFlag F.CEN_CMD_STAT_DONE true).setFlag
      F.CEN_CMD_STAT_REFUSED false).reportOver v 0 2))) ∧
  (∀ (s : State) (t : Nat), let v := s.tick t; let g := v.selSlot
    (v.lstate g ≠ 0 → (v.slot g).disabling = false → Machine.exec (.cenDisable t) s = .next (v.disableSlot g [])) ∧
    (v.lstate g = 0 ∨ (v.slot g).disabling = true → Machine.exec (.cenDisable t) s = .next v) ∧
    (v.flag (F.CEN_LSTAT_SWPEND g) = false → Machine.exec (.cenSwap t) s = .next (
      (v.setFlag (F.CEN_LSTAT_SWPEND g) true).modSlot g (fun y => { y with swapAt := v.modTime, swapWaiter := none }))))

/-- LOOP_ENABLE acquires an unheld slot for its context and admits it with RESULT the first sample, or raises
event 68 and completes with the code of its REASON; a slot of another context is FAULT_ACCESS. LOOP_REARM,
DISABLE, SWAP, BANK_WRITE and READ act for the owner or context 0 and are FAULT_ACCESS for others. DISABLE of
an OFF slot completes at once, of another waits for its end; SWAP sets SWPEND with its waiter; BANK_WRITE
copies words into the inactive bank and answers DONE; READ copies the record to BUF and answers the active
bank; both are FAULT_ACCESS with DETAIL 2 on an uncorrectable memory error. -/
def Obligations.LoopDescriptors : Prop :=
  (∀ (s : State) (t : Nat) (c : Fin 4096) (tag : Nat) (o : Op), Startable (s.tick t) c.val tag 0x20 o →
    let v := begun (s.tick t) o; let z := running (s.tick t) o; let g := o.slot
    let no := if o.ctx = 0 ∧ v.slotOwner g ≠ 0 then none else v.claim (v.slotOwner g) o.ctx 2
    let w := if v.slotOwner g = 0 then v.holdSlot g o.ctx else v; let r := w.admitReason g false
    (∀ k d, no = some (k, d) → Machine.exec (.loopEnable t c tag) s = .next (v.finish z k d 0)) ∧
    (no = none → r ≠ 0 → Machine.exec (.loopEnable t c tag) s =
      .next ((w.raise 68 g).finish z (admitCode r).1 (admitCode r).2 0)) ∧
    (no = none → r = 0 → Machine.exec (.loopEnable t c tag) s =
      .next ((w.enableSlot g o.ctx).finish z codeDone 0 ((w.enableSlot g o.ctx).firstSample g)))) ∧
  (∀ (s : State) (t : Nat) (c : Fin 4096) (tag : Nat) (o : Op), Startable (s.tick t) c.val tag 0x22 o →
    let v := begun (s.tick t) o; let z := running (s.tick t) o; let g := o.slot; let r := v.admitReason g true
    (v.slotOwner g ≠ o.ctx + 1 → o.ctx ≠ 0 → Machine.exec (.loopRearm t c tag) s = .next (v.finish z codeFaultAccess 1 0)) ∧
    ((v.slotOwner g = o.ctx + 1 ∨ o.ctx = 0) → r ≠ 0 → Machine.exec (.loopRearm t c tag) s =
      .next ((v.raise 68 g).finish z (admitCode r).1 (admitCode r).2 0)) ∧
    ((v.slotOwner g = o.ctx + 1 ∨ o.ctx = 0) → r = 0 → Machine.exec (.loopRearm t c tag) s =
      .next ((v.rearmSlot g).finish z codeDone 0 ((v.rearmSlot g).firstSample g)))) ∧
  (∀ (s : State) (t : Nat) (c : Fin 4096) (tag : Nat) (o : Op), Startable (s.tick t) c.val tag 0x21 o →
    let v := begun (s.tick t) o; let z := running (s.tick t) o; let g := o.slot
    (v.slotOwner g ≠ o.ctx + 1 → o.ctx ≠ 0 → Machine.exec (.loopDisable t c tag) s = .next (v.finish z codeFaultAccess 1 0)) ∧
    ((v.slotOwner g = o.ctx + 1 ∨ o.ctx = 0) → Machine.exec (.loopDisable t c tag) s = .next (
      if v.lstate g = 0 then v.finish z codeDone 0 0
      else if (v.slot g).disabling = true then v.modSlot g (fun x => { x with disableWaiters := x.disableWaiters ++ [(o.ctx, o.tag)] })
      else v.disableSlot g [(o.ctx, o.tag)]))) ∧
  (∀ (s : State) (t : Nat) (c : Fin 4096) (tag : Nat) (o : Op), Startable (s.tick t) c.val tag 0x23 o →
    let v := begun (s.tick t) o; let g := o.slot; (v.slotOwner g = o.ctx + 1 ∨ o.ctx = 0) → v.flag (F.CEN_LSTAT_SWPEND g) = false →
    Machine.exec (.loopSwap t c tag) s = .next ((v.setFlag (F.CEN_LSTAT_SWPEND g) true).modSlot g (fun y =>
      { y with swapAt := v.modTime, swapWaiter := some (o.ctx, o.tag) }))) ∧
  (∀ (s : State) (t : Nat) (c : Fin 4096) (tag : Nat) (o : Op), Startable (s.tick t) c.val tag 0x24 o →
    let v := begun (s.tick t) o; let z := running (s.tick t) o; let g := o.slot; let n := o.arg1 22 7
    ((v.slotOwner g = o.ctx + 1 ∨ o.ctx = 0) → v.flag (F.CEN_LSTAT_SWPEND g) = false →
      Machine.exec (.loopBankWrite t c tag true) s = .next (v.finish z codeFaultAccess 2 0) ∧
      Machine.exec (.loopBankWrite t c tag false) s = .next
        ((putBankWords (v.readBytes o.buf (16 * n)) g (v.inactiveBank g) (o.arg1 16 6) n v).storeBanks.finish z codeDone 0 0))) ∧
  (∀ (s : State) (t : Nat) (c : Fin 4096) (tag : Nat) (o : Op), Startable (s.tick t) c.val tag 0x25 o →
    let v := begun (s.tick t) o; let z := running (s.tick t) o; let g := o.slot
    (v.slotOwner g ≠ o.ctx + 1 → o.ctx ≠ 0 → ∀ ecc, Machine.exec (.loopRead t c tag ecc) s = .next (v.finish z codeFaultAccess 1 0)) ∧
    ((v.slotOwner g = o.ctx + 1 ∨ o.ctx = 0) → Machine.exec (.loopRead t c tag true) s = .next (v.finish z codeFaultAccess 2 0)) ∧
    ((v.slotOwner g = o.ctx + 1 ∨ o.ctx = 0) → Machine.exec (.loopRead t c tag false) s = .next (
      let w := v.writeBytes o.buf ((List.range 128).flatMap (fun k => leBytes 16 (v.recImageWord g k)))
      w.finish z codeDone 0 (w.fld (F.CEN_LSTAT_BANK g)))))

/-- At a sample instant a slot in RUN begins the sample. A free engine starts the next ready evaluation or
frame, which is complete after its cost. At the guard a result is accepted, an absent one is an overrun, an
idle sample passes. At the output phase the loaded output is emitted and becomes the slot's last. A completed
frame goes to its readers. A sample whose frame is gone is queued for a correction pass 8 cycles or more after
its instant. A SPEC or DROP packet that no slot of the tile reads raises event 69 once a period; one that is
read replaces, or removes, the value held. -/
def Obligations.LoopSamples : Prop :=
  (∀ (s : State) (t : Nat) (g : Fin 8192), let v := s.tick t; let r := v.record g.val; let m := v.modTime; let n := sampleNumber r m; let b := v.exchangeBanks g.val n
    isSampleInstant r m = true → (v.slot g.val).samples.any (fun y => y.at_ == m) = false → b.lstate g.val ≠ 0 → ∀ ecc,
    let w := (b.eccErrors ecc).settleSlot g.val; w.lstate g.val = 1 → (w.slot g.val).disabling = false →
    (w.slot g.val).quietTo ≤ m → (w.slot g.val).notBefore ≤ m →
    Machine.exec (.loopSampleInstant t g ecc) s = .next ((w.beginSample g.val n r).rereads (g.val / 64)
      (((List.range 8).map (recBrick g.val)).filter (fun k => b.poisoned (g.val / 64) k)))) ∧
  (∀ (s : State) (t : Nat) (k : Fin 128) (x : Ready) (m : Sample) (e : Eval), let v := s.tick t; v.engineBusy k.val = false →
    v.nextReady k.val = some x → x.frame = false → (v.slot x.slot).samples.find? (fun m => m.n == x.sample && !m.guarded) = some m →
    m.eval = some e → ∀ ecc, Machine.exec (.evaluationStart t k ecc) s = .next
      (((v.rereads k.val (m.evalReads v x.slot e)).eccErrors ecc).startEval x.slot m e)) ∧
  (∀ (s : State) (t : Nat) (k : Fin 128) (ecc : List BrickError), let v := s.tick t; v.engineBusy k.val = true →
    Machine.exec (.evaluationStart t k ecc) s = .next v) ∧
  (∀ (s : State) (t n : Nat) (g : Fin 8192) (x : Ready) (f : Frame), let v := s.tick t; v.engineBusy (g.val / 64) = false →
    v.nextReady (g.val / 64) = some x → (v.slot g.val).frames.find? (fun f => f.sample == n) = some f → x.frame = true → x.slot = g.val →
    x.sample = n → ∀ ecc, Machine.exec (.specFrameStart t g ⟨n, ecc⟩) s = .next (v.startFrame g.val f ecc)) ∧
  (∀ (s : State) (t : Nat) (g : Fin 8192), let v := s.tick t; Machine.exec (.evaluationComplete t g) s = .next (
    v.modSlot g.val (fun x => { x with samples := x.samples.map (fun m => match m.eval with
      | some e => (match e.startedAt with
        | some a => if a + evalCost (wordsRecord m.words) * tileCycle = v.modTime then { m with eval := some { e with complete := true } } else m
        | none => m)
      | none => m) }))) ∧
  (∀ (s : State) (t : Nat) (g : Fin 8192) (m : Sample), let v := s.tick t
    (v.slot g.val).samples.find? (fun m => !m.guarded && m.guardAt == v.modTime) = some m →
    (m.idle = true → Machine.exec (.loopGuard t g) s = .next (v.setSample g.val { m with guarded := true })) ∧
    (m.idle = false → recSpec (wordsRecord m.words) = false → Machine.exec (.loopGuard t g) s = .next (
      match v.sampleResult g.val m with | some (o, b) => v.accept g.val m o b | none => v.overrun g.val m))) ∧
  (∀ (s : State) (t : Nat) (g : Fin 8192) (m : Sample), let v := s.tick t
    (v.slot g.val).samples.find? (fun m => m.guarded && m.outAt == v.modTime) = some m → Machine.exec (.loopOutputPhase t g) s = .next (
      let b := if (v.slot g.val).faultDue.isSome = true then (v.modSlot g.val (fun x => { x with faultDue := none })).raise 64 g.val else v
      let a := b.emitOutput g.val (wordsRecord m.words) m.loaded
      let w := a.modSlot g.val (fun x => { x with samples := x.samples.filter (fun y => y.at_ != m.at_)
                                                  last := some m.loaded, prevOut := x.last, lastAt := a.modTime, outCount := x.outCount + 1 })
      if (w.slot g.val).disabling = true then w.slotOff g.val else w)) ∧
  (∀ (s : State) (t n a : Nat) (g : Fin 8192) (f : Frame), let v := s.tick t; (v.slot g.val).frames.find? (fun f => f.sample == n) = some f →
    f.startedAt = some a → f.complete = false → f.recompute = false →
    a + evalCost (v.recordAt g.val (sampleInstant (v.record g.val) n)) * tileCycle = v.modTime → Machine.exec (.specFrameComplete t g n) s =
      .next ((v.modSlot g.val (fun x => { x with frames := x.frames.map (fun q =>
        if q.sample = n then { q with complete := true, recompute := false, sentOut := some q.out } else q) })).sendSpec g.val n (specFlit g.val n f.out))) ∧
  (∀ (s : State) (t : Nat) (g : Fin 8192) (m : Sample), let v := s.tick t
    (v.slot g.val).samples.find? (fun m => m.awaits && !m.guarded) = some m → v.modTime = m.at_ + (8 + v.confirmRank g.val m.at_) * tileCycle →
    v.modTime < m.guardAt → (v.slot g.val).frames.find? (fun f => f.sample == m.n) = none →
    Machine.exec (.confirmResult t g) s = .next (v.setSample g.val (m.queuePass v.modTime))) ∧
  (∀ (s : State) (t h n : Nat) (p : Packet) (b : Bool) (f : Flit), let v := (s.tick t).arrived p; specPacket p = some (b, h, n, f) → (s.tick t).lands p = true →
    let run := if b = true then Machine.exec (.dropPacketReceive t p) s else Machine.exec (.specPacketReceive t p) s
    let of_ := fun (d : Nat × Nat × Nat × Bool) => d.1 == p.dst && d.2.1 == h && d.2.2.1 == n
    let c := match v.cen.drops.find? of_ with | some d => d.2.2.2 | none => true
    let u : State := { v with cen := { v.cen with drops := removeFirst of_ v.cen.drops } }
    (v.specReader p.dst p.stream h = false → run = .next ((if b = true then u else v).raiseOnce 69 p.dst p.dst)) ∧
    (v.specReader p.dst p.stream h = true → b = false → Machine.exec (.specPacketReceive t p) s = .next { v with cen := { v.cen with
      spec := (p.dst, h, n, (List.range 4).map (fun j => flitInput f j)) :: (v.cen.spec.filter (fun q => q.1 == p.dst && q.2.1 == h && q.2.2.1 != n)).take 3
        ++ v.cen.spec.filter (fun q => !(q.1 == p.dst && q.2.1 == h))
      dropped := v.cen.dropped.filter (fun d => d != (p.dst, h, n)) } }) ∧
    (u.specReader p.dst p.stream h = true → b = true → Machine.exec (.dropPacketReceive t p) s = .next (
      let w : State := { u with cen := { u.cen with
        spec := u.cen.spec.filter (fun (q : Nat × Nat × Nat × List LoopIn) => !(q.1 == p.dst && q.2.1 == h && q.2.2.1 == n))
        dropped := (p.dst, h, n) :: ((u.cen.dropped.filter (fun (d : Nat × Nat × Nat) => (d.1 == p.dst && d.2.1 == h) && d.2.2 != n)).take 7
          ++ u.cen.dropped.filter (fun (d : Nat × Nat × Nat) => !(d.1 == p.dst && d.2.1 == h))) } }
      w.dropAll p.dst ((w.enabledOn p.dst).flatMap (fun g => (w.slot g).frames.flatMap (fun (f : Frame) =>
        f.tags.filter (fun x => x.1 == h && x.2 % 2 ^ 32 == n)))).eraseDups [] [] c)))

/-- At a whole 4 us a crossing opens a window of 240 samples; the second of a window restarts it at 256. At
its end a single crossing counts as grain or chaff if the larger score is 75 or more (of equal scores as
chaff, log entry 85), else unresolved, and each of several as unresolved, in the interval of its crossing. A
bias out of range for 10 ms sets FAULT, raises event 97 and drops the window. A finished interval with no open
window publishes mean losses of ten. Mass flow sums the enabled channels every 10 ms, each from the mean of
its samples and the speed its FIN selects, a free value where VNOM and the speed are both 0 (log entry 89);
the zero update at a whole second once work has been idle long enough takes the mean of 5 s; moisture at a
whole 100 ms is read through the slots' tables, an invalid output giving no reading. -/
def Obligations.CropSensors : Prop :=
  (∀ (s : State) (t : Nat) (c : Fin 16), let v := s.tick t; let x := v.piezo c.val
    (v.flag (F.FUS_PIEZO_CFG_EN c.val) = false ∨ v.flag (F.FUS_PIEZO_CFG_FAULT c.val) = true ∨ v.atWhole (4 * psPerUs) = false →
      Machine.exec (.piezoImpact t c) s = .next v) ∧
    (v.flag (F.FUS_PIEZO_CFG_EN c.val) = true → v.flag (F.FUS_PIEZO_CFG_FAULT c.val) = false → v.atWhole (4 * psPerUs) = true →
      (x.windowEnd = none → Machine.exec (.piezoImpact t c) s =
        .next (v.setPiezo c.val { x with windowEnd := some (v.modTime + 960 * psPerUs), crossings := [v.modTime] })) ∧
      (∀ e, x.windowEnd = some e → Machine.exec (.piezoImpact t c) s = .next (v.setPiezo c.val { x with
        windowEnd := some (if x.crossings.length = 1 then v.modTime + 1024 * psPerUs else e), crossings := x.crossings ++ [v.modTime] })))) ∧
  (∀ (s : State) (t g h : Nat) (c : Fin 16), let v := s.tick t; let x := v.piezo c.val
    (x.windowEnd = none → Machine.exec (.piezoWindowClose t c g h) s = .next v) ∧
    (∀ e, x.windowEnd = some e → v.modTime < e → Machine.exec (.piezoWindowClose t c g h) s = .next v) ∧
    (∀ e, x.windowEnd = some e → e ≤ v.modTime → Machine.exec (.piezoWindowClose t c g h) s = .next (
      State.setPiezo { v with crop := { v.crop with impacts := v.crop.impacts ++ x.crossings.map (fun a => (a / psPer100Ms, c.val,
        if x.crossings.length ≠ 1 ∨ (g < 75 ∧ h < 75) then 2 else if h < g then 0 else 1)) } }
        c.val { x with windowEnd := none, crossings := [] }))) ∧
  (∀ (s : State) (t b : Nat) (c : Fin 16), let v := s.tick t; let x := v.piezo c.val
    (v.modTime < b + 10 * psPerMs ∨ v.flag (F.FUS_PIEZO_CFG_FAULT c.val) = true → Machine.exec (.piezoBiasFault t c b) s = .next v) ∧
    (b + 10 * psPerMs ≤ v.modTime → v.flag (F.FUS_PIEZO_CFG_FAULT c.val) = false →
      Machine.exec (.piezoBiasFault t c b) s = .next (((v.setPiezo c.val ⟨none, [],
        some (match x.faultFrom with | some f => min f (b / psPer100Ms) | none => b / psPer100Ms), x.backFrom⟩).setFlag
        (F.FUS_PIEZO_CFG_FAULT c.val) true).raise 97 c.val))) ∧
  (∀ (s : State) (t : Nat), let v := s.tick t; let i := v.crop.lossNext
    (v.modTime < (i + 1) * psPer100Ms ∨ (∃ p ∈ v.crop.piezo, ∃ a ∈ p.2.crossings, a / psPer100Ms = i) →
      Machine.exec (.lossInterval t) s = .next v) ∧
    ((i + 1) * psPer100Ms ≤ v.modTime → (∀ p ∈ v.crop.piezo, ∀ a ∈ p.2.crossings, a / psPer100Ms ≠ i) →
    let a := (v.lossOf 0 i :: v.crop.loss0).take 10; let b := (v.lossOf 1 i :: v.crop.loss1).take 10
    Machine.exec (.lossInterval t) s = .next { v with crop := { v.crop with
      lossNext := i + 1, loss0 := a, loss1 := b, impacts := v.crop.impacts.filter (fun x => decide (i < x.1))
      published := (((i + 1) * 100, meanOfTen (a.map (fun x => x.2)), meanOfTen (b.map (fun x => x.2))) :: v.crop.published).take 600
      rate0 := meanOfTen (a.map (fun x => x.1)), rate1 := meanOfTen (b.map (fun x => x.1)) } })) ∧
  (∀ (s : State) (t : Nat) (u : List (List Int)) (q : List Nat), let v := s.tick t; let cs := List.range 4
    let us := fun c => meanInt (u.getD c []); let sp := fun c => q.getD (v.fld (F.FUS_MFLOW_SPD_FIN c)) 0
    let vn := fun c => v.fld (F.FUS_MFLOW_SPD_VNOM c); let w := fun c => massFlow (v.massKOf c) (us c) (spGet v.crop.u0 c) (vn c) (sp c)
    (v.atWhole (10 * psPerMs) = false → Machine.exec (.massFlowInterval t u q) s = .next v) ∧
    (v.atWhole (10 * psPerMs) = true → ∃ (x : Nat → Nat) (k : Nat),
      (∀ c < 4, v.mfEnabled c = false → x c = 0) ∧ (∀ c < 4, v.mfEnabled c = true → vn c ≠ 0 ∨ sp c ≠ 0 → x c = (w c).1) ∧
      ((∀ c < 4, v.mfEnabled c = true → vn c ≠ 0 ∨ sp c ≠ 0) → k = 0) ∧
      Machine.exec (.massFlowInterval t u q) s = .next { v with freeCtr := v.freeCtr + k, crop := { v.crop with
        mass := ({ at10 := v.modMs / 10, flow := x 0 + x 1 + x 2 + x 3, suspect := cs.any (fun c => v.mfEnabled c && (w c).2)
                   ks := cs.map v.massKOf, ens := cs.map v.mfEnabled, us := cs.map us
                   fast := cs.map (fun c => decide (vn c ≤ 2 * sp c)) } :: v.crop.mass).take 4500
        massK := cs.foldl (fun a c => spSet a c (v.fld (F.FUS_MFLOW_K_K c) + 1)) v.crop.massK } })) ∧
  (∀ (s : State) (t : Nat), let v := s.tick t; let quiet := v.fld F.FUS_YIELD_CFG_DLY_MASS_MS * psPerMs + 5 * psPerS
    (v.atWhole psPerS = false ∨ v.idleSince = none ∨ (∃ e, v.idleSince = some e ∧ v.modTime < e + quiet) →
      Machine.exec (.massFlowZeroUpdate t) s = .next v) ∧
    (∀ e, v.atWhole psPerS = true → v.idleSince = some e → e + quiet ≤ v.modTime →
      ∀ m l, v.crop.mass.filter (fun m => decide (v.modMs / 10 < m.at10 + 500)) = m :: l → Machine.exec (.massFlowZeroUpdate t) s =
        .next { v with crop := { v.crop with u0 := ((List.range 4).filter (fun c => v.mfEnabled c && m.fast.getD c false)).foldl (fun a c =>
          spSet a c (meanInt ((m :: l).map (fun x => x.us.getD c 0)))) v.crop.u0 } })) ∧
  (∀ (s : State) (t : Nat) (l : List (Nat × List Int)), let v := s.tick t
    (v.atWhole psPer100Ms = false → Machine.exec (.moistureInterval t l) s = .next v) ∧
    (v.atWhole psPer100Ms = true → ∀ (g : Nat) (x : List Int), l = [(g, x)] →
      (v.tableRead g (meanInt x) = none →
        Machine.exec (.moistureInterval t l) s = .next { v with crop := { v.crop with moist := v.crop.moist.take 1200 } }) ∧
      (∀ y, v.tableRead g (meanInt x) = some y → Machine.exec (.moistureInterval t l) s = .next { v with crop := { v.crop with
        moist := ((v.modMs, y.toNat) :: v.crop.moist).take 1200, lastMoist := some y.toNat } })))

/-- With EN in FIELD or SERVICE, by 30 ms after a whole 100 ms whose frame is not yet made, the next forecast
frame is made with the effective cut width, the gain and the 96 steps scaled by it, STALE cleared and the
newest eight kept; otherwise nothing. A frame whose nominal instant is more than 500 ms old sets STALE and
raises event 96. GAINRST and a write of FUS_CROP set the gain to 1.0. Work begins when mode, header
engagement, EN and a header height below HWORK all hold; its cell is closed at the whole second that ends its
second or where the work ended, with the crop, distance and FIX the model holds, and the sequence number and
end of work follow. The oldest cell is written once its delays have passed, 64 bytes with a CRC, the loss
fields free if none is valid (log entry 93). Enabling yield samples and flushes the ring; disabling ends the
work. -/
def Obligations.CropRecords : Prop :=
  (∀ (s : State) (t n : Nat) (f c : List Nat) (d : List DrumRead), let v := s.tick t; let k := v.modMs / 100; let m := min n 96
    (v.flag F.FUS_FCST_CFG_EN = false ∨ v.mode.harvests = false ∨ 30 * psPerMs < v.modTime - k * psPer100Ms ∨
      (∃ x ∈ v.crop.frames, x.k = k % 2 ^ 32) → Machine.exec (.forecastFramePublish t f c n d) s = .next v) ∧
    (v.flag F.FUS_FCST_CFG_EN = true → v.mode.harvests = true → v.modTime - k * psPer100Ms ≤ 30 * psPerMs →
      (∀ x ∈ v.crop.frames, x.k ≠ k % 2 ^ 32) → ∃ x : FcFrame,
        (let w := (v.setFld F.FUS_FCST_GAIN_GAIN x.gain).setFlag F.FUS_FCST_CFG_STALE false
         Machine.exec (.forecastFramePublish t f c n d) s = .next { w with crop := { w.crop with frames := (x :: v.crop.frames).take 8 } }) ∧
        x.k = k % 2 ^ 32 ∧ x.t0 = (k : Int) * 100 - 2400 ∧ x.at_ = v.modTime ∧ x.width = v.cutWidth ∧
        x.speed = ((v.fus.ego.getD 0 0) / 2).toNat ∧
        x.dly = [0, v.fld (F.FUS_STATION_DLY_DLY_MS 1), v.fld (F.FUS_STATION_DLY_DLY_MS 2), v.fld (F.FUS_STATION_DLY_DLY_MS 3)] ∧
        (v.meanFeed d = none → x.gain = v.fld F.FUS_FCST_GAIN_GAIN) ∧
        x.feed = (List.range 96).map (fun i => min 32767 (f.getD (if i < m then i else m - 1) 0 * x.gain * 2 / v.fullScale)) ∧
        x.conf = (List.range 96).map (fun i => if i < m then min 32767 (c.getD i 0) else 0))) ∧
  (∀ (s : State) (t : Nat), let v := s.tick t
    (v.crop.frames = [] → Machine.exec (.forecastStale t) s = .next v) ∧
    (∀ (f : FcFrame) (l : List FcFrame), v.crop.frames = f :: l →
    (v.flag F.FUS_FCST_CFG_EN = true → v.flag F.FUS_FCST_CFG_STALE = false → (f.t0 + 2400) * psPerMs + 500 * psPerMs < v.modTime →
      Machine.exec (.forecastStale t) s = .next ((v.setFlag F.FUS_FCST_CFG_STALE true).raise 96 0)) ∧
    (v.modTime ≤ (f.t0 + 2400) * psPerMs + 500 * psPerMs → Machine.exec (.forecastStale t) s = .next v))) ∧
  (∀ (s : State) (t : Nat) (x : Word), let v := s.tick t
    Machine.exec (.fusFcstGainrst t x) s = .next ((v.plainWrite R.FUS_FCST_CFG (x ||| 4#32)).setFld F.FUS_FCST_GAIN_GAIN 0x4000) ∧
    Machine.exec (.fusCropWrite t x) s =
      .next (((v.noteSecond 0 (v.reg R.FUS_CROP).toNat).plainWrite R.FUS_CROP x).setFld F.FUS_FCST_GAIN_GAIN 0x4000)) ∧
  (∀ (s : State) (t : Nat) (h : Int), let v := s.tick t
    let work := v.mode.harvests && v.flag F.GOO_STAT_HDRENG && v.flag F.FUS_YIELD_CTL_EN && decide (h < v.fld F.FUS_YIELD_CTL_HWORK)
    let since := fun (u : State) (o : Option Nat) => { u with crop := { u.crop with workFrom := o, workTo := none } }
    (v.crop.workFrom = none → Machine.exec (.yieldCellClose t h) s = .next (if work = true then since v (some v.modNs) else v)) ∧
    (∀ b, v.crop.workFrom = some b → let sec := (b / 1000000000 + 1) * 1000000000
      (v.crop.workTo = none → work = true → v.modNs < sec → Machine.exec (.yieldCellClose t h) s = .next v) ∧
      (v.crop.workTo = none → work = true → sec ≤ v.modNs →
        Machine.exec (.yieldCellClose t h) s = .next (since (v.closeCell b sec) (some sec))) ∧
      (v.crop.workTo = none → work = false → b < v.modNs → v.modNs ≤ sec →
        Machine.exec (.yieldCellClose t h) s = .next (since (v.closeCell b v.modNs) none)) ∧
      (∀ e, v.crop.workTo = some e → b < e → e ≤ sec → Machine.exec (.yieldCellClose t h) s =
        .next (since (v.closeCell b e) (if work = true then some v.modNs else none))))) ∧
  (∀ (v : State) (b e : Nat), let sec := b / 1000000000; let m := v.motionAt ((b + e) / 2); let dist := v.travelled b e
    ∃ c, v.closeCell b e = { v with crop := { v.crop with
        cells := v.crop.cells ++ [c], cellSeq := (v.crop.cellSeq + 1) % 2 ^ 32, workEnd := 1000 * e } } ∧
      c.second = sec ∧ c.fromNs = b ∧ c.toNs = e ∧ c.seq = v.crop.cellSeq ∧ c.dist = dist ∧ c.fix = m.fix ∧
      c.width = v.atSecondStart 1 sec (v.fld F.FUS_CUTW_WIDTH_CM) ∧
      (c.isPartial = true ↔ b % 1000000000 ≠ 0 ∨ e ≠ (sec + 1) * 1000000000 ∨ dist < 100) ∧
      (c.degraded = true ↔ m.fix < 2 ∨ 200 < m.age) ∧ (v.atSecondStart 0 sec (v.reg R.FUS_CROP).toNat < 2 ^ 32 →
        c.crop + 65536 * c.stdMoist = v.atSecondStart 0 sec (v.reg R.FUS_CROP).toNat % 256
          + 65536 * (v.atSecondStart 0 sec (v.reg R.FUS_CROP).toNat / 65536))) ∧
  (∀ (s : State) (t : Nat), let v := s.tick t
    (v.crop.cells = [] → Machine.exec (.yieldCellWrite t) s = .next v) ∧
    (∀ (c : YieldCell) (l : List YieldCell), v.crop.cells = c :: l →
    (v.modTime < (c.second + 1) * psPerS + max c.dm c.dw * psPerMs → Machine.exec (.yieldCellWrite t) s = .next v) ∧
    (let ws := v.crop.mass.filter (fun m => inShifted c c.dm (m.at10 * 10)); let wet := (ws.map (fun m => m.flow)).sum / 100
     let ms := v.crop.moist.filter (fun m => inShifted c c.dw m.1)
     let moist := if ms.isEmpty then v.crop.lastMoist.getD c.stdMoist else meanNat (ms.map (fun m => m.2))
     let ls := v.crop.published.filter (fun p => inShifted c (v.fld (F.FUS_STATION_DLY_DLY_MS 3) + 1000) p.1)
     let sep := ls.filterMap (fun p => p.2.1); let cln := ls.filterMap (fun p => p.2.2)
     (c.second + 1) * psPerS + max c.dm c.dw * psPerMs ≤ v.modTime → ∃ calchg yield l0 l1 k : Nat,
      Machine.exec (.yieldCellWrite t) s = .next (State.ringPush { v with crop := { v.crop with cells := l }, freeCtr := v.freeCtr + k } yieldRing
        (cellBytes c (boolNat c.isPartial + 2 * boolNat ms.isEmpty + 4 * boolNat (ws.any (fun m => m.suspect)) + 8 * calchg + 16 * boolNat c.degraded
          + 32 * boolNat c.safeStop + 64 * boolNat (ls.isEmpty || ls.any (fun p => p.2.1.isNone || p.2.2.isNone)))
          (roundDiv wet 1000000) moist yield l0 l1) 0) ∧
      calchg ≤ 1 ∧ (calchg = 1 ↔ ∃ q < 4, (∃ x ∈ ws, x.ens.getD q false = true) ∧ ∃ a ∈ ws, ∃ b ∈ ws, a.ks.getD q 0 ≠ b.ks.getD q 0) ∧
      (∀ y, yieldOf c wet moist = some y → yield = y) ∧
      (sep ≠ [] → l0 = min 65535 (roundDiv sep.sum (100 * sep.length))) ∧ (cln ≠ [] → l1 = min 65535 (roundDiv cln.sum (100 * cln.length))) ∧
      (sep ≠ [] → cln ≠ [] → yieldOf c wet moist ≠ none → k = 0)))) ∧
  (∀ (s : State) (t : Nat) (x : Word), let v := s.tick t; let w := v.plainWrite R.FUS_YIELD_CTL x
    let ends := w.crop.workFrom ≠ none ∧ w.crop.workTo = none ∧ w.workReady = false
    (v.flag F.FUS_YIELD_CTL_EN = false → w.flag F.FUS_YIELD_CTL_EN = true → Machine.exec (.fusYieldEnable t x) s =
      .next ((w.ringSample R.FUS_YIELD_BASE_LO 6).ringFlush yieldRing)) ∧
    (v.flag F.FUS_YIELD_CTL_EN = true ∨ w.flag F.FUS_YIELD_CTL_EN = false →
      (ends → Machine.exec (.fusYieldEnable t x) s = .next { w with crop := { w.crop with workTo := some w.modNs } }) ∧
      (¬ends → Machine.exec (.fusYieldEnable t x) s = .next w)))

/-- An edge of a live, selected reference that marks a whole second in LOCKED learns the rate and sets PHERR
to its error, of GNSS held within 50 ns but during a slew (log entry 97); the first edge starts ACQUIRE and
the fourth in a row LOCKED. No edge for 2.5 s, or a write of the source, loses the reference. A read of NOW_LO
latches NOW_HI. Each millisecond an enabled ego sample sets its four lanes from the two encoders that the
configuration names, the scale, the yaw rates and the filtered tilt (log entry 96), or keeps the last and
clears VALID, event 106 once, and is emitted from its tile on its route. SLIP is filtered each second above 1
m/s; the pose moves on each ms; and a POSE record of 64 bytes with its CRC goes out each 10 ms with EN and
POSE. -/
def Obligations.FusionTime : Prop :=
  (∀ (s : State) (t r : Nat) (as : Bool), let v := s.tick t; let z : State := if as then v else { v with gns := { v.gns with due := none } }
    let live := if as then v.flag F.FLT_PTP_STAT_VALID else v.flag F.GNS_STAT_TIMEVALID && v.gns.due == some (v.modNs, r / 1000000000)
    let e := (if as then (r : Int) - 19000000000 else (r : Int)) - v.modNs - v.tbOfs
    let pe := if as = true ∨ v.flag F.FUS_TB_STAT_SLEW = true then e else clampInt (-50) 50 e
    (v.srcAllows as = false ∨ live = false ∨ r % 1000000000 ≠ 0 → Machine.exec (.timebaseReferenceEdge t as r) s = .next v) ∧
    (v.srcAllows as = true → live = true → r % 1000000000 = 0 →
      (v.tbState = 2 → (v.fld F.FUS_TB_STAT_SRCUSED = if as then 2 else 1) → let y := z.learnRate e
        Machine.exec (.timebaseReferenceEdge t as r) s = .next ((State.setFld { y with fus := { y.fus with
          lastEdge := v.modNs, bound := pe.natAbs + 50, captured := false } } F.FUS_TB_PHERR_PHERR (ofSigned 32 pe)).showErrest)) ∧
      (v.tbState = 0 → as = false → v.fus.gnssRun.count = 0 →
        Machine.exec (.timebaseReferenceEdge t as r) s = .next ((State.setFld { z with fus := { z.fus with gnssRun := ⟨1, v.modNs⟩ } }
          F.FUS_TB_STAT_STATE 1).showErrest)) ∧
      (v.tbState = 1 → as = false → 3 ≤ v.fus.gnssRun.count →
        v.fus.gnssRun.last + 999999000 ≤ v.modNs → v.modNs ≤ v.fus.gnssRun.last + 1000001000 →
        Machine.exec (.timebaseReferenceEdge t as r) s = .next (((State.setFld { z with fus := { z.fus with
          gnssRun := ⟨v.fus.gnssRun.count + 1, v.modNs⟩ } } F.FUS_TB_STAT_STATE 1).showErrest).enterLocked false r)))) ∧
  (∀ (s : State) (t : Nat), let v := s.tick t
    (v.tbState = 2 → v.fus.lastEdge + 2500000000 ≤ v.modNs → Machine.exec (.timebaseHoldover t) s = .next v.loseReference) ∧
    (v.tbState = 2 → v.modNs < v.fus.lastEdge + 2500000000 → Machine.exec (.timebaseHoldover t) s = .next v) ∧
    (v.tbState = 1 → (v.fus.gnssRun.count = 0 ∨ v.fus.gnssRun.last + 1000001000 < v.modNs) →
      (v.fus.asRun.count = 0 ∨ v.fus.asRun.last + 1000001000 < v.modNs) → Machine.exec (.timebaseHoldover t) s = .next v.loseReference) ∧
    (v.tbState ≠ 1 → v.tbState ≠ 2 → Machine.exec (.timebaseHoldover t) s = .next v) ∧
    (v.flag F.FUS_TB_STAT_SLEW = true → v.fus.slewEnd ≤ v.modNs → Machine.exec (.timebaseSlewEnd t) s =
      .next (State.setFlag { v with fus := { v.fus with slewErr := 0 } } F.FUS_TB_STAT_SLEW false)) ∧
    (v.modNs < v.fus.slewEnd ∨ v.flag F.FUS_TB_STAT_SLEW = false → Machine.exec (.timebaseSlewEnd t) s = .next v)) ∧
  (∀ (s : State) (t : Nat) (x : Word), let v := s.tick t; let w := v.plainWrite R.FUS_TB_CFG x
    Machine.exec (.fusTbSrcWrite t x) s = .next (if w.tbState = 2 ∨ w.tbState = 1 then w.loseReference else w)) ∧
  (∀ (s : State) (t : Nat), let v := s.tick t
    Machine.exec (.fusTbNowRead t true) s = .next { v with busData := v.reg R.FUS_TB_NOW_HI } ∧
    Machine.exec (.fusTbNowRead t false) s = .next { v.setFld F.FUS_TB_NOW_HI_NOW (v.modNs / 2 ^ 32) with busData := BitVec.ofNat 32 v.modNs }) ∧
  (∀ (s : State) (t : Nat) (l : List Int) (f : Byte) (m : Inertial) (i1 i2 : Bool), let v := s.tick t; let i := i1 && i2
    let a := v.fld F.FUS_EGO_CFG_ENC_L; let b := v.fld F.FUS_EGO_CFG_ENC_R; let e := !f.getLsbD a && !f.getLsbD b
    let z := (v.setFlag F.FUS_EGO_STAT_ENC_OK e).setFlag F.FUS_EGO_STAT_IMU_OK i
    let run := Machine.exec (.egoMotionSample t l f m.yaw1 m.yaw2 ⟨m.pitchRate, m.pitch⟩ ⟨m.rollRate, m.roll⟩ i1 i2) s
    let out := fun (w : State) k => w.emit (w.fld F.FUS_EGO_CFG_TILE) (w.fld F.FUS_EGO_CFG_ROUTE) w.modMs 0 true true [outFlit w.fus.ego k false false w.modMs 0]
    let bad := z.setFlag F.FUS_EGO_STAT_VALID false
    let p := roundDivInt (2000 * (z.fus.pitch + m.pitchRate) + 1000 * m.pitch) 2001; let q := roundDivInt (2000 * (z.fus.roll + m.rollRate) + 1000 * m.roll) 2001
    (v.flag F.FUS_EGO_CFG_EN = false ∨ v.atWhole psPerMs = false → run = .next v) ∧
    (v.flag F.FUS_EGO_CFG_EN = true → v.atWhole psPerMs = true →
      (e = true → i = true → run = .next (out (State.setFlag { z with fus := { z.fus with
        ego := [sat16 (roundDivInt ((l.getD a 0 + l.getD b 0) * z.fld F.FUS_EGO_SCALE_NM * (1000000 + z.calUseOf 134)) 1000000000),
          sat16 (roundDivInt ((m.yaw1 + m.yaw2) * 32768) 2000000), sat16 (roundDivInt (p * 65536) 1000000000),
          sat16 (roundDivInt (q * 65536) 1000000000)], egoBad := 0, pitch := p, roll := q } } F.FUS_EGO_STAT_VALID true) 15)) ∧
      (e = false ∨ i = false → v.fus.egoBad = 0 →
        run = .next (out (State.raise { bad with fus := { bad.fus with egoBad := bad.modNs + 1 } } 106 0) 0)) ∧
      (e = false ∨ i = false → v.fus.egoBad ≠ 0 →
        run = .next (out (if bad.fus.egoBad + 100000000 < bad.modNs + 1 then bad.allNetsCause 5 else bad) 0)))) ∧
  (∀ (s : State) (t : Nat), let v := s.tick t; let w : State := { v with fus := { v.fus with pose := v.propagated } }
    let x := v.fus.slip + roundDivInt (roundDivInt ((v.fus.ego.getD 0 0 - 2 * (v.gns.speed : Int)) * 1000000) (2 * v.gns.speed) - v.fus.slip) 10
    (v.atWhole psPerS = true → 2 ≤ v.gns.fix → 1000 < v.gns.speed → v.flag F.FUS_EGO_STAT_VALID = true → Machine.exec (.slipUpdate t ()) s =
      .next (State.setFld { v with fus := { v.fus with slip := x } } F.FUS_EGO_STAT_SLIP (ofSigned 16 (sat16 (roundDivInt x 1000))))) ∧
    (v.atWhole psPerS = false ∨ v.gns.fix < 2 ∨ v.gns.speed ≤ 1000 ∨ v.flag F.FUS_EGO_STAT_VALID = false → Machine.exec (.slipUpdate t ()) s = .next v) ∧
    (v.atWhole psPerMs = true → Machine.exec (.posePropagate t ()) s =
      .next { w with fus := { w.fus with hist := (w.motion :: v.fus.hist).take 8000 } }) ∧
    (v.atWhole psPerMs = false → Machine.exec (.posePropagate t ()) s = .next v)) ∧
  (∀ (s : State) (t : Nat), let v := s.tick t; let p := v.fus.pose; let c := v.cutterBar p
    let deg := fun x => place (ofSigned 32 (roundDivInt x 10000))
    (v.atWhole (10 * psPerMs) = false ∨ v.flag F.FUS_OUT_CTL_POSE = false ∨ v.flag F.FUS_OUT_CTL_EN = false → Machine.exec (.poseRecord t) s = .next v) ∧
    (v.atWhole (10 * psPerMs) = true → v.flag F.FUS_OUT_CTL_POSE = true → v.flag F.FUS_OUT_CTL_EN = true → Machine.exec (.poseRecord t) s = .next (
      let body := leBytes 16 (place v.modNs 0 64 + place 1 64 8 + place v.gns.fix 72 8 + place v.solAge 80 16 + place (v.fld F.FUS_CAL_VER_VERSION) 96 32)
        ++ leBytes 16 (deg p.lat 0 32 + deg p.lon 32 32 + place (ofSigned 32 p.height) 64 32 + place (p.heading / 10000000) 96 16
          + place ((v.fus.ego.getD 0 0) / 2).toNat 112 16)
        ++ leBytes 16 (deg c.lat 0 32 + deg c.lon 32 32 + place (v.fld F.FUS_EGO_STAT_SLIP) 64 16
          + place (ofSigned 16 (roundDivInt (v.fus.ego.getD 1 0 * 1000) 32768)) 80 16) ++ leBytes 12 0
      v.ringPush fusionRing (body ++ leBytes 4 (crc32 body)) 0)))

/-- A write of EN = 1 that R162 forbids, among them one with no calibration published, has no effect but REJ;
otherwise it notes reset cause 1 if EN was 0 (log entry 98); RST notes cause 7. The oldest step starts once
all its frames are here or ASM has passed, unless another network's earlier deadline waits on a shared tile,
with its GAP, and a frame with a poisoned word is a gap; a reset in force zeroes the state and the tracks,
sets LASTRST to the lowest cause, counts, and raises event 103. It completes only before DL, commits the state
it wrote, takes the tank's outputs, publishes its lanes if GEN, settles the track IDs and writes their
records; at DL it is abandoned, counted, event 102 once. A refined value stays inside the bound about the
published base value. PUBLISH takes the base values, publishes, and resets every network. -/
def Obligations.FusionNets : Prop :=
  (∀ (s : State) (t : Nat) (k : Fin 16) (x : Word), let v := s.tick t; let y := x ||| 0x10000#32
    let w := v.plainWrite (R.FUS_NET_CFG k.val) y; let u := if x.getLsbD 22 = true then w.addCause k.val 7 else w
    (v.netRejects k.val (bitsOf y.toNat 0 16) (y.getLsbD 17) = true → Machine.exec (.fusNetEnable t k x) s = .next (v.setFlag (F.FUS_NET_CFG_REJ k.val) true)) ∧
    (v.fld F.FUS_CAL_VER_VERSION = 0 → Machine.exec (.fusNetEnable t k x) s = .next (v.setFlag (F.FUS_NET_CFG_REJ k.val) true)) ∧
    (v.netRejects k.val (bitsOf y.toNat 0 16) (y.getLsbD 17) = false → Machine.exec (.fusNetEnable t k x) s =
      .next (if v.flag (F.FUS_NET_CFG_EN k.val) = true then u else u.addCause k.val 1))) ∧
  (∀ (s : State) (t : Nat) (k : Fin 16) (x : Word), let v := s.tick t; let y := x ||| 0x400000#32; let w := (v.plainWrite (R.FUS_NET_CFG k.val) y).addCause k.val 7
    (x.getLsbD 16 = false → Machine.exec (.fusNetRst t k x) s = .next (w.modNet k.val (fun n => { n with steps := [] }))) ∧
    (x.getLsbD 16 = true → v.netRejects k.val (bitsOf y.toNat 0 16) (y.getLsbD 17) = true →
      Machine.exec (.fusNetRst t k x) s = .next (v.setFlag (F.FUS_NET_CFG_REJ k.val) true)) ∧
    (x.getLsbD 16 = true → v.netRejects k.val (bitsOf y.toNat 0 16) (y.getLsbD 17) = false → Machine.exec (.fusNetRst t k x) s =
      .next (if v.flag (F.FUS_NET_CFG_EN k.val) = true then w else w.addCause k.val 1))) ∧
  (∀ (s : State) (t : Nat) (k : Fin 16) (bad : List (Nat × BrickError)) (ecc : List BrickError), let v := s.tick t
    let run := Machine.exec (.fusionStepStart t k bad ecc) s
    ((v.netSt k.val).steps.all (fun x => x.started) = true ∨ v.flag (F.FUS_NET_CFG_EN k.val) = false → run = .next v) ∧
    (∀ x : FusionStep, (v.netSt k.val).steps.find? (fun x => !x.started) = some x →
      let mask := v.fld (F.FUS_NET_CFG_CAMMASK k.val); let limit := x.at_ + v.fld (F.FUS_NET_TIM_ASM k.val) * 100000
      (v.modNs < limit → (∃ p < 16, bitOf mask p = true ∧ bitOf x.arrived p = false) → run = .next v) ∧
      (v.stepWaits k.val x = true → run = .next v) ∧
      (v.flag (F.FUS_NET_CFG_EN k.val) = true → (limit ≤ v.modNs ∨ ∀ p < 16, bitOf mask p = true → bitOf x.arrived p = true) →
        v.stepWaits k.val x = false →
        let a := v.eccErrors (bad.map (fun p => p.2) ++ ecc)
        let ports := (portsOf mask).filter (fun p => bitOf x.arrived p && !bad.any (fun q => q.1 == p))
        let present := (ports.map (fun p => 2 ^ p)).sum; let cs := a.resetCauses k.val (!ecc.isEmpty)
        let y := { x with started := true, present := present, gap := decide (present ≠ mask), wasReset := !cs.isEmpty, views := a.stepViews x ports }
        let b := a.modNet k.val (fun n => { n with
          causes := if cs.contains 6 || a.mode.harvests then [] else n.causes.filter (fun c => c == 6)
          steps := updateFirst (fun y => !y.started) (fun _ => y) n.steps })
        let w := if present ≠ mask then b.bump (F.FUS_NET_STAT_GAPS k.val) else b
        (cs = [] → run = .next w) ∧
        (∀ c cl, cs = c :: cl → run = .next ((((w.modNet k.val NetSt.zeroed).setFld (F.FUS_NET_STAT_LASTRST k.val) c).bump
          (F.FUS_NET_STAT_RESETS k.val)).raise 103 (k.val + 16 * c)))))) ∧
  (∀ (s : State) (t : Nat) (k : Fin 16) (x : FusionStep) (l : List FusionStep), let v := s.tick t; (v.netSt k.val).steps = x :: l →
    let dl := x.at_ + v.fld (F.FUS_NET_TIM_DL k.val) * 100000;
     (x.started = false ∨ dl ≤ v.modNs → ∀ o, Machine.exec (.fusionStepComplete t k o) s = .next v) ∧
     (x.started = true → v.modNs < dl → ∀ o : StepOut, Machine.exec (.fusionStepComplete t k o) s = .next (
       let a := (v.modNet k.val (fun n => { n with
         steps := l, missed := 0, lastDone := some v.modNs, abandonEp := false, buffer := !n.buffer
         state0 := if n.buffer then o.state else n.state0, state1 := if n.buffer then n.state1 else o.state
         done := ((v.modNs, x.k, x.gap, x.calver, n.resets) :: n.done).take 16 })).tankTaken k.val o.tank
       let y := a.stepLanes k.val o
       let b := if a.flag (F.FUS_NET_TILES_GEN k.val) = true then a.emit (a.fld (F.FUS_NET_TILES_FIRST k.val))
         (a.fld (F.FUS_NET_TILES_GROUTE k.val)) x.k 0 true true [outFlit y.1 y.2 false false x.k 0] else a
       let d := o.tracks.foldl (fun z q => z.trackNote k.val q) b
       if d.flag F.FUS_OUT_CTL_TRK = true ∧ d.flag F.FUS_OUT_CTL_EN = true
         then (d.netSt k.val).ids.foldl (fun z p => z.trackRecord k.val x (v.netSt k.val).ids p.1 p.2) d else d)) ∧
     (v.modNs < dl → Machine.exec (.fusionStepAbandon t k) s = .next v) ∧
     (dl ≤ v.modNs → let w := (v.modNet k.val (fun n => { n with steps := l, missed := n.missed + 1, abandonEp := true })).bump (F.FUS_NET_STAT_ABANDONED k.val)
       Machine.exec (.fusionStepAbandon t k) s = .next (if (v.netSt k.val).abandonEp = true then w else w.raise 102 k.val))) ∧
  (∀ (s : State) (t : Nat) (l : List (Nat × Int)), let v := s.tick t
    (v.flag F.FUS_CAL_CTL_REFINE = false ∨ v.atWhole (10 * psPerS) = false ∨ (v.fus.ego.getD 0 0).natAbs ≤ 2000 ∨ v.gns.fix < 2 →
      Machine.exec (.calRefine t l) s = .next v) ∧
    (v.flag F.FUS_CAL_CTL_REFINE = true → v.atWhole (10 * psPerS) = true → 2000 < (v.fus.ego.getD 0 0).natAbs → 2 ≤ v.gns.fix →
      ∀ (p b : Nat) (e : Int), l = [(p, e)] → calBound p = some b → let h := toSigned 32 (spGet v.fus.calHost p)
      ((e - h).natAbs < b → let w := { v with fus := { v.fus with calUse := spSet v.fus.calUse p (ofSigned 32 e) } }
        Machine.exec (.calRefine t l) s = .next (if w.calDrifted then w.publishCal true else w)) ∧
      (h + b ≤ e → v.fus.atBound.contains p = true → let a : State := { v with fus := { v.fus with calUse := spSet v.fus.calUse p (ofSigned 32 (h + b)) } }
        let w := a.setFlag F.FUS_CAL_CTL_ATBOUND true
        Machine.exec (.calRefine t l) s = .next (if w.calDrifted then w.publishCal true else w)))) ∧
  (∀ (s : State) (t : Nat) (x : Word), let v := s.tick t; let w := v.plainWrite R.FUS_CAL_CTL (x ||| 1#32)
    Machine.exec (.fusCalPublish t x) s = .next ((State.publishCal { w with fus := { w.fus with
      calUse := w.fus.calBase, calHost := w.fus.calBase, atBound := [] } } false).allNetsCause 3))

/-- Generator n fires at PHASE plus a multiple of PERIOD, damages a frame still open with cause 7, begins the
steps of its networks and, with the link up, sends a pulse of TPW us (0 as 1) and awaits a frame. Its set-up
is excluded while it is enabled; PERIOD is kept in range and a new enable waits 1 ms. WIDE is refused while a
port is enabled, and with EN already set samples the ring (log entry 104). A port enable that R183 forbids,
such as ports 4 to 15 without WIDE or a mode other than FIELD, ROAD and SERVICE, sets REFUSED and event 119;
the set-up of an enabled port is refused with CFGREJ. An I2C transfer is refused while one runs; its end
stores the byte read or I2CNACK. Link loss raises event 112 once, forgets the triggers and damages an open
frame with cause 8; its return raises 113. -/
def Obligations.CameraPorts : Prop :=
  (∀ (s : State) (t : Nat) (n : Fin 16), let v := s.tick t
    let p := max 1 (v.fld (F.FUS_TRG_CFG_PERIOD_US n.val)) * 1000; let ph := (v.fld (F.FUS_TRG_PH_PHASE n.val) * 10) % p
    let fire := v.flag (F.FUS_TRG_CFG_EN n.val) = true ∧ v.atWhole 1000 = true ∧ ph ≤ v.modNs ∧ (v.modNs - ph) % p = 0 ∧ spGet v.fus.trgFrom n.val ≤ v.modNs
    (¬fire → Machine.exec (.cameraTrigger t n) s = .next v) ∧
    (fire → let w := v.camDamage n.val 7; let k := (v.modNs - ph) / p
      (w.flag (F.CAM_PORT_STAT_LINK n.val) = false → Machine.exec (.cameraTrigger t n) s = .next (w.beginSteps n.val k)) ∧
      (w.flag (F.CAM_PORT_STAT_LINK n.val) = true → Machine.exec (.cameraTrigger t n) s = .next ((w.modPort n.val (fun x => { x with
        trigs := (w.modNs, k) :: x.trigs.filter (fun q => decide (w.modNs < q.1 + 26000000))
        pulse := some (w.modNs, w.modNs + max 1 (w.fld (F.CAM_PORT_TIM_TPW n.val)) * 1000) })).beginSteps n.val k)))) ∧
  (∀ (s : State) (t : Nat) (n : Fin 16) (x : Word), let v := s.tick t; let w := v.plainWrite (R.FUS_TRG_CFG n.val) x
    let z := w.setFld (F.FUS_TRG_CFG_PERIOD_US n.val) (clampNat 1000 1000000 (w.fld (F.FUS_TRG_CFG_PERIOD_US n.val)))
    (v.flag (F.FUS_TRG_CFG_EN n.val) = true → ∀ b, Machine.exec (.fusTrgWrite t n b x) s = .next (v.setFlag ⟨R.FUS_TRG_STAT, n.val, 1⟩ true)) ∧
    (v.flag (F.FUS_TRG_CFG_EN n.val) = false → Machine.exec (.fusTrgWrite t n true x) s = .next (v.plainWrite (R.FUS_TRG_PH n.val) x)) ∧
    (v.flag (F.FUS_TRG_CFG_EN n.val) = false → Machine.exec (.fusTrgWrite t n false x) s =
      .next (if x.getLsbD 31 = true then { z with fus := { z.fus with trgFrom := spSet z.fus.trgFrom n.val (z.modNs + 1000000) } } else z))) ∧
  (∀ (s : State) (t : Nat) (x : Word), let v := s.tick t
    ((∃ n, n < 16 ∧ v.flag (F.CAM_PORT_CFG_EN n) = true) → Machine.exec (.camWideWrite t x) s = .next (v.setFlag F.CAM_GLB_STAT_WIDEREJ true)) ∧
    ((∀ n, n < 16 → v.flag (F.CAM_PORT_CFG_EN n) = false) → let w := v.plainWrite R.CAM_GLB_CFG x
      Machine.exec (.camWideWrite t x) s = .next (if v.flag F.CAM_GLB_CFG_WIDE = false ∧ x.getLsbD 0 = true ∧ w.flag F.CAM_ST_CTL_EN = true
        then w.ringSample R.CAM_ST_BASE_LO 6 else w))) ∧
  (∀ (s : State) (t : Nat) (n : Fin 16) (x : Word), let v := s.tick t; let y := x ||| 1#32; let off := R.CAM_PORT_CFG n.val
    let no := ((v.plainWrite off (y &&& 0xFFFFFFFE#32)).setFlag (F.CAM_PORT_STAT_REFUSED n.val) true).raise 119 n.val
    (v.flag (F.CAM_PORT_CFG_EN n.val) = true → Machine.exec (.camPortEnable t n x) s =
      .next (if bitsOf y.toNat 1 19 ≠ bitsOf (v.reg off).toNat 1 19 then v.setFlag (F.CAM_PORT_STAT_CFGREJ n.val) true else v)) ∧
    (v.flag (F.CAM_PORT_CFG_EN n.val) = false → v.enableRefused n.val y = true → Machine.exec (.camPortEnable t n x) s = .next no) ∧
    (v.flag (F.CAM_PORT_CFG_EN n.val) = false → (v.mode.images = false ∨ (v.flag F.CAM_GLB_CFG_WIDE = false ∧ 4 ≤ n.val) ∨ v.camWidth n.val < 64 ∨
      8192 < v.camWidth n.val ∨ v.camHeight n.val < 16 ∨ 8192 < v.camHeight n.val) → Machine.exec (.camPortEnable t n x) s = .next no) ∧
    (v.flag (F.CAM_PORT_CFG_EN n.val) = false → v.enableRefused n.val y = false → Machine.exec (.camPortEnable t n x) s = .next (v.plainWrite off y).showActive)) ∧
  (∀ (s : State) (t : Nat) (n : Fin 16) (i : Fin 13) (x : Word), let v := s.tick t
    let now := fun (l : List (Nat × Nat × Nat)) => l.filter (fun h => h.2.2 / mortarCycle == v.modTime / mortarCycle)
    Machine.exec (.camSettingWrite t n i x) s = .next ((v.modPort n.val (fun p => { p with
      held := if (now p.held).any (fun h => h.1 == i.val) then now p.held
        else (i.val, (v.reg (R.CAM_PORT_BLK0 n.val + 4 * i.val)).toNat, v.modTime) :: now p.held })).plainWrite (R.CAM_PORT_BLK0 n.val + 4 * i.val) x) ∧
    Machine.exec (.camI2cStart t n x) s = .next (if v.flag (F.CAM_PORT_STAT_I2CBUSY n.val) = true then v.setFlag (F.CAM_PORT_STAT_CFGREJ n.val) true
      else (v.setFlag (F.CAM_PORT_STAT_I2CBUSY n.val) true).modPort n.val (fun p => { p with i2c := some x.toNat }))) ∧
  (∀ (s : State) (t : Nat) (n : Fin 16) (d : Byte), let v := s.tick t
    let w := (v.setFlag (F.CAM_PORT_STAT_I2CBUSY n.val) false).modPort n.val (fun p => { p with i2c := none })
    (∀ a, (v.port n.val).i2c = none → Machine.exec (.camI2cDone t n a d) s = .next v) ∧
    (∀ x, (v.port n.val).i2c = some x → Machine.exec (.camI2cDone t n false d) s = .next (w.setFlag (F.CAM_PORT_STAT_I2CNACK n.val) true) ∧
      Machine.exec (.camI2cDone t n true d) s = .next (if bitOf x 7 = true then w.setFld (F.CAM_PORT_STAT_RDATA n.val) d.toNat else w))) ∧
  (∀ (s : State) (t : Nat) (n : Fin 16), let v := s.tick t; let w := v.setFlag (F.CAM_PORT_STAT_LINK n.val) false; let z := v.setFlag (F.CAM_PORT_STAT_LINK n.val) true
    ((v.port n.val).linkEp = true → Machine.exec (.camLinkLost t n) s = .next v) ∧
    ((v.port n.val).linkEp = false → Machine.exec (.camLinkLost t n) s = .next (((w.modPort n.val (fun p => { p with linkEp := true, trigs := [] })).raise 112 n.val).camDamage n.val 8)) ∧
    (v.flag (F.CAM_PORT_STAT_LINK n.val) = true → Machine.exec (.camLinkRestored t n) s = .next v) ∧
    (v.flag (F.CAM_PORT_STAT_LINK n.val) = false → Machine.exec (.camLinkRestored t n) s = .next ((z.modPort n.val (fun p => { p with linkEp := false })).raise 113 n.val)))

/-- A Frame Start on a live port within FSWIN of an awaited trigger opens a frame with the settings latched,
any other begins an orphan with event 118, discarded to its Frame End. A line of another VC or type is
FOREIGN; a header, CRC or length error damages the frame with cause 4, 5 or 6; a full tap buffer drops its
rest with cause 1, a full input buffer both with cause 3. A good line is scaled to 16 bits and kept. A tap
sends its next line that has been through the pipeline in packets of 16 flits, or raises TAPERR, or at the
deadline drops the rest with cause 2, as CAM_FRAME_DEADLINE does. Frame End closes a frame of HEIGHT lines,
with cause 6 or 7 else. Statistics of a whole frame go to the ring in wide use, or to the bank of ports 0 to 3
with event 115 unless HOLD. -/
def Obligations.CameraFrames : Prop :=
  (∀ (s : State) (t : Nat) (n : Fin 16), let v := s.tick t; let p := v.port n.val
    let on := v.flag (F.CAM_PORT_CFG_EN n.val) = true ∧ v.flag (F.CAM_PORT_STAT_LINK n.val) = true
    let win := fun (q : Nat × Nat) => decide (v.modNs ≤ q.1 + (v.fld (F.CAM_PORT_TIM_FSWIN n.val) * 100000 + 9)); let set := v.latchSettings n.val
    (¬on → Machine.exec (.csiFrameStart t n) s = .next v) ∧
    (∀ T k, on → p.open_ = none → p.orphan = false → p.trigs.find? win = some (T, k) →
      Machine.exec (.csiFrameStart t n) s = .next (v.setPort n.val { p with trigs := p.trigs.filter (fun q => q.1 != T), frames := p.frames ++ [{
        at_ := T, f := k % 2 ^ 32, cfg := (v.reg (R.CAM_PORT_CFG n.val)).toNat, fmt := (v.reg (R.CAM_PORT_FMT n.val)).toNat
        tim := (v.reg (R.CAM_PORT_TIM n.val)).toNat, settings := set, lines := [], closed := false, damage := 0
        begunA := false, begunB := false, linesA := 0, linesB := 0, sentA := 0, sentB := 0
        doneA := !bitOf (set.getD 3 0) 3, doneB := !bitOf (set.getD 4 0) 3, causeA := 0, causeB := 0, counted := false, statsDone := false }] })) ∧
    (on → p.open_ ≠ none ∨ p.orphan = true ∨ p.trigs.find? win = none → Machine.exec (.csiFrameStart t n) s =
      .next (((v.setPort n.val { p with orphan := true }).bump (F.CAM_PORT_CNT_ORPHAN n.val)).raiseOnce 118 n.val n.val))) ∧
  (∀ (s : State) (t vc dt : Nat) (n : Fin 16) (bh bc b1 : Bool) (l : List Nat), let v := s.tick t; let p := v.port n.val
    let run := Machine.exec (.csiLongPacket t n vc dt bh bc b1 l) s; let mine := vc = v.fld (F.CAM_PORT_CFG_VC n.val) ∧ dt = v.fld (F.CAM_PORT_CFG_DT n.val)
    (v.flag (F.CAM_PORT_CFG_EN n.val) = false → run = .next v) ∧
    (v.flag (F.CAM_PORT_CFG_EN n.val) = true → bh = false → ¬mine → run = .next (v.bump (F.CAM_PORT_CNT_FOREIGN n.val))) ∧
    (v.flag (F.CAM_PORT_CFG_EN n.val) = true → (bh = true ∨ mine) → (p.orphan = true ∨ p.open_ = none) → run = .next v) ∧
    (∀ f, v.flag (F.CAM_PORT_CFG_EN n.val) = true → p.orphan = false → p.open_ = some f →
      (f.statsDone = true → bh = true ∨ mine → run = .next v) ∧ (f.statsDone = false → bh = true → run = .next (v.camDamage n.val 4)) ∧
      (f.statsDone = false → bh = false → mine →
        let a := v.serveCams n.val l.length; let b := if (a.port n.val).tapFull false = true then a.tapDrop n.val f false 1 else a
        let w := if (a.port n.val).tapFull true = true then b.tapDrop n.val (b.frameAt n.val f) true 1 else b
        let g := w.frameAt n.val (b.frameAt n.val f)
        (2 ^ 20 < (a.port n.val).fill → run = .next (w.dropBoth n.val g)) ∧
        ((a.port n.val).fill ≤ 2 ^ 20 → bc = true → run = .next (w.camDamage n.val 5)) ∧
        ((a.port n.val).fill ≤ 2 ^ 20 → bc = false → (l.length ≠ g.width ∨ g.height ≤ g.lines.length) → run = .next (w.camDamage n.val 6)) ∧
        ((a.port n.val).fill ≤ 2 ^ 20 → bc = false → l.length = g.width → g.lines.length < g.height → run =
          .next (w.setFrame n.val { g with lines := g.lines ++ [l.map (fun x => (x % 2 ^ dtBits dt) * 2 ^ (16 - dtBits dt))] }))))) ∧
  (∀ (s : State) (t : Nat) (n : Fin 16) (b : Bool), let v := (s.tick t).serveCams n.val 0; let q := (v.port n.val).frames.find? (fun f => !f.done b)
    let run := Machine.exec (.tapLineSend t n b) s
    (q = none → run = .next v) ∧
    (∀ f, q = some f → let y := f.sent b; let r := f.tapRoute b; let o := !f.begun b; let lb := lineBytes f.width (f.lanes b)
      let w := v.atEmission (130 + n.val) r f.f o; let g := f.setTap b (y + 1) false (f.cause b)
      ((v.port n.val).ready f ≤ y → run = .next v) ∧
      (y < (v.port n.val).ready f → f.overdue v.modTime = true → run = .next ((v.tapDrop n.val f b 2).dropFinished n.val)) ∧
      (y < (v.port n.val).ready f → f.overdue v.modTime = false →
        (w.tapUsable n.val r o = false → run = .next ((((w.setFrame n.val g).tapError n.val b).tapMayClose n.val g b).dropFinished n.val)) ∧
        (w.tapUsable n.val r o = true → f.needs b y ≤ f.lines.length →
          let flits := flitsOf (lb / 16) (tapLine f.image f b y)
          let z := ((pieces 16 (flits.length + 1) flits).zipIdx).foldl (fun (a : State × Bool) p =>
            a.1.emitOn (130 + n.val) r f.f (y * lb + 256 * p.2) (o && p.2 == 0) false p.1) (w, false)
          run = .next (((z.1.setFrame n.val (g.note b z.2)).tapMayClose n.val (g.note b z.2) b).dropFinished n.val))))) ∧
  (∀ (s : State) (t : Nat) (n : Fin 16), let v := s.tick t; let p := v.port n.val
    (p.orphan = true → Machine.exec (.csiFrameEnd t n) s = .next (v.setPort n.val { p with orphan := false })) ∧
    (p.orphan = false → p.open_ = none → Machine.exec (.csiFrameEnd t n) s = .next v) ∧
    (∀ f, p.orphan = false → p.open_ = some f → let late := v.trgFires n.val = true ∧ f.at_ < v.modNs
      (f.lines.length ≠ f.height → f.statsDone = false → Machine.exec (.csiFrameEnd t n) s = .next (v.camDamage n.val 6)) ∧
      (f.lines.length = f.height ∨ f.statsDone = true → late → Machine.exec (.csiFrameEnd t n) s = .next (v.camDamage n.val 7)) ∧
      (f.lines.length = f.height ∨ f.statsDone = true → ¬late → let g := { f with closed := true }
        let w := ((v.setFrame n.val g).setFld (F.CAM_PORT_LAST_F n.val) f.f).modPort n.val (fun p => { p with damageEp := false })
        let a := w.tapMayClose n.val g false
        Machine.exec (.csiFrameEnd t n) s = .next ((a.tapMayClose n.val (a.frameAt n.val g) true).dropFinished n.val)))) ∧
  (∀ (s : State) (t : Nat) (n : Fin 16), let v := s.tick t
    let due := (v.port n.val).frames.filter (fun f => decide ((f.at_ * 1000 + bitsOf f.tim 0 16 * 100 * psPerUs) / mortarCycle ≤ v.modTime / mortarCycle))
    (due = [] → Machine.exec (.camFrameDeadline t n) s = .next (v.dropFinished n.val)) ∧
    (∀ f, due = [f] → let a := if f.sentA < f.height then v.tapDrop n.val f false 2 else v; let g := a.frameAt n.val f
      Machine.exec (.camFrameDeadline t n) s = .next ((if g.sentB < g.height then a.tapDrop n.val g true 2 else a).dropFinished n.val))) ∧
  (∀ (s : State) (t : Nat) (n : Fin 16), let v := s.tick t; let q := (v.port n.val).frames.find? (fun f => f.closed && f.damage == 0 && !f.statsDone)
    (q = none → Machine.exec (.camStatsReady t n) s = .next v) ∧
    (∀ f, q = some f → let w := (v.setFrame n.val { f with statsDone := true }).dropFinished n.val
      let held := w.flag F.CAM_ST_CTL_HOLD && w.cam.holdAt / mortarCycle != w.modTime / mortarCycle
      (w.flag F.CAM_GLB_CFG_WIDE = true → Machine.exec (.camStatsReady t n) s =
        .next (if w.flag F.CAM_ST_CTL_EN = true then w.ringPush camRing (statsBytes f.image f n.val) 0 else w)) ∧
      (w.flag F.CAM_GLB_CFG_WIDE = false → held = true → Machine.exec (.camStatsReady t n) s = .next (w.bump F.CAM_ST_STAT_DROP)) ∧
      (w.flag F.CAM_GLB_CFG_WIDE = false → held = false → Machine.exec (.camStatsReady t n) s =
        .next (if n.val < 4 then (w.writeBank n.val f.image).raise 115 n.val else w))))

/-- In RECOVERY a frame at the service port is answered if it is an ARP request for the module. A received
frame with a bad FCS counts; one that is too short, consumed, or not the port's is passed; any other is stored
in the ring with its length and time, or counts as dropped. A WPTR in range is taken, else RINGERR. The next
slot is sent, its time kept if asked, or counts TXERR. A link change sets LINK, SPEED and event 233. A message
sets the 802.1AS status; the grandmaster sends a Sync each interval. A unit record on a live path updates its
member and ends missing with event 232; 1 s of silence starts it, unless a record waits in the same cycle. The
machine digest and record follow a publication, the record as a message on every announcing path; each fleet
period makes one signed record. -/
def Obligations.FleetNetwork : Prop :=
  (∀ (s : State) (t sfd : Nat) (p : Fin 9) (f : List Byte) (ok : Bool), let v := s.tick t
    let run := Machine.exec (.ethFrameReceived t p f ok sfd) s; let off := R.FLT_ETH_RX_BASE_LO p.val; let cls := v.fld (F.FLT_ETH_CFG_CLASS p.val)
    let take := v.ethUp p.val = true ∧ ok = true ∧ 60 ≤ f.length ∧ f.length ≤ 1518 ∧ ethConsumed f = false ∧ v.ethMine p.val f = true
    (v.mode = .recovery → p.val ≠ 8 ∨ ok = false ∨ v.arpAnswer f = none → run = .next v) ∧
    (∀ a, v.mode = .recovery → p.val = 8 → ok = true → v.arpAnswer f = some a → run = .next (v.putSent 8 a)) ∧
    (v.mode ≠ .recovery → v.ethUp p.val = false → run = .next v) ∧ (v.ethUp p.val = true → ok = false → run = .next (v.bump (F.FLT_ETH_CNT_FCSERR p.val))) ∧
    (v.ethUp p.val = true → ok = true → (f.length < 60 ∨ 1518 < f.length ∨ ethConsumed f = true ∨ v.ethMine p.val f = false) → run = .next v) ∧
    (take → v.ringFull off = true → run = .next (v.bump (F.FLT_ETH_CNT_RXDROP p.val))) ∧
    (take → v.ringFull off = false → v.pastThreshold cls 256 = true → run = .next ((v.bump (F.FLT_ETH_CNT_RXDROP p.val)).raiseOnce 42 cls cls)) ∧
    (take → v.ringFull off = false → v.pastThreshold cls 256 = false → run = .next (v.ringStore
      ⟨off, 2048, 0, cls, some (F.FLT_ETH_CNT_RXDROP p.val), none, 0, true⟩
      (leBytes 16 (place f.length 0 11 + place (sfd * 5 / 16 * 16 / 5) 64 64) ++ f)))) ∧
  (∀ (s : State) (t : Nat) (p : Fin 9) (x : Word), let v := s.tick t; let off := R.FLT_ETH_TX_BASE_LO p.val; let r := v.fld (rptrOf off)
    let fits := sub16 (v.fld (wptrOf off)) r ≤ sub16 (x.toNat % 65536) r ∧ sub16 (x.toNat % 65536) r ≤ 2 ^ (v.ring off).log2
    (fits → Machine.exec (.ethTxWptrWrite t p x) s = .next (v.setFld (wptrOf off) (x.toNat % 65536))) ∧
    (¬fits → Machine.exec (.ethTxWptrWrite t p x) s = .next (v.setFlag F.GLB_STATUS_RINGERR true))) ∧
  (∀ (s : State) (t : Nat) (p : Fin 9) (fell : Bool), let v := s.tick t; let off := R.FLT_ETH_TX_BASE_LO p.val; let r := v.fld (rptrOf off)
    let a := (v.ring off).base + (r % 2 ^ (v.ring off).log2) * 2048; let h := (v.readFlit a).toNat; let n := bitsOf h 0 11
    let w := v.setFld (rptrOf off) (r + 1)
    (v.ethUp p.val = false ∨ v.fld (wptrOf off) = r → Machine.exec (.ethFrameSend t p fell) s = .next v) ∧
    (v.ethUp p.val = true → v.fld (wptrOf off) ≠ r → (n < 60 ∨ 1518 < n ∨ fell = true) → Machine.exec (.ethFrameSend t p fell) s =
      .next (w.bump (F.FLT_ETH_CNT_TXERR p.val))) ∧
    (v.ethUp p.val = true → v.fld (wptrOf off) ≠ r → 60 ≤ n → n ≤ 1518 → fell = false →
      let z := if bitOf h 16 = true then w.setPair (F.FLT_ETH_TXTS_LO_TS p.val) (F.FLT_ETH_TXTS_HI_TS p.val) w.modNs else w
      Machine.exec (.ethFrameSend t p fell) s = .next (z.putSent p.val (z.readBytes (a + 16) n)))) ∧
  (∀ (s : State) (t : Nat) (p : Fin 9) (sp : Fin 4), let v := s.tick t
    (v.ethServed = true → v.flag (F.FLT_ETH_STAT_LINK p.val) = false → Machine.exec (.ethLinkChange t p true sp) s =
      .next (((v.setFlag (F.FLT_ETH_STAT_LINK p.val) true).setFld (F.FLT_ETH_STAT_SPEED p.val) (ethSpeed p.val sp.val)).raise 233 (2 + 256 * p.val))) ∧
    (v.ethServed = true → v.flag (F.FLT_ETH_STAT_LINK p.val) = true → let w := (v.setFlag (F.FLT_ETH_STAT_LINK p.val) false).setFld (F.FLT_ETH_STAT_SPEED p.val) 0
      Machine.exec (.ethLinkChange t p false sp) s = .next (State.raise
        (if w.fld F.FLT_PTP_STAT_SPORT = p.val then w.setFlag F.FLT_PTP_STAT_VALID false else w) 233 (1 + 256 * p.val))) ∧
    (∀ up, v.ethServed = false ∨ v.flag (F.FLT_ETH_STAT_LINK p.val) = up → Machine.exec (.ethLinkChange t p up sp) s = .next v)) ∧
  (∀ (s : State) (t : Nat) (p : Fin 8) (m : PtpMessage), let v := s.tick t; let gm := m.grand && v.flag F.FLT_PTP_CFG_GMCAP
    let a := ((v.setFlag F.FLT_PTP_STAT_GM gm).setFld F.FLT_PTP_STAT_SPORT m.port).setFld F.FLT_PTP_STAT_GMCLASS m.cls
    let b := a.setFld F.FLT_PTP_OFS_OFS (ofSigned 32 (clampInt (-2147483648) 2147483647 m.ofs))
    (v.ethUp p.val = false ∨ v.flag F.FLT_PTP_CFG_EN = false → Machine.exec (.ptpMessageReceived t p m) s = .next v) ∧
    (v.ethUp p.val = true → v.flag F.FLT_PTP_CFG_EN = true → (m.sync = false ∨ gm = true) → Machine.exec (.ptpMessageReceived t p m) s =
      .next (a.setFlag F.FLT_PTP_STAT_VALID (!gm && m.capable && syncsGood a.flt.syncs))) ∧
    (v.ethUp p.val = true → v.flag F.FLT_PTP_CFG_EN = true → m.sync = true → gm = false → let l := ((b.modNs, m.intervalNs) :: b.flt.syncs).take 5
      Machine.exec (.ptpMessageReceived t p m) s = .next (State.setFlag { b with flt := { b.flt with syncs := l } } F.FLT_PTP_STAT_VALID (m.capable && syncsGood l)))) ∧
  (∀ (s : State) (t : Nat) (p : Fin 8), let v := s.tick t; let last := spGet v.flt.syncSent p.val
    let due := last = 0 ∨ last - 1 + 125 * psPerMs * 2 ^ v.fld F.FLT_PTP_CFG_SYNC ≤ v.modTime
    let go := v.ethUp p.val = true ∧ v.flag F.FLT_PTP_CFG_EN = true ∧ v.flag F.FLT_PTP_STAT_GM = true ∧ due
    (¬go → Machine.exec (.ptpSyncSend t p) s = .next v) ∧
    (go → Machine.exec (.ptpSyncSend t p) s = .next (State.putSent { v with flt := { v.flt with syncSent := spSet v.flt.syncSent p.val (v.modTime + 1) } } p.val
      ([BitVec.ofNat 8 (v.fld F.FLT_PTP_CFG_PRIO1), BitVec.ofNat 8 v.clockClass]
        ++ beBytes 10 (((v.modNs : Int) + v.tbOfs + 19000000000) % ((2 ^ 80 : Nat) : Int)).toNat)))) ∧
  (∀ (s : State) (t port src : Nat) (can : Bool) (b : List Byte), let v := s.tick t; let run := Machine.exec (.unitRecordReceived t can port src b) s
    let live := if can then v.canJoined port else v.ethUp port; let q := v.members.find? (v.memberIs can port src)
    (b.length < 17 ∨ (b.getD 0 0).toNat ≠ 1 ∨ live = false ∨ q = none → run = .next v) ∧
    (∀ i, 17 ≤ b.length → (b.getD 0 0).toNat = 1 → live = true → q = some i →
      let late := v.flt.memHere.contains i = true ∧ spGet v.flt.memAt i + psPerS < v.modTime; let a := if late then v.loseMember i else v
      let w := (a.setFld (F.FLT_MEM_EPOCH_EPOCH i) (leNat ((b.drop 4).take 4))).setPair (F.FLT_MEM_DIG_LO_DIG i) (F.FLT_MEM_DIG_HI_DIG i) (leNat ((b.drop 8).take 8))
      let loc := (if (b.getD 16 0).getLsbD 0 = true then [i] else []) ++ w.flt.memLocal.filter (fun k => k != i)
      let here := a.flt.memHere.contains i; let heard := a.flt.memHeard.contains i
      let z : State := { w with flt := { w.flt with
        memAt := spSet w.flt.memAt i w.modTime, memHere := if here then w.flt.memHere else i :: w.flt.memHere
        memHeard := if heard then w.flt.memHeard else i :: w.flt.memHeard, memLocal := loc } }
      run = .next (if here = false ∧ heard = true then z.raise 232 (i + 256) else z))) ∧
  (∀ (s : State) (t : Nat) (i : Fin 32), let v := s.tick t
    let gone := v.members.contains i.val = true ∧ v.flt.memHere.contains i.val = true ∧ spGet v.flt.memAt i.val + psPerS ≤ v.modTime ∧ v.recordWaits i.val = false
    (gone → Machine.exec (.memberMissing t i) s = .next (State.raise { v with flt := { v.flt with memHere := v.flt.memHere.filter (fun k => k != i.val) } }
      232 i.val)) ∧ (¬gone → Machine.exec (.memberMissing t i) s = .next v)) ∧
  (∀ (s : State) (t : Nat), let v := s.tick t; let w := v.setPair F.FLT_MACH_DIG_LO_DIG F.FLT_MACH_DIG_HI_DIG v.machineDigest
    Machine.exec (.machineDigestUpdate t) s = .next (if v.flt.digestDue = true then { w with flt := { w.flt with digestDue := false, recordDue := true } } else v) ∧
    (v.flt.recordDue = true → Machine.exec (.machineRecordSend t) s = .next (
      let z := v.annPaths.foldl (fun z p => z.putSent p (z.annMessage p 0x035272000001 0 v.machineRecord)) v
      { z with flt := { z.flt with recordDue := false, lastRecord := v.machineRecord } })) ∧
    (v.flt.recordDue = false → Machine.exec (.machineRecordSend t) s = .next v)) ∧
  (∀ (s : State) (t : Nat), let v := s.tick t
    let due := v.ethServed = true ∧ v.flag F.FLT_FLEET_CFG_EN = true ∧ 0 < v.modTime ∧ v.atWhole (v.fld F.FLT_FLEET_CFG_FLEET_S * psPerS) = true
    let head := (v.flt.lastRecord ++ List.replicate 56 0).take 56 ++ leBytes 8 v.nv.fleetSeq
    (¬due → Machine.exec (.fleetRecord t) s = .next v) ∧
    (due → Machine.exec (.fleetRecord t) s = .next (State.ringPush { v with nv := { v.nv with fleetSeq := (v.nv.fleetSeq + 1) % 2 ^ 64 } } fleetRing
      (head ++ leBytes 64 (Config.identitySignature (ascii "FV7204FL" ++ head)).toNat) 3)))

/-- A challenge of SUBTYPE 3 on an announced path is answered with the signature, at most four times in a
second. A due anchor challenge draws 32 bytes that the model leaves free and goes out on every announcing path
(log entry 128). Its answer binds, mismatches, or completes a REBIND; 10 s without one is ABSENT. Reading the
nonce draws eight free words; a session ends when its time is up. ID_SIGN writes the response at BUF plus 64;
SESSION_OPEN from context 0 with a good token opens the session with its rights, else FAULT_ACCESS;
SESSION_CLOSE ends it; REBIND needs a session with right 1, BOOT or SERVICE, then waits, for 10 s at most. -/
def Obligations.FleetIdentity : Prop :=
  (∀ (s : State) (t src : Nat) (p : Fin 10) (b : List Byte), let v := s.tick t
    let l := (spGet v.flt.answered p.val).filter (fun a => decide (v.modTime < a + psPerS)); let c := (b.drop 4).take 32; let id := leBytes 8 v.moduleId
    let mine := 36 ≤ b.length ∧ (b.getD 0 0).toNat = 3 ∧ v.annPaths.contains p.val = true
    (¬mine → Machine.exec (.identityChallenge t p ⟨src, b⟩) s = .next v) ∧
    (mine → 4 ≤ l.length → Machine.exec (.identityChallenge t p ⟨src, b⟩) s = .next (v.bump F.FLT_BIND_STAT_CHIGN)) ∧
    (mine → l.length < 4 → let w := { v with flt := { v.flt with answered := spSet v.flt.answered p.val (v.modTime :: l) } }
      Machine.exec (.identityChallenge t p ⟨src, b⟩) s = .next (w.putSent p.val (w.annMessage p.val src 3
        ([4, 0, 0, 0] ++ c ++ id ++ leBytes 64 (Config.identitySignature (ascii "FV7204ID" ++ c ++ id)).toNat))))) ∧
  (∀ (s : State) (t : Nat), let v := s.tick t; let x := Config.freeValue 256 v.freeCtr
    let w := { v with freeCtr := v.freeCtr + 1, flt := { v.flt with challenge := x.toNat, challengeAt := some v.modTime } }
    (v.ethServed = false ∨ v.challengeDue = false → Machine.exec (.anchorChallenge t) s = .next v) ∧
    (v.ethServed = true → v.challengeDue = true → Machine.exec (.anchorChallenge t) s =
      .next (w.annPaths.foldl (fun z p => z.putSent p (z.annMessage p 0x035272000001 4 ([3, 0, 0, 0] ++ leBytes 32 x.toNat))) w))) ∧
  (∀ (s : State) (t a : Nat) (b : List Byte) (m : BindRecord) (okR okN : Bool), let v := s.tick t; let id := leNat ((b.drop 36).take 8); let st := v.bstate
    let run := Machine.exec (.anchorResponse t b okR okN) s
    let fail := State.henMake ((v.setFld F.FLT_BIND_STAT_BSTATE 3).raise 234 3) sevError 234 3
    (v.flt.challengeAt = none → run = .next v) ∧ (v.flt.challengeAt = some a →
    (b.length < 108 ∨ (b.getD 0 0).toNat ≠ 4 ∨ leNat ((b.drop 4).take 32) ≠ v.flt.challenge → run = .next v) ∧
    (108 ≤ b.length → (b.getD 0 0).toNat = 4 → leNat ((b.drop 4).take 32) = v.flt.challenge →
      (∀ r, v.flt.rebinds.find? (fun r => okN && r.id == id && decide (r.at_ ≤ a) && decide (v.modTime ≤ r.at_ + 10 * psPerS)) = some r → run = .next (v.bindTo r)) ∧
      (v.flt.rebinds = [] → v.nv.binding = some m → (st = 1 ∨ st = 3 ∨ st = 4) → okR = true → id = m.machine →
        run = .next (v.setFld F.FLT_BIND_STAT_BSTATE 2)) ∧
      (v.flt.rebinds = [] → v.nv.binding = some m → (st = 1 ∨ st = 4) → (okR = true ↔ id ≠ m.machine) → run = .next fail) ∧
      (v.flt.rebinds = [] → v.nv.binding = none ∨ st = 0 ∨ st = 2 ∨ (v.nv.binding = some m ∧ okR = false ∧ id ≠ m.machine) ∨
        (v.nv.binding = some m ∧ st = 3 ∧ (okR = true ↔ id ≠ m.machine)) → run = .next v)))) ∧
  (∀ (s : State) (t a : Nat), let v := s.tick t; v.flt.readyAt = some a →
    (v.bstate = 1 → a + 10 * psPerS ≤ v.modTime → Machine.exec (.bindingAbsent t) s =
      .next (State.henMake ((v.setFld F.FLT_BIND_STAT_BSTATE 4).raise 234 4) sevError 234 4)) ∧
    (v.bstate ≠ 1 ∨ v.modTime < a + 10 * psPerS → Machine.exec (.bindingAbsent t) s = .next v)) ∧
  (∀ (s : State) (t : Nat), let v := s.tick t; let ended := (v.setFlag F.FLT_BIND_STAT_SESSION false).setFld F.FLT_BIND_STAT_RIGHTS 0
    (let w := (List.range 8).foldl (fun z i => z.setFld (F.FLT_SES_NONCE_NONCE i) (Config.freeValue 32 (v.freeCtr + i)).toNat) { v with freeCtr := v.freeCtr + 8 }
     Machine.exec (.sessionNonceDraw t) s = .next { w with flt := { w.flt with nonceFresh := true }, busData := w.reg (R.FLT_SES_NONCE 0) }) ∧
    (v.flag F.FLT_BIND_STAT_SESSION = true → v.flt.sessionEnd ≤ v.modTime → Machine.exec (.sessionExpiry t) s = .next ended) ∧
    (v.flag F.FLT_BIND_STAT_SESSION = false ∨ v.modTime < v.flt.sessionEnd → Machine.exec (.sessionExpiry t) s = .next v)) ∧
  (∀ (s : State) (t : Nat) (c : Fin 4096) (tag : Nat) (o : Op), Startable (s.tick t) c.val tag 0x60 o →
    let v := begun (s.tick t) o; let z := running (s.tick t) o
    Machine.exec (.idSign t c tag true) s = .next (v.finish z codeFaultAccess 2 0) ∧
    Machine.exec (.idSign t c tag false) s = .next ((v.writeBytes (o.buf + 64) (v.identityResponse (v.readBytes o.buf 32))).finish z codeDone 0 0)) ∧
  (∀ (s : State) (t : Nat) (c : Fin 4096) (tag : Nat) (o : Op) (ok : Bool), Startable (s.tick t) c.val tag 0x61 o →
    let v := begun (s.tick t) o; let z := running (s.tick t) o; let tok := v.readBytes o.buf 128; let n := leNat ((tok.drop 44).take 4)
    let nonce := (List.range 8).flatMap (fun i => leBytes 4 (v.fld (F.FLT_SES_NONCE_NONCE i))); let rights := (tok.getD 40 0).toNat % 4
    let good := ok = true ∧ v.flt.nonceFresh = true ∧ tok.take 32 = nonce ∧ leNat ((tok.drop 32).take 8) = v.moduleId ∧ 1 ≤ n ∧ n ≤ 86400
    let w := (v.setFlag F.FLT_BIND_STAT_SESSION true).setFld F.FLT_BIND_STAT_RIGHTS rights
    (o.ctx ≠ 0 → ∀ ecc, Machine.exec (.sessionOpen t c tag ecc ok) s = .next (v.finish z codeFaultAccess 1 0)) ∧
    (o.ctx = 0 → Machine.exec (.sessionOpen t c tag true ok) s = .next (v.finish z codeFaultAccess 2 0)) ∧
    (o.ctx = 0 → ¬good → Machine.exec (.sessionOpen t c tag false ok) s = .next (v.finish z codeFaultAccess 1 0)) ∧
    (o.ctx = 0 → good → Machine.exec (.sessionOpen t c tag false ok) s = .next (State.finish { w with flt := { w.flt with
      nonceFresh := false, sessionEnd := w.modTime + n * psPerS } } z codeDone 0 rights))) ∧
  (∀ (s : State) (t : Nat) (c : Fin 4096) (tag : Nat) (o : Op), Startable (s.tick t) c.val tag 0x62 o → let v := begun (s.tick t) o; let z := running (s.tick t) o
    (o.ctx ≠ 0 → Machine.exec (.sessionClose t c tag) s = .next (v.finish z codeFaultAccess 1 0)) ∧
    (o.ctx = 0 → Machine.exec (.sessionClose t c tag) s = .next (((v.setFlag F.FLT_BIND_STAT_SESSION false).setFld F.FLT_BIND_STAT_RIGHTS 0).finish z codeDone 0 0))) ∧
  (∀ (s : State) (t : Nat) (c : Fin 4096) (tag : Nat) (o : Op) (ecc : Bool), Startable (s.tick t) c.val tag 0x63 o →
    let v := begun (s.tick t) o; let z := running (s.tick t) o; let may := v.flag F.FLT_BIND_STAT_SESSION = true ∧ v.modTime < v.flt.sessionEnd ∧ bitOf (v.fld F.FLT_BIND_STAT_RIGHTS) 1 = true
    (o.ctx ≠ 0 ∨ ¬may → Machine.exec (.rebind t c tag ecc) s = .next (v.finish z codeFaultAccess 1 0)) ∧
    (o.ctx = 0 → may → v.mode ≠ .boot → v.mode ≠ .service → Machine.exec (.rebind t c tag ecc) s = .next (v.finish z codeRefusedMode v.mode.code 0)) ∧
    (o.ctx = 0 → may → (v.mode = .boot ∨ v.mode = .service) → ecc = true → Machine.exec (.rebind t c tag ecc) s = .next (v.finish z codeFaultAccess 2 0)) ∧
    (o.ctx = 0 → may → (v.mode = .boot ∨ v.mode = .service) → ecc = false → Machine.exec (.rebind t c tag ecc) s = .next { v with flt := { v.flt with
      rebinds := v.flt.rebinds ++ [⟨o.ctx, o.tag, leNat (v.readBytes o.buf 8), leNat (v.readBytes (o.buf + 8) 64), v.modTime⟩] } })) ∧
  (∀ (s : State) (t : Nat) (c : Fin 4096) (tag : Nat) (r : Rebind), let v := s.tick t
    v.flt.rebinds.find? (fun r => r.ctx == c.val && r.tag == tag) = some r →
    (v.modTime < r.at_ + 10 * psPerS → Machine.exec (.rebindTimeout t c tag) s = .next v) ∧
    (r.at_ + 10 * psPerS ≤ v.modTime → Machine.exec (.rebindTimeout t c tag) s = .next (State.finishWaiter { v with flt := { v.flt with
      rebinds := v.flt.rebinds.filter (fun x => x != r) } } (some (c.val, tag)) codeFaultAccess 3 0)))

/-- A command word with several of the four bits set carries out none and is a bad access. STAGE is refused
while a set is armed or a stage runs, else it drops the staged set and starts. At its end the container is
refused with its REASON and event 239, or waits in the inactive slot with event 236. ARM is refused with 6, 7
or 8, the last for a time outside 2 s to 7 days ahead, else arms with that time and keeps the reference time
known in LOCKED and HOLDOVER. DISARM acts up to 1 s before the armed time; DISCARD drops a set that is not
armed and leaves the images. At the time the set is activated in COMPAT, ROAD, SERVICE or BOOT with the
machine still, else deferred with event 237. -/
def Obligations.UpdateStaging : Prop :=
  (∀ (s : State) (t : Nat) (x : Word), let v := s.tick t; let w := v.setFld F.GLB_UPD_CTL_GROUP (bitsOf x.toNat 16 16)
    let many := fun (k : Nat) => 1 < ((List.range 4).filter (bitOf (x.toNat ||| k))).length
    (many 1 → ∀ ok, Machine.exec (.updateStage t x ok) s = .next w.badAccess) ∧ (many 2 → Machine.exec (.updateArm t x) s = .next w.badAccess) ∧
    (many 4 → Machine.exec (.updateDisarm t x) s = .next w.badAccess) ∧ (many 8 → Machine.exec (.updateDiscard t x) s = .next w.badAccess)) ∧
  (∀ (s : State) (t : Nat) (x : Word) (ok : Bool), let v := s.tick t; let w := v.setFld F.GLB_UPD_CTL_GROUP (bitsOf x.toNat 16 16)
    let r := w.stageReason ok; bitsOf x.toNat 1 3 = 0 →
    (w.flag F.GLB_UPD_STAT_ARMED = true ∨ w.flag F.GLB_UPD_STAT_STAGING = true → Machine.exec (.updateStage t x ok) s =
      .next (((w.setFlag F.GLB_UPD_STAT_REFUSED true).setFld F.GLB_UPD_STAT_REASON (if r = 0 then 6 else r)).raise 239 (if r = 0 then 6 else r))) ∧
    (w.flag F.GLB_UPD_STAT_ARMED = false → w.flag F.GLB_UPD_STAT_STAGING = false → Machine.exec (.updateStage t x ok) s =
      .next (w.dropStaged.setFlag F.GLB_UPD_STAT_STAGING true))) ∧
  (∀ (s : State) (t : Nat) (ok : Bool), let v := s.tick t; let r := v.stageReason ok; let w := v.setFlag F.GLB_UPD_STAT_STAGING false
    let img := imageOf (v.readBytes v.updSrc v.updLen)
    (v.flag F.GLB_UPD_STAT_STAGING = false → Machine.exec (.updateStageDone t ok) s = .next v) ∧
    (v.flag F.GLB_UPD_STAT_STAGING = true → r ≠ 0 → Machine.exec (.updateStageDone t ok) s =
      .next (((w.setFlag F.GLB_UPD_STAT_REFUSED true).setFld F.GLB_UPD_STAT_REASON r).raise 239 r)) ∧
    (v.flag F.GLB_UPD_STAT_STAGING = true → r = 0 → Machine.exec (.updateStageDone t ok) s =
      .next (((State.setFlag { w with nv := { w.nv.putOther (some img) with staged := true, failedSet := false } } F.GLB_UPD_STAT_STAGED true).setFld
        F.GLB_UPD_ID_STG_IMAGE_ID img.id).raise 236 img.id))) ∧
  (∀ (s : State) (t : Nat) (x : Word), let v := s.tick t; let w := v.setFld F.GLB_UPD_CTL_GROUP (bitsOf x.toNat 16 16)
    let no := fun n => State.raise ((w.setFlag F.GLB_UPD_STAT_REFUSED true).setFld F.GLB_UPD_STAT_REASON n) 239 n
    let ref := if w.tbState = 2 ∨ w.tbState = 3 then some ((w.updTime : Int) + w.tbOfs) else none
    let busy := w.flag F.GLB_UPD_STAT_ARMED || w.flag F.GLB_UPD_STAT_STAGING
    let soon := w.updTime < w.modNs + 2000000000 ∨ w.modNs + 604800000000000 < w.updTime
    bitsOf x.toNat 2 2 = 0 → bitOf x.toNat 0 = false →
    (busy = true → Machine.exec (.updateArm t x) s = .next (no 6)) ∧
    (busy = false → w.flag F.GLB_UPD_STAT_STAGED = false → Machine.exec (.updateArm t x) s = .next (no 7)) ∧
    (busy = false → w.flag F.GLB_UPD_STAT_STAGED = true → soon → Machine.exec (.updateArm t x) s = .next (no 8)) ∧
    (busy = false → w.flag F.GLB_UPD_STAT_STAGED = true → ¬soon → Machine.exec (.updateArm t x) s =
      .next (State.setFlag { w with boot := { w.boot with armRef := ref, toConvert := none, updAt := w.updTime } } F.GLB_UPD_STAT_ARMED true))) ∧
  (∀ (s : State) (t : Nat) (x : Word), let v := s.tick t; let w := v.setFld F.GLB_UPD_CTL_GROUP (bitsOf x.toNat 16 16)
    let can := w.flag F.GLB_UPD_STAT_ARMED = true ∧ w.nv.defer = false ∧ (w.boot.toConvert ≠ none ∨ w.modNs + 1000000000 ≤ w.boot.updAt)
    bitsOf x.toNat 0 2 = 0 → bitOf x.toNat 3 = false →
    (can → Machine.exec (.updateDisarm t x) s = .next (State.setFlag { w with boot := { w.boot with armRef := none, toConvert := none } }
      F.GLB_UPD_STAT_ARMED false)) ∧
    (¬can → Machine.exec (.updateDisarm t x) s = .next w)) ∧
  (∀ (s : State) (t : Nat) (x : Word), let v := s.tick t; let w := v.setFld F.GLB_UPD_CTL_GROUP (bitsOf x.toNat 16 16); bitsOf x.toNat 0 3 = 0 →
    (w.flag F.GLB_UPD_STAT_ARMED = true ∨ w.flag F.GLB_UPD_STAT_STAGED = false → Machine.exec (.updateDiscard t x) s = .next w) ∧
    (w.flag F.GLB_UPD_STAT_ARMED = false → w.flag F.GLB_UPD_STAT_STAGED = true → Machine.exec (.updateDiscard t x) s = .next (
      let z := (w.setFlag F.GLB_UPD_STAT_STAGED false).setFld F.GLB_UPD_ID_STG_IMAGE_ID 0
      { z with nv := { z.nv with staged := false } }))) ∧
  (∀ (s : State) (t : Nat), let v := s.tick t
    let due := v.flag F.GLB_UPD_STAT_ARMED = true ∧ v.nv.defer = false ∧ v.boot.toConvert = none ∧ v.boot.updAt ≤ v.modNs
    let still := (v.mode = .compat ∨ v.mode = .road ∨ v.mode = .service ∨ v.mode = .boot) ∧ v.flag F.GOO_STAT_STILL = true ∧ v.flag F.GOO_STAT_HDRENG = false
    (¬due → Machine.exec (.updateActivation t) s = .next v) ∧
    (due → still → Machine.exec (.updateActivation t) s =
      .next ((State.setFlag { v with nv := { v.nv.activate with wakeOwed := true } } F.GLB_UPD_STAT_ARMED false).pendMode .standby)) ∧
    (due → ¬still → Machine.exec (.updateActivation t) s = .next ((State.setFlag { v with nv := { v.nv with defer := true } }
      F.GLB_UPD_STAT_DEFER true).raise 237 (v.fld F.GLB_UPD_CTL_GROUP))))

/-- In RECOVERY a request for another file, or a read, is answered with error 2, another transfer mode with
error 0; the write request for the file opens the download, with an option acknowledgement or ACK 0. The next
block is kept and acknowledged, a shorter one ends the data, a repeated one is acknowledged only. On CAN,
START opens, DATA in sequence is kept and answered 0, a repeat is only answered, another sequence number gets
1, a byte too many 2. END ends, or is answered 1 with no download open (log entry 124). The container is
refused (3, event 239), not written (4), or replaces both slots, the NOR image and the loader and drops staged
and armed sets; then, with RCV_N high, the ROM enters BOOT. -/
def Obligations.RecoveryDownloads : Prop :=
  (∀ (s : State) (t : Nat) (wr oct : Bool) (f : List Byte) (b n : Option Nat), let v := s.tick t
    (v.mode ≠ .recovery → Machine.exec (.recoveryTftpRequest t wr f oct b n) s = .next v) ∧
    (v.mode = .recovery → (wr = false ∨ f ≠ pletuName) → Machine.exec (.recoveryTftpRequest t wr f oct b n) s = .next (v.answerWith [0, 5, 0, 2, 0])) ∧
    (v.mode = .recovery → wr = true → f = pletuName → oct = false → Machine.exec (.recoveryTftpRequest t wr f oct b n) s = .next (v.answerWith [0, 5, 0, 0, 0])) ∧
    (v.mode = .recovery → wr = true → f = pletuName → oct = true → v.boot.rxOpen = true → Machine.exec (.recoveryTftpRequest t wr f oct b n) s = .next v) ∧
    (v.mode = .recovery → wr = true → f = pletuName → oct = true → v.boot.rxOpen = false →
      let blk := b.bind (fun k => if 512 ≤ k then some (min k 1468) else none)
      let w := { v with boot := { v.boot with rxOpen := true, rxDone := false, rxNext := 1, rxBytes := [], rxLen := n.getD 0, tftpBlk := blk.getD 512 } }
      Machine.exec (.recoveryTftpRequest t wr f oct b n) s = .next (
        if blk = none ∧ n = none then w.answerWith [0, 4, 0, 0] else w.answerWith ([0, 6] ++ oackOptions blk n)))) ∧
  (∀ (s : State) (t k : Nat) (d : List Byte), let v := s.tick t; let b := v.boot
    v.mode = .recovery → b.rxOpen = true → b.rxDone = false → b.tftpBlk ≠ 0 → let e := d.take b.tftpBlk
    (k = b.rxNext % 65536 → e.length = b.tftpBlk → Machine.exec (.recoveryTftpData t k d) s =
      .next (State.answerWith { v with boot := { b with rxNext := b.rxNext + 1, rxBytes := b.rxBytes ++ e } } [0, 4, k / 256, k % 256])) ∧
    (k = b.rxNext % 65536 → e.length < b.tftpBlk → Machine.exec (.recoveryTftpData t k d) s =
      .next { v with boot := { b with rxNext := b.rxNext + 1, rxBytes := b.rxBytes ++ e, rxDone := true
                                      rxLen := if b.rxLen = 0 then b.rxBytes.length + e.length else b.rxLen } }) ∧
    (k ≠ b.rxNext % 65536 → k = (b.rxNext - 1) % 65536 → Machine.exec (.recoveryTftpData t k d) s = .next (v.answerWith [0, 4, k / 256, k % 256])) ∧
    (k ≠ b.rxNext % 65536 → k ≠ (b.rxNext - 1) % 65536 → Machine.exec (.recoveryTftpData t k d) s = .next v)) ∧
  (∀ (s : State) (t : Nat) (d : List Byte), let v := s.tick t
    (v.mode = .recovery → d.length = 8 → natAt d 0 1 = 1 → Machine.exec (.recoveryCanStart t d) s = .next (State.answerWith { v with boot := { v.boot with
      rxOpen := true, rxDone := false, rxNext := 0, rxBytes := [], rxLen := natAt d 1 4, tftpBlk := 0 } } [0x81, 0, 0, 0, 0, 0, 0, 0])) ∧
    (v.mode ≠ .recovery ∨ d.length ≠ 8 ∨ natAt d 0 1 ≠ 1 → Machine.exec (.recoveryCanStart t d) s = .next v)) ∧
  (∀ (s : State) (t : Nat) (d : List Byte), let v := s.tick t; let b := v.boot; let q := natAt d 1 1
    let ans := fun (w : State) (n : Nat) => w.answerWith [0x82, q, n, 0, 0, 0, 0, 0]
    v.mode = .recovery → d.length = 8 → natAt d 0 1 = 2 → b.tftpBlk = 0 →
    (b.rxOpen = false ∨ b.rxDone = true → Machine.exec (.recoveryCanData t d) s = .next (ans v 1)) ∧
    (b.rxOpen = true → b.rxDone = false → b.rxNext ≠ 0 → q = (b.rxNext - 1) % 256 → Machine.exec (.recoveryCanData t d) s = .next (ans v 0)) ∧
    (b.rxOpen = true → b.rxDone = false → q ≠ b.rxNext % 256 → (b.rxNext = 0 ∨ q ≠ (b.rxNext - 1) % 256) →
      Machine.exec (.recoveryCanData t d) s = .next (ans v 1)) ∧
    (b.rxOpen = true → b.rxDone = false → q = b.rxNext % 256 → b.rxLen ≤ b.rxBytes.length → Machine.exec (.recoveryCanData t d) s = .next (ans v 2)) ∧
    (b.rxOpen = true → b.rxDone = false → q = b.rxNext % 256 → b.rxBytes.length < b.rxLen → Machine.exec (.recoveryCanData t d) s =
      .next (ans { v with boot := { b with rxNext := b.rxNext + 1, rxBytes := b.rxBytes ++ (bytesAt d 2 6).take (b.rxLen - b.rxBytes.length) } } 0)) ) ∧
  (∀ (s : State) (t : Nat) (d : List Byte), let v := s.tick t; let b := v.boot; v.mode = .recovery → d.length = 8 → natAt d 0 1 = 3 → b.tftpBlk = 0 →
    Machine.exec (.recoveryCanEnd t d) s = .next (if b.rxOpen = true then { v with boot := { b with rxDone := true } } else v.answerWith [0x83, 0, 1, 0, 0, 0, 0, 0])) ∧
  (∀ (s : State) (t : Nat) (ok wr : Bool), let v := s.tick t; let b := v.boot
    let r := if b.rxBytes.length ≠ b.rxLen then 1 else containerReason b.rxBytes b.rxLen ok v.nv.minSvn; let img := imageOf b.rxBytes
    let w := { v with boot := { b with rxOpen := false, rxDone := false, rxBytes := [] } }
    v.mode = .recovery → b.rxOpen = true → b.rxDone = true →
    (r ≠ 0 → Machine.exec (.recoveryDownloadDone t ok wr) s = .next ((w.rxAnswer 3).raise 239 r)) ∧
    (r = 0 → wr = false → Machine.exec (.recoveryDownloadDone t ok wr) s = .next (w.rxAnswer 4)) ∧
    (r = 0 → wr = true → let z := w.setFlag F.GLB_UPD_STAT_ARMED false
      Machine.exec (.recoveryDownloadDone t ok wr) s = .next (State.rxAnswer { z with
        boot := { z.boot with rxDone := true, armRef := none, toConvert := none }
        nv := { v.nv with imageA := some img, imageB := none, slotB := false, nor := img, loader := img.loader, bootCnt := 0, staged := false
                          failedSet := false, firstStart := false, newSlot := false, defer := false, armDropped := false } } 0))) ∧
  (∀ (s : State) (t : Nat) (h : Bool), let v := s.tick t
    (v.mode ≠ .recovery ∨ v.boot.rxOpen = true ∨ v.boot.rxDone = false ∨ h = false → Machine.exec (.recoveryExit t h) s = .next v) ∧
    (v.mode = .recovery → v.boot.rxOpen = false → v.boot.rxDone = true → h = true →
      Machine.exec (.recoveryExit t h) s = .next { v.henFlush.hubReset .boot with bootAt := v.now }))
end

