-- ==== Sys2Proof/Laws/Sparse.lean ====
section
/-!
SUPPORT. Laws/Sparse.lean: the sparse maps read back what was written, leave every other key alone, and
stay in canonical form.
-/

namespace Sys2Proof.Machine

section
variable {α : Type} [DecidableEq α] {d : α}

theorem spGetD_spSetD_default_self (m : Sparse α) (k : Nat) : spGetD d (spSetD d m k d) k = d := by
  induction m with
  | nil => simp [spSetD, spGetD]
  | cons p m ih =>
    obtain ⟨k', v'⟩ := p
    by_cases h : k = k'
    · simpa [spSetD, h] using (h ▸ ih)
    · simpa [spSetD, spGetD, h] using ih

@[simp] theorem spGetD_spSetD_self (m : Sparse α) (k : Nat) (v : α) : spGetD d (spSetD d m k v) k = v := by
  by_cases hv : v = d
  · subst hv; exact spGetD_spSetD_default_self m k
  induction m with
  | nil => simp [spSetD, spGetD, hv]
  | cons p m ih =>
    obtain ⟨k', v'⟩ := p
    simp only [spSetD, if_neg hv]
    by_cases h1 : k < k'
    · simp [h1, spGetD]
    · by_cases h2 : k = k'
      · simp [h2, spGetD]
      · simp [h1, h2, spGetD, ih]

theorem spGetD_spSetD_ne (e : α) (m : Sparse α) (k k' : Nat) (v : α) (h : k' ≠ k) :
    spGetD e (spSetD d m k v) k' = spGetD e m k' := by
  induction m with
  | nil => by_cases hv : v = d <;> simp [spSetD, spGetD, hv, h]
  | cons p m ih =>
    obtain ⟨j, w⟩ := p
    by_cases hv : v = d
    · by_cases hj : k = j
      · simp [spSetD, hv, hj, spGetD]
        rw [← hj]; rw [if_neg h]; simpa [hv] using ih
      · by_cases hk : k' = j
        · simp [spSetD, hv, hj, spGetD, hk]
        · simpa [spSetD, hv, hj, spGetD, hk] using ih
    · by_cases h1 : k < j
      · simp [spSetD, hv, h1, spGetD, h]
      · by_cases h2 : k = j
        · subst h2; simp [spSetD, hv, spGetD, h]
        · by_cases hk : k' = j
          · simp [spSetD, hv, h1, h2, spGetD, hk]
          · simpa [spSetD, hv, h1, h2, spGetD, hk] using ih

theorem spGetD_spSetD (m : Sparse α) (k k' : Nat) (v : α) :
    spGetD d (spSetD d m k v) k' = if k' = k then v else spGetD d m k' := by
  by_cases h : k' = k
  · subst h; simp
  · simp [h, spGetD_spSetD_ne _ m k k' v h]

end

section
variable {α : Type} [DecidableEq α] [Inhabited α]

@[simp] theorem spGet_spSet_self (m : Sparse α) (k : Nat) (v : α) : spGet (spSet m k v) k = v :=
  spGetD_spSetD_self m k v

theorem spGet_spSet_ne (m : Sparse α) (k k' : Nat) (v : α) (h : k' ≠ k) :
    spGet (spSet m k v) k' = spGet m k' := spGetD_spSetD_ne _ m k k' v h

theorem spGet_spSet (m : Sparse α) (k k' : Nat) (v : α) :
    spGet (spSet m k v) k' = if k' = k then v else spGet m k' := spGetD_spSetD m k k' v

@[simp] theorem spGet_spMod_self (m : Sparse α) (k : Nat) (f : α → α) :
    spGet (spMod m k f) k = f (spGet m k) := spGet_spSet_self m k _

theorem spGet_spMod_ne (m : Sparse α) (k k' : Nat) (f : α → α) (h : k' ≠ k) :
    spGet (spMod m k f) k' = spGet m k' := spGet_spSet_ne m k k' _ h

end

/-! ### The canonical form -/

/-- Every entry from key `k` on is listed above `k`. -/
def spFrom {α : Type} [DecidableEq α] (d : α) : Nat → Sparse α → Prop
  | _, [] => True
  | k, (k', v) :: m => k ≤ k' ∧ v ≠ d ∧ spFrom d (k' + 1) m

section
variable {α : Type} [DecidableEq α] {d : α}

theorem spFrom_mono {j k : Nat} (h : j ≤ k) : ∀ {m : Sparse α}, spFrom d k m → spFrom d j m
  | [], _ => trivial
  | (_, _) :: _, ⟨h1, h2, h3⟩ => ⟨Nat.le_trans h h1, h2, h3⟩

theorem spWf_cons (k : Nat) (v : α) (m : Sparse α) :
    spWf d ((k, v) :: m) = true ↔ v ≠ d ∧ spFrom d (k + 1) m := by
  induction m generalizing k v with
  | nil => simp [spWf, spFrom]
  | cons p m ih =>
    obtain ⟨k', v'⟩ := p
    simp only [spWf, Bool.and_eq_true, decide_eq_true_eq, spFrom, ih]
    constructor
    · rintro ⟨⟨h1, h2⟩, h3, h4⟩; exact ⟨h1, h2, h3, h4⟩
    · rintro ⟨h1, h2, h3, h4⟩; exact ⟨⟨h1, h2⟩, h3, h4⟩

theorem spWf_iff (m : Sparse α) : spWf d m = true ↔ spFrom d 0 m := by
  cases m with
  | nil => simp [spWf, spFrom]
  | cons p m => obtain ⟨k, v⟩ := p; simp [spWf_cons, spFrom]

theorem spFrom_spSetD {j k : Nat} (v : α) (h : j ≤ k) {m : Sparse α} (hm : spFrom d j m) :
    spFrom d j (spSetD d m k v) := by
  induction m generalizing j with
  | nil => by_cases hv : v = d <;> simp [spSetD, spFrom, hv, h]
  | cons p m ih =>
    obtain ⟨k', v'⟩ := p
    obtain ⟨h1, h2, h3⟩ := hm
    by_cases hv : v = d
    · by_cases hk : k = k'
      · simp only [spSetD, if_pos hv, if_pos hk]
        exact ih h (spFrom_mono (by omega) h3)
      · simp only [spSetD, if_pos hv, if_neg hk]
        refine ⟨h1, h2, ?_⟩
        by_cases hlt : k' < k
        · exact ih (by omega) h3
        · have : spSetD d m k v = m := by
            clear ih
            induction m generalizing k' with
            | nil => simp [spSetD, hv]
            | cons q m ihm =>
              obtain ⟨k2, v2⟩ := q
              obtain ⟨g1, g2, g3⟩ := h3
              have : k ≠ k2 := by omega
              simp only [spSetD, if_pos hv, if_neg this]
              rw [ihm k2 (by omega) g3 (by omega) (by omega)]
          rw [this]; exact h3
    · by_cases h4 : k < k'
      · simp only [spSetD, if_neg hv, if_pos h4]
        exact ⟨h, hv, by omega, h2, h3⟩
      · by_cases h5 : k = k'
        · simp only [spSetD, if_neg hv, if_neg h4, if_pos h5]
          subst h5; exact ⟨h1, hv, h3⟩
        · simp only [spSetD, if_neg hv, if_neg h4, if_neg h5]
          exact ⟨h1, h2, ih (by omega) h3⟩

/-- A write keeps the canonical form. -/
theorem spWf_spSetD (m : Sparse α) (k : Nat) (v : α) (h : spWf d m = true) :
    spWf d (spSetD d m k v) = true :=
  (spWf_iff _).2 (spFrom_spSetD v (Nat.zero_le k) ((spWf_iff _).1 h))

theorem mem_spSetD {m : Sparse α} {k : Nat} {v : α} {c : Nat × α} (h : c ∈ spSetD d m k v) :
    c ∈ m ∨ c = (k, v) := by
  induction m with
  | nil => by_cases hv : v = d <;> simp [spSetD, hv] at h <;> simp [h]
  | cons p m ih =>
    obtain ⟨k', v'⟩ := p
    simp only [spSetD] at h
    split at h
    · split at h
      · rcases ih h with h | h
        · exact .inl (List.mem_cons_of_mem _ h)
        · exact .inr h
      · rcases List.mem_cons.1 h with h | h
        · exact .inl (h ▸ List.mem_cons_self)
        · rcases ih h with h | h
          · exact .inl (List.mem_cons_of_mem _ h)
          · exact .inr h
    · split at h
      · rcases List.mem_cons.1 h with h | h
        · exact .inr h
        · exact .inl h
      · split at h
        · rcases List.mem_cons.1 h with h | h
          · exact .inr h
          · exact .inl (List.mem_cons_of_mem _ h)
        · rcases List.mem_cons.1 h with h | h
          · exact .inl (h ▸ List.mem_cons_self)
          · rcases ih h with h | h
            · exact .inl (List.mem_cons_of_mem _ h)
            · exact .inr h

end

end Sys2Proof.Machine
end

