-- ==== Sys2Proof/Laws/State.lean ====
section
/-!
SUPPORT. Laws/State.lean: what the named updates of the state leave in each field, and the laws of
registers and register fields.
-/

namespace Sys2Proof.Machine

/-! ### What the register updates and the clock leave in each field -/

@[simp] theorem State.setReg_now (s : State) (o : Nat) (w : Word) : (s.setReg o w).now = s.now := rfl
@[simp] theorem State.setReg_bootAt (s : State) (o : Nat) (w : Word) : (s.setReg o w).bootAt = s.bootAt := rfl
@[simp] theorem State.setReg_mode (s : State) (o : Nat) (w : Word) : (s.setReg o w).mode = s.mode := rfl
@[simp] theorem State.setReg_prevMode (s : State) (o : Nat) (w : Word) : (s.setReg o w).prevMode = s.prevMode := rfl
@[simp] theorem State.setReg_dram (s : State) (o : Nat) (w : Word) : (s.setReg o w).dram = s.dram := rfl
@[simp] theorem State.setReg_rings (s : State) (o : Nat) (w : Word) : (s.setReg o w).rings = s.rings := rfl
@[simp] theorem State.setReg_busData (s : State) (o : Nat) (w : Word) : (s.setReg o w).busData = s.busData := rfl
@[simp] theorem State.setReg_pending (s : State) (o : Nat) (w : Word) : (s.setReg o w).pending = s.pending := rfl
@[simp] theorem State.setReg_freeCtr (s : State) (o : Nat) (w : Word) : (s.setReg o w).freeCtr = s.freeCtr := rfl
@[simp] theorem State.setReg_host (s : State) (o : Nat) (w : Word) : (s.setReg o w).host = s.host := rfl
@[simp] theorem State.setReg_qos (s : State) (o : Nat) (w : Word) : (s.setReg o w).qos = s.qos := rfl
@[simp] theorem State.setReg_hen (s : State) (o : Nat) (w : Word) : (s.setReg o w).hen = s.hen := rfl
@[simp] theorem State.setReg_pwr (s : State) (o : Nat) (w : Word) : (s.setReg o w).pwr = s.pwr := rfl
@[simp] theorem State.setReg_clk (s : State) (o : Nat) (w : Word) : (s.setReg o w).clk = s.clk := rfl
@[simp] theorem State.setReg_nv (s : State) (o : Nat) (w : Word) : (s.setReg o w).nv = s.nv := rfl
@[simp] theorem State.setReg_boot (s : State) (o : Nat) (w : Word) : (s.setReg o w).boot = s.boot := rfl
@[simp] theorem State.setReg_crop (s : State) (o : Nat) (w : Word) : (s.setReg o w).crop = s.crop := rfl
@[simp] theorem State.setReg_mor (s : State) (o : Nat) (w : Word) : (s.setReg o w).mor = s.mor := rfl
@[simp] theorem State.setReg_cen (s : State) (o : Nat) (w : Word) : (s.setReg o w).cen = s.cen := rfl
@[simp] theorem State.setReg_fus (s : State) (o : Nat) (w : Word) : (s.setReg o w).fus = s.fus := rfl
@[simp] theorem State.setReg_cam (s : State) (o : Nat) (w : Word) : (s.setReg o w).cam = s.cam := rfl
@[simp] theorem State.setReg_gns (s : State) (o : Nat) (w : Word) : (s.setReg o w).gns = s.gns := rfl
@[simp] theorem State.setReg_ox (s : State) (o : Nat) (w : Word) : (s.setReg o w).ox = s.ox := rfl
@[simp] theorem State.setReg_mul (s : State) (o : Nat) (w : Word) : (s.setReg o w).mul = s.mul := rfl
@[simp] theorem State.setReg_goo (s : State) (o : Nat) (w : Word) : (s.setReg o w).goo = s.goo := rfl
@[simp] theorem State.setReg_can (s : State) (o : Nat) (w : Word) : (s.setReg o w).can = s.can := rfl
@[simp] theorem State.setReg_mbx (s : State) (o : Nat) (w : Word) : (s.setReg o w).mbx = s.mbx := rfl
@[simp] theorem State.setReg_flt (s : State) (o : Nat) (w : Word) : (s.setReg o w).flt = s.flt := rfl
@[simp] theorem State.setReg_dsp (s : State) (o : Nat) (w : Word) : (s.setReg o w).dsp = s.dsp := rfl
@[simp] theorem State.setReg_cmp (s : State) (o : Nat) (w : Word) : (s.setReg o w).cmp = s.cmp := rfl

@[simp] theorem State.setFld_now (s : State) (f : Fld) (v : Nat) : (s.setFld f v).now = s.now := rfl
@[simp] theorem State.setFld_bootAt (s : State) (f : Fld) (v : Nat) : (s.setFld f v).bootAt = s.bootAt := rfl
@[simp] theorem State.setFld_mode (s : State) (f : Fld) (v : Nat) : (s.setFld f v).mode = s.mode := rfl
@[simp] theorem State.setFld_prevMode (s : State) (f : Fld) (v : Nat) : (s.setFld f v).prevMode = s.prevMode := rfl
@[simp] theorem State.setFld_dram (s : State) (f : Fld) (v : Nat) : (s.setFld f v).dram = s.dram := rfl
@[simp] theorem State.setFld_rings (s : State) (f : Fld) (v : Nat) : (s.setFld f v).rings = s.rings := rfl
@[simp] theorem State.setFld_busData (s : State) (f : Fld) (v : Nat) : (s.setFld f v).busData = s.busData := rfl
@[simp] theorem State.setFld_pending (s : State) (f : Fld) (v : Nat) : (s.setFld f v).pending = s.pending := rfl
@[simp] theorem State.setFld_freeCtr (s : State) (f : Fld) (v : Nat) : (s.setFld f v).freeCtr = s.freeCtr := rfl
@[simp] theorem State.setFld_host (s : State) (f : Fld) (v : Nat) : (s.setFld f v).host = s.host := rfl
@[simp] theorem State.setFld_qos (s : State) (f : Fld) (v : Nat) : (s.setFld f v).qos = s.qos := rfl
@[simp] theorem State.setFld_hen (s : State) (f : Fld) (v : Nat) : (s.setFld f v).hen = s.hen := rfl
@[simp] theorem State.setFld_pwr (s : State) (f : Fld) (v : Nat) : (s.setFld f v).pwr = s.pwr := rfl
@[simp] theorem State.setFld_clk (s : State) (f : Fld) (v : Nat) : (s.setFld f v).clk = s.clk := rfl
@[simp] theorem State.setFld_nv (s : State) (f : Fld) (v : Nat) : (s.setFld f v).nv = s.nv := rfl
@[simp] theorem State.setFld_boot (s : State) (f : Fld) (v : Nat) : (s.setFld f v).boot = s.boot := rfl
@[simp] theorem State.setFld_crop (s : State) (f : Fld) (v : Nat) : (s.setFld f v).crop = s.crop := rfl
@[simp] theorem State.setFld_mor (s : State) (f : Fld) (v : Nat) : (s.setFld f v).mor = s.mor := rfl
@[simp] theorem State.setFld_cen (s : State) (f : Fld) (v : Nat) : (s.setFld f v).cen = s.cen := rfl
@[simp] theorem State.setFld_fus (s : State) (f : Fld) (v : Nat) : (s.setFld f v).fus = s.fus := rfl
@[simp] theorem State.setFld_cam (s : State) (f : Fld) (v : Nat) : (s.setFld f v).cam = s.cam := rfl
@[simp] theorem State.setFld_gns (s : State) (f : Fld) (v : Nat) : (s.setFld f v).gns = s.gns := rfl
@[simp] theorem State.setFld_ox (s : State) (f : Fld) (v : Nat) : (s.setFld f v).ox = s.ox := rfl
@[simp] theorem State.setFld_mul (s : State) (f : Fld) (v : Nat) : (s.setFld f v).mul = s.mul := rfl
@[simp] theorem State.setFld_goo (s : State) (f : Fld) (v : Nat) : (s.setFld f v).goo = s.goo := rfl
@[simp] theorem State.setFld_can (s : State) (f : Fld) (v : Nat) : (s.setFld f v).can = s.can := rfl
@[simp] theorem State.setFld_mbx (s : State) (f : Fld) (v : Nat) : (s.setFld f v).mbx = s.mbx := rfl
@[simp] theorem State.setFld_flt (s : State) (f : Fld) (v : Nat) : (s.setFld f v).flt = s.flt := rfl
@[simp] theorem State.setFld_dsp (s : State) (f : Fld) (v : Nat) : (s.setFld f v).dsp = s.dsp := rfl
@[simp] theorem State.setFld_cmp (s : State) (f : Fld) (v : Nat) : (s.setFld f v).cmp = s.cmp := rfl

@[simp] theorem State.setFlag_now (s : State) (f : Fld) (b : Bool) : (s.setFlag f b).now = s.now := rfl
@[simp] theorem State.setFlag_bootAt (s : State) (f : Fld) (b : Bool) : (s.setFlag f b).bootAt = s.bootAt := rfl
@[simp] theorem State.setFlag_mode (s : State) (f : Fld) (b : Bool) : (s.setFlag f b).mode = s.mode := rfl
@[simp] theorem State.setFlag_prevMode (s : State) (f : Fld) (b : Bool) : (s.setFlag f b).prevMode = s.prevMode := rfl
@[simp] theorem State.setFlag_dram (s : State) (f : Fld) (b : Bool) : (s.setFlag f b).dram = s.dram := rfl
@[simp] theorem State.setFlag_rings (s : State) (f : Fld) (b : Bool) : (s.setFlag f b).rings = s.rings := rfl
@[simp] theorem State.setFlag_busData (s : State) (f : Fld) (b : Bool) : (s.setFlag f b).busData = s.busData := rfl
@[simp] theorem State.setFlag_pending (s : State) (f : Fld) (b : Bool) : (s.setFlag f b).pending = s.pending := rfl
@[simp] theorem State.setFlag_freeCtr (s : State) (f : Fld) (b : Bool) : (s.setFlag f b).freeCtr = s.freeCtr := rfl
@[simp] theorem State.setFlag_host (s : State) (f : Fld) (b : Bool) : (s.setFlag f b).host = s.host := rfl
@[simp] theorem State.setFlag_qos (s : State) (f : Fld) (b : Bool) : (s.setFlag f b).qos = s.qos := rfl
@[simp] theorem State.setFlag_hen (s : State) (f : Fld) (b : Bool) : (s.setFlag f b).hen = s.hen := rfl
@[simp] theorem State.setFlag_pwr (s : State) (f : Fld) (b : Bool) : (s.setFlag f b).pwr = s.pwr := rfl
@[simp] theorem State.setFlag_clk (s : State) (f : Fld) (b : Bool) : (s.setFlag f b).clk = s.clk := rfl
@[simp] theorem State.setFlag_nv (s : State) (f : Fld) (b : Bool) : (s.setFlag f b).nv = s.nv := rfl
@[simp] theorem State.setFlag_boot (s : State) (f : Fld) (b : Bool) : (s.setFlag f b).boot = s.boot := rfl
@[simp] theorem State.setFlag_crop (s : State) (f : Fld) (b : Bool) : (s.setFlag f b).crop = s.crop := rfl
@[simp] theorem State.setFlag_mor (s : State) (f : Fld) (b : Bool) : (s.setFlag f b).mor = s.mor := rfl
@[simp] theorem State.setFlag_cen (s : State) (f : Fld) (b : Bool) : (s.setFlag f b).cen = s.cen := rfl
@[simp] theorem State.setFlag_fus (s : State) (f : Fld) (b : Bool) : (s.setFlag f b).fus = s.fus := rfl
@[simp] theorem State.setFlag_cam (s : State) (f : Fld) (b : Bool) : (s.setFlag f b).cam = s.cam := rfl
@[simp] theorem State.setFlag_gns (s : State) (f : Fld) (b : Bool) : (s.setFlag f b).gns = s.gns := rfl
@[simp] theorem State.setFlag_ox (s : State) (f : Fld) (b : Bool) : (s.setFlag f b).ox = s.ox := rfl
@[simp] theorem State.setFlag_mul (s : State) (f : Fld) (b : Bool) : (s.setFlag f b).mul = s.mul := rfl
@[simp] theorem State.setFlag_goo (s : State) (f : Fld) (b : Bool) : (s.setFlag f b).goo = s.goo := rfl
@[simp] theorem State.setFlag_can (s : State) (f : Fld) (b : Bool) : (s.setFlag f b).can = s.can := rfl
@[simp] theorem State.setFlag_mbx (s : State) (f : Fld) (b : Bool) : (s.setFlag f b).mbx = s.mbx := rfl
@[simp] theorem State.setFlag_flt (s : State) (f : Fld) (b : Bool) : (s.setFlag f b).flt = s.flt := rfl
@[simp] theorem State.setFlag_dsp (s : State) (f : Fld) (b : Bool) : (s.setFlag f b).dsp = s.dsp := rfl
@[simp] theorem State.setFlag_cmp (s : State) (f : Fld) (b : Bool) : (s.setFlag f b).cmp = s.cmp := rfl

@[simp] theorem State.setPair_now (s : State) (l h : Fld) (v : Nat) : (s.setPair l h v).now = s.now := rfl
@[simp] theorem State.setPair_bootAt (s : State) (l h : Fld) (v : Nat) : (s.setPair l h v).bootAt = s.bootAt := rfl
@[simp] theorem State.setPair_mode (s : State) (l h : Fld) (v : Nat) : (s.setPair l h v).mode = s.mode := rfl
@[simp] theorem State.setPair_prevMode (s : State) (l h : Fld) (v : Nat) : (s.setPair l h v).prevMode = s.prevMode := rfl
@[simp] theorem State.setPair_dram (s : State) (l h : Fld) (v : Nat) : (s.setPair l h v).dram = s.dram := rfl
@[simp] theorem State.setPair_rings (s : State) (l h : Fld) (v : Nat) : (s.setPair l h v).rings = s.rings := rfl
@[simp] theorem State.setPair_busData (s : State) (l h : Fld) (v : Nat) : (s.setPair l h v).busData = s.busData := rfl
@[simp] theorem State.setPair_pending (s : State) (l h : Fld) (v : Nat) : (s.setPair l h v).pending = s.pending := rfl
@[simp] theorem State.setPair_freeCtr (s : State) (l h : Fld) (v : Nat) : (s.setPair l h v).freeCtr = s.freeCtr := rfl
@[simp] theorem State.setPair_host (s : State) (l h : Fld) (v : Nat) : (s.setPair l h v).host = s.host := rfl
@[simp] theorem State.setPair_qos (s : State) (l h : Fld) (v : Nat) : (s.setPair l h v).qos = s.qos := rfl
@[simp] theorem State.setPair_hen (s : State) (l h : Fld) (v : Nat) : (s.setPair l h v).hen = s.hen := rfl
@[simp] theorem State.setPair_pwr (s : State) (l h : Fld) (v : Nat) : (s.setPair l h v).pwr = s.pwr := rfl
@[simp] theorem State.setPair_clk (s : State) (l h : Fld) (v : Nat) : (s.setPair l h v).clk = s.clk := rfl
@[simp] theorem State.setPair_nv (s : State) (l h : Fld) (v : Nat) : (s.setPair l h v).nv = s.nv := rfl
@[simp] theorem State.setPair_boot (s : State) (l h : Fld) (v : Nat) : (s.setPair l h v).boot = s.boot := rfl
@[simp] theorem State.setPair_crop (s : State) (l h : Fld) (v : Nat) : (s.setPair l h v).crop = s.crop := rfl
@[simp] theorem State.setPair_mor (s : State) (l h : Fld) (v : Nat) : (s.setPair l h v).mor = s.mor := rfl
@[simp] theorem State.setPair_cen (s : State) (l h : Fld) (v : Nat) : (s.setPair l h v).cen = s.cen := rfl
@[simp] theorem State.setPair_fus (s : State) (l h : Fld) (v : Nat) : (s.setPair l h v).fus = s.fus := rfl
@[simp] theorem State.setPair_cam (s : State) (l h : Fld) (v : Nat) : (s.setPair l h v).cam = s.cam := rfl
@[simp] theorem State.setPair_gns (s : State) (l h : Fld) (v : Nat) : (s.setPair l h v).gns = s.gns := rfl
@[simp] theorem State.setPair_ox (s : State) (l h : Fld) (v : Nat) : (s.setPair l h v).ox = s.ox := rfl
@[simp] theorem State.setPair_mul (s : State) (l h : Fld) (v : Nat) : (s.setPair l h v).mul = s.mul := rfl
@[simp] theorem State.setPair_goo (s : State) (l h : Fld) (v : Nat) : (s.setPair l h v).goo = s.goo := rfl
@[simp] theorem State.setPair_can (s : State) (l h : Fld) (v : Nat) : (s.setPair l h v).can = s.can := rfl
@[simp] theorem State.setPair_mbx (s : State) (l h : Fld) (v : Nat) : (s.setPair l h v).mbx = s.mbx := rfl
@[simp] theorem State.setPair_flt (s : State) (l h : Fld) (v : Nat) : (s.setPair l h v).flt = s.flt := rfl
@[simp] theorem State.setPair_dsp (s : State) (l h : Fld) (v : Nat) : (s.setPair l h v).dsp = s.dsp := rfl
@[simp] theorem State.setPair_cmp (s : State) (l h : Fld) (v : Nat) : (s.setPair l h v).cmp = s.cmp := rfl

@[simp] theorem State.tick_bootAt (s : State) (t : Nat) : (s.tick t).bootAt = s.bootAt := rfl
@[simp] theorem State.tick_mode (s : State) (t : Nat) : (s.tick t).mode = s.mode := rfl
@[simp] theorem State.tick_prevMode (s : State) (t : Nat) : (s.tick t).prevMode = s.prevMode := rfl
@[simp] theorem State.tick_regs (s : State) (t : Nat) : (s.tick t).regs = s.regs := rfl
@[simp] theorem State.tick_dram (s : State) (t : Nat) : (s.tick t).dram = s.dram := rfl
@[simp] theorem State.tick_rings (s : State) (t : Nat) : (s.tick t).rings = s.rings := rfl
@[simp] theorem State.tick_busData (s : State) (t : Nat) : (s.tick t).busData = s.busData := rfl
@[simp] theorem State.tick_pending (s : State) (t : Nat) : (s.tick t).pending = s.pending := rfl
@[simp] theorem State.tick_freeCtr (s : State) (t : Nat) : (s.tick t).freeCtr = s.freeCtr := rfl
@[simp] theorem State.tick_host (s : State) (t : Nat) : (s.tick t).host = s.host := rfl
@[simp] theorem State.tick_qos (s : State) (t : Nat) : (s.tick t).qos = s.qos := rfl
@[simp] theorem State.tick_hen (s : State) (t : Nat) : (s.tick t).hen = s.hen := rfl
@[simp] theorem State.tick_pwr (s : State) (t : Nat) : (s.tick t).pwr = s.pwr := rfl
@[simp] theorem State.tick_clk (s : State) (t : Nat) : (s.tick t).clk = s.clk := rfl
@[simp] theorem State.tick_nv (s : State) (t : Nat) : (s.tick t).nv = s.nv := rfl
@[simp] theorem State.tick_boot (s : State) (t : Nat) : (s.tick t).boot = s.boot := rfl
@[simp] theorem State.tick_crop (s : State) (t : Nat) : (s.tick t).crop = s.crop := rfl
@[simp] theorem State.tick_mor (s : State) (t : Nat) : (s.tick t).mor = s.mor := rfl
@[simp] theorem State.tick_cen (s : State) (t : Nat) : (s.tick t).cen = s.cen := rfl
@[simp] theorem State.tick_fus (s : State) (t : Nat) : (s.tick t).fus = s.fus := rfl
@[simp] theorem State.tick_cam (s : State) (t : Nat) : (s.tick t).cam = s.cam := rfl
@[simp] theorem State.tick_gns (s : State) (t : Nat) : (s.tick t).gns = s.gns := rfl
@[simp] theorem State.tick_ox (s : State) (t : Nat) : (s.tick t).ox = s.ox := rfl
@[simp] theorem State.tick_mul (s : State) (t : Nat) : (s.tick t).mul = s.mul := rfl
@[simp] theorem State.tick_goo (s : State) (t : Nat) : (s.tick t).goo = s.goo := rfl
@[simp] theorem State.tick_can (s : State) (t : Nat) : (s.tick t).can = s.can := rfl
@[simp] theorem State.tick_mbx (s : State) (t : Nat) : (s.tick t).mbx = s.mbx := rfl
@[simp] theorem State.tick_flt (s : State) (t : Nat) : (s.tick t).flt = s.flt := rfl
@[simp] theorem State.tick_dsp (s : State) (t : Nat) : (s.tick t).dsp = s.dsp := rfl
@[simp] theorem State.tick_cmp (s : State) (t : Nat) : (s.tick t).cmp = s.cmp := rfl

@[simp] theorem State.tick_reg (s : State) (t o : Nat) : (s.tick t).reg o = s.reg o := rfl
@[simp] theorem State.tick_fld (s : State) (t : Nat) (f : Fld) : (s.tick t).fld f = s.fld f := rfl
@[simp] theorem State.tick_flag (s : State) (t : Nat) (f : Fld) : (s.tick t).flag f = s.flag f := rfl

/-! ### Registers -/

@[simp] theorem reg_setReg_self (s : State) (o : Nat) (w : Word) : (s.setReg o w).reg o = w :=
  spGetD_spSetD_self _ _ _

theorem reg_setReg_ne (s : State) {o o' : Nat} (w : Word) (h : o' ≠ o) :
    (s.setReg o w).reg o' = s.reg o' := spGetD_spSetD_ne _ _ _ _ _ h

/-! ### Bit fields -/

theorem testBit_place (v lo width i : Nat) :
    (place v lo width).testBit i = (decide (lo ≤ i) && decide (i - lo < width) && v.testBit (i - lo)) := by
  simp only [place, Nat.testBit_shiftLeft, Nat.testBit_mod_two_pow, ge_iff_le]
  rw [Bool.and_assoc]

theorem testBit_setBits (w : Word) (lo width v i : Nat) (hi : i < 32) :
    (setBits w lo width v).toNat.testBit i =
      if lo ≤ i ∧ i < lo + width then v.testBit (i - lo) else w.toNat.testBit i := by
  have e : ∀ x : Word, x.toNat.testBit i = x.getLsbD i := fun x => rfl
  rw [e, e]
  unfold setBits
  simp only [BitVec.getLsbD_or, BitVec.getLsbD_and, BitVec.getLsbD_not, BitVec.getLsbD_ofNat, hi,
    decide_true, Bool.true_and, testBit_place]
  by_cases h : lo ≤ i
  · by_cases h2 : i - lo < width
    · have : lo ≤ i ∧ i < lo + width := ⟨h, by omega⟩
      simp [h, h2, this, Nat.testBit_two_pow_sub_one]
    · have : ¬ (lo ≤ i ∧ i < lo + width) := by omega
      rw [if_neg this]; simp [h, h2]
  · have : ¬ (lo ≤ i ∧ i < lo + width) := by omega
    rw [if_neg this]; simp [h]

theorem testBit_bitsOf (v lo width i : Nat) :
    (bitsOf v lo width).testBit i = (decide (i < width) && v.testBit (lo + i)) := by
  simp [bitsOf, Nat.testBit_mod_two_pow, Nat.testBit_shiftRight]

theorem bitsOf_setBits_self (w : Word) (lo width v : Nat) (h : lo + width ≤ 32) :
    bitsOf (setBits w lo width v).toNat lo width = v % 2 ^ width := by
  refine Nat.eq_of_testBit_eq fun i => ?_
  rw [testBit_bitsOf, Nat.testBit_mod_two_pow]
  by_cases hi : i < width
  · rw [testBit_setBits _ _ _ _ _ (by omega), if_pos (by omega)]
    simp [hi]
  · simp [hi]

theorem bitsOf_setBits_ne (w : Word) (lo width v lo' width' : Nat) (h' : lo' + width' ≤ 32)
    (h : lo + width ≤ lo' ∨ lo' + width' ≤ lo) :
    bitsOf (setBits w lo width v).toNat lo' width' = bitsOf w.toNat lo' width' := by
  refine Nat.eq_of_testBit_eq fun i => ?_
  rw [testBit_bitsOf, testBit_bitsOf]
  by_cases hi : i < width'
  · rw [testBit_setBits _ _ _ _ _ (by omega), if_neg (by omega)]
  · simp [hi]

/-- A field inside its register. -/
def Fld.ok (f : Fld) : Prop := f.lo + f.width ≤ 32

/-- Two fields that share no bit. -/
def Fld.apart (f g : Fld) : Prop := f.off ≠ g.off ∨ f.lo + f.width ≤ g.lo ∨ g.lo + g.width ≤ f.lo

theorem fld_setFld_self (s : State) (f : Fld) (v : Nat) (h : f.ok) :
    (s.setFld f v).fld f = v % 2 ^ f.width := by
  unfold State.fld State.setFld
  rw [reg_setReg_self]; exact bitsOf_setBits_self _ _ _ _ h

theorem fld_setFld_ne (s : State) (f g : Fld) (v : Nat) (hg : g.ok) (h : f.apart g) :
    (s.setFld f v).fld g = s.fld g := by
  unfold State.fld State.setFld
  by_cases ho : g.off = f.off
  · rw [ho, reg_setReg_self]
    refine bitsOf_setBits_ne _ _ _ _ _ _ hg ?_
    rcases h with h | h
    · exact absurd ho.symm h
    · exact h
  · rw [reg_setReg_ne _ _ ho]

theorem fld_setReg_ne (s : State) {o : Nat} (w : Word) (f : Fld) (h : f.off ≠ o) :
    (s.setReg o w).fld f = s.fld f := by
  unfold State.fld; rw [reg_setReg_ne _ _ h]

theorem reg_setFld_ne (s : State) (f : Fld) (v : Nat) {o : Nat} (h : o ≠ f.off) :
    (s.setFld f v).reg o = s.reg o := reg_setReg_ne _ _ h

@[simp] theorem boolNat_true : boolNat true = 1 := rfl
@[simp] theorem boolNat_false : boolNat false = 0 := rfl

theorem flag_setFlag_self (s : State) (f : Fld) (b : Bool) (h : f.ok) (h1 : f.width = 1) :
    (s.setFlag f b).flag f = b := by
  unfold State.flag State.setFlag
  rw [fld_setFld_self _ _ _ h, h1]; cases b <;> rfl

theorem flag_setFld_ne (s : State) (f g : Fld) (v : Nat) (hg : g.ok) (h : f.apart g) :
    (s.setFld f v).flag g = s.flag g := by
  unfold State.flag; rw [fld_setFld_ne _ _ _ _ hg h]

theorem fld_setFlag_ne (s : State) (f g : Fld) (b : Bool) (hg : g.ok) (h : f.apart g) :
    (s.setFlag f b).fld g = s.fld g := fld_setFld_ne _ _ _ _ hg h

theorem flag_setFlag_ne (s : State) (f g : Fld) (b : Bool) (hg : g.ok) (h : f.apart g) :
    (s.setFlag f b).flag g = s.flag g := flag_setFld_ne _ _ _ _ hg h

theorem fld_lt (s : State) (f : Fld) : s.fld f < 2 ^ f.width := Nat.mod_lt _ (Nat.two_pow_pos _)

/-- A flag that is not set is clear. -/
theorem fld_eq_zero_of_flag (s : State) (f : Fld) (h1 : f.width = 1) (h : s.flag f = false) : s.fld f = 0 := by
  have := fld_lt s f
  rw [h1] at this
  unfold State.flag at h
  simp at h; omega

end Sys2Proof.Machine
end

