-- ==== Sys2Proof/Laws/Keeps.lean ====
section
/-!
SUPPORT. Laws/Keeps.lean: what every operation of the model leaves in order: the queue of waiting
commands, the canonical forms of module DRAM and of the set-up registers, the course of time and of
the free values. `Keeps b s`: from b, the model has come to s that way.
-/

namespace Sys2Proof.Machine

/-- What no command disturbs. -/
structure Keeps (b s : State) : Prop where
  pending : s.pending = b.pending
  time : b.now ≤ s.now
  free : b.freeCtr ≤ s.freeCtr
  mem : MemInv b → MemInv s
  regs : RegInv b → RegInv s

theorem Keeps.refl (s : State) : Keeps s s := ⟨rfl, Nat.le_refl _, Nat.le_refl _, id, id⟩

theorem Keeps.trans {a b c : State} (h : Keeps a b) (k : Keeps b c) : Keeps a c :=
  ⟨k.pending.trans h.pending, Nat.le_trans h.time k.time, Nat.le_trans h.free k.free,
    fun m => k.mem (h.mem m), fun r => k.regs (h.regs r)⟩

/-- A change of other fields. -/
theorem Keeps.same {b u s : State} (h : Keeps b u) (h1 : s.pending = u.pending) (h2 : s.now = u.now)
    (h3 : s.freeCtr = u.freeCtr) (h4 : s.dram = u.dram) (h5 : s.regs = u.regs) : Keeps b s := by
  refine ⟨h1.trans h.pending, h2 ▸ h.time, h3 ▸ h.free, fun m => ?_, fun r => ?_⟩
  · have := h.mem m; unfold MemInv at *; rwa [h4]
  · have := h.regs r; unfold RegInv at *; rwa [h5]

theorem Keeps.ite {b s u : State} {p : Prop} [Decidable p] (h : Keeps b s) (k : Keeps b u) :
    Keeps b (if p then s else u) := by split <;> assumption

theorem Keeps.iteFst {α : Type} {b : State} {s u : State × α} {p : Prop} [Decidable p]
    (h : Keeps b s.1) (k : Keeps b u.1) : Keeps b (if p then s else u).1 := by split <;> assumption

theorem Keeps.iteSnd {α : Type} {b : State} {s u : α × State} {p : Prop} [Decidable p]
    (h : Keeps b s.2) (k : Keeps b u.2) : Keeps b (if p then s else u).2 := by split <;> assumption

theorem Keeps.fst {α : Type} {b s : State} {x : α} (h : Keeps b s) : Keeps b (s, x).1 := h
theorem Keeps.snd {α : Type} {b s : State} {x : α} (h : Keeps b s) : Keeps b (x, s).2 := h

theorem Keeps.foldl {α : Type} {b s : State} {f : State → α → State} {l : List α}
    (h : Keeps b s) (hf : ∀ v a, Keeps b v → Keeps b (f v a)) : Keeps b (l.foldl f s) := by
  induction l generalizing s with
  | nil => exact h
  | cons a l ih => exact ih (hf s a h)

theorem Keeps.foldlFst {α β : Type} {b : State} {s : State × β} {f : State × β → α → State × β} {l : List α}
    (h : Keeps b s.1) (hf : ∀ v a, Keeps b v.1 → Keeps b (f v a).1) : Keeps b (l.foldl f s).1 := by
  induction l generalizing s with
  | nil => exact h
  | cons a l ih => exact ih (hf s a h)

theorem Keeps.foldlSnd {α β : Type} {b : State} {s : β × State} {f : β × State → α → β × State} {l : List α}
    (h : Keeps b s.2) (hf : ∀ v a, Keeps b v.2 → Keeps b (f v a).2) : Keeps b (l.foldl f s).2 := by
  induction l generalizing s with
  | nil => exact h
  | cons a l ih => exact ih (hf s a h)

/-! ### The registers' canonical form -/

theorem regsWf_cons (k : Nat) (v : Word) (m : Sparse Word) : regsWf ((k, v) :: m) = true ↔
    v ≠ regReset k ∧ regsWf m = true ∧ ∀ p ∈ m, k < p.1 := by
  induction m generalizing k v with
  | nil => simp [regsWf]
  | cons q m ih =>
    obtain ⟨k', v'⟩ := q
    simp only [regsWf, Bool.and_eq_true, decide_eq_true_eq]
    constructor
    · rintro ⟨⟨h1, h2⟩, h3⟩
      refine ⟨h1, h3, fun p hp => ?_⟩
      rcases List.mem_cons.1 hp with rfl | hp
      · exact h2
      · exact Nat.lt_trans h2 (((ih _ _).1 h3).2.2 p hp)
    · rintro ⟨h1, h2, h3⟩
      exact ⟨⟨h1, h3 (k', v') List.mem_cons_self⟩, h2⟩

theorem regsWf_filter (p : Nat × Word → Bool) (m : Sparse Word) (h : regsWf m = true) :
    regsWf (m.filter p) = true := by
  induction m with
  | nil => rfl
  | cons q m ih =>
    obtain ⟨k, v⟩ := q
    obtain ⟨h1, h2, h3⟩ := (regsWf_cons _ _ _).1 h
    rw [List.filter_cons]
    split
    · exact (regsWf_cons _ _ _).2 ⟨h1, ih h2, fun q hq => h3 q (List.mem_filter.1 hq).1⟩
    · exact ih h2

theorem regsWf_set (m : Sparse Word) (k : Nat) (w : Word) (h : regsWf m = true) :
    regsWf (spSetD (regReset k) m k w) = true := by
  induction m with
  | nil => by_cases hw : w = regReset k <;> simp [spSetD, regsWf, hw]
  | cons q m ih =>
    obtain ⟨k', v'⟩ := q
    obtain ⟨h1, h2, h3⟩ := (regsWf_cons _ _ _).1 h
    have hmem : ∀ p ∈ spSetD (regReset k) m k w, p.1 = k ∨ p ∈ m := fun p hp => by
      rcases mem_spSetD hp with hp | rfl
      · exact .inr hp
      · exact .inl rfl
    have hdel : w = regReset k → ∀ p ∈ spSetD (regReset k) m k w, p ∈ m := by
      intro hw; subst hw
      clear ih h h1 h2 h3 hmem
      induction m with
      | nil => simp [spSetD]
      | cons q m ih =>
        obtain ⟨j, x⟩ := q
        intro p hp
        simp only [spSetD, if_pos] at hp
        split at hp
        · exact List.mem_cons_of_mem _ (ih p hp)
        · rcases List.mem_cons.1 hp with rfl | hp
          · exact List.mem_cons_self
          · exact List.mem_cons_of_mem _ (ih p hp)
    simp only [spSetD]
    split
    · next hw =>
      split
      · exact ih h2
      · exact (regsWf_cons _ _ _).2 ⟨h1, ih h2, fun p hp => h3 p (hdel hw p hp)⟩
    · next hw =>
      split
      · next hlt =>
        refine (regsWf_cons _ _ _).2 ⟨hw, h, fun p hp => ?_⟩
        rcases List.mem_cons.1 hp with rfl | hp
        · exact hlt
        · exact Nat.lt_trans hlt (h3 p hp)
      · split
        · next he => subst he; exact (regsWf_cons _ _ _).2 ⟨hw, h2, h3⟩
        · next hlt hne =>
          refine (regsWf_cons _ _ _).2 ⟨h1, ih h2, fun p hp => ?_⟩
          rcases hmem p hp with he | hp
          · rw [he]; omega
          · exact h3 p hp

/-! ### Module DRAM's canonical form -/

theorem memOk_dramPut {m : List Host.Cell} (a : Nat) (v : Byte) (h : memOk m) : memOk (dramPut m a v) := by
  unfold dramPut
  split
  · next ha =>
    refine ⟨spWf_spSetD _ _ _ h.1, fun c hc => ?_⟩
    rcases mem_spSetD hc with hc | rfl
    · exact h.2 c hc
    · exact ha
  · exact h

theorem memOk_dramPutAll {m : List Host.Cell} (a : Nat) (l : List Byte) (h : memOk m) :
    memOk (dramPutAll m a l) := by
  induction l generalizing m a with
  | nil => exact h
  | cons v l ih => exact ih (a + 1) (memOk_dramPut a v h)

theorem memOk_nil : memOk [] := ⟨rfl, fun _ h => absurd h List.not_mem_nil⟩

theorem memOk_foldl_dramPut (l : List (Nat × Byte)) {m : List Host.Cell} (h : memOk m) :
    memOk (l.foldl (fun m p => dramPut m p.1 p.2) m) := by
  induction l generalizing m with
  | nil => exact h
  | cons p l ih => exact ih (memOk_dramPut p.1 p.2 h)

/-! ### The basic operations -/

theorem keeps_setReg {b s : State} {o : Nat} {w : Word} (h : Keeps b s) : Keeps b (s.setReg o w) :=
  ⟨h.pending, h.time, h.free, h.mem, fun r => regsWf_set _ _ _ (h.regs r)⟩

theorem keeps_writeBytes {b s : State} {a : Nat} {l : List Byte} (h : Keeps b s) :
    Keeps b (s.writeBytes a l) :=
  ⟨h.pending, h.time, h.free, fun m => memOk_dramPutAll _ _ (h.mem m), h.regs⟩

theorem keeps_tick {b s : State} {t : Nat} (h : Keeps b s) : Keeps b (s.tick t) := by
  refine ⟨h.pending, Nat.le_trans h.time ?_, h.free, h.mem, h.regs⟩
  show s.now ≤ if s.now < t then t else s.now
  split <;> omega

theorem keeps_drawFree {b s : State} {w : Nat} (h : Keeps b s) : Keeps b (s.drawFree w).2 :=
  ⟨h.pending, h.time, Nat.le_trans h.free (Nat.le_succ _), h.mem, h.regs⟩

end Sys2Proof.Machine
end

