-- ==== Sys2Proof/Laws/Keeps1.lean ====
section
/-!
SUPPORT. Laws/Keeps1.lean: what the operations of the model leave in order (Laws/Keeps.lean), one lemma for each,
in the order in which they use each other; part 1.
-/

namespace Sys2Proof.Machine

theorem keeps_setFld {b : State} {a0 : State} {a1 : Fld} {a2 : Nat} (h : Keeps b a0) :
    Keeps b (State.setFld a0 a1 a2) := by
  unfold State.setFld
  exact keeps_setReg h

theorem keeps_latchEvent {b : State} {a0 : State} {a1 : Nat} {a2 : Nat} (h : Keeps b a0) :
    Keeps b (State.latchEvent a0 a1 a2) := by
  unfold State.latchEvent
  extract_lets v1 v2 v3
  have k2 : Keeps b v2 := by
    unfold v2
    exact Keeps.same h rfl rfl rfl rfl rfl
  clear_value v2
  have k3 : Keeps b v3 := by
    unfold v3
    exact keeps_setFld k2
  clear_value v3
  exact keeps_setFld k3

theorem keeps_setCtx {b : State} {a0 : State} {a1 : Nat} {a2 : CtxSt} (h : Keeps b a0) :
    Keeps b (State.setCtx a0 a1 a2) := by
  unfold State.setCtx
  exact Keeps.same h rfl rfl rfl rfl rfl

theorem keeps_updateLine {b : State} {a0 : State} {a1 : Nat} (h : Keeps b a0) :
    Keeps b (State.updateLine a0 a1) := by
  unfold State.updateLine
  exact keeps_setCtx h

theorem keeps_bumpBy {b : State} {a0 : State} {a1 : Fld} {a2 : Nat} (h : Keeps b a0) :
    Keeps b (State.bumpBy a0 a1 a2) := by
  unfold State.bumpBy
  exact Keeps.same h rfl rfl rfl rfl rfl

theorem keeps_bump {b : State} {a0 : State} {a1 : Fld} (h : Keeps b a0) :
    Keeps b (State.bump a0 a1) := by
  unfold State.bump
  exact keeps_bumpBy h

theorem keeps_writeRecord {b : State} {a0 : State} {a1 : Nat} {a2 : Nat} {a3 : Bool} (h : Keeps b a0) :
    Keeps b (State.writeRecord a0 a1 a2 a3) := by
  unfold State.writeRecord
  extract_lets v1 v2 v3 v4 v5
  have k4 : Keeps b v4 := by
    unfold v4
    exact keeps_writeBytes h
  clear_value v4
  have k5 : Keeps b v5 := by
    unfold v5
    exact keeps_setCtx k4
  clear_value v5
  exact keeps_updateLine (keeps_bump k5)

theorem keeps_eventRecord {b : State} {a0 : State} {a1 : Nat} {a2 : Nat} {a3 : Nat} (h : Keeps b a0) :
    Keeps b (State.eventRecord a0 a1 a2 a3) := by
  unfold State.eventRecord
  exact keeps_writeRecord h

theorem keeps_onceMark {b : State} {a0 : State} {a1 : Nat} {a2 : Nat} (h : Keeps b a0) :
    Keeps b (State.onceMark a0 a1 a2) := by
  unfold State.onceMark
  exact Keeps.same h rfl rfl rfl rfl rfl

theorem keeps_eventLost {b : State} {a0 : State} {a1 : Nat} (h : Keeps b a0) :
    Keeps b (State.eventLost a0 a1) := by
  unfold State.eventLost
  extract_lets v1 v2 v3 v4
  have k1 : Keeps b v1 := by
    unfold v1
    exact keeps_bump h
  clear_value v1
  have k2 : Keeps b v2 := by
    unfold v2
    exact keeps_latchEvent (keeps_onceMark k1)
  clear_value v2
  have k4 : Keeps b v4 := by
    unfold v4
    exact keeps_bump k2
  clear_value v4
  refine Keeps.ite ?_ ?_
  · exact k1
  · refine Keeps.ite ?_ ?_
    · exact k2
    · refine Keeps.ite ?_ ?_
      · exact keeps_eventRecord k2
      · refine Keeps.ite ?_ ?_
        · exact k4
        · exact keeps_latchEvent (keeps_onceMark k4)

theorem keeps_raise {b : State} {a0 : State} {a1 : Nat} {a2 : Nat} (h : Keeps b a0) :
    Keeps b (State.raise a0 a1 a2) := by
  unfold State.raise
  extract_lets v1 v2
  have k1 : Keeps b v1 := by
    unfold v1
    exact keeps_latchEvent h
  clear_value v1
  refine Keeps.ite ?_ ?_
  · exact k1
  · refine Keeps.ite ?_ ?_
    · exact keeps_eventRecord k1
    · exact keeps_eventLost k1

theorem keeps_raiseOnce {b : State} {a0 : State} {a1 : Nat} {a2 : Nat} {a3 : Nat} (h : Keeps b a0) :
    Keeps b (State.raiseOnce a0 a1 a2 a3) := by
  unfold State.raiseOnce
  refine Keeps.ite ?_ ?_
  · exact h
  · exact keeps_raise (keeps_onceMark h)

theorem keeps_ringStore {b : State} {a0 : State} {a1 : RingDesc} {a2 : List Byte} (h : Keeps b a0) :
    Keeps b (State.ringStore a0 a1 a2) := by
  unfold State.ringStore
  extract_lets v1 v2 v3
  have k3 : Keeps b v3 := by
    unfold v3
    exact keeps_writeBytes h
  clear_value v3
  exact keeps_setFld k3

theorem keeps_setRing {b : State} {a0 : State} {a1 : Nat} {a2 : RingSt} (h : Keeps b a0) :
    Keeps b (State.setRing a0 a1 a2) := by
  unfold State.setRing
  exact Keeps.same h rfl rfl rfl rfl rfl

theorem keeps_ringFlushN {b : State} {a0 : Nat} {a1 : RingDesc} {a2 : State} (h : Keeps b a2) :
    Keeps b (ringFlushN a0 a1 a2) := by
  induction a0 generalizing a2 with
  | zero => exact h
  | succ n ih =>
    unfold ringFlushN
    split
    · exact h
    · refine Keeps.ite h (Keeps.ite (keeps_raiseOnce h) (ih (keeps_ringStore (keeps_setRing h))))

theorem keeps_hubReset {b : State} {a0 : State} {a1 : Mode} (h : Keeps b a0) : Keeps b (State.hubReset a0 a1) :=
  ⟨h.pending, h.time, h.free, fun _ => memOk_nil, fun r => regsWf_filter _ _ (h.regs r)⟩

theorem keeps_setFlag {b : State} {a0 : State} {a1 : Fld} {a2 : Bool} (h : Keeps b a0) :
    Keeps b (State.setFlag a0 a1 a2) := by
  unfold State.setFlag
  exact keeps_setFld h

theorem keeps_outputOff {b : State} {a0 : State} {a1 : Nat} (h : Keeps b a0) :
    Keeps b (State.outputOff a0 a1) := by
  unfold State.outputOff
  extract_lets v1 v2 v3
  have k1 : Keeps b v1 := by
    unfold v1
    exact keeps_setFld h
  clear_value v1
  have k2 : Keeps b v2 := by
    unfold v2
    exact keeps_setFlag k1
  clear_value v2
  refine Keeps.ite ?_ ?_
  · exact k1
  · exact Keeps.same k2 rfl rfl rfl rfl rfl

theorem keeps_outputsOff {b : State} {a0 : State} {a1 : Nat → Bool} (h : Keeps b a0) :
    Keeps b (State.outputsOff a0 a1) := by
  unfold State.outputsOff
  refine Keeps.foldl ?_ ?_
  · exact h
  · intro w1 x2 k3
    exact keeps_outputOff k3

theorem keeps_openDisconnect {b : State} {a0 : State} (h : Keeps b a0) :
    Keeps b (State.openDisconnect a0) := by
  unfold State.openDisconnect
  refine Keeps.ite ?_ ?_
  · exact h
  · exact keeps_raise (keeps_outputsOff (keeps_setFlag h))

theorem keeps_setDsp {b : State} {a0 : State} {a1 : DspSt} (h : Keeps b a0) :
    Keeps b (State.setDsp a0 a1) := by
  unfold State.setDsp
  exact Keeps.same h rfl rfl rfl rfl rfl

theorem keeps_dspEnter {b : State} {a0 : State} {a1 : DspPhase} (h : Keeps b a0) :
    Keeps b (State.dspEnter a0 a1) := by
  unfold State.dspEnter
  exact keeps_setFld (keeps_setDsp h)

theorem keeps_dspCut {b : State} {a0 : State} (h : Keeps b a0) :
    Keeps b (State.dspCut a0) := by
  unfold State.dspCut
  exact keeps_dspEnter (keeps_setDsp h)

theorem keeps_bumpMax {b : State} {a0 : State} {a1 : Fld} {a2 : Nat} (h : Keeps b a0) :
    Keeps b (State.bumpMax a0 a1 a2) := by
  unfold State.bumpMax
  exact Keeps.same h rfl rfl rfl rfl rfl

theorem keeps_henEnqueue {b : State} {a0 : State} {a1 : HenWrite} (h : Keeps b a0) :
    Keeps b (State.henEnqueue a0 a1) := by
  unfold State.henEnqueue
  extract_lets v1 v2 v3 v4 v5 v6
  have k5 : Keeps b v5 := by
    unfold v5
    exact Keeps.same h rfl rfl rfl rfl rfl
  clear_value v5
  have k6 : Keeps b v6 := by
    unfold v6
    exact keeps_bumpMax k5
  clear_value v6
  refine Keeps.ite ?_ ?_
  · exact keeps_raiseOnce k6
  · exact k6

theorem keeps_henLost {b : State} {a0 : State} {a1 : Nat} (h : Keeps b a0) :
    Keeps b (State.henLost a0 a1) := by
  unfold State.henLost
  exact keeps_raiseOnce (keeps_bump h)

theorem keeps_ringPend {b : State} {a0 : State} {a1 : RingDesc} (h : Keeps b a0) :
    Keeps b (State.ringPend a0 a1) := by
  unfold State.ringPend
  split
  · exact keeps_setFld h
  · exact h

theorem keeps_ringPush {b : State} {a0 : State} {a1 : RingDesc} {a2 : List Byte} {a3 : Nat} (h : Keeps b a0) :
    Keeps b (State.ringPush a0 a1 a2 a3) := by
  unfold State.ringPush
  extract_lets v1 v2 v3 v4 v5 v6 v7
  have k2 : Keeps b v2 := by
    unfold v2
    exact keeps_setRing h
  clear_value v2
  have k3 : Keeps b v3 := by
    unfold v3
    exact keeps_ringFlushN k2
  clear_value v3
  have k5 : Keeps b v5 := by
    unfold v5
    exact keeps_setRing k3
  clear_value v5
  have k6 : Keeps b v6 := by
    unfold v6
    split
    · exact keeps_bump k5
    · exact k5
  clear_value v6
  have k7 : Keeps b v7 := by
    unfold v7
    refine Keeps.ite ?_ ?_
    · refine Keeps.ite ?_ ?_
      · exact keeps_raiseOnce k6
      · exact keeps_raise k6
    · exact k3
  clear_value v7
  exact keeps_ringPend k7

theorem keeps_henClose {b : State} {a0 : State} (h : Keeps b a0) :
    Keeps b (State.henClose a0) := by
  unfold State.henClose
  split
  · exact h
  · extract_lets v1 v2 v3
    have k2 : Keeps b v2 := by
      unfold v2
      exact Keeps.same h rfl rfl rfl rfl rfl
    clear_value v2
    split
    · exact k2
    · extract_lets v61 v62
      have k61 : Keeps b v61 := by
        unfold v61
        refine Keeps.ite ?_ ?_
        · exact keeps_henEnqueue k2
        · exact keeps_henLost k2
      clear_value v61
      refine Keeps.ite ?_ ?_
      · exact keeps_ringPush k61
      · exact k61

theorem keeps_henSetSlot {b : State} {a0 : State} {a1 : Nat} {a2 : Option HenSlot} (h : Keeps b a0) :
    Keeps b (State.henSetSlot a0 a1 a2) := by
  unfold State.henSetSlot
  exact Keeps.same h rfl rfl rfl rfl rfl

theorem keeps_henUsed {b : State} {a0 : State} (h : Keeps b a0) :
    Keeps b (State.henUsed a0) := by
  unfold State.henUsed
  exact keeps_setFld h

theorem keeps_henMakeSeq {b : State} {a0 : State} {a1 : Nat} {a2 : Nat} {a3 : Nat} {a4 : Option Nat} (h : Keeps b a0) :
    Keeps b (State.henMakeSeq a0 a1 a2 a3 a4).1 := by
  unfold State.henMakeSeq
  extract_lets v1 v2 v3 v4 v5 v6 v7 v8 v9
  have k4 : Keeps b v4 := by
    unfold v4
    exact Keeps.same h rfl rfl rfl rfl rfl
  have k5 : Keeps b v5 := by
    unfold v5
    exact keeps_henClose h
  clear_value v5
  have k8 : Keeps b v8 := by
    unfold v8
    exact Keeps.same k5 rfl rfl rfl rfl rfl
  clear_value v8
  refine Keeps.iteFst ?_ ?_
  · refine Keeps.fst ?_
    refine Keeps.ite ?_ ?_
    · exact keeps_henClose k4
    · exact k4
  · refine Keeps.iteFst ?_ ?_
    · refine Keeps.fst ?_
      exact keeps_henLost k8
    · split
      · refine Keeps.fst ?_
        exact keeps_raiseOnce (keeps_bump k8)
      · extract_lets v61 v62 v63 v64
        have k62 : Keeps b v62 := by
          unfold v62
          exact keeps_henSetSlot k8
        clear_value v62
        have k64 : Keeps b v64 := by
          unfold v64
          exact Keeps.same k62 rfl rfl rfl rfl rfl
        clear_value v64
        refine Keeps.fst ?_
        exact keeps_henEnqueue (keeps_henUsed k64)

theorem keeps_henMake {b : State} {a0 : State} {a1 : Nat} {a2 : Nat} {a3 : Nat} (h : Keeps b a0) :
    Keeps b (State.henMake a0 a1 a2 a3) := by
  unfold State.henMake
  exact keeps_henMakeSeq h

theorem keeps_updateAtOff {b : State} {a0 : State} (h : Keeps b a0) :
    Keeps b (State.updateAtOff a0) := by
  unfold State.updateAtOff
  refine Keeps.ite ?_ ?_
  · exact Keeps.same h rfl rfl rfl rfl rfl
  · refine Keeps.ite ?_ ?_
    · exact h
    · split
      · exact Keeps.same h rfl rfl rfl rfl rfl
      · exact Keeps.same h rfl rfl rfl rfl rfl

theorem keeps_henStore {b : State} {a0 : State} {a1 : HenWrite} (h : Keeps b a0) :
    Keeps b (State.henStore a0 a1) := by
  unfold State.henStore
  split
  · exact h
  · extract_lets v1 v2 v3 v4 v5 v6
    have k6 : Keeps b v6 := by
      unfold v6
      exact keeps_henSetSlot h
    clear_value v6
    refine Keeps.ite ?_ ?_
    · exact keeps_raise k6
    · exact k6

theorem keeps_henFlush {b : State} {a0 : State} (h : Keeps b a0) :
    Keeps b (State.henFlush a0) := by
  unfold State.henFlush
  extract_lets v1 v2 v3
  have k1 : Keeps b v1 := by
    unfold v1
    refine Keeps.foldl ?_ ?_
    · exact h
    · intro w61 x62 k63
      exact keeps_henStore k63
  clear_value v1
  have k3 : Keeps b v3 := by
    unfold v3
    exact Keeps.same k1 rfl rfl rfl rfl rfl
  clear_value v3
  split
  · exact k3
  · exact keeps_henStore k3

theorem keeps_goOff {b : State} {a0 : State} (h : Keeps b a0) :
    Keeps b (State.goOff a0) := by
  unfold State.goOff
  extract_lets v1 v2
  have k1 : Keeps b v1 := by
    unfold v1
    exact keeps_updateAtOff (keeps_henFlush h)
  clear_value v1
  have k2 : Keeps b v2 := by
    unfold v2
    exact keeps_hubReset k1
  clear_value v2
  refine Keeps.ite ?_ ?_
  · exact Keeps.same k2 rfl rfl rfl rfl rfl
  · exact k2

theorem keeps_modGooIn {b : State} {a0 : State} {a1 : Nat} {a2 : GooIn → GooIn} (h : Keeps b a0) :
    Keeps b (State.modGooIn a0 a1 a2) := by
  unfold State.modGooIn
  exact Keeps.same h rfl rfl rfl rfl rfl

theorem keeps_clearConsec {b : State} {a0 : State} {a1 : Nat} (h : Keeps b a0) :
    Keeps b (State.clearConsec a0 a1) := by
  unfold State.clearConsec
  exact keeps_setFlag (keeps_setFld h)

theorem keeps_setSlot {b : State} {a0 : State} {a1 : Nat} {a2 : SlotSt} (h : Keeps b a0) :
    Keeps b (State.setSlot a0 a1 a2) := by
  unfold State.setSlot
  exact Keeps.same h rfl rfl rfl rfl rfl

theorem keeps_modSlot {b : State} {a0 : State} {a1 : Nat} {a2 : SlotSt → SlotSt} (h : Keeps b a0) :
    Keeps b (State.modSlot a0 a1 a2) := by
  unfold State.modSlot
  exact keeps_setSlot h

theorem keeps_setRoute {b : State} {a0 : State} {a1 : Nat} {a2 : RouteSt} (h : Keeps b a0) :
    Keeps b (State.setRoute a0 a1 a2) := by
  unfold State.setRoute
  exact Keeps.same h rfl rfl rfl rfl rfl

theorem keeps_fly {b : State} {a0 : State} {a1 : Packet} {a2 : List (Nat × Nat)} {a3 : Nat} (h : Keeps b a0) :
    Keeps b (State.fly a0 a1 a2 a3) := by
  unfold State.fly
  exact Keeps.same h rfl rfl rfl rfl rfl

theorem keeps_sendOn {b : State} {a0 : State} {a1 : Nat} {a2 : RouteEntry} {a3 : List (Nat × Nat)} {a4 : List Nat} {a5 : Nat → Packet} (h : Keeps b a0) :
    Keeps b (State.sendOn a0 a1 a2 a3 a4 a5) := by
  unfold State.sendOn
  extract_lets v1
  split
  extract_lets v61
  have k61 : Keeps b v61 := by
    unfold v61
    exact keeps_setRoute h
  clear_value v61
  refine Keeps.foldl ?_ ?_
  · exact k61
  · intro w121 x122 k123
    exact keeps_fly k123

theorem keeps_sendSpec {b : State} {a0 : State} {a1 : Nat} {a2 : Nat} {a3 : Flit} (h : Keeps b a0) :
    Keeps b (State.sendSpec a0 a1 a2 a3) := by
  unfold State.sendSpec
  refine Keeps.foldl ?_ ?_
  · exact h
  · intro w1 x2 k3
    extract_lets v4
    exact keeps_sendOn k3

theorem keeps_sendDrop {b : State} {a0 : State} {a1 : Nat} {a2 : Nat} {a3 : Bool} (h : Keeps b a0) :
    Keeps b (State.sendDrop a0 a1 a2 a3) := by
  unfold State.sendDrop
  extract_lets v1 v2 v3
  have k2 : Keeps b v2 := by
    unfold v2
    exact keeps_sendSpec h
  clear_value v2
  exact Keeps.same k2 rfl rfl rfl rfl rfl

theorem keeps_dropFrom {b : State} {a0 : State} {a1 : Nat} {a2 : Nat} {a3 : List (Nat × Nat)} {a4 : Bool} {a5 : Bool} (h : Keeps b a0) :
    Keeps b (State.dropFrom a0 a1 a2 a3 a4 a5) := by
  unfold State.dropFrom
  extract_lets v1 v2 v3 v4 v5 v6 v7
  have k7 : Keeps b v7 := by
    unfold v7
    exact keeps_setSlot h
  clear_value v7
  refine Keeps.foldl ?_ ?_
  · exact k7
  · intro w61 x62 k63
    exact keeps_sendDrop k63

theorem keeps_dropAll {b : State} {a0 : State} {a1 : Nat} {a2 : List (Nat × Nat)} {a3 : List (Nat × Nat)} {a4 : List Nat} {a5 : Bool} (h : Keeps b a0) :
    Keeps b (State.dropAll a0 a1 a2 a3 a4 a5) := by
  unfold State.dropAll
  split
  refine Keeps.foldl ?_ ?_
  · exact h
  · intro w1 x2 k3
    exact keeps_dropFrom k3

theorem keeps_dropFrames {b : State} {a0 : State} {a1 : Nat} {a2 : Nat} {a3 : Bool} (h : Keeps b a0) :
    Keeps b (State.dropFrames a0 a1 a2 a3) := by
  unfold State.dropFrames
  exact keeps_dropAll h

theorem keeps_abandon {b : State} {a0 : State} {a1 : Nat} (h : Keeps b a0) :
    Keeps b (State.abandon a0 a1) := by
  unfold State.abandon
  extract_lets v1 v2 v3
  have k3 : Keeps b v3 := by
    unfold v3
    exact keeps_modSlot h
  clear_value v3
  exact keeps_dropFrames k3

theorem keeps_enterSafe {b : State} {a0 : State} {a1 : Nat} (h : Keeps b a0) :
    Keeps b (State.enterSafe a0 a1) := by
  unfold State.enterSafe
  extract_lets v1
  have k1 : Keeps b v1 := by
    unfold v1
    exact keeps_clearConsec (keeps_abandon h)
  clear_value v1
  exact keeps_modSlot (keeps_setFld k1)

theorem keeps_setFaultBit {b : State} {a0 : State} {a1 : Nat} {a2 : Bool} (h : Keeps b a0) :
    Keeps b (State.setFaultBit a0 a1 a2) := by
  unfold State.setFaultBit
  exact keeps_setFld h

theorem keeps_settleSlot {b : State} {a0 : State} {a1 : Nat} (h : Keeps b a0) :
    Keeps b (State.settleSlot a0 a1) := by
  unfold State.settleSlot
  extract_lets v1
  refine Keeps.ite ?_ ?_
  · exact keeps_enterSafe h
  · refine Keeps.ite ?_ ?_
    · exact keeps_enterSafe (keeps_modSlot (keeps_setFaultBit h))
    · refine Keeps.ite ?_ ?_
      · exact keeps_modSlot h
      · exact h

theorem keeps_settleSlots {b : State} {a0 : State} (h : Keeps b a0) :
    Keeps b (State.settleSlots a0) := by
  unfold State.settleSlots
  refine Keeps.foldl ?_ ?_
  · exact h
  · intro w1 x2 k3
    exact keeps_settleSlot k3

theorem keeps_workCheck {b : State} {a0 : State} (h : Keeps b a0) :
    Keeps b (State.workCheck a0) := by
  unfold State.workCheck
  refine Keeps.ite ?_ ?_
  · exact Keeps.same h rfl rfl rfl rfl rfl
  · exact h

theorem keeps_gooShow {b : State} {a0 : State} (h : Keeps b a0) :
    Keeps b (State.gooShow a0) := by
  unfold State.gooShow
  extract_lets v1 v2 v3 v4 v5
  have k1 : Keeps b v1 := by
    unfold v1
    refine Keeps.foldl ?_ ?_
    · exact h
    · intro w61 x62 k63
      extract_lets v64
      exact keeps_setFld (keeps_setFlag k63)
  clear_value v1
  have k2 : Keeps b v2 := by
    unfold v2
    exact keeps_setFld k1
  clear_value v2
  have k4 : Keeps b v4 := by
    unfold v4
    exact keeps_setFlag k2
  clear_value v4
  have k5 : Keeps b v5 := by
    unfold v5
    exact keeps_setFlag k4
  clear_value v5
  exact keeps_workCheck (keeps_setFlag k5)

theorem keeps_endSafeStop {b : State} {a0 : State} (h : Keeps b a0) :
    Keeps b (State.endSafeStop a0) := by
  unfold State.endSafeStop
  extract_lets v1 v2 v3 v4
  have k1 : Keeps b v1 := by
    unfold v1
    refine Keeps.foldl ?_ ?_
    · exact h
    · intro w61 x62 k63
      exact keeps_modGooIn k63
  clear_value v1
  have k3 : Keeps b v3 := by
    unfold v3
    exact Keeps.same k1 rfl rfl rfl rfl rfl
  clear_value v3
  have k4 : Keeps b v4 := by
    unfold v4
    exact keeps_settleSlots (keeps_gooShow (keeps_setFlag k3))
  clear_value v4
  exact keeps_henMake (keeps_raise k4)

theorem keeps_powerFail {b : State} {a0 : State} {a1 a2 : Nat} (h : Keeps b a0) :
    Keeps b (State.powerFail a0 a1 a2) := by
  unfold State.powerFail
  extract_lets low v1 v2 v3 v4 v5 v7 v6
  have k1 : Keeps b v1 := keeps_setFld (keeps_setFld h)
  have k2 : Keeps b v2 := keeps_setFld k1
  have k3 : Keeps b v3 := keeps_openDisconnect (keeps_raise k2)
  have k4 : Keeps b v4 := keeps_dspCut k3
  have k5 : Keeps b v5 := keeps_henMake k4
  have k7 : Keeps b v7 := keeps_raise k5
  have k6 : Keeps b v6 := keeps_goOff (Keeps.ite (keeps_endSafeStop k7) k7)
  exact ⟨k6.pending, Nat.le_trans k6.time (Nat.le_add_right _ _), k6.free, k6.mem, k6.regs⟩

theorem keeps_slabsOff {b : State} {a0 : State} (h : Keeps b a0) : Keeps b (State.slabsOff a0) :=
  ⟨h.pending, h.time, h.free, h.mem, fun r => regsWf_filter _ _ (h.regs r)⟩

theorem keeps_opPowerUp {b : State} {a0 : Nat} {a1 : State} (h : Keeps b a1) : Keeps b (opPowerUp a0 a1) := by
  unfold opPowerUp
  extract_lets src enabled v1 at_
  have k1 : Keeps b v1 := keeps_setFld h
  refine Keeps.ite h ?_
  exact ⟨k1.pending, Nat.le_trans k1.time (Nat.le_add_right _ _), k1.free, k1.mem, k1.regs⟩

theorem keeps_loseBackup {b : State} {a0 : State} (h : Keeps b a0) :
    Keeps b (State.loseBackup a0) := by
  unfold State.loseBackup
  refine Keeps.foldl ?_ ?_
  · exact h
  · intro w1 x2 k3
    split
    rename_i y4 y5 e6
    have k7 := congrArg Prod.snd e6
    replace k7 : Keeps b y5 := by
      refine Eq.subst (motive := fun z => Keeps b z) k7 ?_
      exact keeps_drawFree k3
    exact keeps_setFld k7

theorem keeps_opCanaryFlip {b : State} {a0 : Nat} {a1 : State} (h : Keeps b a1) :
    Keeps b (opCanaryFlip a0 a1) := by
  unfold opCanaryFlip
  refine Keeps.ite h (Keeps.ite ?_ ?_)
  · have k := keeps_drawFree (w := 48) h
    exact keeps_loseBackup ⟨k.pending, k.time, k.free, k.mem, k.regs⟩
  · exact keeps_loseBackup ⟨h.pending, h.time, h.free, h.mem, fun _ => rfl⟩

theorem keeps_unpoison {b : State} {a0 : State} {a1 : Nat} {a2 : Nat} (h : Keeps b a0) :
    Keeps b (State.unpoison a0 a1 a2) := by
  unfold State.unpoison
  exact Keeps.same h rfl rfl rfl rfl rfl

theorem keeps_setBankWord {b : State} {a0 : State} {a1 : Nat} {a2 : Nat} {a3 : Nat} {a4 : Nat} (h : Keeps b a0) :
    Keeps b (State.setBankWord a0 a1 a2 a3 a4) := by
  unfold State.setBankWord
  extract_lets v1 v2
  have k2 : Keeps b v2 := by
    unfold v2
    exact Keeps.same h rfl rfl rfl rfl rfl
  clear_value v2
  exact keeps_unpoison k2

theorem keeps_putBankWords {b : State} {a0 : List Byte} {a1 a2 a3 a4 : Nat} {a5 : State} (h : Keeps b a5) :
    Keeps b (putBankWords a0 a1 a2 a3 a4 a5) := by
  induction a4 generalizing a0 a3 a5 with
  | zero => exact h
  | succ n ih => exact ih (keeps_setBankWord h)

theorem keeps_holdRoute {b : State} {a0 : State} {a1 : Nat} {a2 : Nat} (h : Keeps b a0) :
    Keeps b (State.holdRoute a0 a1 a2) := by
  unfold State.holdRoute
  exact Keeps.same h rfl rfl rfl rfl rfl

theorem keeps_commitRoute {b : State} {a0 : State} {a1 : Nat} {a2 : Option (Nat × Nat)} (h : Keeps b a0) :
    Keeps b (State.commitRoute a0 a1 a2).1 := by
  unfold State.commitRoute
  extract_lets v1 v2 v3 v4
  refine Keeps.iteFst ?_ ?_
  · refine Keeps.fst ?_
    exact keeps_setRoute h
  · refine Keeps.iteFst ?_ ?_
    · refine Keeps.fst ?_
      exact keeps_setRoute h
    · refine Keeps.iteFst ?_ ?_
      · refine Keeps.fst ?_
        exact keeps_setRoute h
      · refine Keeps.fst ?_
        exact keeps_setRoute h

theorem keeps_openStage {b : State} {a0 : State} {a1 : Nat} (h : Keeps b a0) :
    Keeps b (State.openStage a0 a1) := by
  unfold State.openStage
  exact keeps_setFld (keeps_setFlag h)

theorem keeps_showInflight {b : State} {a0 : State} {a1 : Nat} (h : Keeps b a0) :
    Keeps b (State.showInflight a0 a1) := by
  unfold State.showInflight
  exact keeps_setFld (keeps_setFld h)

theorem keeps_setOps {b : State} {a0 : State} {a1 : List Op} (h : Keeps b a0) :
    Keeps b (State.setOps a0 a1) := by
  unfold State.setOps
  exact Keeps.same h rfl rfl rfl rfl rfl

theorem keeps_dropOp {b : State} {a0 : State} {a1 : Nat} {a2 : Nat} (h : Keeps b a0) :
    Keeps b (State.dropOp a0 a1 a2) := by
  unfold State.dropOp
  exact keeps_showInflight (keeps_setOps h)

theorem keeps_tallyCode {b : State} {a0 : State} {a1 : Nat} {a2 : Nat} {a3 : Nat} (h : Keeps b a0) :
    Keeps b (State.tallyCode a0 a1 a2 a3) := by
  unfold State.tallyCode
  extract_lets v1 v2 v3
  have k1 : Keeps b v1 := by
    unfold v1
    refine Keeps.ite ?_ ?_
    · exact keeps_bump h
    · exact h
  clear_value v1
  have k2 : Keeps b v2 := by
    unfold v2
    refine Keeps.ite ?_ ?_
    · exact keeps_bump k1
    · exact k1
  clear_value v2
  have k3 : Keeps b v3 := by
    unfold v3
    refine Keeps.ite ?_ ?_
    · exact keeps_bump k2
    · exact k2
  clear_value v3
  refine Keeps.ite ?_ ?_
  · exact keeps_bump k3
  · exact k3

theorem keeps_finish {b : State} {a0 : State} {a1 : Op} {a2 : Nat} {a3 : Nat} {a4 : Nat} (h : Keeps b a0) :
    Keeps b (State.finish a0 a1 a2 a3 a4) := by
  unfold State.finish
  extract_lets v1 v2 v3 v4 v5
  have k4 : Keeps b v4 := by
    unfold v4
    exact keeps_dropOp h
  clear_value v4
  have k5 : Keeps b v5 := by
    unfold v5
    exact keeps_tallyCode k4
  clear_value v5
  refine Keeps.ite ?_ ?_
  · exact k5
  · exact keeps_writeRecord k5

theorem keeps_opRouteCommit {b : State} {a0 : State} {a1 : Op} (h : Keeps b a0) :
    Keeps b (opRouteCommit a0 a1) := by
  unfold opRouteCommit
  extract_lets r epoch e grow v1 v2 v3 v4 v5 v6
  have k1 : Keeps b v1 := Keeps.ite (keeps_holdRoute h) h
  have k3 : ∀ w, Keeps b (v3.commitRoute r w).1 := fun w => keeps_commitRoute (keeps_setRoute k1)
  have k6 : Keeps b v6 := Keeps.same (keeps_openStage k1) rfl rfl rfl rfl rfl
  clear_value v3 v6 v1
  split
  · exact keeps_finish h
  · refine Keeps.ite (keeps_finish h) (Keeps.ite (Keeps.ite (keeps_finish k1) ?_) ?_)
    · have k4 := k3 (some (a1.ctx, a1.tag))
      split <;> next v5 heq => rw [heq] at k4; first | exact k4 | exact keeps_finish k4
    · split
      · exact keeps_finish k1
      · exact keeps_finish (keeps_drawFree (w := 32) k6)

theorem keeps_setPort {b : State} {a0 : State} {a1 : Nat} {a2 : PortSt} (h : Keeps b a0) :
    Keeps b (State.setPort a0 a1 a2) := by
  unfold State.setPort
  exact Keeps.same h rfl rfl rfl rfl rfl

theorem keeps_modPort {b : State} {a0 : State} {a1 : Nat} {a2 : PortSt → PortSt} (h : Keeps b a0) :
    Keeps b (State.modPort a0 a1 a2) := by
  unfold State.modPort
  exact keeps_setPort h

theorem keeps_serveCams {b : State} {a0 : State} {a1 : Nat} {a2 : Nat} (h : Keeps b a0) :
    Keeps b (State.serveCams a0 a1 a2) := by
  unfold State.serveCams
  extract_lets v1 v2 v3 v4 v5 v6 v7
  have k6 : Keeps b v6 := by
    unfold v6
    refine Keeps.foldl ?_ ?_
    · exact h
    · intro w61 x62 k63
      exact keeps_modPort k63
  clear_value v6
  exact Keeps.same k6 rfl rfl rfl rfl rfl

theorem keeps_sendEos {b : State} {a0 : State} {a1 : Nat} (h : Keeps b a0) :
    Keeps b (State.sendEos a0 a1) := by
  unfold State.sendEos
  extract_lets v1
  split
  · exact h
  · extract_lets v61 v62
    have k61 : Keeps b v61 := by
      unfold v61
      refine Keeps.foldl ?_ ?_
      · exact h
      · intro w121 x122 k123
        exact keeps_sendOn k123
    clear_value v61
    exact keeps_setRoute k61

theorem keeps_switchRoute {b : State} {a0 : State} {a1 : Nat} {a2 : RouteEntry} {a3 : List (Nat × Nat)} (h : Keeps b a0) :
    Keeps b (State.switchRoute a0 a1 a2 a3) := by
  unfold State.switchRoute
  extract_lets v1 v2 v3 v4
  have k4 : Keeps b v4 := by
    unfold v4
    exact keeps_setRoute h
  clear_value v4
  refine Keeps.ite ?_ ?_
  · exact k4
  · exact keeps_sendEos k4

theorem keeps_writeStore {b : State} {a0 : State} {a1 : Bool} (h : Keeps b a0) :
    Keeps b (State.writeStore a0 a1) := by
  unfold State.writeStore
  exact Keeps.same h rfl rfl rfl rfl rfl

theorem keeps_imageChanged {b : State} {a0 : State} {a1 : Bool} (h : Keeps b a0) :
    Keeps b (State.imageChanged a0 a1) := by
  unfold State.imageChanged
  extract_lets v1
  have k1 : Keeps b v1 := by
    unfold v1
    exact keeps_setFlag h
  clear_value v1
  refine Keeps.ite ?_ ?_
  · exact keeps_writeStore k1
  · exact k1

theorem keeps_takeTarget {b : State} {a0 : State} {a1 : Nat} {a2 : Nat} (h : Keeps b a0) :
    Keeps b (State.takeTarget a0 a1 a2) := by
  unfold State.takeTarget
  extract_lets v1
  split
  · exact h
  · extract_lets v61 v62 v63 v64
    have k61 : Keeps b v61 := by
      unfold v61
      exact keeps_switchRoute h
    clear_value v61
    have k63 : Keeps b v63 := by
      unfold v63
      exact keeps_setRoute k61
    clear_value v63
    have k64 : Keeps b v64 := by
      unfold v64
      refine Keeps.ite ?_ ?_
      · exact keeps_imageChanged k63
      · exact k63
    clear_value v64
    split
    · exact k64
    · split
      · exact keeps_finish k64
      · exact k64

theorem keeps_atEmission {b : State} {a0 : State} {a1 : Nat} {a2 : Nat} {a3 : Nat} {a4 : Bool} (h : Keeps b a0) :
    Keeps b (State.atEmission a0 a1 a2 a3 a4) := by
  unfold State.atEmission
  refine Keeps.ite ?_ ?_
  · exact keeps_takeTarget h
  · exact h

theorem keeps_dropFinished {b : State} {a0 : State} {a1 : Nat} (h : Keeps b a0) :
    Keeps b (State.dropFinished a0 a1) := by
  unfold State.dropFinished
  exact keeps_modPort h

theorem keeps_setFrame {b : State} {a0 : State} {a1 : Nat} {a2 : CamFrame} (h : Keeps b a0) :
    Keeps b (State.setFrame a0 a1 a2) := by
  unfold State.setFrame
  exact keeps_modPort h

theorem keeps_tapError {b : State} {a0 : State} {a1 : Nat} {a2 : Bool} (h : Keeps b a0) :
    Keeps b (State.tapError a0 a1 a2) := by
  unfold State.tapError
  exact keeps_raise (keeps_setFlag h)

theorem keeps_emitOn {b : State} {a0 : State} {a1 : Nat} {a2 : Nat} {a3 : Nat} {a4 : Nat} {a5 : Bool} {a6 : Bool} {a7 : List Flit} (h : Keeps b a0) :
    Keeps b (State.emitOn a0 a1 a2 a3 a4 a5 a6 a7).1 := by
  unfold State.emitOn
  extract_lets v1
  have k1 : Keeps b v1 := by
    unfold v1
    exact keeps_atEmission h
  clear_value v1
  split
  · refine Keeps.fst ?_
    exact k1
  · extract_lets v61 v62 v63 v64
    have k61 : Keeps b v61 := by
      unfold v61
      exact keeps_sendOn k1
    clear_value v61
    have k63 : Keeps b v63 := by
      unfold v63
      exact keeps_setRoute k61
    clear_value v63
    refine Keeps.iteFst ?_ ?_
    · refine Keeps.fst ?_
      exact keeps_setRoute k61
    · refine Keeps.iteFst ?_ ?_
      · refine Keeps.fst ?_
        exact k61
      · refine Keeps.iteFst ?_ ?_
        · refine Keeps.fst ?_
          exact keeps_setRoute k63
        · refine Keeps.fst ?_
          exact keeps_sendEos k63

theorem keeps_emit {b : State} {a0 : State} {a1 : Nat} {a2 : Nat} {a3 : Nat} {a4 : Nat} {a5 : Bool} {a6 : Bool} {a7 : List Flit} (h : Keeps b a0) :
    Keeps b (State.emit a0 a1 a2 a3 a4 a5 a6 a7) := by
  unfold State.emit
  exact keeps_emitOn h

theorem keeps_tapStatus {b : State} {a0 : State} {a1 : Nat} {a2 : CamFrame} {a3 : Bool} (h : Keeps b a0) :
    Keeps b (State.tapStatus a0 a1 a2 a3) := by
  unfold State.tapStatus
  refine Keeps.ite ?_ ?_
  · exact h
  · extract_lets v1 v2 v3 v4 v5 v6
    have k2 : Keeps b v2 := by
      unfold v2
      exact keeps_setFrame h
    clear_value v2
    have k4 : Keeps b v4 := by
      unfold v4
      exact keeps_atEmission k2
    clear_value v4
    refine Keeps.ite ?_ ?_
    · exact k2
    · refine Keeps.ite ?_ ?_
      · exact keeps_tapError k4
      · exact keeps_emit k4

theorem keeps_noteDrop {b : State} {a0 : State} {a1 : Nat} {a2 : CamFrame} (h : Keeps b a0) :
    Keeps b (State.noteDrop a0 a1 a2) := by
  unfold State.noteDrop
  extract_lets v1
  have k1 : Keeps b v1 := by
    unfold v1
    refine Keeps.ite ?_ ?_
    · exact h
    · exact keeps_bump (keeps_setFrame h)
  clear_value v1
  refine Keeps.ite ?_ ?_
  · exact k1
  · exact keeps_raise (keeps_modPort k1)

theorem keeps_tapDrop {b : State} {a0 : State} {a1 : Nat} {a2 : CamFrame} {a3 : Bool} {a4 : Nat} (h : Keeps b a0) :
    Keeps b (State.tapDrop a0 a1 a2 a3 a4) := by
  unfold State.tapDrop
  refine Keeps.ite ?_ ?_
  · exact h
  · extract_lets v1 v2
    exact keeps_tapStatus (keeps_setFrame (keeps_noteDrop h))

theorem keeps_tapMayClose {b : State} {a0 : State} {a1 : Nat} {a2 : CamFrame} {a3 : Bool} (h : Keeps b a0) :
    Keeps b (State.tapMayClose a0 a1 a2 a3) := by
  unfold State.tapMayClose
  refine Keeps.ite ?_ ?_
  · extract_lets v1 v2
    have k1 : Keeps b v1 := by
      unfold v1
      exact keeps_tapStatus h
    clear_value v1
    refine Keeps.ite ?_ ?_
    · exact keeps_modPort k1
    · exact k1
  · exact h

theorem keeps_lineFlits {b : State} {a0 : State} {a1 : CamFrame} {a2 : Bool} {a3 : Nat} (h : Keeps b a0) :
    Keeps b (State.lineFlits a0 a1 a2 a3).2 := by
  unfold State.lineFlits
  extract_lets v1
  refine Keeps.iteSnd ?_ ?_
  · refine Keeps.snd ?_
    exact h
  · refine Keeps.foldlSnd ?_ ?_
    · refine Keeps.snd ?_
      exact h
    · intro w61 x62 k63
      split
      rename_i y64 y65 e66
      have k67 := congrArg Prod.snd e66
      replace k67 : Keeps b y65 := by
        refine Eq.subst (motive := fun z => Keeps b z) k67 ?_
        exact keeps_drawFree k63
      refine Keeps.snd ?_
      exact k67

theorem keeps_opTapLine {b : State} {a0 : Nat} {a1 : Bool} {a2 : State} (h : Keeps b a2) :
    Keeps b (opTapLine a0 a1 a2) := by
  unfold opTapLine
  extract_lets v1
  have k1 : Keeps b v1 := by
    unfold v1
    exact keeps_serveCams h
  clear_value v1
  split
  · exact k1
  · extract_lets v61 v62 v63 v64 v65
    have k64 : Keeps b v64 := by
      unfold v64
      exact keeps_atEmission k1
    clear_value v64
    refine Keeps.ite ?_ ?_
    · exact k1
    · refine Keeps.ite ?_ ?_
      · exact keeps_dropFinished (keeps_tapDrop k1)
      · refine Keeps.ite ?_ ?_
        · exact keeps_dropFinished (keeps_tapMayClose (keeps_tapError (keeps_setFrame k64)))
        · split
          rename_i y121 y122 e123
          have k124 := congrArg Prod.snd e123
          replace k124 : Keeps b y122 := by
            refine Eq.subst (motive := fun z => Keeps b z) k124 ?_
            exact keeps_lineFlits k64
          split
          rename_i y125 y126 e127
          have k128 := congrArg Prod.fst e127
          replace k128 : Keeps b y125 := by
            refine Eq.subst (motive := fun z => Keeps b z) k128 ?_
            refine Keeps.foldlFst ?_ ?_
            · refine Keeps.fst ?_
              exact k124
            · intro w129 x130 k131
              exact keeps_emitOn k131
          extract_lets v132
          exact keeps_dropFinished (keeps_tapMayClose (keeps_setFrame k128))

theorem keeps_readMeasured {b : State} {a0 : State} {a1 : Word} {a2 : Word} (h : Keeps b a0) :
    Keeps b (State.readMeasured a0 a1 a2).2 := by
  unfold State.readMeasured
  refine Keeps.iteSnd ?_ ?_
  · refine Keeps.snd ?_
    exact h
  · split
    rename_i y1 y2 e3
    have k4 := congrArg Prod.snd e3
    replace k4 : Keeps b y2 := by
      refine Eq.subst (motive := fun z => Keeps b z) k4 ?_
      exact keeps_drawFree h
    refine Keeps.snd ?_
    exact k4

theorem keeps_readMulStat {b : State} {a0 : State} {a1 : Nat} (h : Keeps b a0) :
    Keeps b (State.readMulStat a0 a1).2 := by
  unfold State.readMulStat
  exact keeps_readMeasured h

theorem keeps_opMulStatusRead {b : State} {a0 : State} {a1 : Op} (h : Keeps b a0) :
    Keeps b (opMulStatusRead a0 a1) := by
  unfold opMulStatusRead
  split
  rename_i y1 y2 e3
  have k4 := congrArg Prod.snd e3
  replace k4 : Keeps b y2 := by
    refine Eq.subst (motive := fun z => Keeps b z) k4 ?_
    refine Keeps.foldlSnd ?_ ?_
    · refine Keeps.snd ?_
      exact h
    · intro w5 x6 k7
      split
      rename_i y8 y9 e10
      have k11 := congrArg Prod.snd e10
      replace k11 : Keeps b y9 := by
        refine Eq.subst (motive := fun z => Keeps b z) k11 ?_
        exact keeps_readMulStat k7
      refine Keeps.snd ?_
      exact k11
  split
  rename_i y12 y13 e14
  have k15 := congrArg Prod.snd e14
  replace k15 : Keeps b y13 := by
    refine Eq.subst (motive := fun z => Keeps b z) k15 ?_
    exact keeps_readMeasured k4
  exact keeps_finish (keeps_writeBytes k15)

theorem keeps_violate {b : State} {a0 : State} {a1 : Nat} {a2 : Bool} (h : Keeps b a0) :
    Keeps b (State.violate a0 a1 a2) := by
  unfold State.violate
  extract_lets v1 v2 v3
  have k1 : Keeps b v1 := by
    unfold v1
    exact keeps_setFlag h
  clear_value v1
  have k2 : Keeps b v2 := by
    unfold v2
    exact keeps_setReg k1
  clear_value v2
  exact keeps_henMake (keeps_raise k2)

theorem keeps_holdRoutes {b : State} {a0 : State} {a1 : Nat} {a2 : List (Nat × RouteEntry)} (h : Keeps b a0) :
    Keeps b (State.holdRoutes a0 a1 a2) := by
  unfold State.holdRoutes
  refine Keeps.foldl ?_ ?_
  · exact h
  · intro w1 x2 k3
    refine Keeps.ite ?_ ?_
    · exact keeps_holdRoute k3
    · exact k3

theorem keeps_writeStaged {b : State} {a0 : State} {a1 : Op} {a2 a3 : Nat} {a4 : List Byte} (h : Keeps b a0) :
    Keeps b (State.writeStaged a0 a1 a2 a3 a4) := by
  have hp : ∀ s : State, Keeps b s →
      Keeps b { s with mor := { s.mor with staged := spSet s.mor.staged a3 (some a4) } } :=
    fun s k => ⟨k.pending, k.time, k.free, k.mem, k.regs⟩
  unfold State.writeStaged
  extract_lets t done put
  refine Keeps.ite ?_ (Keeps.ite ?_ ?_)
  · split
    · exact keeps_finish (keeps_violate h)
    · exact keeps_finish (hp _ (keeps_openStage h))
  · split
    · exact keeps_finish h
    · exact keeps_finish (hp _ (keeps_openStage h))
  · refine Keeps.ite ?_ ?_
    · split
      · exact keeps_finish h
      · have k := keeps_holdRoutes (a1 := a1.ctx) (a2 := routeChanges a0.stagedEntries (a3 / 5) a4) (keeps_openStage (a1 := a2) h)
        exact keeps_finish ⟨k.pending, k.time, k.free, k.mem, k.regs⟩
    · exact keeps_finish (hp _ (keeps_openStage h))

theorem keeps_holdSlot {b : State} {a0 : State} {a1 : Nat} {a2 : Nat} (h : Keeps b a0) :
    Keeps b (State.holdSlot a0 a1 a2) := by
  unfold State.holdSlot
  exact Keeps.same h rfl rfl rfl rfl rfl

theorem keeps_setRecWord {b : State} {a0 : State} {a1 : Nat} {a2 : Nat} {a3 : Nat} (h : Keeps b a0) :
    Keeps b (State.setRecWord a0 a1 a2 a3) := by
  unfold State.setRecWord
  exact Keeps.same h rfl rfl rfl rfl rfl

theorem keeps_zeroLaw {b : State} {a0 : State} {a1 : Nat} (h : Keeps b a0) :
    Keeps b (State.zeroLaw a0 a1) := by
  unfold State.zeroLaw
  exact keeps_setRecWord (keeps_setRecWord h)

theorem keeps_resetOut {b : State} {a0 : State} {a1 : Nat} {a2 : Bool} (h : Keeps b a0) :
    Keeps b (State.resetOut a0 a1 a2) := by
  unfold State.resetOut
  extract_lets v1 v2 v3
  exact keeps_setRecWord h

theorem keeps_showUtil {b : State} {a0 : State} {a1 : Nat} (h : Keeps b a0) :
    Keeps b (State.showUtil a0 a1) := by
  unfold State.showUtil
  extract_lets v1 v2
  exact keeps_setFld (keeps_setFld h)

theorem keeps_rearmSlot {b : State} {a0 : State} {a1 : Nat} (h : Keeps b a0) :
    Keeps b (State.rearmSlot a0 a1) := by
  unfold State.rearmSlot
  extract_lets v1 v2 v3 v4 v5
  have k2 : Keeps b v2 := by
    unfold v2
    exact keeps_setFld h
  clear_value v2
  have k3 : Keeps b v3 := by
    unfold v3
    exact keeps_clearConsec (keeps_zeroLaw (keeps_resetOut k2))
  clear_value v3
  have k4 : Keeps b v4 := by
    unfold v4
    exact keeps_setFaultBit k3
  clear_value v4
  have k5 : Keeps b v5 := by
    unfold v5
    exact keeps_modSlot k4
  clear_value v5
  exact keeps_showUtil k5

theorem keeps_enableSlot {b : State} {a0 : State} {a1 : Nat} {a2 : Nat} (h : Keeps b a0) :
    Keeps b (State.enableSlot a0 a1 a2) := by
  unfold State.enableSlot
  extract_lets v1 v2 v3 v4 v5 v6 v7 v8 v9
  have k2 : Keeps b v2 := by
    unfold v2
    exact keeps_setFld h
  clear_value v2
  have k3 : Keeps b v3 := by
    unfold v3
    exact keeps_setFld k2
  clear_value v3
  have k4 : Keeps b v4 := by
    unfold v4
    refine Keeps.ite ?_ ?_
    · exact k3
    · exact keeps_holdSlot k3
  clear_value v4
  have k5 : Keeps b v5 := by
    unfold v5
    exact keeps_clearConsec (keeps_resetOut k4)
  clear_value v5
  have k6 : Keeps b v6 := by
    unfold v6
    exact keeps_setFlag k5
  clear_value v6
  have k9 : Keeps b v9 := by
    unfold v9
    exact keeps_modSlot k6
  clear_value v9
  exact keeps_showUtil k9

theorem keeps_admitSlot {b : State} {a0 : State} {a1 : Nat} {a2 : Nat} {a3 : Bool} (h : Keeps b a0) :
    Keeps b (State.admitSlot a0 a1 a2 a3) := by
  unfold State.admitSlot
  refine Keeps.ite ?_ ?_
  · exact keeps_rearmSlot h
  · exact keeps_enableSlot h

theorem keeps_opLoopAdmit {b : State} {a0 : Bool} {a1 : State} {a2 : Op} (h : Keeps b a1) :
    Keeps b (opLoopAdmit a0 a1 a2) := by
  unfold opLoopAdmit
  extract_lets g refusal v1 reason v2
  have k1 : Keeps b v1 := Keeps.ite (keeps_holdSlot h) h
  have k2 : Keeps b v2 := keeps_admitSlot k1
  clear_value v2 v1 refusal
  cases refusal with
  | some p => obtain ⟨c, d⟩ := p; exact keeps_finish h
  | none => exact Keeps.ite (keeps_finish (keeps_raise k1)) (keeps_finish k2)

theorem keeps_setSample {b : State} {a0 : State} {a1 : Nat} {a2 : Sample} (h : Keeps b a0) :
    Keeps b (State.setSample a0 a1 a2) := by
  unfold State.setSample
  exact keeps_modSlot h

theorem keeps_countSpec {b : State} {a0 : State} {a1 : Nat} {a2 : Sample} {a3 : Bool} {a4 : Bool} (h : Keeps b a0) :
    Keeps b (State.countSpec a0 a1 a2 a3 a4) := by
  unfold State.countSpec
  exact keeps_modSlot h

theorem keeps_overrun {b : State} {a0 : State} {a1 : Nat} {a2 : Sample} (h : Keeps b a0) :
    Keeps b (State.overrun a0 a1 a2) := by
  unfold State.overrun
  extract_lets v1 v2 v3 v4 v5 v6 v7 v8 v9 v10 v11
  have k5 : Keeps b v5 := by
    unfold v5
    exact keeps_setFlag h
  clear_value v5
  have k6 : Keeps b v6 := by
    unfold v6
    exact keeps_setFld k5
  clear_value v6
  have k7 : Keeps b v7 := by
    unfold v7
    exact keeps_modSlot k6
  clear_value v7
  have k8 : Keeps b v8 := by
    unfold v8
    exact keeps_setSample k7
  clear_value v8
  have k9 : Keeps b v9 := by
    unfold v9
    refine Keeps.ite ?_ ?_
    · exact keeps_raise k8
    · exact k8
  clear_value v9
  have k10 : Keeps b v10 := by
    unfold v10
    exact keeps_setFaultBit (keeps_setFld k9)
  clear_value v10
  have k11 : Keeps b v11 := by
    unfold v11
    exact keeps_setSample k10
  clear_value v11
  refine Keeps.ite ?_ ?_
  · exact k9
  · refine Keeps.ite ?_ ?_
    · exact keeps_enterSafe k9
    · exact keeps_modSlot (keeps_dropFrames k11)

theorem keeps_accept {b : State} {a0 : State} {a1 : Nat} {a2 : Sample} {a3 : EvalOut} {a4 : Bool} (h : Keeps b a0) :
    Keeps b (State.accept a0 a1 a2 a3 a4) := by
  unfold State.accept
  extract_lets v1 v2 v3 v4 v5 v6
  have k1 : Keeps b v1 := by
    unfold v1
    exact keeps_setRecWord (keeps_setRecWord (keeps_setRecWord h))
  clear_value v1
  have k2 : Keeps b v2 := by
    unfold v2
    refine Keeps.foldl ?_ ?_
    · exact k1
    · intro w61 x62 k63
      exact keeps_unpoison k63
  clear_value v2
  have k3 : Keeps b v3 := by
    unfold v3
    exact keeps_clearConsec k2
  clear_value v3
  have k5 : Keeps b v5 := by
    unfold v5
    exact keeps_setSample k3
  clear_value v5
  have k6 : Keeps b v6 := by
    unfold v6
    exact keeps_modSlot k5
  clear_value v6
  refine Keeps.ite ?_ ?_
  · exact keeps_raise k6
  · exact k6

theorem keeps_discardFrame {b : State} {a0 : State} {a1 : Nat} {a2 : Nat} (h : Keeps b a0) :
    Keeps b (State.discardFrame a0 a1 a2) := by
  unfold State.discardFrame
  extract_lets v1 v2
  have k2 : Keeps b v2 := by
    unfold v2
    exact keeps_setSlot h
  clear_value v2
  split
  · exact h
  · refine Keeps.ite ?_ ?_
    · exact keeps_dropAll (keeps_sendDrop k2)
    · exact k2

theorem keeps_releaseFrames {b : State} {a0 : State} {a1 : Nat} {a2 : Nat} {a3 : Record} (h : Keeps b a0) :
    Keeps b (State.releaseFrames a0 a1 a2 a3) := by
  unfold State.releaseFrames
  exact keeps_modSlot h

theorem keeps_opLoopGuard {b : State} {a0 : Nat} {a1 : State} (h : Keeps b a1) :
    Keeps b (opLoopGuard a0 a1) := by
  unfold opLoopGuard
  split
  · exact h
  · refine Keeps.ite (keeps_setSample h) ?_
    extract_lets r late res fromFrame v1 v2 v3
    have k1 : Keeps b v1 := Keeps.ite (keeps_countSpec h) h
    clear_value v1
    have k2 : Keeps b v2 := by
      unfold v2
      cases res with
      | none => exact keeps_overrun k1
      | some p => obtain ⟨o, q⟩ := p; exact keeps_accept k1
    clear_value v2
    have k3 : Keeps b v3 := Keeps.ite (keeps_modSlot k2) (keeps_dropFrames (keeps_discardFrame k2))
    clear_value v3
    exact Keeps.ite k2 (Keeps.ite (keeps_releaseFrames k3) k3)

theorem keeps_eccErrors {b : State} {a0 : State} {a1 : List BrickError} (h : Keeps b a0) :
    Keeps b (State.eccErrors a0 a1) := by
  unfold State.eccErrors
  refine Keeps.foldl ?_ ?_
  · exact h
  · intro w1 x2 k3
    extract_lets v4 v5 v6
    have k5 : Keeps b v5 := by
      unfold v5
      exact Keeps.same k3 rfl rfl rfl rfl rfl
    clear_value v5
    have k6 : Keeps b v6 := by
      unfold v6
      exact keeps_setFlag k5
    clear_value v6
    exact keeps_henMake (keeps_raise k6)

theorem keeps_modNet {b : State} {a0 : State} {a1 : Nat} {a2 : NetSt → NetSt} (h : Keeps b a0) :
    Keeps b (State.modNet a0 a1 a2) := by
  unfold State.modNet
  exact Keeps.same h rfl rfl rfl rfl rfl

theorem keeps_opStepStart {b : State} {a0 : Nat} {a1 : List (Nat × BrickError)} {a2 : List BrickError} {a3 : State}
    (h : Keeps b a3) : Keeps b (opStepStart a0 a1 a2 a3) := by
  unfold opStepStart
  split
  · exact h
  · refine Keeps.ite h ?_
    extract_lets mask v1 ports present gap causes started v2 v3
    have k1 : Keeps b v1 := keeps_eccErrors h
    have k2 : Keeps b v2 := keeps_modNet k1
    have k3 : Keeps b v3 := Keeps.ite (keeps_bump k2) k2
    clear_value v3 causes
    cases causes with
    | nil => exact k3
    | cons c l => exact keeps_raise (keeps_bump (keeps_setFld (keeps_modNet k3)))

theorem keeps_opMassZero {b : State} {a0 : State} (h : Keeps b a0) : Keeps b (opMassZero a0) := by
  unfold opMassZero
  extract_lets quiet long last
  refine Keeps.ite h ?_
  cases last with
  | nil => exact h
  | cons m l => exact ⟨h.pending, h.time, h.free, h.mem, h.regs⟩

theorem keeps_showSegs {b : State} {a0 : State} {a1 : Nat} (h : Keeps b a0) :
    Keeps b (State.showSegs a0 a1) := by
  unfold State.showSegs
  exact keeps_setFld h

theorem keeps_putSegImage {b : State} {a0 : State} {a1 : Nat} {a2 : List Byte} (h : Keeps b a0) :
    Keeps b (State.putSegImage a0 a1 a2) := by
  unfold State.putSegImage
  extract_lets v1
  have k1 : Keeps b v1 := by
    unfold v1
    refine Keeps.foldl ?_ ?_
    · exact h
    · intro w61 x62 k63
      extract_lets v64 v65
      refine Keeps.ite ?_ ?_
      · exact k63
      · exact Keeps.same k63 rfl rfl rfl rfl rfl
  clear_value v1
  exact keeps_showSegs k1

theorem keeps_badAccess {b : State} {a0 : State} (h : Keeps b a0) :
    Keeps b (State.badAccess a0) := by
  unfold State.badAccess
  exact keeps_setFlag h

theorem keeps_plainWrite {b : State} {a0 : State} {a1 : Nat} {a2 : Word} (h : Keeps b a0) :
    Keeps b (State.plainWrite a0 a1 a2) := by
  unfold State.plainWrite
  split
  · exact keeps_badAccess h
  · extract_lets v1 v2 v3
    have k3 : Keeps b v3 := by
      unfold v3
      exact keeps_setReg h
    clear_value v3
    refine Keeps.ite ?_ ?_
    · refine Keeps.ite ?_ ?_
      · exact keeps_violate k3
      · refine Keeps.ite ?_ ?_
        · exact keeps_imageChanged k3
        · exact k3
    · exact k3

theorem keeps_opGooInCfgWrite {b : State} {a0 : Nat} {a1 : Word} {a2 : State} (h : Keeps b a2) :
    Keeps b (opGooInCfgWrite a0 a1 a2) := by
  unfold opGooInCfgWrite
  exact keeps_gooShow (keeps_plainWrite h)

theorem keeps_opGooOutCfgWrite {b : State} {a0 : Nat} {a1 : Word} {a2 : State} (h : Keeps b a2) :
    Keeps b (opGooOutCfgWrite a0 a1 a2) := by
  unfold opGooOutCfgWrite
  extract_lets v1
  exact keeps_gooShow (keeps_plainWrite h)

theorem keeps_putRwl {b : State} {a0 : State} {a1 : Nat} {a2 : Word} (h : Keeps b a0) :
    Keeps b (State.putRwl a0 a1 a2) := by
  unfold State.putRwl
  extract_lets v1 v2
  refine Keeps.ite ?_ ?_
  · exact h
  · refine Keeps.ite ?_ ?_
    · exact keeps_violate h
    · refine Keeps.ite ?_ ?_
      · exact keeps_opGooInCfgWrite h
      · refine Keeps.ite ?_ ?_
        · exact keeps_opGooOutCfgWrite h
        · refine Keeps.ite ?_ ?_
          · exact keeps_setReg h
          · exact keeps_setReg h

theorem keeps_putHubImage {b : State} {a0 : State} {a1 : Nat} {a2 : List Byte} (h : Keeps b a0) :
    Keeps b (State.putHubImage a0 a1 a2) := by
  unfold State.putHubImage
  extract_lets v1 v2
  have k1 : Keeps b v1 := by
    unfold v1
    refine Keeps.foldl ?_ ?_
    · exact h
    · intro w61 x62 k63
      extract_lets v64
      refine Keeps.ite ?_ ?_
      · exact k63
      · exact keeps_putRwl k63
  clear_value v1
  refine Keeps.ite ?_ ?_
  · exact Keeps.same k1 rfl rfl rfl rfl rfl
  · exact k1

theorem keeps_putImage {b : State} {a0 : State} {a1 : Nat} {a2 : List Byte} (h : Keeps b a0) :
    Keeps b (State.putImage a0 a1 a2) := by
  unfold State.putImage
  refine Keeps.ite ?_ ?_
  · extract_lets v1 v2
    split
    · refine Keeps.foldl ?_ ?_
      · exact h
      · intro w61 x62 k63
        refine Keeps.foldl ?_ ?_
        · exact k63
        · intro w64 x65 k66
          exact keeps_unpoison (keeps_setRecWord k66)
    · exact keeps_putSegImage h
    · exact h
    · exact Keeps.same h rfl rfl rfl rfl rfl
  · exact keeps_putHubImage h

theorem keeps_putRoute {b : State} {a0 : State} {a1 : Bool} {a2 : Nat} {a3 : RouteEntry} (h : Keeps b a0) :
    Keeps b (State.putRoute a0 a1 a2 a3) := by
  unfold State.putRoute
  extract_lets v1 v2 v3 v4
  have k2 : Keeps b v2 := by
    unfold v2
    exact keeps_setRoute h
  clear_value v2
  refine Keeps.ite ?_ ?_
  · exact k2
  · refine Keeps.ite ?_ ?_
    · exact keeps_setRoute k2
    · exact keeps_switchRoute k2

theorem keeps_putRoutes {b : State} {a0 : State} {a1 : Bool} {a2 : List (Nat × RouteEntry)} (h : Keeps b a0) :
    Keeps b (State.putRoutes a0 a1 a2) := by
  unfold State.putRoutes
  refine Keeps.foldl ?_ ?_
  · exact h
  · intro w1 x2 k3
    exact keeps_putRoute k3

theorem keeps_writeActive {b : State} {a0 : State} {a1 : Op} {a2 : Nat} {a3 : Nat} {a4 : Nat} {a5 : List Byte} (h : Keeps b a0) :
    Keeps b (State.writeActive a0 a1 a2 a3 a4 a5) := by
  unfold State.writeActive
  extract_lets v1 v2 v3
  refine Keeps.ite ?_ ?_
  · split
    · exact keeps_finish (keeps_violate h)
    · unfold v2
      exact keeps_finish (keeps_imageChanged (keeps_putImage h))
  · split
    · refine Keeps.ite ?_ ?_
      · exact keeps_finish h
      · unfold v2
        exact keeps_finish (keeps_imageChanged (keeps_putImage h))
    · split
      · exact keeps_finish h
      · unfold v2
        exact keeps_finish (keeps_imageChanged (keeps_putImage h))
    · split
      · exact keeps_finish h
      · unfold v2
        exact keeps_finish (keeps_imageChanged (keeps_putRoutes (keeps_holdRoutes h)))
    · unfold v2
      exact keeps_finish (keeps_imageChanged (keeps_putImage h))

theorem keeps_opCfgWrite {b : State} {a0 : Bool} {a1 : State} {a2 : Op} (h : Keeps b a1) :
    Keeps b (opCfgWrite a0 a1 a2) := by
  unfold opCfgWrite
  extract_lets u epoch off len bs
  refine Keeps.ite (keeps_finish h) (Keeps.ite (keeps_writeActive h) ?_)
  split
  · exact keeps_finish h
  · exact keeps_writeStaged h

theorem keeps_closeCell {b : State} {a0 : State} {a1 : Nat} {a2 : Nat} (h : Keeps b a0) :
    Keeps b (State.closeCell a0 a1 a2) := by
  unfold State.closeCell
  extract_lets v1 v2 v3 v4 v5 v6 v7
  exact Keeps.same h rfl rfl rfl rfl rfl

theorem keeps_workSince {b : State} {a0 : State} {a1 : Option Nat} (h : Keeps b a0) :
    Keeps b (State.workSince a0 a1) := by
  unfold State.workSince
  exact Keeps.same h rfl rfl rfl rfl rfl

theorem keeps_cutWork {b : State} {a0 : State} {a1 : Bool} {a2 a3 : Nat} (h : Keeps b a0) :
    Keeps b (State.cutWork a0 a1 a2 a3) := by
  unfold State.cutWork
  extract_lets ended stop v1 c
  have k1 : Keeps b v1 := Keeps.ite (keeps_closeCell h) h
  have k2 : ∀ n m, Keeps b { v1 with crop := { c with workFrom := n, workTo := m } } :=
    fun _ _ => ⟨k1.pending, k1.time, k1.free, k1.mem, k1.regs⟩
  clear_value v1 ended stop c
  refine Keeps.ite h ?_
  split
  · exact Keeps.ite (k2 _ _) (keeps_workSince k1)
  · exact keeps_workSince k1

theorem keeps_opYieldClose {b : State} {a0 : Int} {a1 : State} (h : Keeps b a1) :
    Keeps b (opYieldClose a0 a1) := by
  unfold opYieldClose
  extract_lets work
  split
  · exact Keeps.ite (keeps_workSince h) h
  · exact keeps_cutWork h

theorem keeps_setCanCh {b : State} {a0 : State} {a1 : Nat} {a2 : CanCh} (h : Keeps b a0) :
    Keeps b (State.setCanCh a0 a1 a2) := by
  unfold State.setCanCh
  exact Keeps.same h rfl rfl rfl rfl rfl

theorem keeps_modCanCh {b : State} {a0 : State} {a1 : Nat} {a2 : CanCh → CanCh} (h : Keeps b a0) :
    Keeps b (State.modCanCh a0 a1 a2) := by
  unfold State.modCanCh
  exact keeps_setCanCh h

theorem keeps_finishWaiter {b : State} {a0 : State} {a1 : Option (Nat × Nat)} {a2 : Nat} {a3 : Nat} {a4 : Nat} (h : Keeps b a0) :
    Keeps b (State.finishWaiter a0 a1 a2 a3 a4) := by
  unfold State.finishWaiter
  split
  · exact h
  · split
    · exact keeps_finish h
    · exact h

theorem keeps_canFlush {b : State} {a0 : State} {a1 : Nat} {a2 : Nat} {a3 : Nat} {a4 : Nat} (h : Keeps b a0) :
    Keeps b (State.canFlush a0 a1 a2 a3 a4) := by
  unfold State.canFlush
  extract_lets v1 v2
  have k2 : Keeps b v2 := by
    unfold v2
    exact keeps_modCanCh h
  clear_value v2
  refine Keeps.foldl ?_ ?_
  · exact k2
  · intro w61 x62 k63
    exact keeps_finishWaiter k63

theorem keeps_canGoOff {b : State} {a0 : State} {a1 : Nat} (h : Keeps b a0) :
    Keeps b (State.canGoOff a0 a1) := by
  unfold State.canGoOff
  extract_lets v1 v2 v3
  have k1 : Keeps b v1 := by
    unfold v1
    exact keeps_setFlag (keeps_setFlag h)
  clear_value v1
  have k2 : Keeps b v2 := by
    unfold v2
    refine Keeps.ite ?_ ?_
    · exact keeps_setFlag k1
    · exact k1
  clear_value v2
  have k3 : Keeps b v3 := by
    unfold v3
    exact keeps_modCanCh k2
  clear_value v3
  exact keeps_canFlush k3

theorem keeps_canOffbus {b : State} {a0 : State} {a1 : Nat} (h : Keeps b a0) :
    Keeps b (State.canOffbus a0 a1) := by
  unfold State.canOffbus
  refine Keeps.ite ?_ ?_
  · exact h
  · refine Keeps.ite ?_ ?_
    · exact keeps_modCanCh h
    · exact keeps_canGoOff h

theorem keeps_streamEnd {b : State} {a0 : State} {a1 : Nat} {a2 : Nat} (h : Keeps b a0) :
    Keeps b (State.streamEnd a0 a1 a2) := by
  unfold State.streamEnd
  split
  · exact h
  · exact Keeps.same h rfl rfl rfl rfl rfl

theorem keeps_setOxCh {b : State} {a0 : State} {a1 : Nat} {a2 : OxCh} (h : Keeps b a0) :
    Keeps b (State.setOxCh a0 a1 a2) := by
  unfold State.setOxCh
  exact Keeps.same h rfl rfl rfl rfl rfl

theorem keeps_modOxCh {b : State} {a0 : State} {a1 : Nat} {a2 : OxCh → OxCh} (h : Keeps b a0) :
    Keeps b (State.modOxCh a0 a1 a2) := by
  unfold State.modOxCh
  exact keeps_setOxCh h

theorem keeps_oxWithdraw {b : State} {a0 : State} {a1 : Nat} (h : Keeps b a0) :
    Keeps b (State.oxWithdraw a0 a1) := by
  unfold State.oxWithdraw
  extract_lets v1 v2 v3
  have k2 : Keeps b v2 := by
    unfold v2
    exact keeps_setOxCh h
  clear_value v2
  refine Keeps.ite ?_ ?_
  · exact Keeps.same k2 rfl rfl rfl rfl rfl
  · exact k2

theorem keeps_showOx {b : State} {a0 : State} {a1 : Nat} (h : Keeps b a0) :
    Keeps b (State.showOx a0 a1) := by
  unfold State.showOx
  extract_lets v1 v2 v3 v4 v5
  have k1 : Keeps b v1 := by
    unfold v1
    exact keeps_setFld h
  clear_value v1
  have k2 : Keeps b v2 := by
    unfold v2
    exact keeps_setFlag k1
  clear_value v2
  have k3 : Keeps b v3 := by
    unfold v3
    refine Keeps.ite ?_ ?_
    · exact keeps_setReg k2
    · exact k2
  clear_value v3
  have k4 : Keeps b v4 := by
    unfold v4
    exact keeps_setFld k3
  clear_value v4
  have k5 : Keeps b v5 := by
    unfold v5
    exact keeps_setFld k4
  clear_value v5
  exact keeps_setFld k5

theorem keeps_oxForceOff {b : State} {a0 : State} {a1 : Nat} {a2 : Bool} (h : Keeps b a0) :
    Keeps b (State.oxForceOff a0 a1 a2) := by
  unfold State.oxForceOff
  extract_lets v1
  have k1 : Keeps b v1 := by
    unfold v1
    exact keeps_modOxCh (keeps_oxWithdraw h)
  clear_value v1
  exact keeps_showOx k1

theorem keeps_oxFault {b : State} {a0 : State} {a1 : Nat} {a2 : Fld} {a3 : Nat} {a4 : Nat} (h : Keeps b a0) :
    Keeps b (State.oxFault a0 a1 a2 a3 a4) := by
  unfold State.oxFault
  refine Keeps.ite ?_ ?_
  · exact h
  · exact keeps_henMake (keeps_raise (keeps_setFlag h))

theorem keeps_opOxShort {b : State} {a0 : Nat} {a1 : Nat} {a2 : State} (h : Keeps b a2) :
    Keeps b (opOxShort a0 a1 a2) := by
  unfold opOxShort
  refine Keeps.ite ?_ ?_
  · exact h
  · exact keeps_oxForceOff (keeps_oxFault h)

theorem keeps_setRelock {b : State} {a0 : State} {a1 : Nat} {a2 : Option Relock} (h : Keeps b a0) :
    Keeps b (State.setRelock a0 a1 a2) := by
  unfold State.setRelock
  exact Keeps.same h rfl rfl rfl rfl rfl

theorem keeps_startRelock {b : State} {a0 : State} {a1 : Nat} (h : Keeps b a0) :
    Keeps b (State.startRelock a0 a1) := by
  unfold State.startRelock
  refine Keeps.ite ?_ ?_
  · exact h
  · extract_lets v1 v2
    have k1 : Keeps b v1 := by
      unfold v1
      exact keeps_setFlag (keeps_setFlag h)
    clear_value v1
    exact keeps_setRelock k1

theorem keeps_opLockLoss {b : State} {a0 : Nat} {a1 : State} (h : Keeps b a1) :
    Keeps b (opLockLoss a0 a1) := by
  unfold opLockLoss
  split
  · refine Keeps.ite ?_ ?_
    · exact keeps_startRelock h
    · exact h
  · refine Keeps.ite ?_ ?_
    · exact h
    · exact keeps_startRelock h

theorem keeps_opRooLoad {b : State} {a0 : State} (h : Keeps b a0) :
    Keeps b (opRooLoad a0) := by
  unfold opRooLoad
  refine Keeps.ite ?_ ?_
  · exact h
  · extract_lets v1 v2
    have k1 : Keeps b v1 := by
      unfold v1
      exact keeps_setFlag h
    clear_value v1
    exact Keeps.same k1 rfl rfl rfl rfl rfl

theorem keeps_opAlarmWrite {b : State} {a0 : Nat} {a1 : Word} {a2 : State} (h : Keeps b a2) :
    Keeps b (opAlarmWrite a0 a1 a2) := by
  unfold opAlarmWrite
  extract_lets v1 v2 v3
  have k1 : Keeps b v1 := by
    unfold v1
    exact keeps_plainWrite h
  clear_value v1
  have k3 : Keeps b v3 := by
    unfold v3
    exact Keeps.same k1 rfl rfl rfl rfl rfl
  clear_value v3
  refine Keeps.ite ?_ ?_
  · exact keeps_opRooLoad k3
  · exact k3

theorem keeps_opTrimWrite {b : State} {a0 : Word} {a1 : State} (h : Keeps b a1) :
    Keeps b (opTrimWrite a0 a1) := by
  unfold opTrimWrite
  extract_lets v1 v2
  have k2 : Keeps b v2 := by
    unfold v2
    exact Keeps.same h rfl rfl rfl rfl rfl
  clear_value v2
  exact keeps_setFld k2

theorem keeps_noteCalWrite {b : State} {a0 : State} {a1 : CalField} {a2 : Bool} (h : Keeps b a0) :
    Keeps b (State.noteCalWrite a0 a1 a2) := by
  unfold State.noteCalWrite
  extract_lets v1 v2
  exact Keeps.same h rfl rfl rfl rfl rfl

theorem keeps_opCalendarWrite {b : State} {a0 : CalField} {a1 : Bool} {a2 : Word} {a3 : State} (h : Keeps b a3) :
    Keeps b (opCalendarWrite a0 a1 a2 a3) := by
  unfold opCalendarWrite
  refine Keeps.ite ?_ ?_
  · exact h
  · extract_lets v1 v2 v3 v4
    have k2 : Keeps b v2 := by
      unfold v2
      exact keeps_setFld (keeps_noteCalWrite h)
    clear_value v2
    have k4 : Keeps b v4 := by
      unfold v4
      refine Keeps.ite ?_ ?_
      · exact Keeps.same k2 rfl rfl rfl rfl rfl
      · exact k2
    clear_value v4
    refine Keeps.ite ?_ ?_
    · exact k4
    · exact keeps_raise k4

theorem keeps_opOsfWrite {b : State} {a0 : Word} {a1 : State} (h : Keeps b a1) :
    Keeps b (opOsfWrite a0 a1) := by
  unfold opOsfWrite
  split
  · refine Keeps.ite ?_ ?_
    · exact h
    · exact keeps_plainWrite h
  · exact keeps_plainWrite h

theorem keeps_writeRoo {b : State} {a0 : State} {a1 : Nat} {a2 : Word} (h : Keeps b a0) :
    Keeps b (State.writeRoo a0 a1 a2) := by
  unfold State.writeRoo
  refine Keeps.ite ?_ ?_
  · refine Keeps.ite ?_ ?_
    · exact h
    · exact keeps_plainWrite h
  · refine Keeps.ite ?_ ?_
    · exact keeps_opAlarmWrite h
    · refine Keeps.ite ?_ ?_
      · exact keeps_opTrimWrite h
      · split
        · exact keeps_opCalendarWrite h
        · refine Keeps.ite ?_ ?_
          · exact keeps_opOsfWrite h
          · exact keeps_plainWrite h

theorem keeps_opRooLoadApply {b : State} {a0 : State} (h : Keeps b a0) :
    Keeps b (opRooLoadApply a0) := by
  unfold opRooLoadApply
  refine Keeps.ite ?_ ?_
  · exact h
  · extract_lets v1 v2 v3 v4 v5
    have k4 : Keeps b v4 := by
      unfold v4
      exact Keeps.same h rfl rfl rfl rfl rfl
    clear_value v4
    have k5 : Keeps b v5 := by
      unfold v5
      exact keeps_setFlag (keeps_setFlag k4)
    clear_value v5
    refine Keeps.ite ?_ ?_
    · exact keeps_raise k5
    · exact k5

theorem keeps_mbxExclude {b : State} {a0 : State} {a1 : Nat} {a2 : Bool} {a3 : Nat} (h : Keeps b a0) :
    Keeps b (State.mbxExclude a0 a1 a2 a3) := by
  unfold State.mbxExclude
  extract_lets v1 v2
  have k1 : Keeps b v1 := by
    unfold v1
    exact keeps_setFlag h
  clear_value v1
  have k2 : Keeps b v2 := by
    unfold v2
    exact keeps_setFlag (keeps_setFld k1)
  clear_value v2
  exact keeps_raise (keeps_setFld k2)

theorem keeps_setMbxCh {b : State} {a0 : State} {a1 : Nat} {a2 : MbxCh} (h : Keeps b a0) :
    Keeps b (State.setMbxCh a0 a1 a2) := by
  unfold State.setMbxCh
  exact Keeps.same h rfl rfl rfl rfl rfl

theorem keeps_opMbxTxd {b : State} {a0 : Nat} {a1 : Bool} {a2 : Nat} {a3 : Nat} {a4 : Word} {a5 : State} (h : Keeps b a5) :
    Keeps b (opMbxTxd a0 a1 a2 a3 a4 a5) := by
  unfold opMbxTxd
  refine Keeps.ite ?_ ?_
  · exact keeps_mbxExclude h
  · extract_lets v1 v2
    exact keeps_setMbxCh h

theorem keeps_mbxSignal {b : State} {a0 : State} {a1 : Nat} {a2 : Bool} {a3 : Nat} (h : Keeps b a0) :
    Keeps b (State.mbxSignal a0 a1 a2 a3) := by
  unfold State.mbxSignal
  extract_lets v1
  refine Keeps.ite ?_ ?_
  · exact keeps_raise h
  · exact h

theorem keeps_showMbxSide {b : State} {a0 : State} {a1 : Nat} {a2 : Bool} (h : Keeps b a0) :
    Keeps b (State.showMbxSide a0 a1 a2) := by
  unfold State.showMbxSide
  extract_lets v1 v2 v3 v4 v5 v6 v7 v8 v9
  have k7 : Keeps b v7 := by
    unfold v7
    refine Keeps.foldl ?_ ?_
    · exact h
    · intro w61 x62 k63
      exact keeps_setReg k63
  clear_value v7
  have k8 : Keeps b v8 := by
    unfold v8
    exact keeps_setFld (keeps_setFld k7)
  clear_value v8
  have k9 : Keeps b v9 := by
    unfold v9
    exact keeps_setFld k8
  clear_value v9
  exact keeps_setFlag (keeps_setFld k9)

theorem keeps_showMbx {b : State} {a0 : State} {a1 : Nat} (h : Keeps b a0) :
    Keeps b (State.showMbx a0 a1) := by
  unfold State.showMbx
  extract_lets v1 v2 v3
  exact keeps_showMbxSide (keeps_showMbxSide (keeps_setMbxCh h))

theorem keeps_opMbxSend {b : State} {a0 : Nat} {a1 : Bool} {a2 : Nat} {a3 : Word} {a4 : State} (h : Keeps b a4) :
    Keeps b (opMbxSend a0 a1 a2 a3 a4) := by
  unfold opMbxSend
  refine Keeps.ite ?_ ?_
  · exact keeps_mbxExclude h
  · extract_lets v1 v2 v3 v4
    have k4 : Keeps b v4 := by
      unfold v4
      exact keeps_setMbxCh h
    clear_value v4
    refine Keeps.ite ?_ ?_
    · exact keeps_raise (keeps_setFlag h)
    · exact keeps_mbxSignal (keeps_showMbx k4)

theorem keeps_opMbxAck {b : State} {a0 : Nat} {a1 : Bool} {a2 : Nat} {a3 : Word} {a4 : State} (h : Keeps b a4) :
    Keeps b (opMbxAck a0 a1 a2 a3 a4) := by
  unfold opMbxAck
  refine Keeps.ite ?_ ?_
  · exact keeps_mbxExclude h
  · extract_lets v1 v2 v3
    split
    · exact keeps_raise (keeps_setFlag h)
    · extract_lets v61 v62 v63 v64
      have k62 : Keeps b v62 := by
        unfold v62
        exact keeps_setMbxCh h
      clear_value v62
      have k63 : Keeps b v63 := by
        unfold v63
        refine Keeps.ite ?_ ?_
        · exact keeps_setFlag k62
        · exact k62
      clear_value v63
      have k64 : Keeps b v64 := by
        unfold v64
        exact keeps_setReg k63
      clear_value v64
      exact keeps_mbxSignal (keeps_showMbx k64)

theorem keeps_opMbxAccess {b : State} {a0 : Nat} {a1 : Bool} {a2 : Nat} {a3 : Nat} {a4 : Bool} {a5 : Word} {a6 : State} (h : Keeps b a6) :
    Keeps b (opMbxAccess a0 a1 a2 a3 a4 a5 a6).1 := by
  unfold opMbxAccess
  refine Keeps.iteFst ?_ ?_
  · refine Keeps.fst ?_
    exact keeps_mbxExclude h
  · extract_lets v1
    refine Keeps.iteFst ?_ ?_
    · refine Keeps.fst ?_
      exact h
    · refine Keeps.iteFst ?_ ?_
      · refine Keeps.fst ?_
        exact keeps_opMbxTxd h
      · refine Keeps.iteFst ?_ ?_
        · refine Keeps.fst ?_
          exact keeps_opMbxSend h
        · refine Keeps.iteFst ?_ ?_
          · refine Keeps.fst ?_
            exact keeps_opMbxAck h
          · refine Keeps.iteFst ?_ ?_
            · refine Keeps.fst ?_
              exact h
            · refine Keeps.fst ?_
              exact keeps_plainWrite h

theorem keeps_mbxBus {b : State} {a0 : State} {a1 : Nat} {a2 : Nat} {a3 : Bool} {a4 : Word} (h : Keeps b a0) :
    Keeps b (State.mbxBus a0 a1 a2 a3 a4) := by
  unfold State.mbxBus
  split
  · exact Keeps.same h rfl rfl rfl rfl rfl
  · split
    rename_i y1 y2 e3
    have k4 := congrArg Prod.fst e3
    replace k4 : Keeps b y1 := by
      refine Eq.subst (motive := fun z => Keeps b z) k4 ?_
      exact keeps_opMbxAccess h
    refine Keeps.ite ?_ ?_
    · exact Keeps.same k4 rfl rfl rfl rfl rfl
    · exact k4

theorem keeps_opSessionOpen {b : State} {a0 : Bool} {a1 : Bool} {a2 : State} {a3 : Op} (h : Keeps b a2) :
    Keeps b (opSessionOpen a0 a1 a2 a3) := by
  unfold opSessionOpen
  refine Keeps.ite ?_ ?_
  · exact keeps_finish h
  · refine Keeps.ite ?_ ?_
    · exact keeps_finish h
    · extract_lets v1 v2 v3 v4 v5 v6 v7
      have k5 : Keeps b v5 := by
        unfold v5
        exact keeps_setFld (keeps_setFlag h)
      clear_value v5
      have k7 : Keeps b v7 := by
        unfold v7
        exact Keeps.same k5 rfl rfl rfl rfl rfl
      clear_value v7
      refine Keeps.ite ?_ ?_
      · exact keeps_finish h
      · exact keeps_finish k7

theorem keeps_allNetsCause {b : State} {a0 : State} {a1 : Nat} (h : Keeps b a0) :
    Keeps b (State.allNetsCause a0 a1) := by
  unfold State.allNetsCause
  refine Keeps.foldl ?_ ?_
  · exact h
  · intro w1 x2 k3
    exact keeps_modNet k3

theorem keeps_opEgo {b : State} {a0 : List Int} {a1 : Byte} {a2 : Inertial} {a3 : Bool} {a4 : State} (h : Keeps b a4) :
    Keeps b (opEgo a0 a1 a2 a3 a4) := by
  unfold opEgo
  refine Keeps.ite ?_ ?_
  · exact h
  · extract_lets v1 v2 v3 v4 v5 v6 v7 v8 v9 v10 v11 v12 v13 v14
    have k4 : Keeps b v4 := by
      unfold v4
      exact keeps_setFlag (keeps_setFlag h)
    clear_value v4
    have k12 : Keeps b v12 := by
      unfold v12
      exact keeps_setFlag k4
    clear_value v12
    have k14 : Keeps b v14 := by
      unfold v14
      refine Keeps.ite ?_ ?_
      · exact keeps_setFlag (Keeps.same k4 rfl rfl rfl rfl rfl)
      · refine Keeps.ite ?_ ?_
        · exact keeps_raise (Keeps.same k12 rfl rfl rfl rfl rfl)
        · refine Keeps.ite ?_ ?_
          · exact keeps_allNetsCause k12
          · exact k12
    clear_value v14
    exact keeps_emit k14

theorem keeps_holdSeg {b : State} {a0 : State} {a1 : Nat} {a2 : Nat} {a3 : Nat} (h : Keeps b a0) :
    Keeps b (State.holdSeg a0 a1 a2 a3) := by
  unfold State.holdSeg
  exact Keeps.same h rfl rfl rfl rfl rfl

theorem keeps_give {b : State} {a0 : State} {a1 : Op} {a2 : Wait} (h : Keeps b a0) :
    Keeps b (State.give a0 a1 a2).1 := by
  unfold State.give
  refine Keeps.iteFst ?_ ?_
  · extract_lets v1 v2 v3
    have k2 : Keeps b v2 := by
      unfold v2
      refine Keeps.foldl ?_ ?_
      · exact h
      · intro w61 x62 k63
        exact keeps_holdSeg k63
    clear_value v2
    have k3 : Keeps b v3 := by
      unfold v3
      exact keeps_imageChanged (keeps_showSegs k2)
    clear_value v3
    refine Keeps.fst ?_
    exact keeps_writeBytes k3
  · refine Keeps.iteFst ?_ ?_
    · refine Keeps.fst ?_
      exact keeps_holdSlot h
    · refine Keeps.iteFst ?_ ?_
      · refine Keeps.fst ?_
        exact keeps_holdRoute h
      · refine Keeps.fst ?_
        exact Keeps.same h rfl rfl rfl rfl rfl

theorem keeps_reportOver {b : State} {a0 : State} {a1 : State} {a2 : Nat} {a3 : Nat} (h : Keeps b a0) :
    Keeps b (State.reportOver a0 a1 a2 a3) := by
  unfold State.reportOver
  refine Keeps.ite ?_ ?_
  · exact keeps_raise h
  · exact h

theorem keeps_grant {b : State} {a0 : State} {a1 : Op} {a2 : Wait} (h : Keeps b a0) :
    Keeps b (State.grant a0 a1 a2) := by
  unfold State.grant
  extract_lets v1
  have k1 : Keeps b v1 := by
    unfold v1
    exact h
  clear_value v1
  split
  rename_i y61 y62 e63
  have k64 := congrArg Prod.fst e63
  replace k64 : Keeps b y61 := by
    refine Eq.subst (motive := fun z => Keeps b z) k64 ?_
    exact keeps_give h
  extract_lets v65
  have k65 : Keeps b v65 := by
    unfold v65
    exact keeps_reportOver k64
  clear_value v65
  refine keeps_finish ?_
  refine Keeps.ite ?_ ?_
  · exact keeps_reportOver k65
  · exact k65

theorem keeps_modifyOp {b : State} {a0 : State} {a1 : Nat} {a2 : Nat} {a3 : Op → Op} (h : Keeps b a0) :
    Keeps b (State.modifyOp a0 a1 a2 a3) := by
  unfold State.modifyOp
  exact keeps_setOps h

theorem keeps_showWaits {b : State} {a0 : State} (h : Keeps b a0) :
    Keeps b (State.showWaits a0) := by
  unfold State.showWaits
  exact keeps_setFld h

theorem keeps_opAcquire {b : State} {a0 : Bool} {a1 : State} {a2 : Op} (h : Keeps b a1) :
    Keeps b (opAcquire a0 a1 a2) := by
  unfold opAcquire
  extract_lets v1 v2 v3 v4
  have k3 : Keeps b v3 := by
    unfold v3
    exact keeps_modifyOp h
  clear_value v3
  refine Keeps.ite ?_ ?_
  · exact keeps_finish h
  · refine Keeps.ite ?_ ?_
    · exact keeps_finish h
    · refine Keeps.ite ?_ ?_
      · exact keeps_finish h
      · refine Keeps.ite ?_ ?_
        · exact keeps_finish h
        · refine Keeps.ite ?_ ?_
          · exact keeps_grant h
          · refine Keeps.ite ?_ ?_
            · exact keeps_finish h
            · split
              · exact keeps_finish (keeps_raise h)
              · exact keeps_showWaits (Keeps.same k3 rfl rfl rfl rfl rfl)

theorem keeps_storeBanks {b : State} {a0 : State} (h : Keeps b a0) :
    Keeps b (State.storeBanks a0) := by
  unfold State.storeBanks
  exact keeps_writeStore h

theorem keeps_setPair {b : State} {a0 : State} {a1 : Fld} {a2 : Fld} {a3 : Nat} (h : Keeps b a0) :
    Keeps b (State.setPair a0 a1 a2 a3) := by
  unfold State.setPair
  exact keeps_setFld (keeps_setFld h)

theorem keeps_setTbOfs {b : State} {a0 : State} {a1 : Int} (h : Keeps b a0) :
    Keeps b (State.setTbOfs a0 a1) := by
  unfold State.setTbOfs
  exact keeps_setPair h

theorem keeps_convertArm {b : State} {a0 : State} (h : Keeps b a0) :
    Keeps b (State.convertArm a0) := by
  unfold State.convertArm
  split
  · exact h
  · extract_lets v1 v2 v3 v4
    have k4 : Keeps b v4 := by
      unfold v4
      exact Keeps.same h rfl rfl rfl rfl rfl
    clear_value v4
    exact keeps_setPair k4

theorem keeps_showErrest {b : State} {a0 : State} (h : Keeps b a0) :
    Keeps b (State.showErrest a0) := by
  unfold State.showErrest
  exact keeps_setFld h

theorem keeps_enterLocked {b : State} {a0 : State} {a1 : Bool} {a2 : Int} (h : Keeps b a0) :
    Keeps b (State.enterLocked a0 a1 a2) := by
  unfold State.enterLocked
  extract_lets v1 v2 v3 v4 v5 v6 v7 v8
  have k3 : Keeps b v3 := by
    unfold v3
    refine Keeps.ite ?_ ?_
    · exact keeps_raise (keeps_setFlag (keeps_setTbOfs h))
    · exact keeps_setFlag h
  clear_value v3
  have k6 : Keeps b v6 := by
    unfold v6
    exact Keeps.same k3 rfl rfl rfl rfl rfl
  clear_value v6
  have k7 : Keeps b v7 := by
    unfold v7
    exact keeps_setFld k6
  clear_value v7
  have k8 : Keeps b v8 := by
    unfold v8
    exact keeps_setFld (keeps_setFld k7)
  clear_value v8
  exact keeps_convertArm (keeps_showErrest (keeps_raise k8))

theorem keeps_ringFlush {b : State} {a0 : State} {a1 : RingDesc} (h : Keeps b a0) :
    Keeps b (State.ringFlush a0 a1) := by
  unfold State.ringFlush
  exact keeps_ringPend (keeps_ringFlushN h)

theorem keeps_ringSample {b : State} {a0 : State} {a1 : Nat} {a2 : Nat} (h : Keeps b a0) :
    Keeps b (State.ringSample a0 a1 a2) := by
  unfold State.ringSample
  extract_lets v1 v2 v3
  have k3 : Keeps b v3 := by
    unfold v3
    exact keeps_setRing h
  clear_value v3
  exact keeps_setReg k3

theorem keeps_opFleetCfgWrite {b : State} {a0 : Word} {a1 : State} (h : Keeps b a1) :
    Keeps b (opFleetCfgWrite a0 a1) := by
  unfold opFleetCfgWrite
  extract_lets v1 v2
  have k2 : Keeps b v2 := by
    unfold v2
    exact keeps_plainWrite h
  clear_value v2
  refine Keeps.ite ?_ ?_
  · exact keeps_ringFlush (keeps_ringSample k2)
  · exact k2

theorem keeps_opJunctionLimit {b : State} {a0 : Nat} {a1 : State} (h : Keeps b a1) :
    Keeps b (opJunctionLimit a0 a1) := by
  unfold opJunctionLimit
  extract_lets v1
  refine Keeps.ite ?_ ?_
  · exact h
  · exact keeps_powerFail (keeps_raise h)

theorem keeps_canWrite {b : State} {a0 : State} {a1 : Nat} {a2 : Nat} {a3 : List Byte} (h : Keeps b a0) :
    Keeps b (State.canWrite a0 a1 a2 a3) := by
  unfold State.canWrite
  refine Keeps.foldl ?_ ?_
  · exact h
  · intro w1 x2 k3
    exact keeps_setReg k3

theorem keeps_canTooLate {b : State} {a0 : State} {a1 : Nat} {a2 : Nat} (h : Keeps b a0) :
    Keeps b (State.canTooLate a0 a1 a2) := by
  unfold State.canTooLate
  split
  · exact h
  · refine Keeps.ite ?_ ?_
    · exact h
    · extract_lets v1
      exact keeps_modCanCh (keeps_canWrite h)

theorem keeps_canStartBuffer {b : State} {a0 : State} {a1 : Nat} {a2 : Nat} {a3 : Bool} (h : Keeps b a0) :
    Keeps b (State.canStartBuffer a0 a1 a2 a3) := by
  unfold State.canStartBuffer
  extract_lets v1 v2
  have k1 : Keeps b v1 := by
    unfold v1
    exact keeps_canTooLate h
  clear_value v1
  exact keeps_modCanCh k1

theorem keeps_opTxStart {b : State} {a0 : Nat} {a1 : Bool} {a2 : State} (h : Keeps b a2) :
    Keeps b (opTxStart a0 a1 a2) := by
  unfold opTxStart
  extract_lets v1
  refine Keeps.ite ?_ ?_
  · exact h
  · split
    · exact h
    · exact keeps_canStartBuffer h
    · exact keeps_setCanCh h

theorem keeps_endLocalTrips {b : State} {a0 : State} (h : Keeps b a0) :
    Keeps b (State.endLocalTrips a0) := by
  unfold State.endLocalTrips
  refine Keeps.foldl ?_ ?_
  · exact h
  · intro w1 x2 k3
    refine Keeps.ite ?_ ?_
    · exact keeps_modGooIn k3
    · exact k3

theorem keeps_setMulCh {b : State} {a0 : State} {a1 : Nat} {a2 : MulCh} (h : Keeps b a0) :
    Keeps b (State.setMulCh a0 a1 a2) := by
  unfold State.setMulCh
  exact Keeps.same h rfl rfl rfl rfl rfl

theorem keeps_modMulCh {b : State} {a0 : State} {a1 : Nat} {a2 : MulCh → MulCh} (h : Keeps b a0) :
    Keeps b (State.modMulCh a0 a1 a2) := by
  unfold State.modMulCh
  exact keeps_setMulCh h

theorem keeps_showMul {b : State} {a0 : State} {a1 : Nat} (h : Keeps b a0) :
    Keeps b (State.showMul a0 a1) := by
  unfold State.showMul
  extract_lets v1 v2
  have k1 : Keeps b v1 := by
    unfold v1
    exact keeps_setFld h
  clear_value v1
  have k2 : Keeps b v2 := by
    unfold v2
    exact keeps_setFlag k1
  clear_value v2
  exact keeps_setFld k2

theorem keeps_mulOff {b : State} {a0 : State} {a1 : Nat} (h : Keeps b a0) :
    Keeps b (State.mulOff a0 a1) := by
  unfold State.mulOff
  extract_lets v1
  have k1 : Keeps b v1 := by
    unfold v1
    exact keeps_modMulCh h
  clear_value v1
  exact keeps_showMul (keeps_setFld k1)

end Sys2Proof.Machine
end

