-- ==== Sys2Proof/Laws/Keeps2.lean ====
section
/-!
SUPPORT. Laws/Keeps2.lean: what the operations of the model leave in order (Laws/Keeps.lean), one lemma for each,
in the order in which they use each other; part 2.
-/

namespace Sys2Proof.Machine

theorem keeps_cutMul {b : State} {a0 : State} (h : Keeps b a0) :
    Keeps b (State.cutMul a0) := by
  unfold State.cutMul
  refine Keeps.foldl ?_ ?_
  · exact h
  · intro w1 x2 k3
    exact keeps_mulOff (keeps_modMulCh k3)

theorem keeps_cutOx {b : State} {a0 : State} (h : Keeps b a0) :
    Keeps b (State.cutOx a0) := by
  unfold State.cutOx
  refine Keeps.foldl ?_ ?_
  · exact h
  · intro w1 x2 k3
    exact keeps_oxForceOff (keeps_modOxCh k3)

theorem keeps_applyCuts {b : State} {a0 : State} (h : Keeps b a0) :
    Keeps b (State.applyCuts a0) := by
  unfold State.applyCuts
  exact keeps_settleSlots (keeps_cutMul (keeps_cutOx h))

theorem keeps_impose {b : State} {a0 : State} {a1 : Nat} (h : Keeps b a0) :
    Keeps b (State.impose a0 a1) := by
  unfold State.impose
  refine Keeps.ite ?_ ?_
  · exact keeps_gooShow h
  · extract_lets v1 v2 v3 v4 v5
    have k1 : Keeps b v1 := by
      unfold v1
      exact keeps_setFld (keeps_setFlag h)
    clear_value v1
    have k3 : Keeps b v3 := by
      unfold v3
      exact Keeps.same k1 rfl rfl rfl rfl rfl
    clear_value v3
    have k4 : Keeps b v4 := by
      unfold v4
      exact keeps_gooShow (keeps_outputsOff k3)
    clear_value v4
    have k5 : Keeps b v5 := by
      unfold v5
      exact keeps_applyCuts k4
    clear_value v5
    exact keeps_henMake (keeps_raise k5)

theorem keeps_addGooCause {b : State} {a0 : State} {a1 : Nat} (h : Keeps b a0) :
    Keeps b (State.addGooCause a0 a1) := by
  unfold State.addGooCause
  exact Keeps.same h rfl rfl rfl rfl rfl

theorem keeps_opGooStop {b : State} {a0 : State} (h : Keeps b a0) :
    Keeps b (opGooStop a0) := by
  unfold opGooStop
  refine Keeps.ite ?_ ?_
  · exact h
  · exact keeps_impose (keeps_addGooCause h)

theorem keeps_opGooRelease {b : State} {a0 : State} (h : Keeps b a0) :
    Keeps b (opGooRelease a0) := by
  unfold opGooRelease
  extract_lets v1
  have k1 : Keeps b v1 := by
    unfold v1
    exact keeps_endLocalTrips h
  clear_value v1
  refine Keeps.ite ?_ ?_
  · exact keeps_endSafeStop k1
  · exact keeps_gooShow k1

theorem keeps_requestOutput {b : State} {a0 : State} {a1 : Nat} {a2 : Bool} (h : Keeps b a0) :
    Keeps b (State.requestOutput a0 a1 a2) := by
  unfold State.requestOutput
  refine Keeps.ite ?_ ?_
  · exact keeps_outputOff h
  · refine Keeps.ite ?_ ?_
    · exact h
    · refine Keeps.ite ?_ ?_
      · extract_lets v1 v2
        have k1 : Keeps b v1 := by
          unfold v1
          exact keeps_setFld (keeps_setFlag h)
        clear_value v1
        exact Keeps.same k1 rfl rfl rfl rfl rfl
      · exact keeps_raise (keeps_setFlag (keeps_setFld h))

theorem keeps_opOutputRequest {b : State} {a0 : Word} {a1 : State} (h : Keeps b a1) :
    Keeps b (opOutputRequest a0 a1) := by
  unfold opOutputRequest
  refine keeps_gooShow ?_
  refine Keeps.foldl ?_ ?_
  · exact h
  · intro w1 x2 k3
    exact keeps_requestOutput k3

theorem keeps_writeGoo {b : State} {a0 : State} {a1 : Nat} {a2 : Word} (h : Keeps b a0) :
    Keeps b (State.writeGoo a0 a1 a2) := by
  unfold State.writeGoo
  refine Keeps.ite ?_ ?_
  · refine Keeps.ite ?_ ?_
    · exact keeps_opGooStop h
    · refine Keeps.ite ?_ ?_
      · exact keeps_opGooRelease h
      · exact h
  · refine Keeps.ite ?_ ?_
    · exact keeps_opOutputRequest h
    · refine Keeps.ite ?_ ?_
      · exact keeps_opGooInCfgWrite h
      · refine Keeps.ite ?_ ?_
        · exact keeps_gooShow (keeps_plainWrite h)
        · refine Keeps.ite ?_ ?_
          · exact keeps_opGooOutCfgWrite h
          · refine Keeps.ite ?_ ?_
            · exact keeps_gooShow (keeps_plainWrite h)
            · exact keeps_plainWrite h

theorem keeps_dspStart {b : State} {a0 : State} (h : Keeps b a0) :
    Keeps b (State.dspStart a0) := by
  unfold State.dspStart
  exact keeps_dspEnter (keeps_setDsp h)

theorem keeps_dspBoot {b : State} {a0 : State} (h : Keeps b a0) :
    Keeps b (State.dspBoot a0) := by
  unfold State.dspBoot
  extract_lets v1
  have k1 : Keeps b v1 := by
    unfold v1
    exact keeps_setFlag h
  clear_value v1
  refine Keeps.ite ?_ ?_
  · exact keeps_dspStart k1
  · exact k1

theorem keeps_canRequest {b : State} {a0 : State} {a1 : Nat} {a2 : Nat} (h : Keeps b a0) :
    Keeps b (State.canRequest a0 a1 a2) := by
  unfold State.canRequest
  exact keeps_setFld h

theorem keeps_canLoad {b : State} {a0 : State} {a1 : Nat} {a2 : Nat} {a3 : Nat} (h : Keeps b a0) :
    Keeps b (State.canLoad a0 a1 a2 a3) := by
  unfold State.canLoad
  exact keeps_canRequest (keeps_canWrite h)

theorem keeps_canBufferDone {b : State} {a0 : State} {a1 : Nat} {a2 : Nat} (h : Keeps b a0) :
    Keeps b (State.canBufferDone a0 a1 a2) := by
  unfold State.canBufferDone
  extract_lets v1
  have k1 : Keeps b v1 := by
    unfold v1
    exact keeps_setFld (keeps_setFld h)
  clear_value v1
  split
  · exact k1
  · exact keeps_canLoad (keeps_modCanCh k1)

theorem keeps_canUnqueue {b : State} {a0 : State} {a1 : Nat} {a2 : CanQueued} (h : Keeps b a0) :
    Keeps b (State.canUnqueue a0 a1 a2) := by
  unfold State.canUnqueue
  exact keeps_modCanCh h

theorem keeps_canFrameEnd {b : State} {a0 : State} {a1 : Nat} (h : Keeps b a0) :
    Keeps b (State.canFrameEnd a0 a1) := by
  unfold State.canFrameEnd
  extract_lets v1
  have k1 : Keeps b v1 := by
    unfold v1
    exact keeps_modCanCh h
  clear_value v1
  refine Keeps.ite ?_ ?_
  · exact keeps_canGoOff k1
  · exact k1

theorem keeps_opFrameSent {b : State} {a0 : Nat} {a1 : Nat} {a2 : State} (h : Keeps b a2) :
    Keeps b (opFrameSent a0 a1 a2) := by
  unfold opFrameSent
  split
  · exact h
  · extract_lets v1 v2
    have k1 : Keeps b v1 := by
      unfold v1
      exact keeps_bump (keeps_setFld h)
    clear_value v1
    have k2 : Keeps b v2 := by
      unfold v2
      split
      · exact keeps_canBufferDone (keeps_setFld k1)
      · exact keeps_finishWaiter (keeps_canUnqueue k1)
    clear_value v2
    exact keeps_canFrameEnd k2

theorem keeps_noteSecond {b : State} {a0 : State} {a1 : Nat} {a2 : Nat} (h : Keeps b a0) :
    Keeps b (State.noteSecond a0 a1 a2) := by
  unfold State.noteSecond
  extract_lets v1 v2
  refine Keeps.ite ?_ ?_
  · exact h
  · exact Keeps.same h rfl rfl rfl rfl rfl

theorem keeps_opCenSel {b : State} {a0 : Word} {a1 : State} (h : Keeps b a1) :
    Keeps b (opCenSel a0 a1) := by
  unfold opCenSel
  extract_lets v1 v2
  have k1 : Keeps b v1 := by
    unfold v1
    exact keeps_setFld h
  clear_value v1
  exact Keeps.same k1 rfl rfl rfl rfl rfl

theorem keeps_opCenAdmit {b : State} {a0 : Bool} {a1 : State} (h : Keeps b a1) :
    Keeps b (opCenAdmit a0 a1) := by
  unfold opCenAdmit
  extract_lets v1 v2 v3 v4 v5
  have k3 : Keeps b v3 := by
    unfold v3
    exact keeps_setFld (keeps_setFlag h)
  clear_value v3
  have k4 : Keeps b v4 := by
    unfold v4
    exact h
  clear_value v4
  have k5 : Keeps b v5 := by
    unfold v5
    exact keeps_setFlag (keeps_admitSlot h)
  clear_value v5
  refine Keeps.ite ?_ ?_
  · exact keeps_raise (keeps_setFlag k3)
  · exact keeps_reportOver (keeps_setFlag k5)

theorem keeps_slotOff {b : State} {a0 : State} {a1 : Nat} (h : Keeps b a0) :
    Keeps b (State.slotOff a0 a1) := by
  unfold State.slotOff
  extract_lets v1 v2 v3
  have k2 : Keeps b v2 := by
    unfold v2
    exact keeps_setFaultBit (keeps_setFld h)
  clear_value v2
  have k3 : Keeps b v3 := by
    unfold v3
    exact keeps_modSlot k2
  clear_value v3
  refine Keeps.foldl ?_ ?_
  · exact keeps_showUtil k3
  · intro w61 x62 k63
    exact keeps_finishWaiter k63

theorem keeps_disableSlot {b : State} {a0 : State} {a1 : Nat} {a2 : List (Nat × Nat)} (h : Keeps b a0) :
    Keeps b (State.disableSlot a0 a1 a2) := by
  unfold State.disableSlot
  extract_lets v1
  have k1 : Keeps b v1 := by
    unfold v1
    exact keeps_modSlot (keeps_abandon h)
  clear_value v1
  refine Keeps.ite ?_ ?_
  · exact k1
  · exact keeps_slotOff k1

theorem keeps_opCenDisable {b : State} {a0 : State} (h : Keeps b a0) :
    Keeps b (opCenDisable a0) := by
  unfold opCenDisable
  extract_lets v1
  refine Keeps.ite ?_ ?_
  · exact h
  · exact keeps_disableSlot h

theorem keeps_requestSwap {b : State} {a0 : State} {a1 : Nat} {a2 : Option (Nat × Nat)} (h : Keeps b a0) :
    Keeps b (State.requestSwap a0 a1 a2) := by
  unfold State.requestSwap
  exact keeps_modSlot (keeps_setFlag h)

theorem keeps_opCenSwap {b : State} {a0 : State} (h : Keeps b a0) :
    Keeps b (opCenSwap a0) := by
  unfold opCenSwap
  extract_lets v1
  refine Keeps.ite ?_ ?_
  · exact keeps_setFlag h
  · exact keeps_requestSwap h

theorem keeps_putRecWord {b : State} {a0 : State} {a1 : Nat} {a2 : Nat} {a3 : Nat} (h : Keeps b a0) :
    Keeps b (State.putRecWord a0 a1 a2 a3) := by
  unfold State.putRecWord
  extract_lets v1
  have k1 : Keeps b v1 := by
    unfold v1
    exact keeps_unpoison (keeps_setRecWord h)
  clear_value v1
  refine Keeps.ite ?_ ?_
  · exact keeps_imageChanged k1
  · exact keeps_storeBanks k1

theorem keeps_opRecWrite {b : State} {a0 : Nat} {a1 : Word} {a2 : State} (h : Keeps b a2) :
    Keeps b (opRecWrite a0 a1 a2) := by
  unfold opRecWrite
  extract_lets v1 v2
  refine Keeps.ite ?_ ?_
  · exact keeps_putRecWord h
  · exact keeps_setFlag h

theorem keeps_opBankWrite {b : State} {a0 : Nat} {a1 : Word} {a2 : State} (h : Keeps b a2) :
    Keeps b (opBankWrite a0 a1 a2) := by
  unfold opBankWrite
  extract_lets v1 v2
  refine Keeps.ite ?_ ?_
  · exact keeps_setFlag h
  · exact keeps_storeBanks (keeps_setBankWord h)

theorem keeps_writeCen {b : State} {a0 : State} {a1 : Nat} {a2 : Word} (h : Keeps b a0) :
    Keeps b (State.writeCen a0 a1 a2) := by
  unfold State.writeCen
  refine Keeps.ite ?_ ?_
  · exact keeps_opCenSel h
  · refine Keeps.ite ?_ ?_
    · refine Keeps.ite ?_ ?_
      · exact keeps_opCenAdmit h
      · refine Keeps.ite ?_ ?_
        · exact keeps_opCenDisable h
        · refine Keeps.ite ?_ ?_
          · exact keeps_opCenAdmit h
          · refine Keeps.ite ?_ ?_
            · exact keeps_opCenSwap h
            · exact h
    · refine Keeps.ite ?_ ?_
      · exact keeps_opRecWrite h
      · refine Keeps.ite ?_ ?_
        · exact keeps_opBankWrite h
        · refine Keeps.ite ?_ ?_
          · exact keeps_setFlag h
          · exact keeps_plainWrite h

theorem keeps_gnssRecord {b : State} {a0 : State} {a1 : List Nat} (h : Keeps b a0) :
    Keeps b (State.gnssRecord a0 a1) := by
  unfold State.gnssRecord
  refine Keeps.ite ?_ ?_
  · exact h
  · extract_lets v1
    exact keeps_ringPush h

theorem keeps_setPps {b : State} {a0 : State} {a1 : Bool} {a2 : Nat} (h : Keeps b a0) :
    Keeps b (State.setPps a0 a1 a2) := by
  unfold State.setPps
  refine Keeps.ite ?_ ?_
  · exact h
  · refine Keeps.ite ?_ ?_
    · exact keeps_raise (keeps_setFlag h)
    · refine keeps_raise ?_
      extract_lets v1 v2
      have k1 : Keeps b v1 := by
        unfold v1
        exact keeps_setFlag h
      clear_value v1
      exact Keeps.same k1 rfl rfl rfl rfl rfl

theorem keeps_ppsPulse {b : State} {a0 : State} {a1 : Nat} (h : Keeps b a0) :
    Keeps b (State.ppsPulse a0 a1) := by
  unfold State.ppsPulse
  extract_lets v1 v2
  have k1 : Keeps b v1 := by
    unfold v1
    exact keeps_setPps h
  clear_value v1
  exact Keeps.same k1 rfl rfl rfl rfl rfl

theorem keeps_opFreerun {b : State} {a0 : State} (h : Keeps b a0) :
    Keeps b (opFreerun a0) := by
  unfold opFreerun
  extract_lets v1
  refine Keeps.ite ?_ ?_
  · exact h
  · exact keeps_gnssRecord (keeps_ppsPulse h)

theorem keeps_beginSteps {b : State} {a0 : State} {a1 : Nat} {a2 : Nat} (h : Keeps b a0) :
    Keeps b (State.beginSteps a0 a1 a2) := by
  unfold State.beginSteps
  refine Keeps.foldl ?_ ?_
  · exact h
  · intro w1 x2 k3
    refine Keeps.ite ?_ ?_
    · exact keeps_modNet k3
    · exact k3

theorem keeps_loadRoutes {b : State} {a0 : State} {a1 : Sparse (Option RouteEntry)} (h : Keeps b a0) :
    Keeps b (State.loadRoutes a0 a1) := by
  unfold State.loadRoutes
  refine Keeps.foldl ?_ ?_
  · exact h
  · intro w1 x2 k3
    split
    · exact k3
    · extract_lets v4 v5
      exact keeps_setRoute k3

theorem keeps_loadStore {b : State} {a0 : State} (h : Keeps b a0) :
    Keeps b (State.loadStore a0) := by
  unfold State.loadStore
  extract_lets v1 v2 v3 v4 v5 v6 v7 v8 v9 v10
  have k2 : Keeps b v2 := by
    unfold v2
    refine Keeps.foldl ?_ ?_
    · exact h
    · intro w61 x62 k63
      exact keeps_setReg k63
  clear_value v2
  have k7 : Keeps b v7 := by
    unfold v7
    exact Keeps.same k2 rfl rfl rfl rfl rfl
  clear_value v7
  have k8 : Keeps b v8 := by
    unfold v8
    exact keeps_loadRoutes k7
  clear_value v8
  have k9 : Keeps b v9 := by
    unfold v9
    exact keeps_setFlag (keeps_setFld k8)
  clear_value v9
  have k10 : Keeps b v10 := by
    unfold v10
    refine Keeps.foldl ?_ ?_
    · exact k9
    · intro w64 x65 k66
      exact keeps_showSegs k66
  clear_value v10
  refine Keeps.foldl ?_ ?_
  · exact k10
  · intro w67 x68 k69
    exact keeps_setFlag k69

theorem keeps_specUnread {b : State} {a0 : State} {a1 : Nat} (h : Keeps b a0) :
    Keeps b (State.specUnread a0 a1) := by
  unfold State.specUnread
  exact keeps_raiseOnce h

theorem keeps_takeSpec {b : State} {a0 : State} {a1 : Packet} (h : Keeps b a0) :
    Keeps b (State.takeSpec a0 a1) := by
  unfold State.takeSpec
  split
  · refine Keeps.ite ?_ ?_
    · exact keeps_specUnread h
    · extract_lets v1 v2 v3 v4
      exact Keeps.same h rfl rfl rfl rfl rfl
  · exact h

theorem keeps_opSettingWrite {b : State} {a0 : Nat} {a1 : Nat} {a2 : Word} {a3 : State} (h : Keeps b a3) :
    Keeps b (opSettingWrite a0 a1 a2 a3) := by
  unfold opSettingWrite
  extract_lets v1 v2
  have k2 : Keeps b v2 := by
    unfold v2
    exact keeps_modPort h
  clear_value v2
  exact keeps_plainWrite k2

theorem keeps_mulOn {b : State} {a0 : State} {a1 : Nat} (h : Keeps b a0) :
    Keeps b (State.mulOn a0 a1) := by
  unfold State.mulOn
  refine Keeps.ite ?_ ?_
  · exact keeps_showMul h
  · extract_lets v1
    have k1 : Keeps b v1 := by
      unfold v1
      exact keeps_modMulCh h
    clear_value v1
    exact keeps_showMul (keeps_bump k1)

theorem keeps_mulFollow {b : State} {a0 : State} {a1 : Nat} (h : Keeps b a0) :
    Keeps b (State.mulFollow a0 a1) := by
  unfold State.mulFollow
  extract_lets v1
  have k1 : Keeps b v1 := by
    unfold v1
    refine Keeps.ite ?_ ?_
    · exact h
    · exact keeps_modMulCh h
  clear_value v1
  refine Keeps.ite ?_ ?_
  · exact keeps_mulOn k1
  · exact keeps_mulOff k1

theorem keeps_mulClear {b : State} {a0 : State} {a1 : Nat} {a2 : Nat} {a3 : Int} (h : Keeps b a0) :
    Keeps b (State.mulClear a0 a1 a2 a3) := by
  unfold State.mulClear
  extract_lets v1 v2 v3 v4 v5
  have k1 : Keeps b v1 := by
    unfold v1
    refine Keeps.ite ?_ ?_
    · exact keeps_setFlag h
    · exact h
  clear_value v1
  have k2 : Keeps b v2 := by
    unfold v2
    refine Keeps.ite ?_ ?_
    · exact keeps_setFlag k1
    · exact k1
  clear_value v2
  have k4 : Keeps b v4 := by
    unfold v4
    exact keeps_setFlag k2
  clear_value v4
  have k5 : Keeps b v5 := by
    unfold v5
    exact keeps_setFld k4
  clear_value v5
  refine Keeps.ite ?_ ?_
  · exact k2
  · refine Keeps.ite ?_ ?_
    · exact keeps_showMul k5
    · exact keeps_mulFollow (keeps_modMulCh k5)

theorem keeps_opMulFaultClear {b : State} {a0 : Int} {a1 : State} {a2 : Op} (h : Keeps b a1) :
    Keeps b (opMulFaultClear a0 a1 a2) := by
  unfold opMulFaultClear
  extract_lets v1 v2
  have k2 : Keeps b v2 := by
    unfold v2
    exact keeps_mulClear h
  clear_value v2
  refine Keeps.ite ?_ ?_
  · exact keeps_finish h
  · split
    rename_i y61 y62 e63
    have k64 := congrArg Prod.snd e63
    replace k64 : Keeps b y62 := by
      refine Eq.subst (motive := fun z => Keeps b z) k64 ?_
      exact keeps_readMulStat k2
    exact keeps_finish k64

theorem keeps_setPiezo {b : State} {a0 : State} {a1 : Nat} {a2 : PiezoSt} (h : Keeps b a0) :
    Keeps b (State.setPiezo a0 a1 a2) := by
  unfold State.setPiezo
  exact Keeps.same h rfl rfl rfl rfl rfl

theorem keeps_piezoCleared {b : State} {a0 : State} {a1 : Nat} (h : Keeps b a0) :
    Keeps b (State.piezoCleared a0 a1) := by
  unfold State.piezoCleared
  split
  rename_i y1 y2 e3
  have k4 := congrArg Prod.snd e3
  replace k4 : Keeps b y2 := by
    refine Eq.subst (motive := fun z => Keeps b z) k4 ?_
    exact keeps_drawFree h
  refine Keeps.ite ?_ ?_
  · exact keeps_setFlag k4
  · exact keeps_setPiezo k4

theorem keeps_opPiezoCfgWrite {b : State} {a0 : Nat} {a1 : Word} {a2 : State} (h : Keeps b a2) :
    Keeps b (opPiezoCfgWrite a0 a1 a2) := by
  unfold opPiezoCfgWrite
  extract_lets v1 v2
  have k2 : Keeps b v2 := by
    unfold v2
    exact keeps_plainWrite h
  clear_value v2
  refine Keeps.ite ?_ ?_
  · exact keeps_piezoCleared k2
  · exact k2

theorem keeps_writeCopy {b : State} {a0 : State} {a1 : Nat} {a2 : Nat} (h : Keeps b a0) :
    Keeps b (State.writeCopy a0 a1 a2) := by
  unfold State.writeCopy
  refine Keeps.foldl ?_ ?_
  · exact h
  · intro w1 x2 k3
    exact keeps_unpoison k3

theorem keeps_pendMode {b : State} {a0 : State} {a1 : Mode} (h : Keeps b a0) :
    Keeps b (State.pendMode a0 a1) := by
  unfold State.pendMode
  split
  · exact h
  · exact Keeps.same h rfl rfl rfl rfl rfl

theorem keeps_opActivationDue {b : State} {a0 : State} (h : Keeps b a0) :
    Keeps b (opActivationDue a0) := by
  unfold opActivationDue
  refine Keeps.ite ?_ ?_
  · exact h
  · extract_lets v1 v2 v3 v4 v5
    have k3 : Keeps b v3 := by
      unfold v3
      exact Keeps.same h rfl rfl rfl rfl rfl
    clear_value v3
    have k5 : Keeps b v5 := by
      unfold v5
      exact Keeps.same h rfl rfl rfl rfl rfl
    clear_value v5
    refine Keeps.ite ?_ ?_
    · exact keeps_pendMode (keeps_setFlag k3)
    · exact keeps_raise (keeps_setFlag k5)

theorem keeps_opDspTrainingEnd {b : State} {a0 : Bool} {a1 : State} (h : Keeps b a1) :
    Keeps b (opDspTrainingEnd a0 a1) := by
  unfold opDspTrainingEnd
  extract_lets v1 v2 v3
  have k2 : Keeps b v2 := by
    unfold v2
    exact keeps_setFlag (keeps_setDsp h)
  clear_value v2
  have k3 : Keeps b v3 := by
    unfold v3
    refine Keeps.ite ?_ ?_
    · exact keeps_dspEnter k2
    · exact k2
  clear_value v3
  refine Keeps.ite ?_ ?_
  · exact h
  · refine Keeps.ite ?_ ?_
    · exact k3
    · exact keeps_raise k3

theorem keeps_dropWait {b : State} {a0 : State} {a1 : Nat} {a2 : Nat} (h : Keeps b a0) :
    Keeps b (State.dropWait a0 a1 a2) := by
  unfold State.dropWait
  exact keeps_showWaits (Keeps.same h rfl rfl rfl rfl rfl)

theorem keeps_withdraw {b : State} {a0 : State} {a1 : Op} {a2 : Nat} {a3 : Nat} (h : Keeps b a0) :
    Keeps b (State.withdraw a0 a1 a2 a3) := by
  unfold State.withdraw
  refine keeps_finish ?_
  refine Keeps.ite ?_ ?_
  · exact keeps_dropWait h
  · exact h

theorem keeps_takeTokens {b : State} {a0 : State} {a1 : Op} (h : Keeps b a0) :
    Keeps b (State.takeTokens a0 a1) := by
  unfold State.takeTokens
  refine Keeps.ite ?_ ?_
  · exact h
  · extract_lets v1 v2 v3 v4
    have k4 : Keeps b v4 := by
      unfold v4
      exact Keeps.same h rfl rfl rfl rfl rfl
    clear_value v4
    exact keeps_bumpMax (keeps_modifyOp k4)

theorem keeps_startOp {b : State} {a0 : State} {a1 : Op} (h : Keeps b a0) :
    Keeps b (State.startOp a0 a1) := by
  unfold State.startOp
  exact keeps_bumpMax (keeps_modifyOp h)

theorem keeps_grantWait {b : State} {a0 : State} {a1 : Op} {a2 : Wait} (h : Keeps b a0) :
    Keeps b (State.grantWait a0 a1 a2) := by
  unfold State.grantWait
  refine Keeps.ite ?_ ?_
  · exact h
  · exact keeps_grant (keeps_takeTokens (keeps_startOp (keeps_dropWait h)))

theorem keeps_opWaitGrant {b : State} {a0 : Nat} {a1 : Nat} {a2 : State} (h : Keeps b a2) :
    Keeps b (opWaitGrant a0 a1 a2) := by
  unfold opWaitGrant
  split
  · refine Keeps.ite ?_ ?_
    · exact keeps_withdraw h
    · exact keeps_grantWait h
  · exact h

theorem keeps_latchTallies {b : State} {a0 : State} (h : Keeps b a0) :
    Keeps b (State.latchTallies a0) := by
  unfold State.latchTallies
  extract_lets v1 v2 v3 v4
  have k1 : Keeps b v1 := by
    unfold v1
    refine Keeps.foldl ?_ ?_
    · exact h
    · intro w61 x62 k63
      exact keeps_setReg k63
  clear_value v1
  have k2 : Keeps b v2 := by
    unfold v2
    refine Keeps.foldl ?_ ?_
    · exact k1
    · intro w64 x65 k66
      split
      · exact keeps_setFld k66
      · exact k66
  clear_value v2
  exact Keeps.same k2 rfl rfl rfl rfl rfl

theorem keeps_loseMember {b : State} {a0 : State} {a1 : Nat} (h : Keeps b a0) :
    Keeps b (State.loseMember a0 a1) := by
  unfold State.loseMember
  exact keeps_raise (Keeps.same h rfl rfl rfl rfl rfl)

theorem keeps_opUnitRecord {b : State} {a0 : Bool} {a1 : Nat} {a2 : Nat} {a3 : List Byte} {a4 : State} (h : Keeps b a4) :
    Keeps b (opUnitRecord a0 a1 a2 a3 a4) := by
  unfold opUnitRecord
  split
  · exact h
  · extract_lets v1 v2 v3 v4 v5 v6 v7
    have k1 : Keeps b v1 := by
      unfold v1
      refine Keeps.ite ?_ ?_
      · exact keeps_loseMember h
      · exact h
    clear_value v1
    have k2 : Keeps b v2 := by
      unfold v2
      exact keeps_setFld k1
    clear_value v2
    have k3 : Keeps b v3 := by
      unfold v3
      exact keeps_setPair k2
    clear_value v3
    have k7 : Keeps b v7 := by
      unfold v7
      exact Keeps.same k3 rfl rfl rfl rfl rfl
    clear_value v7
    refine Keeps.ite ?_ ?_
    · exact keeps_raise k7
    · exact k7

theorem keeps_opRelockRetry {b : State} {a0 : Nat} {a1 : State} (h : Keeps b a1) :
    Keeps b (opRelockRetry a0 a1) := by
  unfold opRelockRetry
  split
  · exact h
  · refine Keeps.ite ?_ ?_
    · exact h
    · exact keeps_setRelock h

theorem keeps_opRecoveryExit {b : State} {a0 : Bool} {a1 : State} (h : Keeps b a1) :
    Keeps b (opRecoveryExit a0 a1) := by
  unfold opRecoveryExit
  refine Keeps.ite ?_ ?_
  · exact h
  · extract_lets v1
    have k1 : Keeps b v1 := by
      unfold v1
      exact keeps_hubReset (keeps_henFlush h)
    clear_value v1
    exact Keeps.same k1 rfl rfl rfl rfl rfl

theorem keeps_activateSlot {b : State} {a0 : State} {a1 : Nat} (h : Keeps b a0) :
    Keeps b (State.activateSlot a0 a1) := by
  unfold State.activateSlot
  extract_lets v1 v2 v3 v4 v5 v6
  have k3 : Keeps b v3 := by
    unfold v3
    refine Keeps.ite ?_ ?_
    · exact h
    · exact keeps_modSlot h
  clear_value v3
  have k6 : Keeps b v6 := by
    unfold v6
    exact keeps_modSlot k3
  clear_value v6
  refine Keeps.ite ?_ ?_
  · exact k3
  · refine keeps_dropAll ?_
    refine Keeps.foldl ?_ ?_
    · exact k6
    · intro w61 x62 k63
      exact keeps_sendDrop k63

theorem keeps_haltCtx {b : State} {a0 : State} {a1 : Nat} (h : Keeps b a0) :
    Keeps b (State.haltCtx a0 a1) := by
  unfold State.haltCtx
  extract_lets v1 v2
  have k1 : Keeps b v1 := by
    unfold v1
    exact keeps_setFld h
  clear_value v1
  have k2 : Keeps b v2 := by
    unfold v2
    exact keeps_writeRecord k1
  clear_value v2
  exact keeps_raise k2

theorem keeps_opTrgWrite {b : State} {a0 : Nat} {a1 : Bool} {a2 : Word} {a3 : State} (h : Keeps b a3) :
    Keeps b (opTrgWrite a0 a1 a2 a3) := by
  unfold opTrgWrite
  refine Keeps.ite ?_ ?_
  · exact keeps_setFlag h
  · refine Keeps.ite ?_ ?_
    · exact keeps_plainWrite h
    · extract_lets v1 v2 v3
      have k1 : Keeps b v1 := by
        unfold v1
        exact keeps_plainWrite h
      clear_value v1
      have k2 : Keeps b v2 := by
        unfold v2
        exact keeps_setFld k1
      clear_value v2
      refine Keeps.ite ?_ ?_
      · exact Keeps.same k2 rfl rfl rfl rfl rfl
      · exact k2

theorem keeps_opFcstCfgWrite {b : State} {a0 : Word} {a1 : State} (h : Keeps b a1) :
    Keeps b (opFcstCfgWrite a0 a1) := by
  unfold opFcstCfgWrite
  extract_lets v1
  have k1 : Keeps b v1 := by
    unfold v1
    exact keeps_plainWrite h
  clear_value v1
  refine Keeps.ite ?_ ?_
  · exact keeps_setFld k1
  · exact k1

theorem keeps_answerWith {b : State} {a0 : State} {a1 : List Nat} (h : Keeps b a0) :
    Keeps b (State.answerWith a0 a1) := by
  unfold State.answerWith
  exact Keeps.same h rfl rfl rfl rfl rfl

theorem keeps_freeBit {b : State} {a0 : State} (h : Keeps b a0) :
    Keeps b (State.freeBit a0).2 := by
  unfold State.freeBit
  split
  rename_i y1 y2 e3
  have k4 := congrArg Prod.snd e3
  replace k4 : Keeps b y2 := by
    refine Eq.subst (motive := fun z => Keeps b z) k4 ?_
    exact keeps_drawFree h
  refine Keeps.snd ?_
  exact k4

theorem keeps_henLoad {b : State} {a0 : State} {a1 : Nat} {a2 : Bool} (h : Keeps b a0) :
    Keeps b (State.henLoad a0 a1 a2) := by
  unfold State.henLoad
  split
  · extract_lets v1 v2 v3
    have k1 : Keeps b v1 := by
      unfold v1
      refine Keeps.foldl ?_ ?_
      · exact h
      · intro w61 x62 k63
        exact keeps_setFld k63
    clear_value v1
    have k2 : Keeps b v2 := by
      unfold v2
      exact keeps_setFlag k1
    clear_value v2
    exact Keeps.same k2 rfl rfl rfl rfl rfl
  · extract_lets v64 v65 v66 v67 v68
    have k65 : Keeps b v65 := by
      unfold v65
      refine Keeps.foldl ?_ ?_
      · exact h
      · intro w124 x125 k126
        exact keeps_setFld k126
    clear_value v65
    have k66 : Keeps b v66 := by
      unfold v66
      exact keeps_setFlag k65
    clear_value v66
    have k68 : Keeps b v68 := by
      unfold v68
      exact Keeps.same k66 rfl rfl rfl rfl rfl
    clear_value v68
    refine Keeps.ite ?_ ?_
    · exact keeps_raise (keeps_setFlag k68)
    · exact k68

theorem keeps_opHenCurSeqWrite {b : State} {a0 : Word} {a1 : Bool} {a2 : State} (h : Keeps b a2) :
    Keeps b (opHenCurSeqWrite a0 a1 a2) := by
  unfold opHenCurSeqWrite
  exact keeps_henLoad (keeps_setFld h)

theorem keeps_opHenNext {b : State} {a0 : Bool} {a1 : State} (h : Keeps b a1) :
    Keeps b (opHenNext a0 a1) := by
  unfold opHenNext
  split
  · exact h
  · exact keeps_henLoad h

theorem keeps_opRptrWrite {b : State} {a0 : RingName} {a1 : Word} {a2 : State} (h : Keeps b a2) :
    Keeps b (opRptrWrite a0 a1 a2) := by
  unfold opRptrWrite
  split
  extract_lets v1 v2
  have k2 : Keeps b v2 := by
    unfold v2
    exact keeps_setFld h
  clear_value v2
  refine Keeps.ite ?_ ?_
  · exact h
  · refine Keeps.ite ?_ ?_
    · split
      · refine Keeps.ite ?_ ?_
        · exact k2
        · exact keeps_ringFlush k2
      · exact k2
    · exact keeps_setFlag h

theorem keeps_opRingEnable {b : State} {a0 : Nat} {a1 : RingDesc} {a2 : Nat} {a3 : Word} {a4 : State} (h : Keeps b a4) :
    Keeps b (opRingEnable a0 a1 a2 a3 a4) := by
  unfold opRingEnable
  extract_lets v1 v2
  have k2 : Keeps b v2 := by
    unfold v2
    exact keeps_plainWrite h
  clear_value v2
  refine Keeps.ite ?_ ?_
  · exact keeps_ringFlush (keeps_ringSample k2)
  · exact k2

theorem keeps_writeHen {b : State} {a0 : State} {a1 : Nat} {a2 : Word} (h : Keeps b a0) :
    Keeps b (State.writeHen a0 a1 a2) := by
  unfold State.writeHen
  refine Keeps.ite ?_ ?_
  · split
    rename_i y1 y2 e3
    have k4 := congrArg Prod.snd e3
    replace k4 : Keeps b y2 := by
      refine Eq.subst (motive := fun z => Keeps b z) k4 ?_
      exact keeps_freeBit h
    exact keeps_opHenCurSeqWrite k4
  · refine Keeps.ite ?_ ?_
    · refine Keeps.ite ?_ ?_
      · split
        rename_i y5 y6 e7
        have k8 := congrArg Prod.snd e7
        replace k8 : Keeps b y6 := by
          refine Eq.subst (motive := fun z => Keeps b z) k8 ?_
          exact keeps_freeBit h
        exact keeps_opHenNext k8
      · exact h
    · refine Keeps.ite ?_ ?_
      · exact keeps_opRptrWrite h
      · refine Keeps.ite ?_ ?_
        · exact keeps_opRingEnable h
        · exact keeps_plainWrite h

theorem keeps_zeroSeg {b : State} {a0 : State} {a1 : Nat} {a2 : Nat} (h : Keeps b a0) :
    Keeps b (State.zeroSeg a0 a1 a2) := by
  unfold State.zeroSeg
  extract_lets v1 v2 v3
  exact Keeps.same h rfl rfl rfl rfl rfl

theorem keeps_judgeBias {b : State} {a0 : State} {a1 : Nat} {a2 : Bool} (h : Keeps b a0) :
    Keeps b (State.judgeBias a0 a1 a2) := by
  unfold State.judgeBias
  refine Keeps.ite ?_ ?_
  · exact keeps_setFlag h
  · refine Keeps.ite ?_ ?_
    · exact h
    · exact keeps_raise (keeps_setFlag h)

theorem keeps_canReject {b : State} {a0 : State} {a1 : Nat} (h : Keeps b a0) :
    Keeps b (State.canReject a0 a1) := by
  unfold State.canReject
  exact keeps_setFlag h

theorem keeps_canOnbus {b : State} {a0 : State} {a1 : Nat} {a2 : Bool} (h : Keeps b a0) :
    Keeps b (State.canOnbus a0 a1 a2) := by
  unfold State.canOnbus
  extract_lets v1
  have k1 : Keeps b v1 := by
    unfold v1
    exact keeps_setFlag h
  clear_value v1
  exact keeps_modCanCh k1

theorem keeps_opCanCfgWrite {b : State} {a0 : Nat} {a1 : Word} {a2 : State} (h : Keeps b a2) :
    Keeps b (opCanCfgWrite a0 a1 a2) := by
  unfold opCanCfgWrite
  refine Keeps.ite ?_ ?_
  · exact keeps_canReject h
  · extract_lets v1 v2 v3 v4 v5 v6 v7 v8
    have k5 : Keeps b v5 := by
      unfold v5
      refine Keeps.ite ?_ ?_
      · refine Keeps.foldl ?_ ?_
        · exact h
        · intro w61 x62 k63
          unfold v4
          exact keeps_setFld k63
      · refine Keeps.ite ?_ ?_
        · exact keeps_canReject h
        · exact h
    clear_value v5
    have k6 : Keeps b v6 := by
      unfold v6
      unfold v4
      exact keeps_setFld k5
    clear_value v6
    have k7 : Keeps b v7 := by
      unfold v7
      unfold v4
      exact keeps_setFld k6
    clear_value v7
    have k8 : Keeps b v8 := by
      unfold v8
      refine Keeps.ite ?_ ?_
      · exact keeps_modCanCh k7
      · exact k7
    clear_value v8
    refine Keeps.ite ?_ ?_
    · exact keeps_canOffbus k8
    · refine Keeps.ite ?_ ?_
      · exact keeps_canOnbus k8
      · exact keeps_modCanCh k8

theorem keeps_opCanInitWrite {b : State} {a0 : Nat} {a1 : Nat} {a2 : Word} {a3 : State} (h : Keeps b a3) :
    Keeps b (opCanInitWrite a0 a1 a2 a3) := by
  unfold opCanInitWrite
  refine Keeps.ite ?_ ?_
  · exact keeps_canReject h
  · refine Keeps.ite ?_ ?_
    · extract_lets v1
      exact keeps_plainWrite h
    · exact keeps_plainWrite h

theorem keeps_opTxReqWrite {b : State} {a0 : Nat} {a1 : Word} {a2 : State} (h : Keeps b a2) :
    Keeps b (opTxReqWrite a0 a1 a2) := by
  unfold opTxReqWrite
  refine Keeps.ite ?_ ?_
  · exact keeps_canReject h
  · exact keeps_canRequest h

theorem keeps_opTxCanWrite {b : State} {a0 : Nat} {a1 : Word} {a2 : State} (h : Keeps b a2) :
    Keeps b (opTxCanWrite a0 a1 a2) := by
  unfold opTxCanWrite
  refine Keeps.ite ?_ ?_
  · exact keeps_canReject h
  · refine Keeps.foldl ?_ ?_
    · exact h
    · intro w1 x2 k3
      refine Keeps.ite ?_ ?_
      · exact k3
      · refine Keeps.ite ?_ ?_
        · exact keeps_setFld k3
        · exact keeps_setFld k3

theorem keeps_showFifo {b : State} {a0 : State} {a1 : Nat} (h : Keeps b a0) :
    Keeps b (State.showFifo a0 a1) := by
  unfold State.showFifo
  exact keeps_setFld h

theorem keeps_opFifoAck {b : State} {a0 : Nat} {a1 : Word} {a2 : State} (h : Keeps b a2) :
    Keeps b (opFifoAck a0 a1 a2) := by
  unfold opFifoAck
  extract_lets v1
  refine Keeps.ite ?_ ?_
  · exact keeps_canReject h
  · exact keeps_showFifo (keeps_setFld h)

theorem keeps_opNdatWrite {b : State} {a0 : Nat} {a1 : Word} {a2 : State} (h : Keeps b a2) :
    Keeps b (opNdatWrite a0 a1 a2) := by
  unfold opNdatWrite
  refine Keeps.foldl ?_ ?_
  · exact h
  · intro w1 x2 k3
    refine Keeps.ite ?_ ?_
    · exact keeps_setFld k3
    · exact k3

theorem keeps_opCanMemWrite {b : State} {a0 : Nat} {a1 : Nat} {a2 : Word} {a3 : State} (h : Keeps b a3) :
    Keeps b (opCanMemWrite a0 a1 a2 a3) := by
  unfold opCanMemWrite
  extract_lets v1 v2
  refine Keeps.ite ?_ ?_
  · exact keeps_canReject h
  · refine Keeps.ite ?_ ?_
    · exact h
    · refine Keeps.ite ?_ ?_
      · exact keeps_canReject h
      · refine Keeps.ite ?_ ?_
        · exact keeps_canReject h
        · exact keeps_setReg h

theorem keeps_writeCan {b : State} {a0 : State} {a1 : Nat} {a2 : Word} (h : Keeps b a0) :
    Keeps b (State.writeCan a0 a1 a2) := by
  unfold State.writeCan
  extract_lets v1 v2
  refine Keeps.ite ?_ ?_
  · exact keeps_opCanCfgWrite h
  · refine Keeps.ite ?_ ?_
    · exact h
    · refine Keeps.ite ?_ ?_
      · exact keeps_opCanInitWrite h
      · refine Keeps.ite ?_ ?_
        · exact keeps_opTxReqWrite h
        · refine Keeps.ite ?_ ?_
          · exact keeps_opTxCanWrite h
          · refine Keeps.ite ?_ ?_
            · exact keeps_opFifoAck h
            · refine Keeps.ite ?_ ?_
              · exact keeps_opNdatWrite h
              · refine Keeps.ite ?_ ?_
                · exact keeps_opCanMemWrite h
                · refine Keeps.ite ?_ ?_
                  · exact keeps_canReject h
                  · exact keeps_plainWrite h

theorem keeps_fusionRecord {b : State} {a0 : State} {a1 : Nat} {a2 : Nat} {a3 : Nat} {a4 : Nat} (h : Keeps b a0) :
    Keeps b (State.fusionRecord a0 a1 a2 a3 a4) := by
  unfold State.fusionRecord
  extract_lets v1
  exact keeps_ringPush h

theorem keeps_publishCal {b : State} {a0 : State} {a1 : Bool} (h : Keeps b a0) :
    Keeps b (State.publishCal a0 a1) := by
  unfold State.publishCal
  extract_lets v1 v2 v3 v4 v5 v6 v7 v8 v9 v10 v11 v12
  have k9 : Keeps b v9 := by
    unfold v9
    exact keeps_setFld h
  clear_value v9
  have k11 : Keeps b v11 := by
    unfold v11
    exact Keeps.same k9 rfl rfl rfl rfl rfl
  clear_value v11
  have k12 : Keeps b v12 := by
    unfold v12
    refine Keeps.ite ?_ ?_
    · exact keeps_fusionRecord k11
    · exact k11
  clear_value v12
  exact keeps_raise k12

theorem keeps_opCalPublish {b : State} {a0 : Word} {a1 : State} (h : Keeps b a1) :
    Keeps b (opCalPublish a0 a1) := by
  unfold opCalPublish
  extract_lets v1 v2 v3
  have k1 : Keeps b v1 := by
    unfold v1
    exact keeps_plainWrite h
  clear_value v1
  have k3 : Keeps b v3 := by
    unfold v3
    exact Keeps.same k1 rfl rfl rfl rfl rfl
  clear_value v3
  refine Keeps.ite ?_ ?_
  · exact k1
  · exact keeps_allNetsCause (keeps_publishCal k3)

theorem keeps_canEvent2 {b : State} {a0 : State} {a1 : Nat} {a2 : Nat} {a3 : Nat} (h : Keeps b a0) :
    Keeps b (State.canEvent2 a0 a1 a2 a3) := by
  unfold State.canEvent2
  exact keeps_raise h

theorem keeps_showBinding {b : State} {a0 : State} (h : Keeps b a0) :
    Keeps b (State.showBinding a0) := by
  unfold State.showBinding
  extract_lets v1
  exact keeps_setFld (keeps_setPair h)

theorem keeps_bindTo {b : State} {a0 : State} {a1 : Rebind} (h : Keeps b a0) :
    Keeps b (State.bindTo a0 a1) := by
  unfold State.bindTo
  extract_lets v1 v2 v3 v4 v5
  have k3 : Keeps b v3 := by
    unfold v3
    exact Keeps.same h rfl rfl rfl rfl rfl
  clear_value v3
  have k4 : Keeps b v4 := by
    unfold v4
    exact keeps_setFld (keeps_showBinding k3)
  clear_value v4
  have k5 : Keeps b v5 := by
    unfold v5
    exact keeps_henMake (keeps_raise k4)
  clear_value v5
  exact keeps_finishWaiter k5

theorem keeps_bindFailure {b : State} {a0 : State} {a1 : Nat} (h : Keeps b a0) :
    Keeps b (State.bindFailure a0 a1) := by
  unfold State.bindFailure
  exact keeps_henMake (keeps_raise (keeps_setFld h))

theorem keeps_opAnchorResponse {b : State} {a0 : List Byte} {a1 : Bool} {a2 : Bool} {a3 : State} (h : Keeps b a3) :
    Keeps b (opAnchorResponse a0 a1 a2 a3) := by
  unfold opAnchorResponse
  refine Keeps.ite ?_ ?_
  · exact h
  · extract_lets v1
    split
    · exact keeps_bindTo h
    · split
      · exact h
      · refine Keeps.ite ?_ ?_
        · exact h
        · refine Keeps.ite ?_ ?_
          · exact keeps_setFld h
          · refine Keeps.ite ?_ ?_
            · exact keeps_bindFailure h
            · exact h

theorem keeps_opEthLink {b : State} {a0 : Nat} {a1 : Bool} {a2 : Nat} {a3 : State} (h : Keeps b a3) :
    Keeps b (opEthLink a0 a1 a2 a3) := by
  unfold opEthLink
  refine Keeps.ite ?_ ?_
  · exact h
  · extract_lets v1 v2 v3
    have k1 : Keeps b v1 := by
      unfold v1
      exact keeps_setFlag h
    clear_value v1
    have k2 : Keeps b v2 := by
      unfold v2
      exact keeps_setFld k1
    clear_value v2
    have k3 : Keeps b v3 := by
      unfold v3
      refine Keeps.ite ?_ ?_
      · exact keeps_setFlag k2
      · exact k2
    clear_value v3
    exact keeps_raise k3

theorem keeps_opMachineDigest {b : State} {a0 : State} (h : Keeps b a0) :
    Keeps b (opMachineDigest a0) := by
  unfold opMachineDigest
  refine Keeps.ite ?_ ?_
  · exact h
  · extract_lets v1 v2
    have k1 : Keeps b v1 := by
      unfold v1
      exact keeps_setPair h
    clear_value v1
    exact Keeps.same k1 rfl rfl rfl rfl rfl

theorem keeps_opOxPiWrite {b : State} {a0 : Nat} {a1 : Word} {a2 : State} (h : Keeps b a2) :
    Keeps b (opOxPiWrite a0 a1 a2) := by
  unfold opOxPiWrite
  refine Keeps.ite ?_ ?_
  · exact h
  · extract_lets v1
    have k1 : Keeps b v1 := by
      unfold v1
      exact keeps_setFld h
    clear_value v1
    exact keeps_setFld k1

theorem keeps_canAnswer {b : State} {a0 : State} {a1 : Nat} {a2 : Nat} {a3 : Nat} (h : Keeps b a0) :
    Keeps b (State.canAnswer a0 a1 a2 a3) := by
  unfold State.canAnswer
  exact keeps_answerWith h

theorem keeps_rxAnswer {b : State} {a0 : State} {a1 : Nat} (h : Keeps b a0) :
    Keeps b (State.rxAnswer a0 a1) := by
  unfold State.rxAnswer
  refine Keeps.ite ?_ ?_
  · exact keeps_canAnswer h
  · refine Keeps.ite ?_ ?_
    · extract_lets v1
      exact keeps_answerWith h
    · exact keeps_answerWith h

theorem keeps_startBinding {b : State} {a0 : State} (h : Keeps b a0) :
    Keeps b (State.startBinding a0) := by
  unfold State.startBinding
  extract_lets v1 v2
  have k2 : Keeps b v2 := by
    unfold v2
    exact Keeps.same h rfl rfl rfl rfl rfl
  clear_value v2
  refine Keeps.ite ?_ ?_
  · exact keeps_bindFailure k2
  · exact keeps_setFld k2

theorem keeps_legacyTiming {b : State} {a0 : State} {a1 : Nat} {a2 : Word} (h : Keeps b a0) :
    Keeps b (State.legacyTiming a0 a1 a2) := by
  unfold State.legacyTiming
  extract_lets v1
  have k1 : Keeps b v1 := by
    unfold v1
    exact keeps_setReg (keeps_setFlag h)
  clear_value v1
  exact keeps_canOnbus k1

theorem keeps_opTftpData {b : State} {a0 : Nat} {a1 : List Byte} {a2 : State} (h : Keeps b a2) :
    Keeps b (opTftpData a0 a1 a2) := by
  unfold opTftpData
  extract_lets v1 v2 v3 v4
  have k3 : Keeps b v3 := by
    unfold v3
    exact Keeps.same h rfl rfl rfl rfl rfl
  clear_value v3
  refine Keeps.ite ?_ ?_
  · exact h
  · refine Keeps.ite ?_ ?_
    · refine Keeps.ite ?_ ?_
      · exact Keeps.same k3 rfl rfl rfl rfl rfl
      · exact keeps_answerWith k3
    · refine Keeps.ite ?_ ?_
      · exact keeps_answerWith h
      · exact h

theorem keeps_dropStage {b : State} {a0 : State} (h : Keeps b a0) :
    Keeps b (State.dropStage a0) := by
  unfold State.dropStage
  split
  rename_i y1 y2 e3
  have k4 := congrArg Prod.snd e3
  replace k4 : Keeps b y2 := by
    refine Eq.subst (motive := fun z => Keeps b z) k4 ?_
    exact keeps_drawFree h
  split
  rename_i y5 y6 e7
  have k8 := congrArg Prod.snd e7
  replace k8 : Keeps b y6 := by
    refine Eq.subst (motive := fun z => Keeps b z) k8 ?_
    exact keeps_drawFree k4
  split
  rename_i y9 y10 e11
  have k12 := congrArg Prod.snd e11
  replace k12 : Keeps b y10 := by
    refine Eq.subst (motive := fun z => Keeps b z) k12 ?_
    exact keeps_drawFree k8
  extract_lets v13 v14 v15
  have k13 : Keeps b v13 := by
    unfold v13
    exact keeps_setReg (keeps_setReg (keeps_setReg k12))
  clear_value v13
  have k14 : Keeps b v14 := by
    unfold v14
    exact keeps_setFlag k13
  clear_value v14
  exact Keeps.same k14 rfl rfl rfl rfl rfl

theorem keeps_opFrameStart {b : State} {a0 : Nat} {a1 : State} (h : Keeps b a1) :
    Keeps b (opFrameStart a0 a1) := by
  unfold opFrameStart
  extract_lets v1 v2 v3 v4
  refine Keeps.ite ?_ ?_
  · exact h
  · split
    · extract_lets v61
      exact keeps_setPort h
    · exact keeps_raiseOnce (keeps_bump (keeps_setPort h))

theorem keeps_doorbellError {b : State} {a0 : State} {a1 : Nat} (h : Keeps b a0) :
    Keeps b (State.doorbellError a0 a1) := by
  unfold State.doorbellError
  exact keeps_raiseOnce (keeps_setFlag h)

theorem keeps_bootFail {b : State} {a0 : State} {a1 : Nat} (h : Keeps b a0) :
    Keeps b (State.bootFail a0 a1) := by
  unfold State.bootFail
  split
  · exact h
  · extract_lets v1 v2 v3
    have k2 : Keeps b v2 := by
      unfold v2
      exact Keeps.same h rfl rfl rfl rfl rfl
    clear_value v2
    have k3 : Keeps b v3 := by
      unfold v3
      exact keeps_setFld k2
    clear_value v3
    exact keeps_pendMode (keeps_henMake (keeps_raise k3))

theorem keeps_opModeRequest {b : State} {a0 : Word} {a1 : State} (h : Keeps b a1) :
    Keeps b (opModeRequest a0 a1) := by
  unfold opModeRequest
  refine Keeps.ite ?_ ?_
  · exact h
  · extract_lets v1 v2 v3 v4 v5
    have k3 : Keeps b v3 := by
      unfold v3
      exact keeps_setFld (keeps_setFlag h)
    clear_value v3
    have k4 : Keeps b v4 := by
      unfold v4
      exact keeps_setFlag h
    clear_value v4
    refine Keeps.ite ?_ ?_
    · refine Keeps.ite ?_ ?_
      · exact keeps_bootFail k3
      · exact k3
    · split
      · exact k4
      · exact Keeps.same k4 rfl rfl rfl rfl rfl

theorem keeps_setOsf {b : State} {a0 : State} (h : Keeps b a0) :
    Keeps b (State.setOsf a0) := by
  unfold State.setOsf
  extract_lets v1 v2
  have k1 : Keeps b v1 := by
    unfold v1
    exact keeps_setFlag h
  clear_value v1
  exact Keeps.same k1 rfl rfl rfl rfl rfl

theorem keeps_opNop {b : State} {a0 : State} {a1 : Op} (h : Keeps b a0) :
    Keeps b (opNop a0 a1) := by
  unfold opNop
  exact keeps_finish h

theorem keeps_recomputeFrames {b : State} {a0 : State} {a1 : Nat} {a2 : Nat} (h : Keeps b a0) :
    Keeps b (State.recomputeFrames a0 a1 a2) := by
  unfold State.recomputeFrames
  extract_lets v1
  exact keeps_modSlot h

theorem keeps_recomputeStaged {b : State} {a0 : State} {a1 : Nat} (h : Keeps b a0) :
    Keeps b (State.recomputeStaged a0 a1) := by
  unfold State.recomputeStaged
  refine Keeps.foldl ?_ ?_
  · exact h
  · intro w1 x2 k3
    exact keeps_recomputeFrames k3

theorem keeps_opActArm {b : State} {a0 : State} (h : Keeps b a0) :
    Keeps b (opActArm a0) := by
  unfold opActArm
  extract_lets v1 v2 v3 v4
  have k3 : Keeps b v3 := by
    unfold v3
    exact keeps_setFlag (keeps_setFlag h)
  clear_value v3
  refine Keeps.ite ?_ ?_
  · exact keeps_raise (keeps_setFld (keeps_setFlag h))
  · exact keeps_recomputeStaged (Keeps.same k3 rfl rfl rfl rfl rfl)

theorem keeps_showUpdate {b : State} {a0 : State} (h : Keeps b a0) :
    Keeps b (State.showUpdate a0) := by
  unfold State.showUpdate
  extract_lets v1 v2 v3 v4 v5
  have k2 : Keeps b v2 := by
    unfold v2
    exact keeps_setFld (keeps_showBinding h)
  clear_value v2
  have k3 : Keeps b v3 := by
    unfold v3
    exact keeps_setFld (keeps_setFld k2)
  clear_value v3
  have k4 : Keeps b v4 := by
    unfold v4
    exact keeps_setFlag k3
  clear_value v4
  have k5 : Keeps b v5 := by
    unfold v5
    exact keeps_setFld k4
  clear_value v5
  split
  · exact k5
  · extract_lets v61 v62 v63
    have k61 : Keeps b v61 := by
      unfold v61
      exact keeps_setFld (keeps_setFlag k5)
    clear_value v61
    exact Keeps.same k61 rfl rfl rfl rfl rfl

theorem keeps_enterRecovery {b : State} {a0 : State} (h : Keeps b a0) :
    Keeps b (State.enterRecovery a0) := by
  unfold State.enterRecovery
  extract_lets v1 v2 v3 v4 v5 v6 v7 v8 v9 v10 v11 v12 v13
  have k3 : Keeps b v3 := by
    unfold v3
    refine keeps_henFlush ?_
    refine Keeps.ite ?_ ?_
    · exact h
    · exact keeps_updateAtOff h
  clear_value v3
  have k4 : Keeps b v4 := by
    unfold v4
    exact Keeps.same k3 rfl rfl rfl rfl rfl
  clear_value v4
  have k5 : Keeps b v5 := by
    unfold v5
    exact keeps_hubReset k4
  clear_value v5
  have k8 : Keeps b v8 := by
    unfold v8
    exact Keeps.same k5 rfl rfl rfl rfl rfl
  clear_value v8
  have k11 : Keeps b v11 := by
    unfold v11
    exact Keeps.same k8 rfl rfl rfl rfl rfl
  clear_value v11
  have k12 : Keeps b v12 := by
    unfold v12
    exact keeps_setFlag (keeps_setFld k11)
  clear_value v12
  have k13 : Keeps b v13 := by
    unfold v13
    exact keeps_showUpdate k12
  clear_value v13
  exact keeps_raise (keeps_raise k13)

theorem keeps_dspSettle {b : State} {a0 : State} (h : Keeps b a0) :
    Keeps b (State.dspSettle a0) := by
  unfold State.dspSettle
  extract_lets v1 v2 v3 v4 v5
  have k3 : Keeps b v3 := by
    unfold v3
    exact keeps_dspEnter (keeps_setDsp h)
  clear_value v3
  have k4 : Keeps b v4 := by
    unfold v4
    exact keeps_dspStart k3
  clear_value v4
  refine Keeps.ite ?_ ?_
  · refine Keeps.ite ?_ ?_
    · exact keeps_setDsp k4
    · exact k3
  · exact h

theorem keeps_dspStandby {b : State} {a0 : State} (h : Keeps b a0) :
    Keeps b (State.dspStandby a0) := by
  unfold State.dspStandby
  extract_lets v1 v2 v3
  have k1 : Keeps b v1 := by
    unfold v1
    exact keeps_dspSettle h
  clear_value v1
  refine Keeps.ite ?_ ?_
  · exact keeps_dspCut k1
  · refine Keeps.ite ?_ ?_
    · exact keeps_dspCut (keeps_raise k1)
    · exact keeps_dspEnter (keeps_setDsp k1)

theorem keeps_enterStandby {b : State} {a0 : State} (h : Keeps b a0) :
    Keeps b (State.enterStandby a0) := by
  unfold State.enterStandby
  extract_lets v1 v2
  have k1 : Keeps b v1 := by
    unfold v1
    exact keeps_setFld (keeps_setFld h)
  clear_value v1
  have k2 : Keeps b v2 := by
    unfold v2
    exact keeps_setFld k1
  clear_value v2
  refine keeps_goOff ?_
  refine keeps_dspStandby ?_
  refine Keeps.ite ?_ ?_
  · exact keeps_endSafeStop k2
  · exact k2

theorem keeps_tapsClose {b : State} {a0 : State} {a1 : Nat} {a2 : CamFrame} (h : Keeps b a0) :
    Keeps b (State.tapsClose a0 a1 a2) := by
  unfold State.tapsClose
  extract_lets v1 v2
  have k1 : Keeps b v1 := by
    unfold v1
    exact keeps_tapStatus h
  clear_value v1
  exact keeps_tapStatus k1

theorem keeps_camDamage {b : State} {a0 : State} {a1 : Nat} {a2 : Nat} (h : Keeps b a0) :
    Keeps b (State.camDamage a0 a1 a2) := by
  unfold State.camDamage
  split
  · exact h
  · extract_lets v1 v2 v3 v4
    have k2 : Keeps b v2 := by
      unfold v2
      exact keeps_bump (keeps_setFrame h)
    clear_value v2
    have k3 : Keeps b v3 := by
      unfold v3
      exact keeps_setFld k2
    clear_value v3
    have k4 : Keeps b v4 := by
      unfold v4
      refine Keeps.ite ?_ ?_
      · exact k3
      · exact keeps_raise (keeps_modPort k3)
    clear_value v4
    exact keeps_dropFinished (keeps_tapsClose k4)

theorem keeps_showActive {b : State} {a0 : State} (h : Keeps b a0) :
    Keeps b (State.showActive a0) := by
  unfold State.showActive
  exact keeps_setFld h

theorem keeps_portOff {b : State} {a0 : State} {a1 : Nat} (h : Keeps b a0) :
    Keeps b (State.portOff a0 a1) := by
  unfold State.portOff
  extract_lets v1
  have k1 : Keeps b v1 := by
    unfold v1
    exact keeps_setFlag (keeps_camDamage h)
  clear_value v1
  exact keeps_showActive (keeps_modPort k1)

theorem keeps_camModeLeft {b : State} {a0 : State} (h : Keeps b a0) :
    Keeps b (State.camModeLeft a0) := by
  unfold State.camModeLeft
  refine Keeps.foldl ?_ ?_
  · exact h
  · intro w1 x2 k3
    exact keeps_portOff k3

theorem keeps_gateCompat {b : State} {a0 : State} (h : Keeps b a0) :
    Keeps b (State.gateCompat a0) := by
  unfold State.gateCompat
  refine Keeps.foldl ?_ ?_
  · exact h
  · intro w1 x2 k3
    exact keeps_setFld k3

theorem keeps_enterCompat {b : State} {a0 : State} (h : Keeps b a0) :
    Keeps b (State.enterCompat a0) := by
  unfold State.enterCompat
  extract_lets v1 v2 v3
  have k1 : Keeps b v1 := by
    unfold v1
    exact keeps_gateCompat (keeps_slabsOff h)
  clear_value v1
  have k3 : Keeps b v3 := by
    unfold v3
    exact Keeps.same k1 rfl rfl rfl rfl rfl
  clear_value v3
  exact keeps_setFlag k3

theorem keeps_refuseUnserved {b : State} {a0 : State} (h : Keeps b a0) :
    Keeps b (State.refuseUnserved a0) := by
  unfold State.refuseUnserved
  refine Keeps.foldl ?_ ?_
  · exact h
  · intro w1 x2 k3
    exact keeps_finish k3

theorem keeps_canModeEntered {b : State} {a0 : State} (h : Keeps b a0) :
    Keeps b (State.canModeEntered a0) := by
  unfold State.canModeEntered
  refine Keeps.foldl ?_ ?_
  · exact h
  · intro w1 x2 k3
    extract_lets v4 v5
    have k4 : Keeps b v4 := by
      unfold v4
      exact keeps_canFlush k3
    clear_value v4
    have k5 : Keeps b v5 := by
      unfold v5
      exact keeps_modCanCh k4
    clear_value v5
    exact keeps_setFlag k5

theorem keeps_gooModeEntered {b : State} {a0 : State} (h : Keeps b a0) :
    Keeps b (State.gooModeEntered a0) := by
  unfold State.gooModeEntered
  exact keeps_gooShow (keeps_outputsOff h)

theorem keeps_mulModeEntered {b : State} {a0 : State} (h : Keeps b a0) :
    Keeps b (State.mulModeEntered a0) := by
  unfold State.mulModeEntered
  refine Keeps.foldl ?_ ?_
  · exact h
  · intro w1 x2 k3
    refine Keeps.ite ?_ ?_
    · exact keeps_mulFollow k3
    · exact keeps_mulOff (keeps_modMulCh k3)

theorem keeps_enterMode {b : State} {a0 : State} {a1 : Mode} (h : Keeps b a0) :
    Keeps b (State.enterMode a0 a1) := by
  unfold State.enterMode
  extract_lets v1 v2 v3 v4 v5 v6
  have k2 : Keeps b v2 := by
    unfold v2
    exact Keeps.same h rfl rfl rfl rfl rfl
  clear_value v2
  have k3 : Keeps b v3 := by
    unfold v3
    refine Keeps.ite ?_ ?_
    · exact k2
    · refine Keeps.ite ?_ ?_
      · exact keeps_allNetsCause k2
      · exact k2
  clear_value v3
  have k4 : Keeps b v4 := by
    unfold v4
    refine keeps_workCheck ?_
    refine Keeps.ite ?_ ?_
    · exact k3
    · exact keeps_camModeLeft k3
  clear_value v4
  have k5 : Keeps b v5 := by
    unfold v5
    exact keeps_raise k4
  clear_value v5
  have k6 : Keeps b v6 := by
    unfold v6
    refine Keeps.ite ?_ ?_
    · exact keeps_enterCompat k5
    · exact k5
  clear_value v6
  refine Keeps.ite ?_ ?_
  · exact keeps_enterRecovery h
  · refine Keeps.ite ?_ ?_
    · exact keeps_enterStandby (keeps_raise h)
    · exact keeps_refuseUnserved (keeps_canModeEntered (keeps_gooModeEntered (keeps_mulModeEntered (keeps_settleSlots k6))))

theorem keeps_opCqHead {b : State} {a0 : Nat} {a1 : Word} {a2 : State} (h : Keeps b a2) :
    Keeps b (opCqHead a0 a1 a2) := by
  unfold opCqHead
  extract_lets v1 v2 v3
  refine Keeps.ite ?_ ?_
  · exact h
  · refine Keeps.ite ?_ ?_
    · exact keeps_doorbellError h
    · exact keeps_updateLine (keeps_setCtx h)

theorem keeps_disarm {b : State} {a0 : State} (h : Keeps b a0) :
    Keeps b (State.disarm a0) := by
  unfold State.disarm
  refine Keeps.ite ?_ ?_
  · extract_lets v1 v2
    have k2 : Keeps b v2 := by
      unfold v2
      exact Keeps.same h rfl rfl rfl rfl rfl
    clear_value v2
    exact keeps_setFlag k2
  · exact h

theorem keeps_opCanTx {b : State} {a0 : Bool} {a1 : State} {a2 : Op} (h : Keeps b a1) :
    Keeps b (opCanTx a0 a1 a2) := by
  unfold opCanTx
  extract_lets v1 v2 v3 v4
  refine Keeps.ite ?_ ?_
  · exact keeps_finish h
  · refine Keeps.ite ?_ ?_
    · exact keeps_finish h
    · refine Keeps.ite ?_ ?_
      · exact keeps_finish h
      · refine Keeps.ite ?_ ?_
        · exact keeps_finish h
        · exact keeps_modCanCh h

theorem keeps_opBlockSleep {b : State} {a0 : Nat} {a1 : State} (h : Keeps b a1) :
    Keeps b (opBlockSleep a0 a1) := by
  unfold opBlockSleep
  refine Keeps.ite ?_ ?_
  · exact h
  · exact keeps_setFld h

theorem keeps_opRecRead {b : State} {a0 : Nat} {a1 : State} (h : Keeps b a1) :
    Keeps b (opRecRead a0 a1) := by
  unfold opRecRead
  extract_lets v1 v2
  have k2 : Keeps b v2 := by
    unfold v2
    refine Keeps.ite ?_ ?_
    · exact Keeps.same h rfl rfl rfl rfl rfl
    · exact h
  clear_value v2
  exact Keeps.same k2 rfl rfl rfl rfl rfl

theorem keeps_lockFailed {b : State} {a0 : State} {a1 : Nat} {a2 : Relock} (h : Keeps b a0) :
    Keeps b (State.lockFailed a0 a1 a2) := by
  unfold State.lockFailed
  extract_lets v1
  have k1 : Keeps b v1 := by
    unfold v1
    exact keeps_setRelock (keeps_setFlag h)
  clear_value v1
  exact keeps_henMake (keeps_raise k1)

theorem keeps_opGateWrite {b : State} {a0 : Nat} {a1 : Word} {a2 : State} (h : Keeps b a2) :
    Keeps b (opGateWrite a0 a1 a2) := by
  unfold opGateWrite
  refine Keeps.ite ?_ ?_
  · exact keeps_setFld h
  · exact keeps_plainWrite h

theorem keeps_henWake {b : State} {a0 : State} (h : Keeps b a0) :
    Keeps b (State.henWake a0) := by
  unfold State.henWake
  extract_lets v1
  refine Keeps.foldl ?_ ?_
  · exact h
  · intro w61 x62 k63
    exact keeps_finish k63

theorem keeps_opRailFault {b : State} {a0 : Nat} {a1 : State} (h : Keeps b a1) :
    Keeps b (opRailFault a0 a1) := by
  unfold opRailFault
  refine Keeps.ite ?_ ?_
  · exact h
  · extract_lets v1
    have k1 : Keeps b v1 := by
      unfold v1
      exact keeps_setFld h
    clear_value v1
    exact keeps_powerFail (keeps_raise k1)

theorem keeps_ownSlot {b : State} {a0 : State} {a1 : Op} {a2 : State → State} (hf2 : ∀ y0, Keeps b y0 → Keeps b (a2 y0)) (h : Keeps b a0) :
    Keeps b (State.ownSlot a0 a1 a2) := by
  unfold State.ownSlot
  refine Keeps.ite ?_ ?_
  · refine hf2 _ ?_
    exact h
  · exact keeps_finish h

theorem keeps_opLoopSwap {b : State} {a0 : State} {a1 : Op} (h : Keeps b a0) :
    Keeps b (opLoopSwap a0 a1) := by
  unfold opLoopSwap
  refine keeps_ownSlot ?_ ?_
  · intro z1 k2
    refine Keeps.ite ?_ ?_
    · exact keeps_finish k2
    · exact keeps_requestSwap k2
  · exact h

theorem keeps_opCamStCtl {b : State} {a0 : Word} {a1 : State} (h : Keeps b a1) :
    Keeps b (opCamStCtl a0 a1) := by
  unfold opCamStCtl
  extract_lets v1 v2 v3 v4
  have k2 : Keeps b v2 := by
    unfold v2
    refine Keeps.ite ?_ ?_
    · exact Keeps.same h rfl rfl rfl rfl rfl
    · exact h
  clear_value v2
  have k4 : Keeps b v4 := by
    unfold v4
    exact keeps_plainWrite k2
  clear_value v4
  refine Keeps.ite ?_ ?_
  · refine Keeps.ite ?_ ?_
    · exact keeps_ringFlush (keeps_ringSample k4)
    · exact k4
  · exact keeps_plainWrite k2

theorem keeps_tapLate {b : State} {a0 : State} {a1 : Nat} {a2 : CamFrame} {a3 : Bool} (h : Keeps b a0) :
    Keeps b (State.tapLate a0 a1 a2 a3) := by
  unfold State.tapLate
  refine Keeps.ite ?_ ?_
  · exact keeps_tapDrop h
  · exact h

theorem keeps_frameLate {b : State} {a0 : State} {a1 : Nat} {a2 : CamFrame} (h : Keeps b a0) :
    Keeps b (State.frameLate a0 a1 a2) := by
  unfold State.frameLate
  extract_lets v1
  have k1 : Keeps b v1 := by
    unfold v1
    exact keeps_tapLate h
  clear_value v1
  exact keeps_tapLate k1

theorem keeps_oxClear {b : State} {a0 : State} {a1 : Nat} {a2 : Nat} {a3 : Bool} {a4 : Int} (h : Keeps b a0) :
    Keeps b (State.oxClear a0 a1 a2 a3 a4) := by
  unfold State.oxClear
  extract_lets v1 v2 v3 v4 v5
  have k3 : Keeps b v3 := by
    unfold v3
    unfold v2
    refine Keeps.ite ?_ ?_
    · exact keeps_setFlag h
    · exact h
  clear_value v3
  have k4 : Keeps b v4 := by
    unfold v4
    unfold v2
    refine Keeps.ite ?_ ?_
    · exact keeps_setFlag k3
    · exact k3
  clear_value v4
  have k5 : Keeps b v5 := by
    unfold v5
    unfold v2
    refine Keeps.ite ?_ ?_
    · exact keeps_setFlag k4
    · exact k4
  clear_value v5
  refine keeps_showOx ?_
  unfold v2
  refine Keeps.ite ?_ ?_
  · exact keeps_setFlag k5
  · exact k5

theorem keeps_opGooseFlit {b : State} {a0 : State} (h : Keeps b a0) :
    Keeps b (opGooseFlit a0) := by
  unfold opGooseFlit
  refine Keeps.ite ?_ ?_
  · exact h
  · extract_lets v1 v2 v3
    exact keeps_emit h

theorem keeps_opResync {b : State} {a0 : Word} {a1 : State} (h : Keeps b a1) :
    Keeps b (opResync a0 a1) := by
  unfold opResync
  extract_lets v1 v2 v3 v4 v5 v6
  have k1 : Keeps b v1 := by
    unfold v1
    exact keeps_plainWrite h
  clear_value v1
  have k6 : Keeps b v6 := by
    unfold v6
    exact Keeps.same k1 rfl rfl rfl rfl rfl
  clear_value v6
  refine Keeps.ite ?_ ?_
  · exact keeps_setFlag k1
  · exact keeps_setFlag k6

theorem keeps_canFlit {b : State} {a0 : State} {a1 : Nat} {a2 : Flit} (h : Keeps b a0) :
    Keeps b (State.canFlit a0 a1 a2) := by
  unfold State.canFlit
  refine Keeps.foldl ?_ ?_
  · exact h
  · intro w1 x2 k3
    refine Keeps.foldl ?_ ?_
    · exact k3
    · intro w4 x5 k6
      refine Keeps.ite ?_ ?_
      · refine Keeps.ite ?_ ?_
        · exact keeps_modCanCh k6
        · extract_lets v7
          exact keeps_canLoad (keeps_modCanCh k6)
      · exact k6

theorem keeps_takeCanFlit {b : State} {a0 : State} {a1 : Packet} (h : Keeps b a0) :
    Keeps b (State.takeCanFlit a0 a1) := by
  unfold State.takeCanFlit
  split
  · refine Keeps.ite ?_ ?_
    · exact keeps_canFlit h
    · exact h
  · exact h

theorem keeps_opI2cStart {b : State} {a0 : Nat} {a1 : Word} {a2 : State} (h : Keeps b a2) :
    Keeps b (opI2cStart a0 a1 a2) := by
  unfold opI2cStart
  refine Keeps.ite ?_ ?_
  · exact keeps_setFlag h
  · exact keeps_modPort (keeps_setFlag h)

theorem keeps_ttFail {b : State} {a0 : State} {a1 : Nat} {a2 : Nat} (h : Keeps b a0) :
    Keeps b (State.ttFail a0 a1 a2) := by
  unfold State.ttFail
  extract_lets v1
  have k1 : Keeps b v1 := by
    unfold v1
    exact keeps_modCanCh h
  clear_value v1
  refine Keeps.ite ?_ ?_
  · exact keeps_canEvent2 (keeps_setFld k1)
  · exact k1

theorem keeps_opDspOn {b : State} {a0 : State} (h : Keeps b a0) :
    Keeps b (opDspOn a0) := by
  unfold opDspOn
  extract_lets v1 v2
  have k1 : Keeps b v1 := by
    unfold v1
    exact keeps_dspSettle h
  clear_value v1
  refine Keeps.ite ?_ ?_
  · exact k1
  · refine Keeps.ite ?_ ?_
    · exact keeps_dspStart k1
    · refine Keeps.ite ?_ ?_
      · exact keeps_setDsp k1
      · exact k1

theorem keeps_opDspOff {b : State} {a0 : State} (h : Keeps b a0) :
    Keeps b (opDspOff a0) := by
  unfold opDspOff
  extract_lets v1 v2
  have k1 : Keeps b v1 := by
    unfold v1
    exact keeps_dspSettle h
  clear_value v1
  refine Keeps.ite ?_ ?_
  · exact k1
  · exact keeps_dspEnter (keeps_setDsp k1)

theorem keeps_opDspTimingWrite {b : State} {a0 : Nat} {a1 : Word} {a2 : State} (h : Keeps b a2) :
    Keeps b (opDspTimingWrite a0 a1 a2) := by
  unfold opDspTimingWrite
  extract_lets v1 v2
  have k1 : Keeps b v1 := by
    unfold v1
    exact keeps_dspSettle h
  clear_value v1
  refine Keeps.ite ?_ ?_
  · exact k1
  · refine Keeps.ite ?_ ?_
    · exact keeps_plainWrite k1
    · exact keeps_plainWrite k1

theorem keeps_writeDsp {b : State} {a0 : State} {a1 : Nat} {a2 : Word} (h : Keeps b a0) :
    Keeps b (State.writeDsp a0 a1 a2) := by
  unfold State.writeDsp
  refine Keeps.ite ?_ ?_
  · refine Keeps.ite ?_ ?_
    · exact keeps_opDspOn h
    · refine Keeps.ite ?_ ?_
      · exact keeps_opDspOff h
      · exact h
  · refine Keeps.ite ?_ ?_
    · exact keeps_opDspTimingWrite h
    · exact keeps_plainWrite h

theorem keeps_opCalValWrite {b : State} {a0 : Word} {a1 : State} (h : Keeps b a1) :
    Keeps b (opCalValWrite a0 a1) := by
  unfold opCalValWrite
  extract_lets v1 v2
  refine Keeps.ite ?_ ?_
  · exact h
  · exact keeps_imageChanged (Keeps.same h rfl rfl rfl rfl rfl)

theorem keeps_mulCommand {b : State} {a0 : State} {a1 : Nat} {a2 : Bool} (h : Keeps b a0) :
    Keeps b (State.mulCommand a0 a1 a2) := by
  unfold State.mulCommand
  extract_lets v1
  have k1 : Keeps b v1 := by
    unfold v1
    exact keeps_modMulCh h
  clear_value v1
  exact keeps_mulFollow k1

theorem keeps_opMulCmdWrite {b : State} {a0 : Nat} {a1 : Word} {a2 : State} (h : Keeps b a2) :
    Keeps b (opMulCmdWrite a0 a1 a2) := by
  unfold opMulCmdWrite
  refine Keeps.ite ?_ ?_
  · exact h
  · extract_lets v1
    have k1 : Keeps b v1 := by
      unfold v1
      exact keeps_setFlag h
    clear_value v1
    refine Keeps.ite ?_ ?_
    · exact keeps_mulCommand k1
    · exact k1

theorem keeps_opCrankTimeout {b : State} {a0 : State} (h : Keeps b a0) :
    Keeps b (opCrankTimeout a0) := by
  unfold opCrankTimeout
  refine Keeps.ite ?_ ?_
  · exact keeps_powerFail h
  · exact h

theorem keeps_correctEdge {b : State} {a0 : State} {a1 : Nat} {a2 : Int} (h : Keeps b a0) :
    Keeps b (State.correctEdge a0 a1 a2) := by
  unfold State.correctEdge
  refine Keeps.ite ?_ ?_
  · exact h
  · extract_lets v1 v2 v3 v4
    have k4 : Keeps b v4 := by
      unfold v4
      exact Keeps.same h rfl rfl rfl rfl rfl
    clear_value v4
    refine Keeps.ite ?_ ?_
    · exact keeps_setTbOfs h
    · exact keeps_showErrest (keeps_setFld k4)

theorem keeps_opQerr {b : State} {a0 : State} (h : Keeps b a0) :
    Keeps b (opQerr a0) := by
  unfold opQerr
  split
  · exact h
  · refine Keeps.ite ?_ ?_
    · exact h
    · extract_lets v1 v2 v3
      have k2 : Keeps b v2 := by
        unfold v2
        exact Keeps.same h rfl rfl rfl rfl rfl
      clear_value v2
      have k3 : Keeps b v3 := by
        unfold v3
        exact keeps_setFld (keeps_gnssRecord k2)
      clear_value v3
      exact keeps_correctEdge k3

theorem keeps_freeRoute {b : State} {a0 : State} {a1 : Nat} (h : Keeps b a0) :
    Keeps b (State.freeRoute a0 a1) := by
  unfold State.freeRoute
  extract_lets v1 v2 v3
  have k2 : Keeps b v2 := by
    unfold v2
    exact Keeps.same h rfl rfl rfl rfl rfl
  clear_value v2
  refine Keeps.ite ?_ ?_
  · exact keeps_setRoute k2
  · exact k2

theorem keeps_opReservationRelease {b : State} {a0 : Nat} {a1 : State} (h : Keeps b a1) :
    Keeps b (opReservationRelease a0 a1) := by
  unfold opReservationRelease
  extract_lets v1 v2 v3
  have k3 : Keeps b v3 := by
    unfold v3
    exact keeps_setRoute h
  clear_value v3
  refine Keeps.ite ?_ ?_
  · exact h
  · refine Keeps.ite ?_ ?_
    · exact keeps_freeRoute k3
    · exact k3

theorem keeps_opMulCfgWrite {b : State} {a0 : Nat} {a1 : Word} {a2 : State} (h : Keeps b a2) :
    Keeps b (opMulCfgWrite a0 a1 a2) := by
  unfold opMulCfgWrite
  refine Keeps.ite ?_ ?_
  · exact keeps_setFlag h
  · extract_lets v1 v2 v3 v4 v5 v6 v7 v8 v9 v10 v11 v12 v13
    have k5 : Keeps b v5 := by
      unfold v5
      refine Keeps.ite ?_ ?_
      · exact keeps_setFlag h
      · exact h
    clear_value v5
    have k6 : Keeps b v6 := by
      unfold v6
      exact keeps_setFlag k5
    clear_value v6
    have k7 : Keeps b v7 := by
      unfold v7
      exact keeps_setFld k6
    clear_value v7
    have k8 : Keeps b v8 := by
      unfold v8
      refine Keeps.ite ?_ ?_
      · refine Keeps.ite ?_ ?_
        · exact keeps_setFlag k5
        · exact k5
      · exact keeps_setFld k7
    clear_value v8
    have k9 : Keeps b v9 := by
      unfold v9
      exact keeps_setFlag k8
    clear_value v9
    have k10 : Keeps b v10 := by
      unfold v10
      exact keeps_setFlag k9
    clear_value v10
    have k11 : Keeps b v11 := by
      unfold v11
      exact keeps_setFld k10
    clear_value v11
    have k12 : Keeps b v12 := by
      unfold v12
      exact keeps_setFlag k11
    clear_value v12
    refine Keeps.ite ?_ ?_
    · exact keeps_mulFollow (keeps_modMulCh k12)
    · refine Keeps.ite ?_ ?_
      · exact keeps_mulOff (keeps_modMulCh k12)
      · exact keeps_showMul k12

theorem keeps_freeJunction {b : State} {a0 : State} (h : Keeps b a0) :
    Keeps b (State.freeJunction a0).2 := by
  unfold State.freeJunction
  split
  rename_i y1 y2 e3
  have k4 := congrArg Prod.snd e3
  replace k4 : Keeps b y2 := by
    refine Eq.subst (motive := fun z => Keeps b z) k4 ?_
    exact keeps_drawFree h
  refine Keeps.snd ?_
  exact k4

theorem keeps_writeMul {b : State} {a0 : State} {a1 : Nat} {a2 : Word} (h : Keeps b a0) :
    Keeps b (State.writeMul a0 a1 a2) := by
  unfold State.writeMul
  extract_lets v1 v2
  refine Keeps.ite ?_ ?_
  · exact keeps_plainWrite h
  · refine Keeps.ite ?_ ?_
    · exact keeps_opMulCfgWrite h
    · refine Keeps.ite ?_ ?_
      · exact h
      · refine Keeps.ite ?_ ?_
        · exact keeps_opMulCmdWrite h
        · refine Keeps.ite ?_ ?_
          · split
            rename_i y61 y62 e63
            have k64 := congrArg Prod.snd e63
            replace k64 : Keeps b y62 := by
              refine Eq.subst (motive := fun z => Keeps b z) k64 ?_
              exact keeps_freeJunction h
            exact keeps_mulClear k64
          · exact keeps_plainWrite h

theorem keeps_opMulRetry {b : State} {a0 : Nat} {a1 : Int} {a2 : State} (h : Keeps b a2) :
    Keeps b (opMulRetry a0 a1 a2) := by
  unfold opMulRetry
  extract_lets v1 v2 v3
  have k2 : Keeps b v2 := by
    unfold v2
    exact keeps_setMulCh h
  clear_value v2
  have k3 : Keeps b v3 := by
    unfold v3
    exact keeps_setFld k2
  clear_value v3
  split
  · exact h
  · refine Keeps.ite ?_ ?_
    · exact h
    · refine Keeps.ite ?_ ?_
      · exact keeps_mulOn k3
      · exact keeps_showMul k2

theorem keeps_opCanStart {b : State} {a0 : List Byte} {a1 : State} (h : Keeps b a1) :
    Keeps b (opCanStart a0 a1) := by
  unfold opCanStart
  refine Keeps.ite ?_ ?_
  · exact h
  · extract_lets v1 v2
    have k2 : Keeps b v2 := by
      unfold v2
      exact Keeps.same h rfl rfl rfl rfl rfl
    clear_value v2
    exact keeps_canAnswer k2

theorem keeps_ttCycle {b : State} {a0 : State} {a1 : Nat} {a2 : Nat} {a3 : Nat} {a4 : Bool} (h : Keeps b a0) :
    Keeps b (State.ttCycle a0 a1 a2 a3 a4) := by
  unfold State.ttCycle
  extract_lets v1 v2 v3 v4 v5
  have k2 : Keeps b v2 := by
    unfold v2
    exact keeps_setFld h
  clear_value v2
  have k3 : Keeps b v3 := by
    unfold v3
    exact keeps_setFlag k2
  clear_value v3
  have k4 : Keeps b v4 := by
    unfold v4
    exact keeps_setFld k3
  clear_value v4
  have k5 : Keeps b v5 := by
    unfold v5
    refine Keeps.ite ?_ ?_
    · exact keeps_setFld k4
    · exact k4
  clear_value v5
  exact keeps_setCanCh k5

theorem keeps_opHenTokenReturn {b : State} {a0 : State} (h : Keeps b a0) :
    Keeps b (opHenTokenReturn a0) := by
  unfold opHenTokenReturn
  exact Keeps.same h rfl rfl rfl rfl rfl

theorem keeps_opFreqWrite {b : State} {a0 : Nat} {a1 : Word} {a2 : State} (h : Keeps b a2) :
    Keeps b (opFreqWrite a0 a1 a2) := by
  unfold opFreqWrite
  extract_lets v1
  refine Keeps.ite ?_ ?_
  · exact keeps_raise (keeps_setFlag h)
  · exact keeps_startRelock (keeps_setFld h)

theorem keeps_mulFlit {b : State} {a0 : State} {a1 : Nat} {a2 : Flit} (h : Keeps b a0) :
    Keeps b (State.mulFlit a0 a1 a2) := by
  unfold State.mulFlit
  extract_lets v1
  refine Keeps.foldl ?_ ?_
  · exact h
  · intro w61 x62 k63
    refine Keeps.ite ?_ ?_
    · extract_lets v64 v65 v66
      have k66 : Keeps b v66 := by
        unfold v66
        exact keeps_setMulCh k63
      clear_value v66
      refine Keeps.ite ?_ ?_
      · exact k66
      · exact keeps_mulCommand k66
    · exact k63

theorem keeps_takeMulFlit {b : State} {a0 : State} {a1 : Packet} (h : Keeps b a0) :
    Keeps b (State.takeMulFlit a0 a1) := by
  unfold State.takeMulFlit
  split
  · refine Keeps.ite ?_ ?_
    · exact keeps_mulFlit h
    · exact h
  · exact h

theorem keeps_opSweepOverrun {b : State} {a0 : State} (h : Keeps b a0) :
    Keeps b (opSweepOverrun a0) := by
  unfold opSweepOverrun
  split
  · exact h
  · refine Keeps.ite ?_ ?_
    · exact h
    · extract_lets v1 v2
      have k2 : Keeps b v2 := by
        unfold v2
        exact Keeps.same h rfl rfl rfl rfl rfl
      clear_value v2
      exact keeps_raise (keeps_setFlag k2)

theorem keeps_updRefuse {b : State} {a0 : State} {a1 : Nat} (h : Keeps b a0) :
    Keeps b (State.updRefuse a0 a1) := by
  unfold State.updRefuse
  exact keeps_raise (keeps_setFld (keeps_setFlag h))

theorem keeps_arm {b : State} {a0 : State} (h : Keeps b a0) :
    Keeps b (State.arm a0) := by
  unfold State.arm
  extract_lets v1 v2 v3 v4 v5 v6
  have k6 : Keeps b v6 := by
    unfold v6
    exact Keeps.same h rfl rfl rfl rfl rfl
  clear_value v6
  refine Keeps.ite ?_ ?_
  · exact keeps_updRefuse h
  · refine Keeps.ite ?_ ?_
    · exact keeps_updRefuse h
    · refine Keeps.ite ?_ ?_
      · exact keeps_updRefuse h
      · exact keeps_setFlag k6

theorem keeps_brickWrite {b : State} {a0 : State} {a1 : Nat} {a2 : Nat} {a3 : List Byte} (h : Keeps b a0) :
    Keeps b (State.brickWrite a0 a1 a2 a3) := by
  unfold State.brickWrite
  extract_lets v1 v2
  have k2 : Keeps b v2 := by
    unfold v2
    exact Keeps.same h rfl rfl rfl rfl rfl
  clear_value v2
  refine Keeps.foldl ?_ ?_
  · exact k2
  · intro w61 x62 k63
    exact keeps_unpoison k63

theorem keeps_opEvaluationComplete {b : State} {a0 : Nat} {a1 : State} (h : Keeps b a1) :
    Keeps b (opEvaluationComplete a0 a1) := by
  unfold opEvaluationComplete
  exact keeps_modSlot h

theorem keeps_enterOp {b : State} {a0 : State} {a1 : Op} (h : Keeps b a0) :
    Keeps b (State.enterOp a0 a1) := by
  unfold State.enterOp
  refine Keeps.ite ?_ ?_
  · extract_lets v1
    exact keeps_writeRecord h
  · extract_lets v61
    have k61 : Keeps b v61 := by
      unfold v61
      exact keeps_showInflight (keeps_setOps h)
    clear_value v61
    refine Keeps.ite ?_ ?_
    · exact keeps_finish k61
    · exact k61

theorem keeps_opDescriptorRead {b : State} {a0 : Nat} {a1 : Bool} {a2 : State} (h : Keeps b a2) :
    Keeps b (opDescriptorRead a0 a1 a2) := by
  unfold opDescriptorRead
  refine Keeps.ite ?_ ?_
  · exact h
  · extract_lets v1 v2 v3 v4 v5 v6
    have k4 : Keeps b v4 := by
      unfold v4
      exact keeps_setCtx h
    clear_value v4
    have k6 : Keeps b v6 := by
      unfold v6
      exact Keeps.same k4 rfl rfl rfl rfl rfl
    clear_value v6
    refine Keeps.ite ?_ ?_
    · exact keeps_haltCtx k6
    · exact keeps_enterOp k6

theorem keeps_opMulRetryClear {b : State} {a0 : Nat} {a1 : State} (h : Keeps b a1) :
    Keeps b (opMulRetryClear a0 a1) := by
  unfold opMulRetryClear
  extract_lets v1
  refine Keeps.ite ?_ ?_
  · exact keeps_setFld h
  · exact h

theorem keeps_canAbdDone {b : State} {a0 : State} {a1 : Nat} {a2 : CanAbd} (h : Keeps b a0) :
    Keeps b (State.canAbdDone a0 a1 a2) := by
  unfold State.canAbdDone
  extract_lets v1 v2
  split
  rename_i y61 y62 e63
  have k64 := congrArg Prod.snd e63
  replace k64 : Keeps b y62 := by
    refine Eq.subst (motive := fun z => Keeps b z) k64 ?_
    exact keeps_drawFree h
  split
  extract_lets v65 v66 v67 v68
  have k65 : Keeps b v65 := by
    unfold v65
    exact keeps_setFld (keeps_setFld (keeps_setFld k64))
  clear_value v65
  have k66 : Keeps b v66 := by
    unfold v66
    exact keeps_setFlag (keeps_setFld k65)
  clear_value v66
  have k67 : Keeps b v67 := by
    unfold v67
    refine Keeps.ite ?_ ?_
    · exact keeps_setFld k66
    · split
      rename_i y125 y126 e127
      have k128 := congrArg Prod.snd e127
      replace k128 : Keeps b y126 := by
        refine Eq.subst (motive := fun z => Keeps b z) k128 ?_
        exact keeps_drawFree k66
      split
      extract_lets v129
      have k129 : Keeps b v129 := by
        unfold v129
        exact keeps_setFld (keeps_setFld (keeps_setFld k128))
      clear_value v129
      exact keeps_setFld k129
  clear_value v67
  have k68 : Keeps b v68 := by
    unfold v68
    exact keeps_setFlag (keeps_setFlag k67)
  clear_value v68
  exact keeps_canEvent2 (keeps_modCanCh k68)

theorem keeps_opAbdTimeout {b : State} {a0 : Nat} {a1 : Bool} {a2 : State} (h : Keeps b a2) :
    Keeps b (opAbdTimeout a0 a1 a2) := by
  unfold opAbdTimeout
  split
  · exact h
  · split
    · refine Keeps.ite ?_ ?_
      · exact keeps_canAbdDone h
      · exact h
    · refine Keeps.ite ?_ ?_
      · exact h
      · refine Keeps.ite ?_ ?_
        · exact keeps_modCanCh h
        · refine Keeps.ite ?_ ?_
          · exact keeps_modCanCh h
          · extract_lets v1
            have k1 : Keeps b v1 := by
              unfold v1
              exact keeps_setFlag (keeps_setFlag h)
            clear_value v1
            exact keeps_canEvent2 (keeps_modCanCh k1)

theorem keeps_opIgnitionOff {b : State} {a0 : State} (h : Keeps b a0) :
    Keeps b (opIgnitionOff a0) := by
  unfold opIgnitionOff
  extract_lets v1
  refine Keeps.ite ?_ ?_
  · exact keeps_pendMode h
  · exact h

theorem keeps_opTrigger {b : State} {a0 : Nat} {a1 : State} (h : Keeps b a1) :
    Keeps b (opTrigger a0 a1) := by
  unfold opTrigger
  refine Keeps.ite ?_ ?_
  · exact h
  · extract_lets v1 v2 v3
    have k2 : Keeps b v2 := by
      unfold v2
      exact keeps_camDamage h
    clear_value v2
    have k3 : Keeps b v3 := by
      unfold v3
      refine Keeps.ite ?_ ?_
      · exact keeps_modPort k2
      · exact k2
    clear_value v3
    exact keeps_beginSteps k3

theorem keeps_arrived {b : State} {a0 : State} {a1 : Packet} (h : Keeps b a0) :
    Keeps b (State.arrived a0 a1) := by
  unfold State.arrived
  exact Keeps.same h rfl rfl rfl rfl rfl

theorem keeps_opTxrtFlit {b : State} {a0 : Packet} {a1 : State} (h : Keeps b a1) :
    Keeps b (opTxrtFlit a0 a1) := by
  unfold opTxrtFlit
  refine Keeps.ite ?_ ?_
  · exact keeps_takeCanFlit (keeps_arrived h)
  · exact h

theorem keeps_xoRestart {b : State} {a0 : State} (h : Keeps b a0) :
    Keeps b (State.xoRestart a0) := by
  unfold State.xoRestart
  refine Keeps.ite ?_ ?_
  · exact h
  · exact Keeps.same h rfl rfl rfl rfl rfl

theorem keeps_opLockSet {b : State} {a0 : Nat} {a1 : State} (h : Keeps b a1) :
    Keeps b (opLockSet a0 a1) := by
  unfold opLockSet
  exact keeps_setFlag h

theorem keeps_opOxTimeout {b : State} {a0 : Nat} {a1 : State} (h : Keeps b a1) :
    Keeps b (opOxTimeout a0 a1) := by
  unfold opOxTimeout
  extract_lets v1 v2 v3 v4
  have k3 : Keeps b v3 := by
    unfold v3
    exact keeps_setFlag h
  clear_value v3
  have k4 : Keeps b v4 := by
    unfold v4
    exact keeps_oxForceOff (keeps_modOxCh k3)
  clear_value v4
  refine Keeps.ite ?_ ?_
  · exact h
  · exact keeps_raise k4

theorem keeps_opModeChange {b : State} {a0 : State} (h : Keeps b a0) :
    Keeps b (opModeChange a0) := by
  unfold opModeChange
  split
  · exact h
  · refine Keeps.ite ?_ ?_
    · exact h
    · extract_lets v1 v2 v3 v4
      have k2 : Keeps b v2 := by
        unfold v2
        exact Keeps.same h rfl rfl rfl rfl rfl
      clear_value v2
      have k3 : Keeps b v3 := by
        unfold v3
        refine Keeps.ite ?_ ?_
        · exact keeps_setFlag k2
        · exact k2
      clear_value v3
      have k4 : Keeps b v4 := by
        unfold v4
        refine Keeps.ite ?_ ?_
        · exact keeps_setFlag k3
        · exact k3
      clear_value v4
      refine Keeps.ite ?_ ?_
      · exact keeps_setFld (keeps_setFlag k3)
      · exact keeps_enterMode k4

end Sys2Proof.Machine
end

