-- ==== Sys2Proof/Laws/Keeps3.lean ====
section
/-!
SUPPORT. Laws/Keeps3.lean: what the operations of the model leave in order (Laws/Keeps.lean), one lemma for each,
in the order in which they use each other; part 3.
-/

namespace Sys2Proof.Machine

theorem keeps_startEval {b : State} {a0 : State} {a1 : Nat} {a2 : Sample} {a3 : Eval} (h : Keeps b a0) :
    Keeps b (State.startEval a0 a1 a2 a3) := by
  unfold State.startEval
  extract_lets v1 v2 v3
  have k3 : Keeps b v3 := by
    unfold v3
    exact keeps_setSample h
  clear_value v3
  refine Keeps.ite ?_ ?_
  · exact keeps_writeCopy k3
  · exact k3

theorem keeps_wakeBlock {b : State} {a0 : State} {a1 : Nat} (h : Keeps b a0) :
    Keeps b (State.wakeBlock a0 a1) := by
  unfold State.wakeBlock
  extract_lets v1 v2
  have k2 : Keeps b v2 := by
    unfold v2
    exact Keeps.same h rfl rfl rfl rfl rfl
  refine Keeps.ite ?_ ?_
  · exact keeps_setFld k2
  · exact k2

theorem keeps_oxWritePair {b : State} {a0 : State} {a1 : Nat} {a2 : Bool} (h : Keeps b a0) :
    Keeps b (State.oxWritePair a0 a1 a2) := by
  unfold State.oxWritePair
  extract_lets v1
  have k1 : Keeps b v1 := by
    unfold v1
    exact keeps_setFlag h
  clear_value v1
  refine Keeps.ite ?_ ?_
  · exact keeps_raise (keeps_setFlag h)
  · refine Keeps.ite ?_ ?_
    · exact h
    · exact k1

theorem keeps_oxWritePig {b : State} {a0 : State} {a1 : Nat} {a2 : Bool} (h : Keeps b a0) :
    Keeps b (State.oxWritePig a0 a1 a2) := by
  unfold State.oxWritePig
  extract_lets v1
  have k1 : Keeps b v1 := by
    unfold v1
    exact keeps_setFlag h
  clear_value v1
  refine Keeps.ite ?_ ?_
  · exact keeps_raise (keeps_setFlag h)
  · exact k1

theorem keeps_opOxCfgWrite {b : State} {a0 : Nat} {a1 : Word} {a2 : State} (h : Keeps b a2) :
    Keeps b (opOxCfgWrite a0 a1 a2) := by
  unfold opOxCfgWrite
  refine Keeps.ite ?_ ?_
  · exact keeps_setFlag h
  · extract_lets v1 v2 v3 v4 v5 v6 v7 v8 v9 v10 v11 v12 v13 v14
    have k5 : Keeps b v5 := by
      unfold v5
      refine Keeps.ite ?_ ?_
      · exact keeps_setFlag h
      · exact h
    clear_value v5
    have k6 : Keeps b v6 := by
      unfold v6
      refine Keeps.ite ?_ ?_
      · exact keeps_setFlag k5
      · exact k5
    clear_value v6
    have k7 : Keeps b v7 := by
      unfold v7
      exact keeps_setFld k5
    clear_value v7
    have k8 : Keeps b v8 := by
      unfold v8
      exact keeps_setFld k7
    clear_value v8
    have k9 : Keeps b v9 := by
      unfold v9
      exact keeps_setFld k8
    clear_value v9
    have k10 : Keeps b v10 := by
      unfold v10
      refine Keeps.ite ?_ ?_
      · exact keeps_oxWritePair k9
      · exact k9
    clear_value v10
    have k11 : Keeps b v11 := by
      unfold v11
      refine Keeps.ite ?_ ?_
      · refine Keeps.ite ?_ ?_
        · exact keeps_oxWritePair k6
        · exact k6
      · refine Keeps.ite ?_ ?_
        · exact keeps_oxWritePig k10
        · exact k10
    clear_value v11
    have k12 : Keeps b v12 := by
      unfold v12
      refine Keeps.ite ?_ ?_
      · exact keeps_oxWithdraw k11
      · exact k11
    clear_value v12
    have k13 : Keeps b v13 := by
      unfold v13
      exact keeps_setFlag k12
    clear_value v13
    have k14 : Keeps b v14 := by
      unfold v14
      exact keeps_setFlag k13
    clear_value v14
    exact keeps_showOx k14

theorem keeps_specMisdelivered {b : State} {a0 : State} {a1 : Nat} (h : Keeps b a0) :
    Keeps b (State.specMisdelivered a0 a1) := by
  unfold State.specMisdelivered
  exact keeps_henMake (keeps_raise h)

theorem keeps_takeDrop {b : State} {a0 : State} {a1 : Packet} (h : Keeps b a0) :
    Keeps b (State.takeDrop a0 a1) := by
  unfold State.takeDrop
  split
  · extract_lets v1 v2 v3 v4 v5 v6 v7 v8
    have k4 : Keeps b v4 := by
      unfold v4
      exact Keeps.same h rfl rfl rfl rfl rfl
    clear_value v4
    have k7 : Keeps b v7 := by
      unfold v7
      exact Keeps.same k4 rfl rfl rfl rfl rfl
    clear_value v7
    refine Keeps.ite ?_ ?_
    · exact keeps_specUnread k4
    · exact keeps_dropAll k7
  · exact h

theorem keeps_takeWrite {b : State} {a0 : State} {a1 : Packet} (h : Keeps b a0) :
    Keeps b (State.takeWrite a0 a1) := by
  unfold State.takeWrite
  extract_lets v1
  refine Keeps.ite ?_ ?_
  · exact keeps_writeBytes h
  · refine Keeps.ite ?_ ?_
    · exact keeps_brickWrite h
    · exact h

theorem keeps_answerRead {b : State} {a0 : State} {a1 : Packet} {a2 : List Byte} (h : Keeps b a0) :
    Keeps b (State.answerRead a0 a1 a2) := by
  unfold State.answerRead
  extract_lets v1 v2 v3
  have k3 : Keeps b v3 := by
    unfold v3
    exact Keeps.same h rfl rfl rfl rfl rfl
  clear_value v3
  exact keeps_fly k3

theorem keeps_rereads {b : State} {a0 : State} {a1 : Nat} {a2 : List Nat} (h : Keeps b a0) :
    Keeps b (State.rereads a0 a1 a2) := by
  unfold State.rereads
  refine Keeps.foldl ?_ ?_
  · exact h
  · intro w1 x2 k3
    exact keeps_henMake (keeps_raise (keeps_setFlag k3))

theorem keeps_brickReport {b : State} {a0 : State} {a1 : Nat} {a2 : Nat} {a3 : Nat} {a4 : List BrickError} (h : Keeps b a0) :
    Keeps b (State.brickReport a0 a1 a2 a3 a4) := by
  unfold State.brickReport
  extract_lets v1 v2
  exact keeps_eccErrors (keeps_rereads h)

theorem keeps_takeRead {b : State} {a0 : State} {a1 : Packet} (h : Keeps b a0) :
    Keeps b (State.takeRead a0 a1) := by
  unfold State.takeRead
  refine Keeps.ite ?_ ?_
  · exact keeps_answerRead h
  · refine Keeps.ite ?_ ?_
    · exact keeps_answerRead (keeps_brickReport h)
    · exact h

theorem keeps_takeResponse {b : State} {a0 : State} {a1 : Packet} (h : Keeps b a0) :
    Keeps b (State.takeResponse a0 a1) := by
  unfold State.takeResponse
  exact Keeps.same h rfl rfl rfl rfl rfl

theorem keeps_streamFlit {b : State} {a0 : State} {a1 : Nat} {a2 : Nat} {a3 : Flit} (h : Keeps b a0) :
    Keeps b (State.streamFlit a0 a1 a2 a3) := by
  unfold State.streamFlit
  extract_lets v1 v2
  exact Keeps.same h rfl rfl rfl rfl rfl

theorem keeps_frameArrived {b : State} {a0 : State} {a1 : Nat} {a2 : Nat} {a3 : Nat} (h : Keeps b a0) :
    Keeps b (State.frameArrived a0 a1 a2 a3) := by
  unfold State.frameArrived
  refine Keeps.foldl ?_ ?_
  · exact h
  · intro w1 x2 k3
    extract_lets v4
    refine Keeps.ite ?_ ?_
    · exact k3
    · split
      · refine Keeps.ite ?_ ?_
        · exact k3
        · refine Keeps.ite ?_ ?_
          · exact keeps_bump k3
          · exact keeps_modNet k3
      · exact keeps_bump k3

theorem keeps_tileStream {b : State} {a0 : State} {a1 : Packet} (h : Keeps b a0) :
    Keeps b (State.tileStream a0 a1) := by
  unfold State.tileStream
  extract_lets v1
  have k1 : Keeps b v1 := by
    unfold v1
    split
    · exact keeps_streamFlit h
    · exact h
  clear_value v1
  split
  · exact keeps_frameArrived k1
  · exact k1

theorem keeps_oxFlit {b : State} {a0 : State} {a1 : Nat} {a2 : Flit} (h : Keeps b a0) :
    Keeps b (State.oxFlit a0 a1 a2) := by
  unfold State.oxFlit
  extract_lets v1
  refine Keeps.foldl ?_ ?_
  · exact h
  · intro w61 x62 k63
    refine Keeps.ite ?_ ?_
    · exact keeps_modOxCh k63
    · exact k63

theorem keeps_takeOxFlit {b : State} {a0 : State} {a1 : Packet} (h : Keeps b a0) :
    Keeps b (State.takeOxFlit a0 a1) := by
  unfold State.takeOxFlit
  split
  · refine Keeps.ite ?_ ?_
    · exact keeps_oxFlit h
    · exact h
  · exact h

theorem keeps_deliver {b : State} {a0 : State} {a1 : Packet} (h : Keeps b a0) :
    Keeps b (State.deliver a0 a1) := by
  unfold State.deliver
  refine Keeps.ite ?_ ?_
  · exact keeps_takeDrop (keeps_takeSpec h)
  · split
    · exact keeps_takeWrite h
    · exact keeps_takeRead h
    · exact keeps_takeResponse h
    · refine Keeps.ite ?_ ?_
      · exact keeps_tileStream h
      · exact keeps_takeCanFlit (keeps_takeMulFlit (keeps_takeOxFlit h))
    · refine Keeps.ite ?_ ?_
      · exact keeps_streamEnd h
      · exact h
    · exact h

theorem keeps_opPacketArrive {b : State} {a0 : Packet} {a1 : State} (h : Keeps b a1) :
    Keeps b (opPacketArrive a0 a1) := by
  unfold opPacketArrive
  refine Keeps.ite ?_ ?_
  · exact h
  · extract_lets v1 v2 v3
    have k1 : Keeps b v1 := by
      unfold v1
      exact keeps_arrived h
    clear_value v1
    have k3 : Keeps b v3 := by
      unfold v3
      split
      · exact keeps_wakeBlock k1
      · exact k1
    clear_value v3
    refine Keeps.ite ?_ ?_
    · refine Keeps.ite ?_ ?_
      · exact Keeps.same k1 rfl rfl rfl rfl rfl
      · exact k1
    · refine Keeps.ite ?_ ?_
      · exact keeps_specMisdelivered k3
      · exact keeps_deliver k3

theorem keeps_onBus {b : State} {a0 : State} {a1 : Nat} (h : Keeps b a0) :
    Keeps b (State.onBus a0 a1) := by
  unfold State.onBus
  exact Keeps.same h rfl rfl rfl rfl rfl

theorem keeps_opTick0Read {b : State} {a0 : Nat} {a1 : State} (h : Keeps b a1) :
    Keeps b (opTick0Read a0 a1) := by
  unfold opTick0Read
  extract_lets v1 v2
  exact Keeps.same h rfl rfl rfl rfl rfl

theorem keeps_opTick2Read {b : State} {a0 : Nat} {a1 : State} (h : Keeps b a1) :
    Keeps b (opTick2Read a0 a1) := by
  unfold opTick2Read
  exact Keeps.same h rfl rfl rfl rfl rfl

theorem keeps_opTbNowRead {b : State} {a0 : Bool} {a1 : State} (h : Keeps b a1) :
    Keeps b (opTbNowRead a0 a1) := by
  unfold opTbNowRead
  refine Keeps.ite ?_ ?_
  · exact Keeps.same h rfl rfl rfl rfl rfl
  · extract_lets v1
    have k1 : Keeps b v1 := by
      unfold v1
      exact keeps_setFld h
    clear_value v1
    exact Keeps.same k1 rfl rfl rfl rfl rfl

theorem keeps_opNonceDraw {b : State} {a0 : State} (h : Keeps b a0) :
    Keeps b (opNonceDraw a0) := by
  unfold opNonceDraw
  extract_lets v1 v2
  have k1 : Keeps b v1 := by
    unfold v1
    refine Keeps.foldl ?_ ?_
    · exact h
    · intro w61 x62 k63
      split
      rename_i y64 y65 e66
      have k67 := congrArg Prod.snd e66
      replace k67 : Keeps b y65 := by
        refine Eq.subst (motive := fun z => Keeps b z) k67 ?_
        exact keeps_drawFree k63
      exact keeps_setFld k67
  clear_value v1
  exact Keeps.same k1 rfl rfl rfl rfl rfl

theorem keeps_opTempRead {b : State} {a0 : State} (h : Keeps b a0) :
    Keeps b (opTempRead a0) := by
  unfold opTempRead
  extract_lets v1 v2 v3
  have k2 : Keeps b v2 := by
    unfold v2
    refine Keeps.ite ?_ ?_
    · exact h
    · split
      rename_i y61 y62 e63
      have k64 := congrArg Prod.snd e63
      replace k64 : Keeps b y62 := by
        refine Eq.subst (motive := fun z => Keeps b z) k64 ?_
        exact keeps_drawFree h
      extract_lets v65 v66
      have k65 : Keeps b v65 := by
        unfold v65
        exact keeps_setReg k64
      clear_value v65
      exact Keeps.same k65 rfl rfl rfl rfl rfl
  clear_value v2
  exact keeps_onBus k2

theorem keeps_opRegisterRead {b : State} {a0 : Nat} {a1 : Nat} {a2 : State} (h : Keeps b a2) :
    Keeps b (opRegisterRead a0 a1 a2) := by
  unfold opRegisterRead
  refine Keeps.ite ?_ ?_
  · exact keeps_opTick0Read h
  · refine Keeps.ite ?_ ?_
    · exact keeps_onBus h
    · refine Keeps.ite ?_ ?_
      · exact keeps_opTick2Read h
      · refine Keeps.ite ?_ ?_
        · exact keeps_opTbNowRead h
        · refine Keeps.ite ?_ ?_
          · exact keeps_opTbNowRead h
          · refine Keeps.ite ?_ ?_
            · exact keeps_opRecRead h
            · refine Keeps.ite ?_ ?_
              · exact keeps_opNonceDraw h
              · refine Keeps.ite ?_ ?_
                · exact keeps_opTempRead h
                · split
                  · split
                    rename_i y1 y2 e3
                    have k4 := congrArg Prod.fst e3
                    replace k4 : Keeps b y1 := by
                      refine Eq.subst (motive := fun z => Keeps b z) k4 ?_
                      exact keeps_opMbxAccess h
                    exact Keeps.same k4 rfl rfl rfl rfl rfl
                  · split
                    rename_i y5 y6 e7
                    have k8 := congrArg Prod.snd e7
                    replace k8 : Keeps b y6 := by
                      refine Eq.subst (motive := fun z => Keeps b z) k8 ?_
                      exact keeps_readMeasured h
                    exact keeps_onBus k8

theorem keeps_opDownloadDone {b : State} {a0 : Bool} {a1 : Bool} {a2 : State} (h : Keeps b a2) :
    Keeps b (opDownloadDone a0 a1 a2) := by
  unfold opDownloadDone
  extract_lets v1 v2 v3 v4 v5 v6 v7 v8
  have k3 : Keeps b v3 := by
    unfold v3
    exact Keeps.same h rfl rfl rfl rfl rfl
  clear_value v3
  have k5 : Keeps b v5 := by
    unfold v5
    exact keeps_setFlag k3
  clear_value v5
  have k8 : Keeps b v8 := by
    unfold v8
    exact Keeps.same k5 rfl rfl rfl rfl rfl
  clear_value v8
  refine Keeps.ite ?_ ?_
  · exact h
  · refine Keeps.ite ?_ ?_
    · exact keeps_raise (keeps_rxAnswer k3)
    · refine Keeps.ite ?_ ?_
      · exact keeps_rxAnswer k3
      · exact keeps_rxAnswer k8

theorem keeps_opFleetRecord {b : State} {a0 : State} (h : Keeps b a0) :
    Keeps b (opFleetRecord a0) := by
  unfold opFleetRecord
  refine Keeps.ite ?_ ?_
  · exact h
  · extract_lets v1 v2 v3
    have k3 : Keeps b v3 := by
      unfold v3
      exact Keeps.same h rfl rfl rfl rfl rfl
    clear_value v3
    exact keeps_ringPush k3

theorem keeps_showVao {b : State} {a0 : State} {a1 : Nat} (h : Keeps b a0) :
    Keeps b (State.showVao a0 a1) := by
  unfold State.showVao
  exact keeps_setFld h

theorem keeps_opAoToMain {b : State} {a0 : Nat} {a1 : Nat} {a2 : Nat} {a3 : State} (h : Keeps b a3) :
    Keeps b (opAoToMain a0 a1 a2 a3) := by
  unfold opAoToMain
  extract_lets v1 v2 v3 v4
  have k1 : Keeps b v1 := by
    unfold v1
    exact keeps_showVao h
  have k2 : Keeps b v2 := by
    unfold v2
    exact keeps_setFlag k1
  have k4 : Keeps b v4 := by
    unfold v4
    exact Keeps.same k2 rfl rfl rfl rfl rfl
  refine Keeps.ite ?_ ?_
  · exact k1
  · refine Keeps.ite ?_ ?_
    · exact Keeps.same k4 rfl rfl rfl rfl rfl
    · exact k4

theorem keeps_oxDither {b : State} {a0 : State} {a1 : Nat} {a2 : Nat} (h : Keeps b a0) :
    Keeps b (State.oxDither a0 a1 a2) := by
  unfold State.oxDither
  extract_lets v1 v2
  exact keeps_modOxCh h

theorem keeps_opCanJoin {b : State} {a0 : Nat} {a1 : State} (h : Keeps b a1) :
    Keeps b (opCanJoin a0 a1) := by
  unfold opCanJoin
  refine Keeps.ite ?_ ?_
  · exact keeps_setFlag h
  · exact h

theorem keeps_opTtTrigger {b : State} {a0 : Nat} {a1 : Nat} {a2 : Bool} {a3 : State} (h : Keeps b a3) :
    Keeps b (opTtTrigger a0 a1 a2 a3) := by
  unfold opTtTrigger
  extract_lets v1 v2 v3 v4
  have k3 : Keeps b v3 := by
    unfold v3
    exact keeps_modCanCh h
  clear_value v3
  refine Keeps.ite ?_ ?_
  · exact h
  · split
    · refine Keeps.ite ?_ ?_
      · exact k3
      · refine Keeps.ite ?_ ?_
        · exact keeps_ttFail k3
        · exact keeps_canStartBuffer k3
    · exact keeps_modCanCh k3
    · refine Keeps.ite ?_ ?_
      · exact k3
      · exact keeps_ttFail k3
    · exact keeps_ttFail (keeps_modCanCh k3)

theorem keeps_setQuota {b : State} {a0 : State} {a1 : Nat} {a2 : Nat} {a3 : Nat} (h : Keeps b a0) :
    Keeps b (State.setQuota a0 a1 a2 a3) := by
  unfold State.setQuota
  exact Keeps.same h rfl rfl rfl rfl rfl

theorem keeps_writeQuota {b : State} {a0 : State} {a1 : Nat} {a2 : Nat} {a3 : Nat} (h : Keeps b a0) :
    Keeps b (State.writeQuota a0 a1 a2 a3) := by
  unfold State.writeQuota
  exact keeps_reportOver (keeps_setQuota h)

theorem keeps_opQuotaWrite {b : State} {a0 : Word} {a1 : State} (h : Keeps b a1) :
    Keeps b (opQuotaWrite a0 a1) := by
  unfold opQuotaWrite
  extract_lets v1 v2
  refine Keeps.ite ?_ ?_
  · exact keeps_setFlag h
  · refine Keeps.ite ?_ ?_
    · exact keeps_setFlag h
    · exact keeps_writeQuota h

theorem keeps_opDramWrite {b : State} {a0 : Nat} {a1 : Word} {a2 : State} (h : Keeps b a2) :
    Keeps b (opDramWrite a0 a1 a2) := by
  unfold opDramWrite
  refine Keeps.ite ?_ ?_
  · exact keeps_setFld h
  · extract_lets v1 v2
    refine Keeps.ite ?_ ?_
    · exact keeps_raise (keeps_setFlag h)
    · exact keeps_setFld (keeps_setFld h)

theorem keeps_writeQos {b : State} {a0 : State} {a1 : Nat} {a2 : Word} (h : Keeps b a0) :
    Keeps b (State.writeQos a0 a1 a2) := by
  unfold State.writeQos
  refine Keeps.ite ?_ ?_
  · exact keeps_opQuotaWrite h
  · refine Keeps.ite ?_ ?_
    · exact h
    · refine Keeps.ite ?_ ?_
      · exact keeps_opDramWrite h
      · exact keeps_plainWrite h

theorem keeps_opBindingAbsent {b : State} {a0 : State} (h : Keeps b a0) :
    Keeps b (opBindingAbsent a0) := by
  unfold opBindingAbsent
  split
  · exact h
  · refine Keeps.ite ?_ ?_
    · exact keeps_bindFailure h
    · exact h

theorem keeps_opMemberMissing {b : State} {a0 : Nat} {a1 : State} (h : Keeps b a1) :
    Keeps b (opMemberMissing a0 a1) := by
  unfold opMemberMissing
  refine Keeps.ite ?_ ?_
  · exact h
  · exact keeps_loseMember h

theorem keeps_putSent {b : State} {a0 : State} {a1 : Nat} {a2 : List Byte} (h : Keeps b a0) :
    Keeps b (State.putSent a0 a1 a2) := by
  unfold State.putSent
  exact Keeps.same h rfl rfl rfl rfl rfl

theorem keeps_romFrame {b : State} {a0 : State} {a1 : Nat} {a2 : List Byte} {a3 : Bool} (h : Keeps b a0) :
    Keeps b (State.romFrame a0 a1 a2 a3) := by
  unfold State.romFrame
  refine Keeps.ite ?_ ?_
  · exact h
  · split
    · exact keeps_putSent h
    · exact h

theorem keeps_releaseSlots {b : State} {a0 : State} (h : Keeps b a0) :
    Keeps b (State.releaseSlots a0) := by
  unfold State.releaseSlots
  refine Keeps.foldl ?_ ?_
  · exact h
  · intro w1 x2 k3
    extract_lets v4
    refine Keeps.ite ?_ ?_
    · exact keeps_setReg k3
    · exact k3

theorem keeps_chooseSet {b : State} {a0 : State} {a1 : Bool} (h : Keeps b a0) :
    Keeps b (State.chooseSet a0 a1) := by
  unfold State.chooseSet
  extract_lets v1 v2 v3 v4 v5
  have k3 : Keeps b v3 := by
    unfold v3
    exact keeps_setFlag h
  clear_value v3
  refine Keeps.ite ?_ ?_
  · exact keeps_pendMode (Keeps.same h rfl rfl rfl rfl rfl)
  · exact Keeps.same k3 rfl rfl rfl rfl rfl

theorem keeps_readCanary {b : State} {a0 : State} (h : Keeps b a0) :
    Keeps b (State.readCanary a0) := by
  unfold State.readCanary
  extract_lets v1 v2 v3 v4 v5
  have k3 : Keeps b v3 := by
    unfold v3
    exact Keeps.same h rfl rfl rfl rfl rfl
  clear_value v3
  have k4 : Keeps b v4 := by
    unfold v4
    exact keeps_setFlag k3
  clear_value v4
  have k5 : Keeps b v5 := by
    unfold v5
    exact keeps_setOsf (keeps_setFlag (keeps_setFlag k4))
  clear_value v5
  refine Keeps.ite ?_ ?_
  · exact k4
  · exact keeps_henMake (keeps_raise k5)

theorem keeps_raiseKept {b : State} {a0 : State} (h : Keeps b a0) :
    Keeps b (State.raiseKept a0) := by
  unfold State.raiseKept
  extract_lets v1 v2 v3 v4 v5 v6
  have k2 : Keeps b v2 := by
    unfold v2
    refine Keeps.ite ?_ ?_
    · exact keeps_raise h
    · exact h
  clear_value v2
  have k3 : Keeps b v3 := by
    unfold v3
    refine Keeps.ite ?_ ?_
    · exact keeps_raise k2
    · exact k2
  clear_value v3
  have k4 : Keeps b v4 := by
    unfold v4
    refine Keeps.ite ?_ ?_
    · exact keeps_raise k3
    · exact k3
  clear_value v4
  have k5 : Keeps b v5 := by
    unfold v5
    refine Keeps.ite ?_ ?_
    · exact keeps_raise k4
    · exact k4
  clear_value v5
  exact Keeps.same k5 rfl rfl rfl rfl rfl

theorem keeps_opBootEntry {b : State} {a0 : Bool} {a1 : Bool} {a2 : State} (h : Keeps b a2) :
    Keeps b (opBootEntry a0 a1 a2) := by
  unfold opBootEntry
  refine Keeps.ite ?_ ?_
  · exact h
  · extract_lets v1 v2 v3 v4 v5 v6 v7 v8 v9 v10 v11 v12 v13
    have k4 : Keeps b v4 := by
      unfold v4
      exact Keeps.same h rfl rfl rfl rfl rfl
    clear_value v4
    have k6 : Keeps b v6 := by
      unfold v6
      exact keeps_setFld k4
    clear_value v6
    have k7 : Keeps b v7 := by
      unfold v7
      exact keeps_setFld (keeps_setFld k6)
    clear_value v7
    have k9 : Keeps b v9 := by
      unfold v9
      exact keeps_setFld (keeps_setFld k7)
    clear_value v9
    have k10 : Keeps b v10 := by
      unfold v10
      exact keeps_setFlag (keeps_setFld k9)
    clear_value v10
    have k11 : Keeps b v11 := by
      unfold v11
      exact keeps_setFlag (keeps_setFlag k10)
    clear_value v11
    have k12 : Keeps b v12 := by
      unfold v12
      exact keeps_setFld (keeps_setFld k11)
    clear_value v12
    have k13 : Keeps b v13 := by
      unfold v13
      exact keeps_raise k12
    clear_value v13
    exact keeps_showUpdate (keeps_chooseSet (keeps_dspBoot (keeps_readCanary (keeps_raiseKept k13))))

theorem keeps_opMemCfgWrite {b : State} {a0 : Nat} {a1 : Word} {a2 : State} (h : Keeps b a2) :
    Keeps b (opMemCfgWrite a0 a1 a2) := by
  unfold opMemCfgWrite
  exact keeps_plainWrite h

theorem keeps_opEthCfgWrite {b : State} {a0 : Nat} {a1 : Word} {a2 : State} (h : Keeps b a2) :
    Keeps b (opEthCfgWrite a0 a1 a2) := by
  unfold opEthCfgWrite
  extract_lets v1 v2 v3 v4
  have k4 : Keeps b v4 := by
    unfold v4
    exact keeps_plainWrite h
  clear_value v4
  refine Keeps.ite ?_ ?_
  · exact keeps_ringSample (keeps_ringSample k4)
  · exact k4

theorem keeps_opEthTxWptr {b : State} {a0 : Nat} {a1 : Word} {a2 : State} (h : Keeps b a2) :
    Keeps b (opEthTxWptr a0 a1 a2) := by
  unfold opEthTxWptr
  extract_lets v1 v2 v3 v4
  refine Keeps.ite ?_ ?_
  · exact keeps_setFld h
  · exact keeps_setFlag h

theorem keeps_writeFlt {b : State} {a0 : State} {a1 : Nat} {a2 : Word} (h : Keeps b a0) :
    Keeps b (State.writeFlt a0 a1 a2) := by
  unfold State.writeFlt
  extract_lets v1 v2
  refine Keeps.ite ?_ ?_
  · exact keeps_opMemCfgWrite h
  · refine Keeps.ite ?_ ?_
    · exact keeps_opFleetCfgWrite h
    · refine Keeps.ite ?_ ?_
      · exact keeps_opRptrWrite h
      · refine Keeps.ite ?_ ?_
        · exact keeps_plainWrite h
        · refine Keeps.ite ?_ ?_
          · exact keeps_opEthCfgWrite h
          · refine Keeps.ite ?_ ?_
            · exact keeps_opRptrWrite h
            · refine Keeps.ite ?_ ?_
              · exact keeps_opEthTxWptr h
              · exact keeps_plainWrite h

theorem keeps_opForecastStale {b : State} {a0 : State} (h : Keeps b a0) :
    Keeps b (opForecastStale a0) := by
  unfold opForecastStale
  split
  · exact h
  · extract_lets v1
    refine Keeps.ite ?_ ?_
    · exact keeps_raise (keeps_setFlag h)
    · exact h

theorem keeps_opQuotaSet {b : State} {a0 : State} {a1 : Op} (h : Keeps b a0) :
    Keeps b (opQuotaSet a0 a1) := by
  unfold opQuotaSet
  extract_lets v1 v2 v3 v4
  refine Keeps.ite ?_ ?_
  · exact keeps_finish h
  · refine Keeps.ite ?_ ?_
    · exact keeps_finish h
    · exact keeps_finish (keeps_writeQuota h)

theorem keeps_returnTokens {b : State} {a0 : State} (h : Keeps b a0) :
    Keeps b (State.returnTokens a0) := by
  unfold State.returnTokens
  extract_lets v1 v2
  have k2 : Keeps b v2 := by
    unfold v2
    exact Keeps.same h rfl rfl rfl rfl rfl
  clear_value v2
  exact keeps_setFld k2

theorem keeps_oxBegin {b : State} {a0 : State} {a1 : Nat} (h : Keeps b a0) :
    Keeps b (State.oxBegin a0 a1) := by
  unfold State.oxBegin
  extract_lets v1 v2 v3 v4 v5 v6 v7 v8 v9 v10 v11
  have k3 : Keeps b v3 := by
    unfold v3
    exact keeps_setOxCh h
  clear_value v3
  have k5 : Keeps b v5 := by
    unfold v5
    exact Keeps.same k3 rfl rfl rfl rfl rfl
  clear_value v5
  have k6 : Keeps b v6 := by
    unfold v6
    exact keeps_setFld k5
  clear_value v6
  have k7 : Keeps b v7 := by
    unfold v7
    exact keeps_bumpMax k6
  clear_value v7
  have k8 : Keeps b v8 := by
    unfold v8
    exact keeps_bumpMax k7
  clear_value v8
  have k9 : Keeps b v9 := by
    unfold v9
    exact keeps_bump k8
  clear_value v9
  have k10 : Keeps b v10 := by
    unfold v10
    refine Keeps.ite ?_ ?_
    · exact keeps_bumpMax (keeps_setFld (keeps_bump k9))
    · exact k9
  clear_value v10
  have k11 : Keeps b v11 := by
    unfold v11
    exact keeps_bump k10
  clear_value v11
  refine Keeps.ite ?_ ?_
  · exact keeps_raise k11
  · exact k11

theorem keeps_opPullinGrant {b : State} {a0 : Nat} {a1 : State} (h : Keeps b a1) :
    Keeps b (opPullinGrant a0 a1) := by
  unfold opPullinGrant
  extract_lets v1 v2 v3 v4 v5 v6
  have k1 : Keeps b v1 := by
    unfold v1
    exact keeps_returnTokens h
  clear_value v1
  have k4 : Keeps b v4 := by
    unfold v4
    exact Keeps.same k1 rfl rfl rfl rfl rfl
  clear_value v4
  have k5 : Keeps b v5 := by
    unfold v5
    exact keeps_modOxCh k4
  clear_value v5
  have k6 : Keeps b v6 := by
    unfold v6
    refine Keeps.ite ?_ ?_
    · exact keeps_modOxCh (keeps_oxBegin k5)
    · exact k5
  clear_value v6
  refine Keeps.ite ?_ ?_
  · exact k1
  · exact keeps_showOx k6

theorem keeps_opLoopBankWrite {b : State} {a0 : Bool} {a1 : State} {a2 : Op} (h : Keeps b a1) :
    Keeps b (opLoopBankWrite a0 a1 a2) := by
  unfold opLoopBankWrite
  extract_lets v1 v2
  refine keeps_ownSlot ?_ ?_
  · intro z61 k62
    refine Keeps.ite ?_ ?_
    · exact keeps_finish k62
    · refine Keeps.ite ?_ ?_
      · exact keeps_finish k62
      · extract_lets v63
        have k63 : Keeps b v63 := by
          unfold v63
          exact keeps_putBankWords k62
        clear_value v63
        exact keeps_finish (keeps_storeBanks k63)
  · exact h

theorem keeps_canFifo {b : State} {a0 : State} {a1 : Nat} {a2 : Nat} {a3 : List Byte} (h : Keeps b a0) :
    Keeps b (State.canFifo a0 a1 a2 a3) := by
  unfold State.canFifo
  extract_lets v1 v2 v3 v4 v5 v6 v7 v8
  have k1 : Keeps b v1 := by
    unfold v1
    split
    · exact keeps_opFifoAck h
    · exact h
  have k4 : Keeps b v4 := by
    unfold v4
    exact keeps_canWrite k1
  clear_value v4
  have k5 : Keeps b v5 := by
    unfold v5
    exact keeps_canWrite k1
  clear_value v5
  have k6 : Keeps b v6 := by
    unfold v6
    exact keeps_setFld (keeps_setFld k5)
  clear_value v6
  have k7 : Keeps b v7 := by
    unfold v7
    refine Keeps.ite ?_ ?_
    · exact keeps_bump k6
    · exact k1
  clear_value v7
  have k8 : Keeps b v8 := by
    unfold v8
    exact keeps_setFlag k7
  clear_value v8
  refine Keeps.ite ?_ ?_
  · exact keeps_bump (keeps_showFifo (keeps_setFld k4))
  · exact keeps_raiseOnce k8

theorem keeps_opThermal {b : State} {a0 : Nat} {a1 : Int} {a2 : State} (h : Keeps b a2) :
    Keeps b (opThermal a0 a1 a2) := by
  unfold opThermal
  extract_lets v1 v2 v3 v4 v5 v6 v7 v8 v9 v10
  have k5 : Keeps b v5 := by
    unfold v5
    exact keeps_setFlag h
  clear_value v5
  have k6 : Keeps b v6 := by
    unfold v6
    exact keeps_bump (keeps_bump k5)
  clear_value v6
  have k7 : Keeps b v7 := by
    unfold v7
    exact keeps_mulOff k6
  clear_value v7
  have k8 : Keeps b v8 := by
    unfold v8
    exact keeps_modMulCh k7
  clear_value v8
  have k9 : Keeps b v9 := by
    unfold v9
    exact keeps_showMul k8
  clear_value v9
  have k10 : Keeps b v10 := by
    unfold v10
    exact keeps_henMake (keeps_raise k9)
  clear_value v10
  refine Keeps.ite ?_ ?_
  · exact h
  · refine Keeps.ite ?_ ?_
    · exact keeps_raise k10
    · exact k10

theorem keeps_opDropPacket {b : State} {a0 : Packet} {a1 : State} (h : Keeps b a1) :
    Keeps b (opDropPacket a0 a1) := by
  unfold opDropPacket
  split
  · refine Keeps.ite ?_ ?_
    · exact keeps_takeDrop (keeps_arrived h)
    · exact h
  · exact h

theorem keeps_opLegacyWatchdog {b : State} {a0 : State} (h : Keeps b a0) :
    Keeps b (opLegacyWatchdog a0) := by
  unfold opLegacyWatchdog
  refine Keeps.ite ?_ ?_
  · exact h
  · extract_lets v1 v2 v3 v4 v5 v6 v7
    have k1 : Keeps b v1 := by
      unfold v1
      refine Keeps.foldl ?_ ?_
      · exact h
      · intro w61 x62 k63
        exact keeps_modOxCh k63
    clear_value v1
    have k2 : Keeps b v2 := by
      unfold v2
      refine Keeps.foldl ?_ ?_
      · exact k1
      · intro w64 x65 k66
        exact keeps_mulCommand (keeps_modMulCh k66)
    clear_value v2
    have k3 : Keeps b v3 := by
      unfold v3
      refine Keeps.foldl ?_ ?_
      · exact k2
      · intro w67 x68 k69
        exact keeps_setReg (keeps_canOffbus k69)
    clear_value v3
    have k6 : Keeps b v6 := by
      unfold v6
      exact Keeps.same k3 rfl rfl rfl rfl rfl
    clear_value v6
    have k7 : Keeps b v7 := by
      unfold v7
      exact keeps_bump (keeps_setFlag k6)
    clear_value v7
    exact keeps_henMake (keeps_raise k7)

theorem keeps_opOxOvertemp {b : State} {a0 : Nat} {a1 : Int} {a2 : State} (h : Keeps b a2) :
    Keeps b (opOxOvertemp a0 a1 a2) := by
  unfold opOxOvertemp
  refine Keeps.ite ?_ ?_
  · exact h
  · exact keeps_oxForceOff (keeps_oxFault h)

theorem keeps_tankTaken {b : State} {a0 : State} {a1 : Nat} {a2 : Option (Nat × Nat × Nat)} (h : Keeps b a0) :
    Keeps b (State.tankTaken a0 a1 a2) := by
  unfold State.tankTaken
  extract_lets v1 v2
  refine Keeps.ite ?_ ?_
  · exact h
  · exact Keeps.same h rfl rfl rfl rfl rfl

theorem keeps_opPullinEnd {b : State} {a0 : Nat} {a1 : Nat} {a2 : Nat} {a3 : State} (h : Keeps b a3) :
    Keeps b (opPullinEnd a0 a1 a2 a3) := by
  unfold opPullinEnd
  split
  · exact h
  · extract_lets v1 v2
    refine Keeps.ite ?_ ?_
    · exact keeps_modOxCh h
    · exact h

theorem keeps_opCanWake {b : State} {a0 : Nat} {a1 : State} (h : Keeps b a1) :
    Keeps b (opCanWake a0 a1) := by
  unfold opCanWake
  refine Keeps.ite ?_ ?_
  · exact Keeps.same h rfl rfl rfl rfl rfl
  · exact h

theorem keeps_dropPending {b : State} {a0 : State} {a1 : Nat} {a2 : Nat} {a3 : Nat} (h : Keeps b a0) :
    Keeps b (State.dropPending a0 a1 a2 a3) := by
  unfold State.dropPending
  extract_lets v1 v2
  have k2 : Keeps b v2 := by
    unfold v2
    exact keeps_setRoute h
  clear_value v2
  split
  · exact k2
  · split
    · exact keeps_finish k2
    · exact k2

theorem keeps_activateRoutes {b : State} {a0 : State} (h : Keeps b a0) :
    Keeps b (State.activateRoutes a0) := by
  unfold State.activateRoutes
  extract_lets v1 v2
  have k2 : Keeps b v2 := by
    unfold v2
    refine Keeps.foldl ?_ ?_
    · exact h
    · intro w61 x62 k63
      refine Keeps.ite ?_ ?_
      · exact keeps_dropPending k63
      · exact k63
  clear_value v2
  exact keeps_putRoutes k2

theorem keeps_opStill {b : State} {a0 : State} (h : Keeps b a0) :
    Keeps b (opStill a0) := by
  unfold opStill
  refine Keeps.ite ?_ ?_
  · exact keeps_setFlag h
  · exact h

theorem keeps_opOxFaultClear {b : State} {a0 : Bool} {a1 : Int} {a2 : State} {a3 : Op} (h : Keeps b a2) :
    Keeps b (opOxFaultClear a0 a1 a2 a3) := by
  unfold opOxFaultClear
  extract_lets v1 v2
  have k2 : Keeps b v2 := by
    unfold v2
    exact keeps_oxClear h
  clear_value v2
  refine Keeps.ite ?_ ?_
  · exact keeps_finish h
  · exact keeps_finish k2

theorem keeps_freeSeg {b : State} {a0 : State} {a1 : Nat} {a2 : Nat} (h : Keeps b a0) :
    Keeps b (State.freeSeg a0 a1 a2) := by
  unfold State.freeSeg
  exact keeps_imageChanged (keeps_showSegs (Keeps.same h rfl rfl rfl rfl rfl))

theorem keeps_endRoute {b : State} {a0 : State} {a1 : Nat} (h : Keeps b a0) :
    Keeps b (State.endRoute a0 a1) := by
  unfold State.endRoute
  extract_lets v1 v2 v3 v4 v5 v6 v7
  have k1 : Keeps b v1 := by
    unfold v1
    refine Keeps.ite ?_ ?_
    · exact keeps_dropPending h
    · exact h
  clear_value v1
  have k3 : Keeps b v3 := by
    unfold v3
    exact keeps_setRoute k1
  clear_value v3
  have k5 : Keeps b v5 := by
    unfold v5
    refine Keeps.ite ?_ ?_
    · exact keeps_switchRoute k3
    · exact k3
  clear_value v5
  have k6 : Keeps b v6 := by
    unfold v6
    exact keeps_imageChanged k5
  clear_value v6
  refine Keeps.ite ?_ ?_
  · exact keeps_setRoute k6
  · exact keeps_freeRoute k6

theorem keeps_freeHolding {b : State} {a0 : State} {a1 : Nat} {a2 : Nat} {a3 : Nat} (h : Keeps b a0) :
    Keeps b (State.freeHolding a0 a1 a2 a3) := by
  unfold State.freeHolding
  refine Keeps.ite ?_ ?_
  · exact keeps_freeSeg h
  · refine Keeps.ite ?_ ?_
    · exact Keeps.same h rfl rfl rfl rfl rfl
    · refine Keeps.ite ?_ ?_
      · exact keeps_freeRoute h
      · exact Keeps.same h rfl rfl rfl rfl rfl

theorem keeps_takeBack {b : State} {a0 : State} {a1 : Nat} {a2 : Nat} (h : Keeps b a0) :
    Keeps b (State.takeBack a0 a1 a2) := by
  unfold State.takeBack
  refine Keeps.ite ?_ ?_
  · exact keeps_zeroSeg (keeps_freeSeg h)
  · refine Keeps.ite ?_ ?_
    · exact keeps_endRoute h
    · refine Keeps.ite ?_ ?_
      · exact Keeps.same h rfl rfl rfl rfl rfl
      · exact keeps_freeHolding h

theorem keeps_opAoToBackup {b : State} {a0 : Nat} {a1 : Nat} {a2 : State} (h : Keeps b a2) :
    Keeps b (opAoToBackup a0 a1 a2) := by
  unfold opAoToBackup
  extract_lets v1 v2
  have k1 : Keeps b v1 := by
    unfold v1
    exact keeps_showVao h
  clear_value v1
  have k2 : Keeps b v2 := by
    unfold v2
    exact keeps_setFlag (keeps_setFlag k1)
  clear_value v2
  refine Keeps.ite ?_ ?_
  · exact k1
  · refine Keeps.ite ?_ ?_
    · exact Keeps.same k2 rfl rfl rfl rfl rfl
    · exact k2

theorem keeps_opPpsCfgWrite {b : State} {a0 : Word} {a1 : State} (h : Keeps b a1) :
    Keeps b (opPpsCfgWrite a0 a1) := by
  unfold opPpsCfgWrite
  extract_lets v1 v2
  have k1 : Keeps b v1 := by
    unfold v1
    exact keeps_plainWrite h
  clear_value v1
  have k2 : Keeps b v2 := by
    unfold v2
    exact keeps_setFld k1
  clear_value v2
  refine Keeps.ite ?_ ?_
  · exact k2
  · exact keeps_setPps k2

theorem keeps_henRemove {b : State} {a0 : State} {a1 : Nat} {a2 : Nat} (h : Keeps b a0) :
    Keeps b (State.henRemove a0 a1 a2).1 := by
  unfold State.henRemove
  extract_lets v1 v2 v3
  refine Keeps.fst ?_
  exact keeps_henUsed (Keeps.same h rfl rfl rfl rfl rfl)

theorem keeps_opLimitStart {b : State} {a0 : Nat} {a1 : Nat} {a2 : State} (h : Keeps b a2) :
    Keeps b (opLimitStart a0 a1 a2) := by
  unfold opLimitStart
  extract_lets v1 v2 v3
  have k2 : Keeps b v2 := by
    unfold v2
    exact keeps_setMulCh h
  clear_value v2
  have k3 : Keeps b v3 := by
    unfold v3
    exact keeps_bump (keeps_bump k2)
  clear_value v3
  refine Keeps.ite ?_ ?_
  · exact h
  · exact keeps_showMul (keeps_setFld k3)

theorem keeps_mulReport {b : State} {a0 : State} {a1 : Nat} {a2 : Fld} {a3 : Nat} (h : Keeps b a0) :
    Keeps b (State.mulReport a0 a1 a2 a3) := by
  unfold State.mulReport
  refine Keeps.ite ?_ ?_
  · exact h
  · exact keeps_henMake (keeps_raise (keeps_setFlag h))

theorem keeps_opEthReceived {b : State} {a0 : Nat} {a1 : List Byte} {a2 : Bool} {a3 : Nat} {a4 : State} (h : Keeps b a4) :
    Keeps b (opEthReceived a0 a1 a2 a3 a4) := by
  unfold opEthReceived
  refine Keeps.ite ?_ ?_
  · exact keeps_romFrame h
  · refine Keeps.ite ?_ ?_
    · exact h
    · refine Keeps.ite ?_ ?_
      · exact keeps_bump h
      · refine Keeps.ite ?_ ?_
        · exact h
        · extract_lets v1 v2 v3
          refine Keeps.ite ?_ ?_
          · exact keeps_bump h
          · refine Keeps.ite ?_ ?_
            · exact keeps_raiseOnce (keeps_bump h)
            · exact keeps_ringStore h

theorem keeps_announce {b : State} {a0 : State} {a1 : Nat} {a2 : Nat} {a3 : Nat} {a4 : List Byte} (h : Keeps b a0) :
    Keeps b (State.announce a0 a1 a2 a3 a4) := by
  unfold State.announce
  exact keeps_putSent h

theorem keeps_opAnchorChallenge {b : State} {a0 : State} (h : Keeps b a0) :
    Keeps b (opAnchorChallenge a0) := by
  unfold opAnchorChallenge
  refine Keeps.ite ?_ ?_
  · exact h
  · split
    rename_i y1 y2 e3
    have k4 := congrArg Prod.snd e3
    replace k4 : Keeps b y2 := by
      refine Eq.subst (motive := fun z => Keeps b z) k4 ?_
      exact keeps_drawFree h
    extract_lets v5 v6
    have k6 : Keeps b v6 := by
      unfold v6
      exact Keeps.same k4 rfl rfl rfl rfl rfl
    clear_value v6
    refine Keeps.foldl ?_ ?_
    · exact k6
    · intro w65 x66 k67
      exact keeps_announce k67

theorem keeps_dropStaged {b : State} {a0 : State} (h : Keeps b a0) :
    Keeps b (State.dropStaged a0) := by
  unfold State.dropStaged
  extract_lets v1 v2
  have k1 : Keeps b v1 := by
    unfold v1
    exact keeps_setFld (keeps_setFlag h)
  clear_value v1
  exact Keeps.same k1 rfl rfl rfl rfl rfl

theorem keeps_discard {b : State} {a0 : State} (h : Keeps b a0) :
    Keeps b (State.discard a0) := by
  unfold State.discard
  refine Keeps.ite ?_ ?_
  · exact h
  · exact keeps_dropStaged h

theorem keeps_opSlewEnd {b : State} {a0 : State} (h : Keeps b a0) :
    Keeps b (opSlewEnd a0) := by
  unfold opSlewEnd
  refine Keeps.ite ?_ ?_
  · exact keeps_setFlag (Keeps.same h rfl rfl rfl rfl rfl)
  · exact h

theorem keeps_opBootWatchdog {b : State} {a0 : State} (h : Keeps b a0) :
    Keeps b (opBootWatchdog a0) := by
  unfold opBootWatchdog
  refine Keeps.ite ?_ ?_
  · exact h
  · extract_lets v1 v2
    have k2 : Keeps b v2 := by
      unfold v2
      exact Keeps.same h rfl rfl rfl rfl rfl
    clear_value v2
    refine Keeps.ite ?_ ?_
    · exact k2
    · exact keeps_bootFail k2

theorem keeps_opFrameEnd {b : State} {a0 : Nat} {a1 : State} (h : Keeps b a1) :
    Keeps b (opFrameEnd a0 a1) := by
  unfold opFrameEnd
  extract_lets v1
  refine Keeps.ite ?_ ?_
  · exact keeps_setPort h
  · split
    · exact h
    · refine Keeps.ite ?_ ?_
      · exact keeps_camDamage h
      · refine Keeps.ite ?_ ?_
        · exact keeps_camDamage h
        · extract_lets v61 v62 v63 v64 v65
          have k62 : Keeps b v62 := by
            unfold v62
            exact keeps_setFld (keeps_setFrame h)
          clear_value v62
          have k63 : Keeps b v63 := by
            unfold v63
            exact keeps_modPort k62
          clear_value v63
          have k64 : Keeps b v64 := by
            unfold v64
            exact keeps_tapMayClose k63
          clear_value v64
          have k65 : Keeps b v65 := by
            unfold v65
            exact keeps_tapMayClose k64
          clear_value v65
          exact keeps_dropFinished k65

theorem keeps_opStageDone {b : State} {a0 : Bool} {a1 : State} (h : Keeps b a1) :
    Keeps b (opStageDone a0 a1) := by
  unfold opStageDone
  refine Keeps.ite ?_ ?_
  · exact h
  · extract_lets v1 v2 v3 v4 v5 v6
    have k3 : Keeps b v3 := by
      unfold v3
      exact keeps_setFlag h
    clear_value v3
    have k5 : Keeps b v5 := by
      unfold v5
      exact Keeps.same k3 rfl rfl rfl rfl rfl
    clear_value v5
    have k6 : Keeps b v6 := by
      unfold v6
      exact keeps_setFld (keeps_setFlag k5)
    clear_value v6
    refine Keeps.ite ?_ ?_
    · exact keeps_updRefuse k3
    · exact keeps_raise k6

theorem keeps_opGnsCfgWrite {b : State} {a0 : Nat} {a1 : Word} {a2 : State} (h : Keeps b a2) :
    Keeps b (opGnsCfgWrite a0 a1 a2) := by
  unfold opGnsCfgWrite
  refine Keeps.ite ?_ ?_
  · extract_lets v1 v2 v3 v4
    have k2 : Keeps b v2 := by
      unfold v2
      refine Keeps.ite ?_ ?_
      · exact keeps_setFlag h
      · exact h
    clear_value v2
    have k3 : Keeps b v3 := by
      unfold v3
      refine Keeps.ite ?_ ?_
      · exact keeps_plainWrite k2
      · exact keeps_plainWrite h
    clear_value v3
    have k4 : Keeps b v4 := by
      unfold v4
      exact keeps_setFld k3
    clear_value v4
    refine Keeps.ite ?_ ?_
    · exact keeps_releaseSlots k4
    · refine Keeps.foldl ?_ ?_
      · exact k4
      · intro w61 x62 k63
        exact keeps_setReg k63
  · exact keeps_releaseSlots (keeps_plainWrite h)

theorem keeps_takeSolution {b : State} {a0 : State} {a1 : GnsSol} {a2 : Nat} (h : Keeps b a0) :
    Keeps b (State.takeSolution a0 a1 a2) := by
  unfold State.takeSolution
  extract_lets v1 v2 v3
  have k2 : Keeps b v2 := by
    unfold v2
    exact Keeps.same h rfl rfl rfl rfl rfl
  clear_value v2
  refine Keeps.ite ?_ ?_
  · exact k2
  · exact Keeps.same k2 rfl rfl rfl rfl rfl

theorem keeps_opInjCommit {b : State} {a0 : Word} {a1 : State} (h : Keeps b a1) :
    Keeps b (opInjCommit a0 a1) := by
  unfold opInjCommit
  extract_lets v1 v2 v3 v4 v5 v6 v7 v8 v9 v10
  have k1 : Keeps b v1 := by
    unfold v1
    exact keeps_plainWrite h
  clear_value v1
  have k8 : Keeps b v8 := by
    unfold v8
    exact keeps_setFld (keeps_takeSolution k1)
  clear_value v8
  have k10 : Keeps b v10 := by
    unfold v10
    exact Keeps.same k8 rfl rfl rfl rfl rfl
  clear_value v10
  refine Keeps.ite ?_ ?_
  · exact k1
  · refine Keeps.ite ?_ ?_
    · exact keeps_setFlag k1
    · exact keeps_gnssRecord k10

theorem keeps_writeGns {b : State} {a0 : State} {a1 : Nat} {a2 : Word} (h : Keeps b a0) :
    Keeps b (State.writeGns a0 a1 a2) := by
  unfold State.writeGns
  refine Keeps.ite ?_ ?_
  · exact keeps_opGnsCfgWrite h
  · refine Keeps.ite ?_ ?_
    · exact keeps_opPpsCfgWrite h
    · refine Keeps.ite ?_ ?_
      · exact keeps_opInjCommit h
      · refine Keeps.ite ?_ ?_
        · exact keeps_opRptrWrite h
        · refine Keeps.ite ?_ ?_
          · exact keeps_opRingEnable h
          · exact keeps_plainWrite h

theorem keeps_opCropWrite {b : State} {a0 : Word} {a1 : State} (h : Keeps b a1) :
    Keeps b (opCropWrite a0 a1) := by
  unfold opCropWrite
  extract_lets v1
  have k1 : Keeps b v1 := by
    unfold v1
    exact keeps_noteSecond h
  clear_value v1
  exact keeps_setFld (keeps_plainWrite k1)

theorem keeps_opYieldCtlWrite {b : State} {a0 : Word} {a1 : State} (h : Keeps b a1) :
    Keeps b (opYieldCtlWrite a0 a1) := by
  unfold opYieldCtlWrite
  extract_lets v1 v2 v3
  have k2 : Keeps b v2 := by
    unfold v2
    exact keeps_plainWrite h
  clear_value v2
  refine Keeps.ite ?_ ?_
  · exact keeps_ringFlush (keeps_ringSample k2)
  · exact keeps_workCheck k2

theorem keeps_writeCrop {b : State} {a0 : State} {a1 : Nat} {a2 : Word} (h : Keeps b a0) :
    Keeps b (State.writeCrop a0 a1 a2) := by
  unfold State.writeCrop
  refine Keeps.ite ?_ ?_
  · exact keeps_opFcstCfgWrite h
  · refine Keeps.ite ?_ ?_
    · exact h
    · refine Keeps.ite ?_ ?_
      · exact keeps_plainWrite h
      · refine Keeps.ite ?_ ?_
        · exact keeps_opCropWrite h
        · refine Keeps.ite ?_ ?_
          · exact keeps_plainWrite (keeps_noteSecond h)
          · refine Keeps.ite ?_ ?_
            · exact keeps_plainWrite h
            · refine Keeps.ite ?_ ?_
              · exact keeps_opPiezoCfgWrite h
              · refine Keeps.ite ?_ ?_
                · exact keeps_plainWrite h
                · refine Keeps.ite ?_ ?_
                  · exact keeps_opYieldCtlWrite h
                  · refine Keeps.ite ?_ ?_
                    · exact keeps_opRptrWrite h
                    · exact keeps_plainWrite h

theorem keeps_opReclaimRelease {b : State} {a0 : Nat} {a1 : Nat} {a2 : State} (h : Keeps b a2) :
    Keeps b (opReclaimRelease a0 a1 a2) := by
  unfold opReclaimRelease
  split
  · exact h
  · refine Keeps.ite ?_ ?_
    · exact h
    · extract_lets v1 v2 v3 v4
      have k3 : Keeps b v3 := by
        unfold v3
        refine Keeps.foldl ?_ ?_
        · exact h
        · intro w61 x62 k63
          exact keeps_takeBack k63
      clear_value v3
      have k4 : Keeps b v4 := by
        unfold v4
        refine Keeps.ite ?_ ?_
        · exact k3
        · exact keeps_writeBytes k3
      clear_value v4
      exact keeps_finish k4

theorem keeps_opSealedSwitch {b : State} {a0 : Byte} {a1 : State} (h : Keeps b a1) :
    Keeps b (opSealedSwitch a0 a1) := by
  unfold opSealedSwitch
  extract_lets v1 v2 v3 v4 v5 v6 v7
  have k2 : Keeps b v2 := by
    unfold v2
    exact Keeps.same h rfl rfl rfl rfl rfl
  have k3 : Keeps b v3 := by
    unfold v3
    exact keeps_setFld k2
  have k6 : Keeps b v6 := by
    unfold v6
    exact Keeps.same k3 rfl rfl rfl rfl rfl
  have k7 : Keeps b v7 := by
    unfold v7
    exact keeps_impose (keeps_addGooCause k6)
  clear_value v7
  refine Keeps.ite ?_ ?_
  · exact k2
  · refine Keeps.ite ?_ ?_
    · exact Keeps.same k3 rfl rfl rfl rfl rfl
    · refine Keeps.ite ?_ ?_
      · exact k6
      · exact keeps_henMake (keeps_raise k7)

theorem keeps_opOxDithWrite {b : State} {a0 : Nat} {a1 : Word} {a2 : State} (h : Keeps b a2) :
    Keeps b (opOxDithWrite a0 a1 a2) := by
  unfold opOxDithWrite
  refine Keeps.ite ?_ ?_
  · exact h
  · extract_lets v1 v2 v3
    have k2 : Keeps b v2 := by
      unfold v2
      exact keeps_setFld h
    clear_value v2
    have k3 : Keeps b v3 := by
      unfold v3
      exact keeps_setFld k2
    clear_value v3
    exact keeps_modOxCh k3

theorem keeps_opOxLimWrite {b : State} {a0 : Nat} {a1 : Word} {a2 : State} (h : Keeps b a2) :
    Keeps b (opOxLimWrite a0 a1 a2) := by
  unfold opOxLimWrite
  refine Keeps.ite ?_ ?_
  · exact h
  · extract_lets v1 v2 v3
    have k1 : Keeps b v1 := by
      unfold v1
      exact keeps_setFld h
    clear_value v1
    have k2 : Keeps b v2 := by
      unfold v2
      exact keeps_setFld k1
    clear_value v2
    have k3 : Keeps b v3 := by
      unfold v3
      exact keeps_setFld k2
    clear_value v3
    exact keeps_modOxCh k3

theorem keeps_writeOxStat {b : State} {a0 : State} {a1 : Nat} {a2 : Word} (h : Keeps b a0) :
    Keeps b (State.writeOxStat a0 a1 a2) := by
  unfold State.writeOxStat
  split
  rename_i y1 y2 e3
  have k4 := congrArg Prod.snd e3
  replace k4 : Keeps b y2 := by
    refine Eq.subst (motive := fun z => Keeps b z) k4 ?_
    exact keeps_freeBit h
  split
  rename_i y5 y6 e7
  have k8 := congrArg Prod.snd e7
  replace k8 : Keeps b y6 := by
    refine Eq.subst (motive := fun z => Keeps b z) k8 ?_
    exact keeps_freeJunction k4
  exact keeps_oxClear k8

theorem keeps_writeOx {b : State} {a0 : State} {a1 : Nat} {a2 : Word} (h : Keeps b a0) :
    Keeps b (State.writeOx a0 a1 a2) := by
  unfold State.writeOx
  extract_lets v1 v2
  refine Keeps.ite ?_ ?_
  · exact keeps_plainWrite h
  · refine Keeps.ite ?_ ?_
    · exact keeps_opOxCfgWrite h
    · refine Keeps.ite ?_ ?_
      · exact h
      · refine Keeps.ite ?_ ?_
        · exact keeps_opOxPiWrite h
        · refine Keeps.ite ?_ ?_
          · exact keeps_opOxDithWrite h
          · refine Keeps.ite ?_ ?_
            · exact keeps_opOxLimWrite h
            · refine Keeps.ite ?_ ?_
              · exact keeps_writeOxStat h
              · exact keeps_plainWrite h

theorem keeps_opFrameDeadline {b : State} {a0 : Nat} {a1 : State} (h : Keeps b a1) :
    Keeps b (opFrameDeadline a0 a1) := by
  unfold opFrameDeadline
  extract_lets v1
  refine keeps_dropFinished ?_
  refine Keeps.foldl ?_ ?_
  · exact h
  · intro w61 x62 k63
    exact keeps_frameLate k63

theorem keeps_calAdvance {b : State} {a0 : State} {a1 : CalField} {a2 : Nat} {a3 : Nat} {a4 : Bool} (h : Keeps b a0) :
    Keeps b (State.calAdvance a0 a1 a2 a3 a4).1 := by
  unfold State.calAdvance
  refine Keeps.iteFst ?_ ?_
  · refine Keeps.fst ?_
    exact h
  · split
    refine Keeps.fst ?_
    refine Keeps.ite ?_ ?_
    · exact h
    · exact keeps_setFld h

theorem keeps_calSecond {b : State} {a0 : State} (h : Keeps b a0) :
    Keeps b (State.calSecond a0) := by
  unfold State.calSecond
  extract_lets v1 v2
  split
  rename_i y61 y62 e63
  have k64 := congrArg Prod.fst e63
  replace k64 : Keeps b y61 := by
    refine Eq.subst (motive := fun z => Keeps b z) k64 ?_
    exact keeps_calAdvance h
  split
  rename_i y65 y66 e67
  have k68 := congrArg Prod.fst e67
  replace k68 : Keeps b y65 := by
    refine Eq.subst (motive := fun z => Keeps b z) k68 ?_
    exact keeps_calAdvance k64
  split
  rename_i y69 y70 e71
  have k72 := congrArg Prod.fst e71
  replace k72 : Keeps b y69 := by
    refine Eq.subst (motive := fun z => Keeps b z) k72 ?_
    exact keeps_calAdvance k68
  split
  rename_i y73 y74 e75
  have k76 := congrArg Prod.fst e75
  replace k76 : Keeps b y73 := by
    refine Eq.subst (motive := fun z => Keeps b z) k76 ?_
    exact keeps_calAdvance k72
  split
  rename_i y77 y78 e79
  have k80 := congrArg Prod.fst e79
  replace k80 : Keeps b y77 := by
    refine Eq.subst (motive := fun z => Keeps b z) k80 ?_
    exact keeps_calAdvance k76
  split
  rename_i y81 y82 e83
  have k84 := congrArg Prod.fst e83
  replace k84 : Keeps b y81 := by
    refine Eq.subst (motive := fun z => Keeps b z) k84 ?_
    exact keeps_calAdvance k80
  exact keeps_calAdvance k84

theorem keeps_opCalendarSecond {b : State} {a0 : State} (h : Keeps b a0) :
    Keeps b (opCalendarSecond a0) := by
  unfold opCalendarSecond
  refine Keeps.ite ?_ ?_
  · exact h
  · exact keeps_calSecond (Keeps.same h rfl rfl rfl rfl rfl)

theorem keeps_showSupply {b : State} {a0 : State} {a1 : Nat} (h : Keeps b a0) :
    Keeps b (State.showSupply a0 a1) := by
  unfold State.showSupply
  extract_lets v1 v2 v3 v4
  have k4 : Keeps b v4 := by
    unfold v4
    exact Keeps.same h rfl rfl rfl rfl rfl
  clear_value v4
  exact keeps_setFld k4

theorem keeps_opSupplyCollapse {b : State} {a0 : Nat} {a1 : State} (h : Keeps b a1) :
    Keeps b (opSupplyCollapse a0 a1) := by
  unfold opSupplyCollapse
  refine Keeps.ite ?_ ?_
  · exact h
  · extract_lets v1
    have k1 : Keeps b v1 := by
      unfold v1
      exact keeps_showSupply h
    clear_value v1
    refine Keeps.ite ?_ ?_
    · exact keeps_powerFail k1
    · exact k1

theorem keeps_opWideWrite {b : State} {a0 : Word} {a1 : State} (h : Keeps b a1) :
    Keeps b (opWideWrite a0 a1) := by
  unfold opWideWrite
  refine Keeps.ite ?_ ?_
  · exact keeps_setFlag h
  · extract_lets v1 v2
    have k2 : Keeps b v2 := by
      unfold v2
      exact keeps_plainWrite h
    clear_value v2
    refine Keeps.ite ?_ ?_
    · exact keeps_ringSample k2
    · exact k2

theorem keeps_opReclaim {b : State} {a0 : State} {a1 : Op} (h : Keeps b a0) :
    Keeps b (opReclaim a0 a1) := by
  unfold opReclaim
  exact h

theorem keeps_holdRouteFor0 {b : State} {a0 : State} {a1 : Nat} (h : Keeps b a0) :
    Keeps b (State.holdRouteFor0 a0 a1) := by
  unfold State.holdRouteFor0
  refine Keeps.ite ?_ ?_
  · exact keeps_holdRoute h
  · exact h

theorem keeps_opRtStageWrite {b : State} {a0 : Bool} {a1 : Word} {a2 : State} (h : Keeps b a2) :
    Keeps b (opRtStageWrite a0 a1 a2) := by
  unfold opRtStageWrite
  extract_lets v1 v2 v3
  refine Keeps.ite ?_ ?_
  · exact keeps_setRoute h
  · exact keeps_setRoute h

theorem keeps_opRtCommit {b : State} {a0 : State} (h : Keeps b a0) :
    Keeps b (opRtCommit a0) := by
  unfold opRtCommit
  extract_lets v1
  split
  rename_i y61 y62 e63
  have k64 := congrArg Prod.fst e63
  replace k64 : Keeps b y61 := by
    refine Eq.subst (motive := fun z => Keeps b z) k64 ?_
    exact keeps_commitRoute h
  split
  · exact keeps_reportOver (keeps_reportOver (keeps_holdRouteFor0 k64))
  · exact k64

theorem keeps_opRtCancel {b : State} {a0 : State} (h : Keeps b a0) :
    Keeps b (opRtCancel a0) := by
  unfold opRtCancel
  extract_lets v1
  refine Keeps.ite ?_ ?_
  · exact h
  · refine Keeps.ite ?_ ?_
    · exact keeps_takeTarget h
    · exact keeps_dropPending h

theorem keeps_clearRouteFlags {b : State} {a0 : State} {a1 : Word} (h : Keeps b a0) :
    Keeps b (State.clearRouteFlags a0 a1) := by
  unfold State.clearRouteFlags
  extract_lets v1 v2
  exact keeps_setRoute h

theorem keeps_opActDisarm {b : State} {a0 : State} (h : Keeps b a0) :
    Keeps b (opActDisarm a0) := by
  unfold opActDisarm
  refine Keeps.ite ?_ ?_
  · exact h
  · exact keeps_recomputeStaged (keeps_setFlag h)

theorem keeps_writeMor {b : State} {a0 : State} {a1 : Nat} {a2 : Word} (h : Keeps b a0) :
    Keeps b (State.writeMor a0 a1 a2) := by
  unfold State.writeMor
  refine Keeps.ite ?_ ?_
  · exact h
  · refine Keeps.ite ?_ ?_
    · exact keeps_opRtStageWrite h
    · refine Keeps.ite ?_ ?_
      · exact keeps_opRtStageWrite h
      · refine Keeps.ite ?_ ?_
        · refine Keeps.ite ?_ ?_
          · exact keeps_opRtCommit h
          · refine Keeps.ite ?_ ?_
            · exact keeps_opRtCancel h
            · exact h
        · refine Keeps.ite ?_ ?_
          · exact keeps_clearRouteFlags h
          · refine Keeps.ite ?_ ?_
            · refine Keeps.ite ?_ ?_
              · exact keeps_opActArm h
              · refine Keeps.ite ?_ ?_
                · exact keeps_opActDisarm h
                · exact h
            · exact keeps_plainWrite h

theorem keeps_opLinkLost {b : State} {a0 : Nat} {a1 : State} (h : Keeps b a1) :
    Keeps b (opLinkLost a0 a1) := by
  unfold opLinkLost
  refine Keeps.ite ?_ ?_
  · exact h
  · extract_lets v1 v2
    have k1 : Keeps b v1 := by
      unfold v1
      exact keeps_setFlag h
    clear_value v1
    have k2 : Keeps b v2 := by
      unfold v2
      exact keeps_raise (keeps_modPort k1)
    clear_value v2
    exact keeps_camDamage k2

theorem keeps_opPortFixedWrite {b : State} {a0 : Nat} {a1 : Nat} {a2 : Word} {a3 : State} (h : Keeps b a3) :
    Keeps b (opPortFixedWrite a0 a1 a2 a3) := by
  unfold opPortFixedWrite
  refine Keeps.ite ?_ ?_
  · exact keeps_setFlag h
  · exact keeps_plainWrite h

theorem keeps_opPoseRecord {b : State} {a0 : State} (h : Keeps b a0) :
    Keeps b (opPoseRecord a0) := by
  unfold opPoseRecord
  refine Keeps.ite ?_ ?_
  · exact h
  · extract_lets v1 v2 v3 v4 v5 v6 v7
    exact keeps_fusionRecord h

theorem keeps_opXo32Stop {b : State} {a0 : State} (h : Keeps b a0) :
    Keeps b (opXo32Stop a0) := by
  unfold opXo32Stop
  refine Keeps.ite ?_ ?_
  · exact h
  · extract_lets v1 v2 v3 v4 v5 v6
    have k4 : Keeps b v4 := by
      unfold v4
      exact Keeps.same h rfl rfl rfl rfl rfl
    clear_value v4
    have k5 : Keeps b v5 := by
      unfold v5
      exact keeps_setOsf (keeps_setFlag (keeps_setFlag k4))
    clear_value v5
    refine Keeps.ite ?_ ?_
    · exact keeps_raise k5
    · exact Keeps.same k5 rfl rfl rfl rfl rfl

theorem keeps_setBoost {b : State} {a0 : State} {a1 : Nat} (h : Keeps b a0) :
    Keeps b (State.setBoost a0 a1) := by
  unfold State.setBoost
  exact keeps_setFld h

theorem keeps_opRailClamp {b : State} {a0 : Nat} {a1 : State} (h : Keeps b a1) :
    Keeps b (opRailClamp a0 a1) := by
  unfold opRailClamp
  refine Keeps.ite ?_ ?_
  · exact h
  · extract_lets v1
    have k1 : Keeps b v1 := by
      unfold v1
      exact keeps_setBoost h
    clear_value v1
    refine Keeps.ite ?_ ?_
    · exact k1
    · exact keeps_raise (keeps_setFlag k1)

theorem keeps_testFault {b : State} {a0 : State} {a1 : Nat} (h : Keeps b a0) :
    Keeps b (State.testFault a0 a1) := by
  unfold State.testFault
  refine Keeps.ite ?_ ?_
  · exact h
  · exact keeps_henMake (keeps_raise (keeps_setFlag h))

theorem keeps_stuckOn {b : State} {a0 : State} {a1 : Nat} (h : Keeps b a0) :
    Keeps b (State.stuckOn a0 a1) := by
  unfold State.stuckOn
  exact keeps_impose (keeps_addGooCause (keeps_openDisconnect (keeps_testFault h)))

theorem keeps_opMulUvloRelease {b : State} {a0 : Nat} {a1 : State} (h : Keeps b a1) :
    Keeps b (opMulUvloRelease a0 a1) := by
  unfold opMulUvloRelease
  refine Keeps.ite ?_ ?_
  · exact h
  · extract_lets v1 v2 v3 v4
    have k2 : Keeps b v2 := by
      unfold v2
      exact Keeps.same h rfl rfl rfl rfl rfl
    clear_value v2
    have k3 : Keeps b v3 := by
      unfold v3
      exact keeps_setFld (keeps_setFlag k2)
    clear_value v3
    have k4 : Keeps b v4 := by
      unfold v4
      refine Keeps.foldl ?_ ?_
      · exact k3
      · intro w61 x62 k63
        exact keeps_mulFollow k63
    clear_value v4
    exact keeps_raise k4

theorem keeps_opCellOut {b : State} {a0 : State} (h : Keeps b a0) :
    Keeps b (opCellOut a0) := by
  unfold opCellOut
  refine Keeps.ite ?_ ?_
  · exact Keeps.same h rfl rfl rfl rfl rfl
  · exact h

theorem keeps_latch {b : State} {a0 : State} {a1 : Nat} {a2 : Record} (h : Keeps b a0) :
    Keeps b (State.latch a0 a1 a2) := by
  unfold State.latch
  extract_lets v1 v2 v3 v4 v5 v6 v7
  have k6 : Keeps b v6 := by
    unfold v6
    exact keeps_setSlot h
  clear_value v6
  have k7 : Keeps b v7 := by
    unfold v7
    exact keeps_setFlag k6
  clear_value v7
  refine Keeps.foldl ?_ ?_
  · exact k7
  · intro w61 x62 k63
    exact keeps_raise k63

theorem keeps_emitOutput {b : State} {a0 : State} {a1 : Nat} {a2 : Record} {a3 : LoopOut} (h : Keeps b a0) :
    Keeps b (State.emitOutput a0 a1 a2 a3) := by
  unfold State.emitOutput
  extract_lets v1 v2
  refine Keeps.foldl ?_ ?_
  · exact h
  · intro w61 x62 k63
    exact keeps_emit k63

theorem keeps_startFrame {b : State} {a0 : State} {a1 : Nat} {a2 : Frame} {a3 : List BrickError} (h : Keeps b a0) :
    Keeps b (State.startFrame a0 a1 a2 a3) := by
  unfold State.startFrame
  extract_lets v1 v2 v3 v4 v5 v6
  split
  · exact h
  · extract_lets v61 v62 v63 v64
    have k63 : Keeps b v63 := by
      unfold v63
      exact keeps_eccErrors (keeps_rereads h)
    clear_value v63
    exact keeps_writeCopy (keeps_modSlot k63)

theorem keeps_opOxSupplyLow {b : State} {a0 : Nat} {a1 : State} (h : Keeps b a1) :
    Keeps b (opOxSupplyLow a0 a1) := by
  unfold opOxSupplyLow
  refine Keeps.ite ?_ ?_
  · exact h
  · extract_lets v1 v2 v3
    have k2 : Keeps b v2 := by
      unfold v2
      exact Keeps.same h rfl rfl rfl rfl rfl
    clear_value v2
    have k3 : Keeps b v3 := by
      unfold v3
      exact keeps_setFlag k2
    clear_value v3
    refine Keeps.ite ?_ ?_
    · exact k2
    · refine keeps_raise ?_
      refine Keeps.foldl ?_ ?_
      · exact k3
      · intro w61 x62 k63
        exact keeps_oxForceOff k63

theorem keeps_opDeadline {b : State} {a0 : Nat} {a1 : Nat} {a2 : State} (h : Keeps b a2) :
    Keeps b (opDeadline a0 a1 a2) := by
  unfold opDeadline
  split
  · exact h
  · refine Keeps.ite ?_ ?_
    · exact h
    · refine Keeps.ite ?_ ?_
      · exact keeps_withdraw h
      · split
        · refine Keeps.ite ?_ ?_
          · exact keeps_grantWait h
          · exact keeps_withdraw h
        · exact h

theorem keeps_addCause {b : State} {a0 : State} {a1 : Nat} {a2 : Nat} (h : Keeps b a0) :
    Keeps b (State.addCause a0 a1 a2) := by
  unfold State.addCause
  exact keeps_modNet h

theorem keeps_opNetCfgWrite {b : State} {a0 : Nat} {a1 : Word} {a2 : State} (h : Keeps b a2) :
    Keeps b (opNetCfgWrite a0 a1 a2) := by
  unfold opNetCfgWrite
  refine Keeps.ite ?_ ?_
  · exact keeps_setFlag h
  · extract_lets v1 v2 v3
    have k2 : Keeps b v2 := by
      unfold v2
      exact keeps_plainWrite h
    clear_value v2
    have k3 : Keeps b v3 := by
      unfold v3
      refine Keeps.ite ?_ ?_
      · exact keeps_addCause k2
      · exact k2
    clear_value v3
    refine Keeps.ite ?_ ?_
    · exact keeps_modNet k3
    · refine Keeps.ite ?_ ?_
      · exact k3
      · exact keeps_addCause k3

theorem keeps_loseReference {b : State} {a0 : State} (h : Keeps b a0) :
    Keeps b (State.loseReference a0) := by
  unfold State.loseReference
  extract_lets v1 v2 v3 v4 v5
  have k2 : Keeps b v2 := by
    unfold v2
    exact Keeps.same h rfl rfl rfl rfl rfl
  clear_value v2
  have k3 : Keeps b v3 := by
    unfold v3
    exact keeps_setFlag (keeps_setFld k2)
  clear_value v3
  have k5 : Keeps b v5 := by
    unfold v5
    exact Keeps.same k3 rfl rfl rfl rfl rfl
  clear_value v5
  refine Keeps.ite ?_ ?_
  · exact keeps_showErrest (keeps_raise (keeps_setFld k5))
  · exact keeps_showErrest (keeps_setFld k5)

theorem keeps_opHenRecordWrite {b : State} {a0 : State} (h : Keeps b a0) :
    Keeps b (opHenRecordWrite a0) := by
  unfold opHenRecordWrite
  extract_lets v1 v2
  have k1 : Keeps b v1 := by
    unfold v1
    exact keeps_opHenTokenReturn h
  clear_value v1
  refine Keeps.ite ?_ ?_
  · exact k1
  · split
    · exact k1
    · extract_lets v61
      have k61 : Keeps b v61 := by
        unfold v61
        exact Keeps.same k1 rfl rfl rfl rfl rfl
      clear_value v61
      exact keeps_henWake (keeps_henStore k61)

theorem keeps_lossField {b : State} {a0 : State} {a1 : List (Option Nat)} (h : Keeps b a0) :
    Keeps b (State.lossField a0 a1).2 := by
  unfold State.lossField
  extract_lets v1
  refine Keeps.iteSnd ?_ ?_
  · split
    rename_i y61 y62 e63
    have k64 := congrArg Prod.snd e63
    replace k64 : Keeps b y62 := by
      refine Eq.subst (motive := fun z => Keeps b z) k64 ?_
      exact keeps_drawFree h
    refine Keeps.snd ?_
    exact k64
  · refine Keeps.snd ?_
    exact h

theorem keeps_opYieldWrite {b : State} {a0 : State} (h : Keeps b a0) :
    Keeps b (opYieldWrite a0) := by
  unfold opYieldWrite
  split
  · exact h
  · refine Keeps.ite ?_ ?_
    · exact h
    · extract_lets v1 v2 v3 v4 v5 v6 v7 v8 v9
      split
      rename_i y61 y62 e63
      have k64 := congrArg Prod.snd e63
      replace k64 : Keeps b y62 := by
        refine Eq.subst (motive := fun z => Keeps b z) k64 ?_
        exact keeps_lossField h
      split
      rename_i y65 y66 e67
      have k68 := congrArg Prod.snd e67
      replace k68 : Keeps b y66 := by
        refine Eq.subst (motive := fun z => Keeps b z) k68 ?_
        exact keeps_lossField k64
      split
      rename_i y69 y70 e71
      have k72 := congrArg Prod.snd e71
      replace k72 : Keeps b y70 := by
        refine Eq.subst (motive := fun z => Keeps b z) k72 ?_
        split
        · refine Keeps.snd ?_
          exact k68
        · split
          rename_i y73 y74 e75
          have k76 := congrArg Prod.snd e75
          replace k76 : Keeps b y74 := by
            refine Eq.subst (motive := fun z => Keeps b z) k76 ?_
            exact keeps_drawFree k68
          refine Keeps.snd ?_
          exact k76
      extract_lets v77 v78
      have k78 : Keeps b v78 := by
        unfold v78
        exact Keeps.same k72 rfl rfl rfl rfl rfl
      clear_value v78
      exact keeps_ringPush k78

theorem keeps_opOxOpen {b : State} {a0 : Nat} {a1 : State} (h : Keeps b a1) :
    Keeps b (opOxOpen a0 a1) := by
  unfold opOxOpen
  refine Keeps.ite ?_ ?_
  · exact h
  · exact keeps_showOx (keeps_oxFault h)

theorem keeps_checkFeedback {b : State} {a0 : State} {a1 : Nat} (h : Keeps b a0) :
    Keeps b (State.checkFeedback a0 a1) := by
  unfold State.checkFeedback
  extract_lets v1 v2
  have k2 : Keeps b v2 := by
    unfold v2
    exact keeps_raise (keeps_setFlag h)
  clear_value v2
  refine Keeps.ite ?_ ?_
  · exact h
  · exact keeps_impose (keeps_addGooCause k2)

theorem keeps_oxApply {b : State} {a0 : State} {a1 : Nat} (h : Keeps b a0) :
    Keeps b (State.oxApply a0 a1) := by
  unfold State.oxApply
  extract_lets v1 v2 v3
  split
  · exact keeps_setOxCh h
  · exact keeps_setOxCh h
  · exact keeps_setOxCh h

theorem keeps_settleSafe {b : State} {a0 : State} (h : Keeps b a0) :
    Keeps b (State.settleSafe a0) := by
  unfold State.settleSafe
  refine Keeps.foldl ?_ ?_
  · exact h
  · intro w1 x2 k3
    exact keeps_settleSlot k3

theorem keeps_opLegacyPeriod {b : State} {a0 : Nat} {a1 : Nat} {a2 : Nat} {a3 : State} (h : Keeps b a3) :
    Keeps b (opLegacyPeriod a0 a1 a2 a3) := by
  unfold opLegacyPeriod
  extract_lets v1 v2 v3 v4 v5 v6
  have k2 : Keeps b v2 := by
    unfold v2
    exact keeps_setFld h
  clear_value v2
  have k4 : Keeps b v4 := by
    unfold v4
    exact keeps_setFld k2
  clear_value v4
  have k5 : Keeps b v5 := by
    unfold v5
    exact keeps_setFld k4
  clear_value v5
  have k6 : Keeps b v6 := by
    unfold v6
    exact keeps_setOxCh k5
  clear_value v6
  refine Keeps.ite ?_ ?_
  · exact h
  · split
    rename_i y61 y62 e63
    have k64 := congrArg Prod.snd e63
    replace k64 : Keeps b y62 := by
      refine Eq.subst (motive := fun z => Keeps b z) k64 ?_
      exact keeps_drawFree k6
    extract_lets v65
    have k65 : Keeps b v65 := by
      unfold v65
      exact keeps_modOxCh k64
    clear_value v65
    exact keeps_showOx k65

theorem keeps_closeSession {b : State} {a0 : State} (h : Keeps b a0) :
    Keeps b (State.closeSession a0) := by
  unfold State.closeSession
  exact keeps_setFld (keeps_setFlag h)

theorem keeps_setStable {b : State} {a0 : State} {a1 : Nat} {a2 : Bool} (h : Keeps b a0) :
    Keeps b (State.setStable a0 a1 a2) := by
  unfold State.setStable
  exact keeps_setFld h

theorem keeps_opHenClear {b : State} {a0 : State} {a1 : Op} (h : Keeps b a0) :
    Keeps b (opHenClear a0 a1) := by
  unfold opHenClear
  refine Keeps.ite ?_ ?_
  · exact keeps_finish h
  · refine Keeps.ite ?_ ?_
    · exact keeps_finish h
    · split
      rename_i y1 y2 e3
      have k4 := congrArg Prod.fst e3
      replace k4 : Keeps b y1 := by
        refine Eq.subst (motive := fun z => Keeps b z) k4 ?_
        exact keeps_henRemove h
      extract_lets v5
      have k5 : Keeps b v5 := by
        unfold v5
        exact keeps_henMake (keeps_raise k4)
      clear_value v5
      exact keeps_henWake (keeps_finish k5)

theorem keeps_opCtxDisable {b : State} {a0 : Nat} {a1 : State} (h : Keeps b a1) :
    Keeps b (opCtxDisable a0 a1) := by
  unfold opCtxDisable
  refine Keeps.ite ?_ ?_
  · exact h
  · extract_lets v1
    have k1 : Keeps b v1 := by
      unfold v1
      exact keeps_setFld h
    clear_value v1
    refine Keeps.foldl ?_ ?_
    · exact k1
    · intro w61 x62 k63
      exact keeps_withdraw k63

theorem keeps_canAbdFrame {b : State} {a0 : State} {a1 : Nat} {a2 : Nat} {a3 : Nat} (h : Keeps b a0) :
    Keeps b (State.canAbdFrame a0 a1 a2 a3) := by
  unfold State.canAbdFrame
  split
  · exact h
  · extract_lets v1 v2
    refine Keeps.ite ?_ ?_
    · exact keeps_canAbdDone h
    · exact keeps_modCanCh h

theorem keeps_canRxFlit {b : State} {a0 : State} {a1 : Nat} {a2 : Nat} {a3 : List Byte} (h : Keeps b a0) :
    Keeps b (State.canRxFlit a0 a1 a2 a3) := by
  unfold State.canRxFlit
  refine Keeps.ite ?_ ?_
  · exact h
  · extract_lets v1 v2 v3 v4
    exact keeps_emit h

theorem keeps_canStore {b : State} {a0 : State} {a1 : Nat} {a2 : Nat} {a3 : Nat} {a4 : List Byte} (h : Keeps b a0) :
    Keeps b (State.canStore a0 a1 a2 a3 a4) := by
  unfold State.canStore
  extract_lets v1 v2 v3 v4
  have k1 : Keeps b v1 := by
    unfold v1
    exact keeps_canWrite h
  clear_value v1
  have k2 : Keeps b v2 := by
    unfold v2
    refine Keeps.ite ?_ ?_
    · exact keeps_canEvent2 (keeps_setFld k1)
    · exact k1
  clear_value v2
  have k3 : Keeps b v3 := by
    unfold v3
    exact keeps_setFld k2
  clear_value v3
  have k4 : Keeps b v4 := by
    unfold v4
    exact keeps_modCanCh k3
  clear_value v4
  exact keeps_canRxFlit (keeps_bump k4)

theorem keeps_canFilter {b : State} {a0 : State} {a1 : Nat} {a2 : Nat} {a3 : Nat} {a4 : List Byte} (h : Keeps b a0) :
    Keeps b (State.canFilter a0 a1 a2 a3 a4) := by
  unfold State.canFilter
  refine Keeps.ite ?_ ?_
  · exact h
  · extract_lets v1 v2
    split
    · extract_lets v61
      split
      · exact keeps_canFifo h
      · exact keeps_canStore h
      · exact h
    · refine Keeps.ite ?_ ?_
      · exact keeps_canFifo h
      · exact h

theorem keeps_opCanReceived {b : State} {a0 : Nat} {a1 : Flit} {a2 : List Byte} {a3 : Nat} {a4 : Nat} {a5 : Nat} {a6 : State} (h : Keeps b a6) :
    Keeps b (opCanReceived a0 a1 a2 a3 a4 a5 a6) := by
  unfold opCanReceived
  extract_lets v1 v2 v3 v4 v5 v6
  have k4 : Keeps b v4 := by
    unfold v4
    refine Keeps.ite ?_ ?_
    · exact h
    · exact keeps_setFlag (keeps_setFld h)
  clear_value v4
  have k5 : Keeps b v5 := by
    unfold v5
    exact keeps_canAbdFrame k4
  clear_value v5
  have k6 : Keeps b v6 := by
    unfold v6
    refine Keeps.ite ?_ ?_
    · exact keeps_ttCycle k5
    · exact k5
  clear_value v6
  refine Keeps.ite ?_ ?_
  · exact h
  · exact keeps_canFilter k6

theorem keeps_opIdSign {b : State} {a0 : Bool} {a1 : State} {a2 : Op} (h : Keeps b a1) :
    Keeps b (opIdSign a0 a1 a2) := by
  unfold opIdSign
  refine Keeps.ite ?_ ?_
  · exact keeps_finish h
  · exact keeps_finish (keeps_writeBytes h)

theorem keeps_opDutyLimit {b : State} {a0 : Nat} {a1 : State} (h : Keeps b a1) :
    Keeps b (opDutyLimit a0 a1) := by
  unfold opDutyLimit
  refine Keeps.ite ?_ ?_
  · exact h
  · extract_lets v1 v2 v3 v4 v5 v6 v7
    have k3 : Keeps b v3 := by
      unfold v3
      exact keeps_setOxCh h
    clear_value v3
    refine Keeps.ite ?_ ?_
    · refine Keeps.ite ?_ ?_
      · exact keeps_raise (keeps_showOx (keeps_setFlag k3))
      · exact k3
    · refine Keeps.ite ?_ ?_
      · exact keeps_showOx (keeps_setFlag k3)
      · exact k3

theorem keeps_opHenRead {b : State} {a0 : Bool} {a1 : State} {a2 : Op} (h : Keeps b a1) :
    Keeps b (opHenRead a0 a1 a2) := by
  unfold opHenRead
  extract_lets v1 v2 v3
  have k3 : Keeps b v3 := by
    unfold v3
    exact keeps_writeBytes h
  clear_value v3
  refine Keeps.ite ?_ ?_
  · exact keeps_finish h
  · exact keeps_finish k3

theorem keeps_opPiezoBias {b : State} {a0 : Nat} {a1 : Nat} {a2 : State} (h : Keeps b a2) :
    Keeps b (opPiezoBias a0 a1 a2) := by
  unfold opPiezoBias
  refine Keeps.ite ?_ ?_
  · exact h
  · extract_lets v1 v2
    have k2 : Keeps b v2 := by
      unfold v2
      exact keeps_setPiezo h
    clear_value v2
    exact keeps_raise (keeps_setFlag k2)

theorem keeps_loadTiles {b : State} {a0 : State} (h : Keeps b a0) :
    Keeps b (State.loadTiles a0) := by
  unfold State.loadTiles
  split
  · exact h
  · exact Keeps.same h rfl rfl rfl rfl rfl

theorem keeps_bootReady {b : State} {a0 : State} (h : Keeps b a0) :
    Keeps b (State.bootReady a0) := by
  unfold State.bootReady
  extract_lets v1 v2 v3 v4 v5
  have k1 : Keeps b v1 := by
    unfold v1
    exact keeps_startBinding (keeps_setFlag h)
  clear_value v1
  have k2 : Keeps b v2 := by
    unfold v2
    refine Keeps.ite ?_ ?_
    · exact keeps_raise k1
    · exact k1
  clear_value v2
  have k3 : Keeps b v3 := by
    unfold v3
    exact keeps_setFld k2
  clear_value v3
  have k5 : Keeps b v5 := by
    unfold v5
    refine Keeps.ite ?_ ?_
    · exact keeps_raise (Keeps.same k3 rfl rfl rfl rfl rfl)
    · exact k2
  clear_value v5
  refine Keeps.ite ?_ ?_
  · exact k5
  · refine Keeps.ite ?_ ?_
    · exact keeps_pendMode k5
    · exact keeps_bootFail k5

theorem keeps_stepEffect {b : State} {a0 : State} {a1 : Nat} (h : Keeps b a0) :
    Keeps b (State.stepEffect a0 a1) := by
  unfold State.stepEffect
  split
  · exact keeps_loadStore h
  · refine keeps_gooShow ?_
    extract_lets v1 v2
    have k1 : Keeps b v1 := by
      unfold v1
      exact keeps_setFlag h
    clear_value v1
    exact Keeps.same k1 rfl rfl rfl rfl rfl
  · refine Keeps.ite ?_ ?_
    · extract_lets v61 v62 v63
      exact Keeps.same h rfl rfl rfl rfl rfl
    · exact h
  · exact keeps_loadTiles h
  · exact keeps_bootReady h
  · exact h

theorem keeps_opRingSize {b : State} {a0 : Nat} {a1 : Word} {a2 : State} (h : Keeps b a2) :
    Keeps b (opRingSize a0 a1 a2) := by
  unfold opRingSize
  exact keeps_plainWrite h

theorem keeps_opDmaCopy {b : State} {a0 : Bool} {a1 : List BrickError} {a2 : State} {a3 : Op} (h : Keeps b a2) :
    Keeps b (opDmaCopy a0 a1 a2 a3) := by
  unfold opDmaCopy
  extract_lets v1 v2 v3 v4 v5
  have k4 : Keeps b v4 := by
    unfold v4
    exact keeps_brickReport h
  clear_value v4
  have k5 : Keeps b v5 := by
    unfold v5
    refine Keeps.ite ?_ ?_
    · exact keeps_brickWrite h
    · exact keeps_writeBytes k4
  clear_value v5
  refine Keeps.ite ?_ ?_
  · exact keeps_finish h
  · refine Keeps.ite ?_ ?_
    · exact keeps_finish h
    · exact keeps_modifyOp k5

theorem keeps_oxRun {b : State} {a0 : State} {a1 : Nat} {a2 : Nat} (h : Keeps b a0) :
    Keeps b (State.oxRun a0 a1 a2) := by
  unfold State.oxRun
  extract_lets v1 v2
  refine Keeps.ite ?_ ?_
  · exact keeps_modOxCh (keeps_oxWithdraw h)
  · refine Keeps.ite ?_ ?_
    · exact keeps_modOxCh h
    · refine Keeps.ite ?_ ?_
      · exact keeps_oxBegin h
      · refine Keeps.ite ?_ ?_
        · exact keeps_modOxCh h
        · refine Keeps.ite ?_ ?_
          · exact keeps_modOxCh h
          · exact keeps_modOxCh h

theorem keeps_opStepAbandon {b : State} {a0 : Nat} {a1 : State} (h : Keeps b a1) :
    Keeps b (opStepAbandon a0 a1) := by
  unfold opStepAbandon
  extract_lets v1
  split
  · exact h
  · refine Keeps.ite ?_ ?_
    · exact h
    · extract_lets v61 v62
      have k61 : Keeps b v61 := by
        unfold v61
        exact keeps_modNet h
      clear_value v61
      have k62 : Keeps b v62 := by
        unfold v62
        exact keeps_bump k61
      clear_value v62
      refine Keeps.ite ?_ ?_
      · exact k62
      · exact keeps_raise k62

theorem keeps_oxMeasure {b : State} {a0 : State} {a1 : Nat} {a2 : Nat} {a3 : Nat} {a4 : Nat} {a5 : Nat} (h : Keeps b a0) :
    Keeps b (State.oxMeasure a0 a1 a2 a3 a4 a5) := by
  unfold State.oxMeasure
  refine Keeps.ite ?_ ?_
  · exact h
  · extract_lets v1 v2 v3 v4 v5
    exact keeps_emit h

theorem keeps_opCtxEnable {b : State} {a0 : Nat} {a1 : State} (h : Keeps b a1) :
    Keeps b (opCtxEnable a0 a1) := by
  unfold opCtxEnable
  extract_lets v1 v2 v3 v4
  have k3 : Keeps b v3 := by
    unfold v3
    exact keeps_setCtx h
  clear_value v3
  have k4 : Keeps b v4 := by
    unfold v4
    exact keeps_setFld (keeps_setFld k3)
  clear_value v4
  refine Keeps.ite ?_ ?_
  · exact keeps_setFld (keeps_setFlag h)
  · exact keeps_setFld (keeps_setFlag k4)

theorem keeps_opRelease {b : State} {a0 : State} {a1 : Op} (h : Keeps b a0) :
    Keeps b (opRelease a0 a1) := by
  unfold opRelease
  extract_lets v1 v2 v3 v4
  refine Keeps.ite ?_ ?_
  · exact keeps_finish h
  · exact keeps_finish (keeps_freeHolding h)

theorem keeps_massOf {b : State} {a0 : State} {a1 : Nat} {a2 : Int} {a3 : Nat} (h : Keeps b a0) :
    Keeps b (State.massOf a0 a1 a2 a3).2 := by
  unfold State.massOf
  extract_lets v1 v2
  refine Keeps.iteSnd ?_ ?_
  · refine Keeps.snd ?_
    exact h
  · refine Keeps.iteSnd ?_ ?_
    · split
      rename_i y61 y62 e63
      have k64 := congrArg Prod.snd e63
      replace k64 : Keeps b y62 := by
        refine Eq.subst (motive := fun z => Keeps b z) k64 ?_
        exact keeps_drawFree h
      refine Keeps.snd ?_
      exact k64
    · refine Keeps.snd ?_
      exact h

theorem keeps_opSpecFrameComplete {b : State} {a0 : Nat} {a1 : Nat} {a2 : State} (h : Keeps b a2) :
    Keeps b (opSpecFrameComplete a0 a1 a2) := by
  unfold opSpecFrameComplete
  split
  · exact h
  · extract_lets v1 v2 v3 v4
    have k3 : Keeps b v3 := by
      unfold v3
      exact keeps_modSlot h
    clear_value v3
    have k4 : Keeps b v4 := by
      unfold v4
      refine Keeps.ite ?_ ?_
      · exact keeps_dropAll (keeps_sendDrop k3)
      · exact k3
    clear_value v4
    split
    · exact h
    · refine Keeps.ite ?_ ?_
      · exact h
      · refine Keeps.ite ?_ ?_
        · exact k3
        · exact keeps_sendSpec k4

theorem keeps_opHenHoursWrite {b : State} {a0 : State} (h : Keeps b a0) :
    Keeps b (opHenHoursWrite a0) := by
  unfold opHenHoursWrite
  refine Keeps.ite ?_ ?_
  · exact Keeps.same h rfl rfl rfl rfl rfl
  · exact h

end Sys2Proof.Machine
end

