-- ==== Sys2Proof/Laws/Keeps4.lean ====
section
/-!
SUPPORT. Laws/Keeps4.lean: what the operations of the model leave in order (Laws/Keeps.lean), one lemma for each,
in the order in which they use each other; part 4.
-/

namespace Sys2Proof.Machine

theorem keeps_opPpsEdge {b : State} {a0 : Nat} {a1 : Int} {a2 : State} (h : Keeps b a2) :
    Keeps b (opPpsEdge a0 a1 a2) := by
  unfold opPpsEdge
  extract_lets v1 v2 v3 v4
  have k4 : Keeps b v4 := by
    unfold v4
    exact Keeps.same h rfl rfl rfl rfl rfl
  clear_value v4
  refine Keeps.ite ?_ ?_
  · exact h
  · refine Keeps.ite ?_ ?_
    · exact keeps_ppsPulse k4
    · exact k4

theorem keeps_opDspBacklight {b : State} {a0 : State} (h : Keeps b a0) :
    Keeps b (opDspBacklight a0) := by
  unfold opDspBacklight
  extract_lets v1
  refine Keeps.ite ?_ ?_
  · exact h
  · refine Keeps.ite ?_ ?_
    · exact keeps_dspEnter (keeps_setDsp h)
    · refine Keeps.ite ?_ ?_
      · exact keeps_dspEnter h
      · exact h

theorem keeps_opCtxConfig {b : State} {a0 : Nat} {a1 : CtxReg} {a2 : Word} {a3 : State} (h : Keeps b a3) :
    Keeps b (opCtxConfig a0 a1 a2 a3) := by
  unfold opCtxConfig
  refine Keeps.ite ?_ ?_
  · exact keeps_plainWrite h
  · exact keeps_setFlag h

theorem keeps_opDiagFailure {b : State} {a0 : Nat} {a1 : State} (h : Keeps b a1) :
    Keeps b (opDiagFailure a0 a1) := by
  unfold opDiagFailure
  refine Keeps.ite ?_ ?_
  · exact h
  · extract_lets v1 v2
    have k1 : Keeps b v1 := by
      unfold v1
      exact keeps_setFlag (keeps_setFlag h)
    clear_value v1
    have k2 : Keeps b v2 := by
      unfold v2
      exact keeps_impose (keeps_addGooCause (keeps_openDisconnect k1))
    clear_value v2
    exact keeps_henMake (keeps_raise k2)

theorem keeps_beginOp {b : State} {a0 : State} {a1 : Nat} {a2 : Nat} {a3 : Nat} {a4 : State → Op → State} (hf4 : ∀ y0 y1, Keeps b y0 → Keeps b (a4 y0 y1)) (h : Keeps b a0) :
    Keeps b (State.beginOp a0 a1 a2 a3 a4) := by
  unfold State.beginOp
  split
  · exact h
  · refine Keeps.ite ?_ ?_
    · exact h
    · refine Keeps.ite ?_ ?_
      · exact keeps_finish h
      · refine Keeps.ite ?_ ?_
        · exact h
        · extract_lets v1
          have k1 : Keeps b v1 := by
            unfold v1
            exact keeps_wakeBlock (keeps_startOp h)
          clear_value v1
          split
          · exact keeps_finish k1
          · refine Keeps.ite ?_ ?_
            · exact keeps_raiseOnce (keeps_finish k1)
            · refine hf4 _ _ ?_
              exact keeps_takeTokens k1

theorem keeps_opCancelTarget {b : State} {a0 : State} {a1 : Op} (h : Keeps b a0) :
    Keeps b (opCancelTarget a0 a1) := by
  unfold opCancelTarget
  split
  · exact keeps_finish h
  · refine Keeps.ite ?_ ?_
    · exact keeps_finish h
    · exact keeps_finish (keeps_withdraw h)

theorem keeps_opCancel {b : State} {a0 : Nat} {a1 : Nat} {a2 : State} (h : Keeps b a2) :
    Keeps b (opCancel a0 a1 a2) := by
  unfold opCancel
  split
  · exact h
  · refine Keeps.ite ?_ ?_
    · refine keeps_beginOp ?_ ?_
      · intro z1 z2 k3
        exact keeps_opCancelTarget k3
      · exact h
    · refine Keeps.ite ?_ ?_
      · exact h
      · split
        · exact keeps_finish (keeps_startOp h)
        · exact keeps_opCancelTarget (keeps_startOp h)

theorem keeps_opGnssEpoch {b : State} {a0 : List GnsMeas} {a1 : List (Nat × Nat × Nat × Nat)} {a2 : GnsSol} {a3 : State} (h : Keeps b a3) :
    Keeps b (opGnssEpoch a0 a1 a2 a3) := by
  unfold opGnssEpoch
  refine Keeps.ite ?_ ?_
  · exact h
  · extract_lets v1 v2 v3 v4 v5
    have k3 : Keeps b v3 := by
      unfold v3
      exact Keeps.same h rfl rfl rfl rfl rfl
    clear_value v3
    have k4 : Keeps b v4 := by
      unfold v4
      refine Keeps.foldl ?_ ?_
      · exact k3
      · intro w61 x62 k63
        split
        · exact keeps_setReg k63
        · refine Keeps.ite ?_ ?_
          · exact keeps_setReg k63
          · exact keeps_setReg k63
        · exact keeps_setReg k63
    clear_value v4
    split
    extract_lets v64 v65 v66 v67 v68 v69 v70 v71 v72 v73
    have k65 : Keeps b v65 := by
      unfold v65
      refine Keeps.ite ?_ ?_
      · refine Keeps.foldl ?_ ?_
        · exact k4
        · intro w124 x125 k126
          exact keeps_gnssRecord k126
      · exact k4
    clear_value v65
    have k66 : Keeps b v66 := by
      unfold v66
      exact keeps_gnssRecord k65
    clear_value v66
    have k67 : Keeps b v67 := by
      unfold v67
      exact keeps_setFld (keeps_setFld (keeps_setFld k66))
    clear_value v67
    have k68 : Keeps b v68 := by
      unfold v68
      exact keeps_takeSolution k67
    clear_value v68
    have k71 : Keeps b v71 := by
      unfold v71
      exact Keeps.same k68 rfl rfl rfl rfl rfl
    clear_value v71
    have k72 : Keeps b v72 := by
      unfold v72
      exact keeps_setFlag k71
    clear_value v72
    refine Keeps.ite ?_ ?_
    · exact k68
    · refine Keeps.ite ?_ ?_
      · exact k72
      · exact keeps_raise (Keeps.same k72 rfl rfl rfl rfl rfl)

theorem keeps_opPose {b : State} {a0 : State} (h : Keeps b a0) :
    Keeps b (opPose a0) := by
  unfold opPose
  refine Keeps.ite ?_ ?_
  · exact h
  · extract_lets v1 v2 v3
    have k2 : Keeps b v2 := by
      unfold v2
      exact Keeps.same h rfl rfl rfl rfl rfl
    clear_value v2
    exact Keeps.same k2 rfl rfl rfl rfl rfl

theorem keeps_opBothPend {b : State} {a0 : Nat} {a1 : State} (h : Keeps b a1) :
    Keeps b (opBothPend a0 a1) := by
  unfold opBothPend
  extract_lets v1 v2 v3
  have k3 : Keeps b v3 := by
    unfold v3
    exact keeps_showMbx (keeps_setMbxCh h)
  clear_value v3
  split
  · exact h
  · refine Keeps.ite ?_ ?_
    · exact h
    · exact keeps_raise (keeps_bump k3)

theorem keeps_refineOne {b : State} {a0 : State} {a1 : Nat} {a2 : Int} (h : Keeps b a0) :
    Keeps b (State.refineOne a0 a1 a2) := by
  unfold State.refineOne
  split
  · exact h
  · extract_lets v1 v2 v3 v4 v5
    have k3 : Keeps b v3 := by
      unfold v3
      exact Keeps.same h rfl rfl rfl rfl rfl
    clear_value v3
    have k4 : Keeps b v4 := by
      unfold v4
      exact keeps_setFlag k3
    clear_value v4
    refine Keeps.ite ?_ ?_
    · refine Keeps.ite ?_ ?_
      · exact k4
      · exact keeps_raise (Keeps.same k4 rfl rfl rfl rfl rfl)
    · exact k3

theorem keeps_opI2cDone {b : State} {a0 : Nat} {a1 : Bool} {a2 : Byte} {a3 : State} (h : Keeps b a3) :
    Keeps b (opI2cDone a0 a1 a2 a3) := by
  unfold opI2cDone
  split
  · exact h
  · extract_lets v1
    have k1 : Keeps b v1 := by
      unfold v1
      exact keeps_modPort (keeps_setFlag h)
    clear_value v1
    refine Keeps.ite ?_ ?_
    · exact keeps_setFlag k1
    · refine Keeps.ite ?_ ?_
      · exact keeps_setFld k1
      · exact k1

theorem keeps_opLimitEnd {b : State} {a0 : Nat} {a1 : Nat} {a2 : State} (h : Keeps b a2) :
    Keeps b (opLimitEnd a0 a1 a2) := by
  unfold opLimitEnd
  extract_lets v1 v2
  have k2 : Keeps b v2 := by
    unfold v2
    exact keeps_setMulCh h
  clear_value v2
  refine Keeps.ite ?_ ?_
  · exact h
  · exact keeps_showMul (keeps_setFld k2)

theorem keeps_opCtxDrained {b : State} {a0 : Nat} {a1 : State} (h : Keeps b a1) :
    Keeps b (opCtxDrained a0 a1) := by
  unfold opCtxDrained
  refine Keeps.ite ?_ ?_
  · exact h
  · exact keeps_raise (keeps_updateLine (keeps_setFld h))

theorem keeps_opSlip {b : State} {a0 : State} (h : Keeps b a0) :
    Keeps b (opSlip a0) := by
  unfold opSlip
  refine Keeps.ite ?_ ?_
  · exact h
  · extract_lets v1 v2 v3 v4
    exact keeps_setFld (Keeps.same h rfl rfl rfl rfl rfl)

theorem keeps_opSweepStart {b : State} {a0 : State} (h : Keeps b a0) :
    Keeps b (opSweepStart a0) := by
  unfold opSweepStart
  refine Keeps.ite ?_ ?_
  · exact h
  · extract_lets v1 v2
    have k1 : Keeps b v1 := by
      unfold v1
      exact keeps_opSweepOverrun h
    clear_value v1
    exact Keeps.same k1 rfl rfl rfl rfl rfl

theorem keeps_relockAll {b : State} {a0 : State} (h : Keeps b a0) :
    Keeps b (State.relockAll a0) := by
  unfold State.relockAll
  refine Keeps.ite ?_ ?_
  · exact h
  · refine Keeps.foldl ?_ ?_
    · exact h
    · intro w1 x2 k3
      exact keeps_startRelock k3

theorem keeps_newReference {b : State} {a0 : State} {a1 : Nat} (h : Keeps b a0) :
    Keeps b (State.newReference a0 a1) := by
  unfold State.newReference
  extract_lets v1 v2 v3
  have k1 : Keeps b v1 := by
    unfold v1
    exact keeps_setFld h
  clear_value v1
  have k3 : Keeps b v3 := by
    unfold v3
    exact Keeps.same k1 rfl rfl rfl rfl rfl
  clear_value v3
  exact keeps_relockAll (keeps_raise k3)

theorem keeps_opSpecFrameStart {b : State} {a0 : Nat} {a1 : Nat} {a2 : List BrickError} {a3 : State} (h : Keeps b a3) :
    Keeps b (opSpecFrameStart a0 a1 a2 a3) := by
  unfold opSpecFrameStart
  refine Keeps.ite ?_ ?_
  · exact h
  · split
    · refine Keeps.ite ?_ ?_
      · exact keeps_startFrame h
      · exact h
    · exact h

theorem keeps_stepDone {b : State} {a0 : State} {a1 : Nat} (h : Keeps b a0) :
    Keeps b (State.stepDone a0 a1) := by
  unfold State.stepDone
  exact keeps_setFld (Keeps.same h rfl rfl rfl rfl rfl)

theorem keeps_stepFail {b : State} {a0 : State} {a1 : Nat} (h : Keeps b a0) :
    Keeps b (State.stepFail a0 a1) := by
  unfold State.stepFail
  refine Keeps.ite ?_ ?_
  · exact keeps_bootFail h
  · split
    rename_i y1 y2 e3
    have k4 := congrArg Prod.snd e3
    replace k4 : Keeps b y2 := by
      refine Eq.subst (motive := fun z => Keeps b z) k4 ?_
      exact keeps_drawFree h
    exact keeps_bootFail k4

theorem keeps_opBootStep {b : State} {a0 : Nat} {a1 : Bool} {a2 : State} (h : Keeps b a2) :
    Keeps b (opBootStep a0 a1 a2) := by
  unfold opBootStep
  extract_lets v1 v2 v3 v4
  have k4 : Keeps b v4 := by
    unfold v4
    exact Keeps.same h rfl rfl rfl rfl rfl
  clear_value v4
  refine Keeps.ite ?_ ?_
  · exact h
  · refine Keeps.ite ?_ ?_
    · exact keeps_stepEffect (keeps_stepDone h)
    · refine Keeps.ite ?_ ?_
      · exact keeps_pendMode (Keeps.same h rfl rfl rfl rfl rfl)
      · refine Keeps.ite ?_ ?_
        · exact keeps_raise (keeps_gooShow k4)
        · exact keeps_stepFail h

theorem keeps_opPortCfgWrite {b : State} {a0 : Nat} {a1 : Word} {a2 : State} (h : Keeps b a2) :
    Keeps b (opPortCfgWrite a0 a1 a2) := by
  unfold opPortCfgWrite
  extract_lets v1 v2 v3
  have k2 : Keeps b v2 := by
    unfold v2
    refine Keeps.ite ?_ ?_
    · exact keeps_setFlag h
    · exact h
  clear_value v2
  have k3 : Keeps b v3 := by
    unfold v3
    exact keeps_plainWrite h
  clear_value v3
  refine Keeps.ite ?_ ?_
  · refine Keeps.ite ?_ ?_
    · exact k2
    · exact keeps_portOff k2
  · refine Keeps.ite ?_ ?_
    · exact keeps_raise (keeps_setFlag k3)
    · exact keeps_showActive (keeps_plainWrite h)

theorem keeps_writeCam {b : State} {a0 : State} {a1 : Nat} {a2 : Word} (h : Keeps b a0) :
    Keeps b (State.writeCam a0 a1 a2) := by
  unfold State.writeCam
  extract_lets v1 v2
  refine Keeps.ite ?_ ?_
  · exact keeps_opWideWrite h
  · refine Keeps.ite ?_ ?_
    · exact keeps_opCamStCtl h
    · refine Keeps.ite ?_ ?_
      · exact keeps_opRptrWrite h
      · refine Keeps.ite ?_ ?_
        · refine Keeps.ite ?_ ?_
          · exact keeps_opPortCfgWrite h
          · refine Keeps.ite ?_ ?_
            · exact keeps_opPortFixedWrite h
            · refine Keeps.ite ?_ ?_
              · exact keeps_opSettingWrite h
              · refine Keeps.ite ?_ ?_
                · exact keeps_opI2cStart h
                · exact keeps_plainWrite h
        · exact keeps_plainWrite h

theorem keeps_opRebind {b : State} {a0 : Bool} {a1 : State} {a2 : Op} (h : Keeps b a1) :
    Keeps b (opRebind a0 a1 a2) := by
  unfold opRebind
  refine Keeps.ite ?_ ?_
  · exact keeps_finish h
  · refine Keeps.ite ?_ ?_
    · exact keeps_finish h
    · refine Keeps.ite ?_ ?_
      · exact keeps_finish h
      · refine Keeps.ite ?_ ?_
        · exact keeps_finish h
        · exact Keeps.same h rfl rfl rfl rfl rfl

theorem keeps_opMassFlow {b : State} {a0 : List (List Int)} {a1 : List Nat} {a2 : State} (h : Keeps b a2) :
    Keeps b (opMassFlow a0 a1 a2) := by
  unfold opMassFlow
  refine Keeps.ite ?_ ?_
  · exact h
  · extract_lets v1 v2 v3
    split
    rename_i y61 y62 e63
    have k64 := congrArg Prod.snd e63
    replace k64 : Keeps b y62 := by
      refine Eq.subst (motive := fun z => Keeps b z) k64 ?_
      exact keeps_massOf h
    split
    rename_i y65 y66 e67
    have k68 := congrArg Prod.snd e67
    replace k68 : Keeps b y66 := by
      refine Eq.subst (motive := fun z => Keeps b z) k68 ?_
      exact keeps_massOf k64
    split
    rename_i y69 y70 e71
    have k72 := congrArg Prod.snd e71
    replace k72 : Keeps b y70 := by
      refine Eq.subst (motive := fun z => Keeps b z) k72 ?_
      exact keeps_massOf k68
    split
    rename_i y73 y74 e75
    have k76 := congrArg Prod.snd e75
    replace k76 : Keeps b y74 := by
      refine Eq.subst (motive := fun z => Keeps b z) k76 ?_
      exact keeps_massOf k72
    extract_lets v77 v78
    exact Keeps.same k76 rfl rfl rfl rfl rfl

theorem keeps_opTbSrcWrite {b : State} {a0 : Word} {a1 : State} (h : Keeps b a1) :
    Keeps b (opTbSrcWrite a0 a1) := by
  unfold opTbSrcWrite
  extract_lets v1
  have k1 : Keeps b v1 := by
    unfold v1
    exact keeps_plainWrite h
  clear_value v1
  refine Keeps.ite ?_ ?_
  · exact keeps_loseReference k1
  · exact k1

theorem keeps_writeFus {b : State} {a0 : State} {a1 : Nat} {a2 : Word} (h : Keeps b a0) :
    Keeps b (State.writeFus a0 a1 a2) := by
  unfold State.writeFus
  refine Keeps.ite ?_ ?_
  · exact keeps_writeCrop h
  · refine Keeps.ite ?_ ?_
    · exact keeps_opTbSrcWrite h
    · refine Keeps.ite ?_ ?_
      · exact keeps_opTrgWrite h
      · refine Keeps.ite ?_ ?_
        · exact keeps_opNetCfgWrite h
        · refine Keeps.ite ?_ ?_
          · exact keeps_opCalValWrite h
          · refine Keeps.ite ?_ ?_
            · exact keeps_opCalPublish h
            · refine Keeps.ite ?_ ?_
              · exact keeps_opRptrWrite h
              · refine Keeps.ite ?_ ?_
                · exact keeps_opRingEnable h
                · exact keeps_plainWrite h

theorem keeps_opSpeedUpdate {b : State} {a0 : List Nat} {a1 : State} (h : Keeps b a1) :
    Keeps b (opSpeedUpdate a0 a1) := by
  unfold opSpeedUpdate
  refine Keeps.ite ?_ ?_
  · exact h
  · extract_lets v1 v2 v3 v4 v5 v6 v7 v8 v9 v10
    have k8 : Keeps b v8 := by
      unfold v8
      exact Keeps.same h rfl rfl rfl rfl rfl
    clear_value v8
    have k9 : Keeps b v9 := by
      unfold v9
      exact keeps_setFld k8
    clear_value v9
    have k10 : Keeps b v10 := by
      unfold v10
      refine Keeps.ite ?_ ?_
      · exact keeps_setFlag k9
      · exact k9
    clear_value v10
    refine Keeps.ite ?_ ?_
    · exact k10
    · exact keeps_setFlag k10

theorem keeps_opCanData {b : State} {a0 : List Byte} {a1 : State} (h : Keeps b a1) :
    Keeps b (opCanData a0 a1) := by
  unfold opCanData
  extract_lets v1 v2 v3 v4
  have k4 : Keeps b v4 := by
    unfold v4
    exact Keeps.same h rfl rfl rfl rfl rfl
  clear_value v4
  refine Keeps.ite ?_ ?_
  · exact h
  · refine Keeps.ite ?_ ?_
    · exact keeps_canAnswer h
    · refine Keeps.ite ?_ ?_
      · exact keeps_canAnswer h
      · refine Keeps.ite ?_ ?_
        · exact keeps_canAnswer h
        · refine Keeps.ite ?_ ?_
          · exact keeps_canAnswer h
          · exact keeps_canAnswer k4

theorem keeps_opMulUvlo {b : State} {a0 : Nat} {a1 : State} (h : Keeps b a1) :
    Keeps b (opMulUvlo a0 a1) := by
  unfold opMulUvlo
  refine Keeps.ite ?_ ?_
  · exact h
  · extract_lets v1 v2 v3 v4
    have k2 : Keeps b v2 := by
      unfold v2
      exact Keeps.same h rfl rfl rfl rfl rfl
    clear_value v2
    have k3 : Keeps b v3 := by
      unfold v3
      exact keeps_setFld (keeps_setFlag k2)
    clear_value v3
    have k4 : Keeps b v4 := by
      unfold v4
      refine Keeps.foldl ?_ ?_
      · exact k3
      · intro w61 x62 k63
        exact keeps_mulOff k63
    clear_value v4
    exact keeps_raise k4

theorem keeps_opOxStatusRead {b : State} {a0 : State} {a1 : Op} (h : Keeps b a0) :
    Keeps b (opOxStatusRead a0 a1) := by
  unfold opOxStatusRead
  extract_lets v1
  split
  rename_i y61 y62 e63
  have k64 := congrArg Prod.snd e63
  replace k64 : Keeps b y62 := by
    refine Eq.subst (motive := fun z => Keeps b z) k64 ?_
    exact keeps_readMeasured h
  exact keeps_finish (keeps_writeBytes k64)

theorem keeps_opRailRecover {b : State} {a0 : Nat} {a1 : State} (h : Keeps b a1) :
    Keeps b (opRailRecover a0 a1) := by
  unfold opRailRecover
  refine Keeps.ite ?_ ?_
  · exact h
  · exact keeps_setFlag (keeps_setBoost h)

theorem keeps_opRailLow {b : State} {a0 : Nat} {a1 : State} (h : Keeps b a1) :
    Keeps b (opRailLow a0 a1) := by
  unfold opRailLow
  refine Keeps.ite ?_ ?_
  · exact h
  · extract_lets v1
    have k1 : Keeps b v1 := by
      unfold v1
      exact keeps_setBoost h
    clear_value v1
    refine Keeps.ite ?_ ?_
    · exact k1
    · exact keeps_raise (keeps_setFlag k1)

theorem keeps_opConfirm {b : State} {a0 : Nat} {a1 : State} (h : Keeps b a1) :
    Keeps b (opConfirm a0 a1) := by
  unfold opConfirm
  split
  · exact h
  · extract_lets v1 v2 v3 v4
    have k2 : Keeps b v2 := by
      unfold v2
      exact keeps_setSample h
    clear_value v2
    have k4 : Keeps b v4 := by
      unfold v4
      exact keeps_setSample h
    clear_value v4
    refine Keeps.ite ?_ ?_
    · exact h
    · split
      · exact keeps_setSample h
      · refine Keeps.ite ?_ ?_
        · exact keeps_setSample (keeps_discardFrame h)
        · extract_lets v61
          refine Keeps.ite ?_ ?_
          · exact keeps_modSlot k2
          · exact keeps_dropFrames (keeps_discardFrame k4)

theorem keeps_opHoldover {b : State} {a0 : State} (h : Keeps b a0) :
    Keeps b (opHoldover a0) := by
  unfold opHoldover
  refine Keeps.ite ?_ ?_
  · refine Keeps.ite ?_ ?_
    · exact h
    · exact keeps_loseReference h
  · refine Keeps.ite ?_ ?_
    · extract_lets v1
      refine Keeps.ite ?_ ?_
      · exact keeps_loseReference h
      · exact h
    · exact h

theorem keeps_opRelockWindow {b : State} {a0 : Nat} {a1 : Bool} {a2 : State} (h : Keeps b a2) :
    Keeps b (opRelockWindow a0 a1 a2) := by
  unfold opRelockWindow
  split
  · exact h
  · refine Keeps.ite ?_ ?_
    · exact h
    · refine Keeps.ite ?_ ?_
      · extract_lets v1
        have k1 : Keeps b v1 := by
          unfold v1
          exact keeps_setFlag (keeps_setFlag h)
        clear_value v1
        exact keeps_raise (keeps_setRelock k1)
      · refine Keeps.ite ?_ ?_
        · exact keeps_setRelock h
        · refine Keeps.ite ?_ ?_
          · exact keeps_lockFailed h
          · exact keeps_setRelock h

theorem keeps_exchangeBanks {b : State} {a0 : State} {a1 : Nat} {a2 : Nat} (h : Keeps b a0) :
    Keeps b (State.exchangeBanks a0 a1 a2) := by
  unfold State.exchangeBanks
  extract_lets v1 v2 v3 v4 v5
  have k2 : Keeps b v2 := by
    unfold v2
    exact keeps_setFld h
  clear_value v2
  have k3 : Keeps b v3 := by
    unfold v3
    exact keeps_setFlag k2
  clear_value v3
  have k4 : Keeps b v4 := by
    unfold v4
    exact keeps_recomputeFrames k3
  clear_value v4
  have k5 : Keeps b v5 := by
    unfold v5
    exact keeps_storeBanks (keeps_modSlot k4)
  clear_value v5
  refine Keeps.ite ?_ ?_
  · exact h
  · exact keeps_finishWaiter k5

theorem keeps_opSqTail {b : State} {a0 : Nat} {a1 : Word} {a2 : State} (h : Keeps b a2) :
    Keeps b (opSqTail a0 a1 a2) := by
  unfold opSqTail
  extract_lets v1
  refine Keeps.ite ?_ ?_
  · exact h
  · refine Keeps.ite ?_ ?_
    · exact keeps_doorbellError h
    · exact keeps_setCtx h

theorem keeps_opDoorbell {b : State} {a0 : Nat} {a1 : Bool} {a2 : Word} {a3 : State} (h : Keeps b a3) :
    Keeps b (opDoorbell a0 a1 a2 a3) := by
  unfold opDoorbell
  extract_lets v1 v2 v3
  refine Keeps.ite ?_ ?_
  · refine keeps_badAccess ?_
    refine Keeps.ite ?_ ?_
    · exact keeps_onBus h
    · exact h
  · refine Keeps.ite ?_ ?_
    · exact keeps_onBus h
    · refine Keeps.ite ?_ ?_
      · exact keeps_opSqTail h
      · refine Keeps.ite ?_ ?_
        · exact keeps_opCqHead h
        · exact h

theorem keeps_settleFirstStart {b : State} {a0 : State} (h : Keeps b a0) :
    Keeps b (State.settleFirstStart a0) := by
  unfold State.settleFirstStart
  refine Keeps.ite ?_ ?_
  · exact h
  · refine Keeps.ite ?_ ?_
    · extract_lets v1 v2 v3 v4
      have k3 : Keeps b v3 := by
        unfold v3
        exact Keeps.same h rfl rfl rfl rfl rfl
      clear_value v3
      have k4 : Keeps b v4 := by
        unfold v4
        exact keeps_setFld (keeps_setFlag k3)
      clear_value v4
      exact keeps_raise (keeps_setFlag k4)
    · extract_lets v61 v62 v63 v64 v65
      have k64 : Keeps b v64 := by
        unfold v64
        exact Keeps.same h rfl rfl rfl rfl rfl
      clear_value v64
      have k65 : Keeps b v65 := by
        unfold v65
        exact keeps_setFld (keeps_setFlag k64)
      clear_value v65
      exact keeps_setFld k65

theorem keeps_opBootGood {b : State} {a0 : Word} {a1 : State} (h : Keeps b a1) :
    Keeps b (opBootGood a0 a1) := by
  unfold opBootGood
  refine Keeps.ite ?_ ?_
  · exact h
  · extract_lets v1 v2
    have k2 : Keeps b v2 := by
      unfold v2
      exact Keeps.same h rfl rfl rfl rfl rfl
    clear_value v2
    exact keeps_settleFirstStart (keeps_setFlag k2)

theorem keeps_stageStart {b : State} {a0 : State} {a1 : Bool} (h : Keeps b a0) :
    Keeps b (State.stageStart a0 a1) := by
  unfold State.stageStart
  refine Keeps.ite ?_ ?_
  · extract_lets v1
    exact keeps_updRefuse h
  · exact keeps_setFlag (keeps_dropStaged h)

theorem keeps_opUpdCtl {b : State} {a0 : Nat} {a1 : Bool} {a2 : State} (h : Keeps b a2) :
    Keeps b (opUpdCtl a0 a1 a2) := by
  unfold opUpdCtl
  extract_lets v1 v2 v3 v4
  have k1 : Keeps b v1 := by
    unfold v1
    exact keeps_setFld h
  clear_value v1
  have k2 : Keeps b v2 := by
    unfold v2
    refine Keeps.ite ?_ ?_
    · exact keeps_stageStart k1
    · exact k1
  clear_value v2
  have k3 : Keeps b v3 := by
    unfold v3
    refine Keeps.ite ?_ ?_
    · exact keeps_arm k2
    · exact k2
  clear_value v3
  have k4 : Keeps b v4 := by
    unfold v4
    refine Keeps.ite ?_ ?_
    · exact keeps_disarm k3
    · exact k3
  clear_value v4
  refine Keeps.ite ?_ ?_
  · exact keeps_badAccess k1
  · refine Keeps.ite ?_ ?_
    · exact keeps_discard k4
    · exact k4

theorem keeps_writeGlb {b : State} {a0 : State} {a1 : Nat} {a2 : Word} (h : Keeps b a0) :
    Keeps b (State.writeGlb a0 a1 a2) := by
  unfold State.writeGlb
  refine Keeps.ite ?_ ?_
  · exact keeps_opModeRequest h
  · refine Keeps.ite ?_ ?_
    · exact keeps_opBootGood h
    · refine Keeps.ite ?_ ?_
      · split
        rename_i y1 y2 e3
        have k4 := congrArg Prod.snd e3
        replace k4 : Keeps b y2 := by
          refine Eq.subst (motive := fun z => Keeps b z) k4 ?_
          exact keeps_freeBit h
        exact keeps_opUpdCtl k4
      · refine Keeps.ite ?_ ?_
        · exact keeps_setFld h
        · refine Keeps.ite ?_ ?_
          · exact keeps_opResync h
          · exact keeps_plainWrite h

theorem keeps_opObsWrite {b : State} {a0 : Word} {a1 : State} (h : Keeps b a1) :
    Keeps b (opObsWrite a0 a1) := by
  unfold opObsWrite
  extract_lets v1
  refine Keeps.ite ?_ ?_
  · exact keeps_setFlag h
  · exact keeps_plainWrite h

theorem keeps_writeClk {b : State} {a0 : State} {a1 : Nat} {a2 : Word} (h : Keeps b a0) :
    Keeps b (State.writeClk a0 a1 a2) := by
  unfold State.writeClk
  refine Keeps.ite ?_ ?_
  · exact keeps_opFreqWrite h
  · refine Keeps.ite ?_ ?_
    · exact keeps_opGateWrite h
    · refine Keeps.ite ?_ ?_
      · exact keeps_opObsWrite h
      · exact keeps_plainWrite h

theorem keeps_writeCtx {b : State} {a0 : State} {a1 : Nat} {a2 : Word} (h : Keeps b a0) :
    Keeps b (State.writeCtx a0 a1 a2) := by
  unfold State.writeCtx
  extract_lets v1 v2
  refine Keeps.ite ?_ ?_
  · exact keeps_opCtxConfig h
  · refine Keeps.ite ?_ ?_
    · exact keeps_opCtxConfig h
    · refine Keeps.ite ?_ ?_
      · exact keeps_opCtxConfig h
      · refine Keeps.ite ?_ ?_
        · refine Keeps.ite ?_ ?_
          · exact keeps_opCtxEnable h
          · refine Keeps.ite ?_ ?_
            · exact keeps_opCtxDisable h
            · exact h
        · refine Keeps.ite ?_ ?_
          · exact keeps_opCtxConfig h
          · refine Keeps.ite ?_ ?_
            · exact keeps_opCtxConfig h
            · exact keeps_plainWrite h

theorem keeps_writeBlock {b : State} {a0 : State} {a1 : Nat} {a2 : Nat} {a3 : Word} (h : Keeps b a0) :
    Keeps b (State.writeBlock a0 a1 a2 a3) := by
  unfold State.writeBlock
  refine Keeps.ite ?_ ?_
  · exact keeps_opRingSize h
  · split
    · exact keeps_writeGlb h
    · exact keeps_writeClk h
    · exact keeps_writeRoo h
    · exact keeps_writeHen h
    · exact keeps_writeGoo h
    · exact keeps_writeCtx h
    · exact keeps_writeQos h
    · exact keeps_writeMor h
    · exact keeps_writeCen h
    · exact keeps_writeFus h
    · exact keeps_writeCam h
    · exact keeps_writeGns h
    · exact keeps_writeOx h
    · exact keeps_writeMul h
    · exact keeps_writeCan h
    · split
      · exact keeps_opMbxAccess h
      · exact keeps_plainWrite h
    · exact keeps_writeFlt h
    · exact keeps_writeDsp h
    · exact keeps_plainWrite h

theorem keeps_opRegisterWrite {b : State} {a0 : Nat} {a1 : Nat} {a2 : Word} {a3 : State} (h : Keeps b a3) :
    Keeps b (opRegisterWrite a0 a1 a2 a3) := by
  unfold opRegisterWrite
  refine Keeps.ite ?_ ?_
  · exact keeps_badAccess (keeps_writeBlock h)
  · exact keeps_writeBlock h

theorem keeps_opAccess {b : State} {a0 : Access} {a1 : State} (h : Keeps b a1) :
    Keeps b (opAccess a0 a1) := by
  unfold opAccess
  refine Keeps.ite ?_ ?_
  · exact h
  · refine Keeps.ite ?_ ?_
    · refine keeps_badAccess ?_
      refine Keeps.ite ?_ ?_
      · exact keeps_onBus h
      · exact h
    · split
      · exact keeps_opDoorbell h
      · split
        · refine keeps_badAccess ?_
          refine Keeps.ite ?_ ?_
          · exact keeps_onBus h
          · exact h
        · refine Keeps.ite ?_ ?_
          · exact keeps_opRegisterRead h
          · exact keeps_opRegisterWrite h

theorem keeps_dspScan {b : State} {a0 : State} {a1 : List Nat} (h : Keeps b a0) :
    Keeps b (State.dspScan a0 a1) := by
  unfold State.dspScan
  extract_lets v1 v2
  have k2 : Keeps b v2 := by
    unfold v2
    exact keeps_setDsp h
  clear_value v2
  refine Keeps.ite ?_ ?_
  · exact k2
  · exact keeps_raiseOnce (keeps_bumpBy k2)

theorem keeps_trackNote {b : State} {a0 : State} {a1 : Nat} {a2 : TrackOut} (h : Keeps b a0) :
    Keeps b (State.trackNote a0 a1 a2) := by
  unfold State.trackNote
  extract_lets v1 v2 v3
  have k2 : Keeps b v2 := by
    unfold v2
    exact keeps_modNet h
  clear_value v2
  refine Keeps.ite ?_ ?_
  · exact keeps_modNet h
  · refine Keeps.ite ?_ ?_
    · exact k2
    · exact keeps_modNet (Keeps.same k2 rfl rfl rfl rfl rfl)

theorem keeps_trackRecord {b : State} {a0 : State} {a1 : Nat} {a2 : FusionStep} {a3 : Sparse Nat} {a4 : Nat} {a5 : Nat} (h : Keeps b a0) :
    Keeps b (State.trackRecord a0 a1 a2 a3 a4 a5) := by
  unfold State.trackRecord
  extract_lets v1 v2 v3 v4
  exact keeps_fusionRecord h

theorem keeps_opStepComplete {b : State} {a0 : Nat} {a1 : StepOut} {a2 : State} (h : Keeps b a2) :
    Keeps b (opStepComplete a0 a1 a2) := by
  unfold opStepComplete
  split
  · exact h
  · refine Keeps.ite ?_ ?_
    · exact h
    · extract_lets v1 v2 v3 v4 v5
      have k2 : Keeps b v2 := by
        unfold v2
        exact keeps_modNet h
      clear_value v2
      have k3 : Keeps b v3 := by
        unfold v3
        exact keeps_tankTaken k2
      clear_value v3
      have k4 : Keeps b v4 := by
        unfold v4
        refine Keeps.ite ?_ ?_
        · split
          exact keeps_emit k3
        · exact k3
      clear_value v4
      have k5 : Keeps b v5 := by
        unfold v5
        refine Keeps.foldl ?_ ?_
        · exact k4
        · intro w61 x62 k63
          exact keeps_trackNote k63
      clear_value v5
      refine Keeps.ite ?_ ?_
      · exact k5
      · refine Keeps.foldl ?_ ?_
        · exact k5
        · intro w64 x65 k66
          exact keeps_trackRecord k66

theorem keeps_writeBank {b : State} {a0 : State} {a1 : Nat} {a2 : ImageIn} (h : Keeps b a0) :
    Keeps b (State.writeBank a0 a1 a2) := by
  unfold State.writeBank
  extract_lets v1 v2
  have k1 : Keeps b v1 := by
    unfold v1
    refine Keeps.foldl ?_ ?_
    · exact h
    · intro w61 x62 k63
      exact keeps_setFld k63
  clear_value v1
  have k2 : Keeps b v2 := by
    unfold v2
    refine Keeps.foldl ?_ ?_
    · exact k1
    · intro w64 x65 k66
      extract_lets v67 v68
      have k68 : Keeps b v68 := by
        unfold v68
        exact keeps_setFld (keeps_setFld k66)
      clear_value v68
      exact keeps_setFld (keeps_setFld k68)
  clear_value v2
  exact keeps_setFld k2

theorem keeps_opStatsReady {b : State} {a0 : Nat} {a1 : State} (h : Keeps b a1) :
    Keeps b (opStatsReady a0 a1) := by
  unfold opStatsReady
  split
  · exact h
  · extract_lets v1 v2
    have k2 : Keeps b v2 := by
      unfold v2
      exact keeps_dropFinished (keeps_setFrame h)
    clear_value v2
    refine Keeps.ite ?_ ?_
    · refine Keeps.ite ?_ ?_
      · exact keeps_ringPush k2
      · exact k2
    · refine Keeps.ite ?_ ?_
      · exact keeps_bump k2
      · refine Keeps.ite ?_ ?_
        · exact keeps_raise (keeps_writeBank k2)
        · exact k2

theorem keeps_opDspVertical {b : State} {a0 : List Nat} {a1 : State} (h : Keeps b a1) :
    Keeps b (opDspVertical a0 a1) := by
  unfold opDspVertical
  extract_lets v1 v2 v3
  have k1 : Keeps b v1 := by
    unfold v1
    exact keeps_dspSettle h
  clear_value v1
  have k3 : Keeps b v3 := by
    unfold v3
    exact keeps_setDsp k1
  clear_value v3
  refine Keeps.ite ?_ ?_
  · exact k1
  · split
    · exact keeps_dspEnter k3
    · exact keeps_dspScan (keeps_dspEnter k3)
    · exact keeps_dspEnter k3
    · exact keeps_dspScan k3
    · exact keeps_dspScan k3
    · exact keeps_dspEnter k3
    · exact keeps_setFlag (keeps_dspEnter k3)
    · exact k3

theorem keeps_opTtReference {b : State} {a0 : Nat} {a1 : Bool} {a2 : State} (h : Keeps b a2) :
    Keeps b (opTtReference a0 a1 a2) := by
  unfold opTtReference
  refine Keeps.ite ?_ ?_
  · exact h
  · refine Keeps.ite ?_ ?_
    · exact keeps_setFlag h
    · extract_lets v1 v2 v3 v4 v5
      have k5 : Keeps b v5 := by
        unfold v5
        exact keeps_bump (keeps_ttCycle h)
      clear_value v5
      exact keeps_modCanCh k5

theorem keeps_opDspTraining {b : State} {a0 : State} (h : Keeps b a0) :
    Keeps b (opDspTraining a0) := by
  unfold opDspTraining
  extract_lets v1 v2
  have k1 : Keeps b v1 := by
    unfold v1
    exact keeps_dspSettle h
  clear_value v1
  refine Keeps.ite ?_ ?_
  · exact k1
  · refine Keeps.ite ?_ ?_
    · refine Keeps.ite ?_ ?_
      · exact keeps_dspEnter (keeps_setDsp k1)
      · exact k1
    · refine Keeps.ite ?_ ?_
      · exact keeps_setDsp k1
      · exact k1

theorem keeps_opComplete {b : State} {a0 : Nat} {a1 : Nat} {a2 : State} (h : Keeps b a2) :
    Keeps b (opComplete a0 a1 a2) := by
  unfold opComplete
  split
  · exact h
  · refine Keeps.ite ?_ ?_
    · exact h
    · extract_lets v1 v2
      have k1 : Keeps b v1 := by
        unfold v1
        exact keeps_finish h
      clear_value v1
      refine Keeps.ite ?_ ?_
      · exact keeps_freeHolding k1
      · exact k1

theorem keeps_opFeedback {b : State} {a0 : Nat} {a1 : Bool} {a2 : State} (h : Keeps b a2) :
    Keeps b (opFeedback a0 a1 a2) := by
  unfold opFeedback
  extract_lets v1 v2 v3 v4
  have k3 : Keeps b v3 := by
    unfold v3
    exact Keeps.same h rfl rfl rfl rfl rfl
  clear_value v3
  refine Keeps.ite ?_ ?_
  · exact k3
  · refine keeps_gooShow ?_
    refine Keeps.foldl ?_ ?_
    · exact k3
    · intro w61 x62 k63
      exact keeps_checkFeedback k63

theorem keeps_allRefLost {b : State} {a0 : State} (h : Keeps b a0) :
    Keeps b (State.allRefLost a0) := by
  unfold State.allRefLost
  extract_lets v1 v2 v3 v4
  have k1 : Keeps b v1 := by
    unfold v1
    refine Keeps.foldl ?_ ?_
    · exact h
    · intro w61 x62 k63
      exact keeps_setRelock (keeps_setFlag (keeps_setFlag k63))
  clear_value v1
  have k2 : Keeps b v2 := by
    unfold v2
    exact keeps_setFld k1
  clear_value v2
  have k4 : Keeps b v4 := by
    unfold v4
    exact Keeps.same k2 rfl rfl rfl rfl rfl
  clear_value v4
  exact keeps_pendMode (keeps_henMake (keeps_raise k4))

theorem keeps_oscStabilise {b : State} {a0 : State} {a1 : Nat} (h : Keeps b a0) :
    Keeps b (State.oscStabilise a0 a1) := by
  unfold State.oscStabilise
  extract_lets v1 v2
  have k1 : Keeps b v1 := by
    unfold v1
    exact keeps_setStable h
  clear_value v1
  have k2 : Keeps b v2 := by
    unfold v2
    refine Keeps.ite ?_ ?_
    · exact keeps_raise k1
    · exact k1
  clear_value v2
  refine Keeps.ite ?_ ?_
  · refine Keeps.ite ?_ ?_
    · exact keeps_newReference k2
    · exact keeps_relockAll k2
  · refine Keeps.ite ?_ ?_
    · exact keeps_startRelock k2
    · exact k2

theorem keeps_canEvent1 {b : State} {a0 : State} {a1 : Nat} {a2 : Nat} (h : Keeps b a0) :
    Keeps b (State.canEvent1 a0 a1 a2) := by
  unfold State.canEvent1
  exact keeps_raise h

theorem keeps_opErrorState {b : State} {a0 : Nat} {a1 : Nat} {a2 : Nat} {a3 : Nat} {a4 : State} (h : Keeps b a4) :
    Keeps b (opErrorState a0 a1 a2 a3 a4) := by
  unfold opErrorState
  refine Keeps.ite ?_ ?_
  · exact h
  · extract_lets v1 v2 v3 v4 v5 v6 v7
    have k1 : Keeps b v1 := by
      unfold v1
      exact keeps_setFld h
    clear_value v1
    have k2 : Keeps b v2 := by
      unfold v2
      exact keeps_setFlag (keeps_setFld k1)
    clear_value v2
    have k3 : Keeps b v3 := by
      unfold v3
      exact keeps_canEvent1 (keeps_setFld k2)
    clear_value v3
    have k4 : Keeps b v4 := by
      unfold v4
      exact keeps_setFlag k3
    clear_value v4
    have k5 : Keeps b v5 := by
      unfold v5
      split
      · refine Keeps.ite ?_ ?_
        · exact keeps_canBufferDone (keeps_setFld k4)
        · exact k4
      · exact k4
    clear_value v5
    have k6 : Keeps b v6 := by
      unfold v6
      exact keeps_modCanCh k5
    clear_value v6
    have k7 : Keeps b v7 := by
      unfold v7
      exact keeps_canFlush k6
    clear_value v7
    refine Keeps.ite ?_ ?_
    · exact k2
    · refine Keeps.ite ?_ ?_
      · exact k3
      · refine Keeps.ite ?_ ?_
        · exact k7
        · exact keeps_canGoOff k7

theorem keeps_opRelockTimeout {b : State} {a0 : Nat} {a1 : State} (h : Keeps b a1) :
    Keeps b (opRelockTimeout a0 a1) := by
  unfold opRelockTimeout
  split
  · exact h
  · refine Keeps.ite ?_ ?_
    · exact h
    · exact keeps_lockFailed h

theorem keeps_oscFail {b : State} {a0 : State} {a1 : Nat} (h : Keeps b a0) :
    Keeps b (State.oscFail a0 a1) := by
  unfold State.oscFail
  extract_lets v1 v2 v3 v4
  have k2 : Keeps b v2 := by
    unfold v2
    exact Keeps.same h rfl rfl rfl rfl rfl
  clear_value v2
  have k3 : Keeps b v3 := by
    unfold v3
    exact keeps_setFld (keeps_setStable k2)
  clear_value v3
  have k4 : Keeps b v4 := by
    unfold v4
    exact keeps_henMake (keeps_raise k3)
  clear_value v4
  refine Keeps.ite ?_ ?_
  · refine Keeps.ite ?_ ?_
    · exact keeps_newReference k4
    · exact keeps_allRefLost k4
  · refine Keeps.ite ?_ ?_
    · exact keeps_allRefLost k4
    · exact k4

theorem keeps_opJudge {b : State} {a0 : Nat} {a1 : Nat} {a2 : State} (h : Keeps b a2) :
    Keeps b (opJudge a0 a1 a2) := by
  unfold opJudge
  refine Keeps.ite ?_ ?_
  · exact h
  · refine Keeps.ite ?_ ?_
    · extract_lets v1 v2 v3 v4
      have k1 : Keeps b v1 := by
        unfold v1
        refine Keeps.ite ?_ ?_
        · exact keeps_xoRestart h
        · exact h
      clear_value v1
      have k4 : Keeps b v4 := by
        unfold v4
        exact Keeps.same k1 rfl rfl rfl rfl rfl
      clear_value v4
      refine Keeps.ite ?_ ?_
      · exact keeps_oscStabilise k4
      · exact k4
    · refine Keeps.ite ?_ ?_
      · exact keeps_oscFail h
      · extract_lets v61 v62 v63
        have k63 : Keeps b v63 := by
          unfold v63
          exact Keeps.same h rfl rfl rfl rfl rfl
        clear_value v63
        refine Keeps.ite ?_ ?_
        · exact keeps_oscFail k63
        · exact k63

theorem keeps_opUnemulated {b : State} {a0 : Word} {a1 : Bool} {a2 : State} (h : Keeps b a2) :
    Keeps b (opUnemulated a0 a1 a2) := by
  unfold opUnemulated
  extract_lets v1 v2 v3 v4
  have k2 : Keeps b v2 := by
    unfold v2
    exact keeps_setFlag (keeps_setFld h)
  clear_value v2
  have k3 : Keeps b v3 := by
    unfold v3
    refine Keeps.ite ?_ ?_
    · exact k2
    · exact keeps_onBus k2
  clear_value v3
  have k4 : Keeps b v4 := by
    unfold v4
    exact keeps_setFlag (keeps_setFld h)
  clear_value v4
  refine Keeps.ite ?_ ?_
  · exact h
  · refine Keeps.ite ?_ ?_
    · exact keeps_raise (keeps_bump k3)
    · refine Keeps.ite ?_ ?_
      · exact keeps_raise (keeps_bump k4)
      · exact h

theorem keeps_activateUnits {b : State} {a0 : State} (h : Keeps b a0) :
    Keeps b (State.activateUnits a0) := by
  unfold State.activateUnits
  extract_lets v1 v2 v3
  have k2 : Keeps b v2 := by
    unfold v2
    refine Keeps.foldl ?_ ?_
    · exact h
    · intro w61 x62 k63
      exact keeps_activateSlot k63
  clear_value v2
  have k3 : Keeps b v3 := by
    unfold v3
    refine Keeps.foldl ?_ ?_
    · exact k2
    · intro w64 x65 k66
      split
      · exact keeps_putImage k66
      · exact k66
  clear_value v3
  refine Keeps.foldl ?_ ?_
  · exact k3
  · intro w67 x68 k69
    extract_lets v70
    refine Keeps.ite ?_ ?_
    · exact keeps_addCause k69
    · exact k69

theorem keeps_opActivation {b : State} {a0 : State} (h : Keeps b a0) :
    Keeps b (opActivation a0) := by
  unfold opActivation
  refine Keeps.ite ?_ ?_
  · exact h
  · extract_lets v1 v2 v3 v4 v5 v6 v7 v8 v9
    have k2 : Keeps b v2 := by
      unfold v2
      exact keeps_activateUnits (keeps_activateRoutes h)
    clear_value v2
    have k3 : Keeps b v3 := by
      unfold v3
      exact keeps_dropStage k2
    clear_value v3
    have k5 : Keeps b v5 := by
      unfold v5
      exact Keeps.same k3 rfl rfl rfl rfl rfl
    clear_value v5
    have k6 : Keeps b v6 := by
      unfold v6
      exact keeps_setFld (keeps_setFlag k5)
    clear_value v6
    have k7 : Keeps b v7 := by
      unfold v7
      exact keeps_writeStore (keeps_setFlag k6)
    clear_value v7
    have k8 : Keeps b v8 := by
      unfold v8
      refine Keeps.foldl ?_ ?_
      · exact k7
      · intro w61 x62 k63
        refine Keeps.ite ?_ ?_
        · exact k63
        · exact keeps_showUtil k63
    clear_value v8
    have k9 : Keeps b v9 := by
      unfold v9
      exact keeps_settleSafe k8
    clear_value v9
    exact keeps_raise (keeps_setFlag k9)

theorem keeps_opLimitLong {b : State} {a0 : Nat} {a1 : State} (h : Keeps b a1) :
    Keeps b (opLimitLong a0 a1) := by
  unfold opLimitLong
  extract_lets v1
  split
  · exact h
  · refine Keeps.ite ?_ ?_
    · exact h
    · exact keeps_raise (keeps_setMulCh h)

theorem keeps_opPllLock {b : State} {a0 : Nat} {a1 : State} (h : Keeps b a1) :
    Keeps b (opPllLock a0 a1) := by
  unfold opPllLock
  split
  · refine Keeps.ite ?_ ?_
    · exact h
    · exact keeps_setRelock h
  · exact h

theorem keeps_opAntenna {b : State} {a0 : Nat} {a1 : State} (h : Keeps b a1) :
    Keeps b (opAntenna a0 a1) := by
  unfold opAntenna
  refine Keeps.ite ?_ ?_
  · exact h
  · exact keeps_judgeBias (keeps_judgeBias h)

theorem keeps_opOutputPhase {b : State} {a0 : Nat} {a1 : State} (h : Keeps b a1) :
    Keeps b (opOutputPhase a0 a1) := by
  unfold opOutputPhase
  split
  · exact h
  · extract_lets v1 v2 v3
    have k1 : Keeps b v1 := by
      unfold v1
      refine Keeps.ite ?_ ?_
      · exact keeps_raise (keeps_modSlot h)
      · exact h
    clear_value v1
    have k2 : Keeps b v2 := by
      unfold v2
      exact keeps_emitOutput k1
    clear_value v2
    have k3 : Keeps b v3 := by
      unfold v3
      exact keeps_modSlot k2
    clear_value v3
    refine Keeps.ite ?_ ?_
    · exact keeps_slotOff k3
    · exact k3

theorem keeps_opRailClampEnd {b : State} {a0 : Nat} {a1 : State} (h : Keeps b a1) :
    Keeps b (opRailClampEnd a0 a1) := by
  unfold opRailClampEnd
  refine Keeps.ite ?_ ?_
  · exact h
  · exact keeps_setFlag (keeps_setBoost h)

theorem keeps_opLoopRead {b : State} {a0 : Bool} {a1 : State} {a2 : Op} (h : Keeps b a1) :
    Keeps b (opLoopRead a0 a1 a2) := by
  unfold opLoopRead
  refine keeps_ownSlot ?_ ?_
  · intro z1 k2
    refine Keeps.ite ?_ ?_
    · exact keeps_finish k2
    · extract_lets v3
      have k3 : Keeps b v3 := by
        unfold v3
        exact keeps_writeBytes k2
      clear_value v3
      exact keeps_finish k3
  · exact h

theorem keeps_tripInput {b : State} {a0 : State} {a1 : Nat} (h : Keeps b a0) :
    Keeps b (State.tripInput a0 a1) := by
  unfold State.tripInput
  extract_lets v1 v2 v3 v4
  have k2 : Keeps b v2 := by
    unfold v2
    exact keeps_modGooIn h
  clear_value v2
  have k3 : Keeps b v3 := by
    unfold v3
    exact keeps_raise k2
  clear_value v3
  have k4 : Keeps b v4 := by
    unfold v4
    exact keeps_outputsOff k3
  clear_value v4
  refine Keeps.ite ?_ ?_
  · exact keeps_applyCuts (keeps_gooShow k4)
  · exact keeps_impose k3

theorem keeps_opContactChange {b : State} {a0 : Nat} {a1 : Bool} {a2 : Bool} {a3 : State} (h : Keeps b a3) :
    Keeps b (opContactChange a0 a1 a2 a3) := by
  unfold opContactChange
  refine Keeps.ite ?_ ?_
  · exact h
  · extract_lets v1 v2 v3 v4 v5 v6 v7 v8
    have k4 : Keeps b v4 := by
      unfold v4
      exact keeps_setFlag h
    clear_value v4
    have k7 : Keeps b v7 := by
      unfold v7
      refine Keeps.ite ?_ ?_
      · exact keeps_tripInput k4
      · exact k4
    clear_value v7
    have k8 : Keeps b v8 := by
      unfold v8
      exact keeps_modGooIn k7
    clear_value v8
    refine Keeps.ite ?_ ?_
    · exact h
    · refine Keeps.ite ?_ ?_
      · exact keeps_gooShow k4
      · exact keeps_gooShow k8

theorem keeps_opOxSupplyRestored {b : State} {a0 : Nat} {a1 : Nat} {a2 : State} (h : Keeps b a2) :
    Keeps b (opOxSupplyRestored a0 a1 a2) := by
  unfold opOxSupplyRestored
  refine Keeps.ite ?_ ?_
  · exact h
  · extract_lets v1
    have k1 : Keeps b v1 := by
      unfold v1
      exact keeps_setFlag h
    clear_value v1
    refine Keeps.foldl ?_ ?_
    · exact k1
    · intro w61 x62 k63
      exact keeps_showOx k63

theorem keeps_opHenOpenRefresh {b : State} {a0 : State} (h : Keeps b a0) :
    Keeps b (opHenOpenRefresh a0) := by
  unfold opHenOpenRefresh
  split
  · exact h
  · extract_lets v1
    refine Keeps.ite ?_ ?_
    · exact h
    · split
      · exact h
      · refine Keeps.ite ?_ ?_
        · exact keeps_henEnqueue h
        · exact keeps_henLost h

theorem keeps_opRouteSwitch {b : State} {a0 : Nat} {a1 : Nat} {a2 : State} (h : Keeps b a2) :
    Keeps b (opRouteSwitch a0 a1 a2) := by
  unfold opRouteSwitch
  refine Keeps.ite ?_ ?_
  · exact keeps_takeTarget h
  · exact h

theorem keeps_oxClose {b : State} {a0 : State} {a1 : Nat} {a2 : Nat} {a3 : Nat} {a4 : Nat} (h : Keeps b a0) :
    Keeps b (State.oxClose a0 a1 a2 a3 a4) := by
  unfold State.oxClose
  extract_lets v1 v2 v3 v4 v5 v6 v7
  have k3 : Keeps b v3 := by
    unfold v3
    exact keeps_setFld h
  clear_value v3
  have k4 : Keeps b v4 := by
    unfold v4
    exact keeps_setFld k3
  clear_value v4
  have k5 : Keeps b v5 := by
    unfold v5
    refine Keeps.ite ?_ ?_
    · exact keeps_setFld k4
    · exact k4
  clear_value v5
  have k6 : Keeps b v6 := by
    unfold v6
    exact keeps_oxMeasure k5
  clear_value v6
  have k7 : Keeps b v7 := by
    unfold v7
    exact keeps_setOxCh k6
  clear_value v7
  exact keeps_oxDither k7

theorem keeps_opPwmPeriod {b : State} {a0 : Nat} {a1 : Nat} {a2 : Nat} {a3 : State} (h : Keeps b a3) :
    Keeps b (opPwmPeriod a0 a1 a2 a3) := by
  unfold opPwmPeriod
  refine Keeps.ite ?_ ?_
  · exact keeps_opLegacyPeriod h
  · refine Keeps.ite ?_ ?_
    · exact h
    · extract_lets v1 v2 v3 v4 v5 v6 v7
      have k2 : Keeps b v2 := by
        unfold v2
        exact keeps_setFld h
      clear_value v2
      have k3 : Keeps b v3 := by
        unfold v3
        refine Keeps.ite ?_ ?_
        · exact k2
        · exact keeps_oxClose k2
      clear_value v3
      have k4 : Keeps b v4 := by
        unfold v4
        exact keeps_modOxCh k3
      clear_value v4
      have k5 : Keeps b v5 := by
        unfold v5
        refine Keeps.ite ?_ ?_
        · exact keeps_oxApply k4
        · exact keeps_modOxCh k4
      clear_value v5
      have k6 : Keeps b v6 := by
        unfold v6
        exact keeps_oxRun k5
      clear_value v6
      have k7 : Keeps b v7 := by
        unfold v7
        exact keeps_modOxCh k6
      clear_value v7
      exact keeps_showOx k7

theorem keeps_opSpecPacket {b : State} {a0 : Packet} {a1 : State} (h : Keeps b a1) :
    Keeps b (opSpecPacket a0 a1) := by
  unfold opSpecPacket
  split
  · refine Keeps.ite ?_ ?_
    · exact keeps_takeSpec (keeps_arrived h)
    · exact h
  · exact h

theorem keeps_opOutputReadback {b : State} {a0 : Nat} {a1 : Nat} {a2 : Nat} {a3 : State} (h : Keeps b a3) :
    Keeps b (opOutputReadback a0 a1 a2 a3) := by
  unfold opOutputReadback
  refine Keeps.ite ?_ ?_
  · exact h
  · extract_lets v1
    have k1 : Keeps b v1 := by
      unfold v1
      exact keeps_setFlag h
    clear_value v1
    refine Keeps.ite ?_ ?_
    · refine Keeps.ite ?_ ?_
      · exact k1
      · exact keeps_stuckOn k1
    · refine Keeps.ite ?_ ?_
      · exact keeps_gooShow (keeps_outputOff (keeps_testFault k1))
      · refine Keeps.ite ?_ ?_
        · exact keeps_testFault k1
        · exact k1

theorem keeps_opMulCommandFlit {b : State} {a0 : Packet} {a1 : State} (h : Keeps b a1) :
    Keeps b (opMulCommandFlit a0 a1) := by
  unfold opMulCommandFlit
  refine Keeps.ite ?_ ?_
  · exact keeps_takeMulFlit (keeps_arrived h)
  · exact h

theorem keeps_opLinkRestored {b : State} {a0 : Nat} {a1 : State} (h : Keeps b a1) :
    Keeps b (opLinkRestored a0 a1) := by
  unfold opLinkRestored
  refine Keeps.ite ?_ ?_
  · exact h
  · extract_lets v1
    have k1 : Keeps b v1 := by
      unfold v1
      exact keeps_setFlag h
    clear_value v1
    exact keeps_raise (keeps_modPort k1)

theorem keeps_opEthSend {b : State} {a0 : Nat} {a1 : Bool} {a2 : State} (h : Keeps b a2) :
    Keeps b (opEthSend a0 a1 a2) := by
  unfold opEthSend
  extract_lets v1 v2 v3 v4 v5 v6 v7
  have k6 : Keeps b v6 := by
    unfold v6
    exact keeps_setFld h
  clear_value v6
  have k7 : Keeps b v7 := by
    unfold v7
    refine Keeps.ite ?_ ?_
    · exact keeps_setPair k6
    · exact k6
  clear_value v7
  refine Keeps.ite ?_ ?_
  · exact h
  · refine Keeps.ite ?_ ?_
    · exact keeps_bump k6
    · exact keeps_putSent k7

theorem keeps_opCfgRead {b : State} {a0 : Bool} {a1 : State} {a2 : Op} (h : Keeps b a1) :
    Keeps b (opCfgRead a0 a1 a2) := by
  unfold opCfgRead
  extract_lets v1 v2 v3
  refine Keeps.ite ?_ ?_
  · exact keeps_finish h
  · refine Keeps.ite ?_ ?_
    · exact keeps_finish h
    · exact keeps_finish (keeps_writeBytes h)

theorem keeps_opCrossCircuit {b : State} {a0 : Nat} {a1 : State} (h : Keeps b a1) :
    Keeps b (opCrossCircuit a0 a1) := by
  unfold opCrossCircuit
  refine Keeps.ite ?_ ?_
  · exact h
  · extract_lets v1 v2
    have k1 : Keeps b v1 := by
      unfold v1
      exact keeps_setFlag h
    clear_value v1
    have k2 : Keeps b v2 := by
      unfold v2
      exact keeps_modGooIn k1
    clear_value v2
    exact keeps_impose (keeps_raise k2)

theorem keeps_opOffState {b : State} {a0 : Nat} {a1 : Nat} {a2 : State} (h : Keeps b a2) :
    Keeps b (opOffState a0 a1 a2) := by
  unfold opOffState
  extract_lets v1 v2 v3 v4 v5 v6
  have k5 : Keeps b v5 := by
    unfold v5
    exact keeps_setMulCh h
  clear_value v5
  have k6 : Keeps b v6 := by
    unfold v6
    refine Keeps.ite ?_ ?_
    · exact keeps_mulReport k5
    · exact k5
  clear_value v6
  refine Keeps.ite ?_ ?_
  · exact h
  · refine Keeps.ite ?_ ?_
    · exact keeps_mulReport k6
    · exact k6

theorem keeps_opDiscrepancy {b : State} {a0 : Nat} {a1 : State} (h : Keeps b a1) :
    Keeps b (opDiscrepancy a0 a1) := by
  unfold opDiscrepancy
  split
  · exact h
  · refine Keeps.ite ?_ ?_
    · exact h
    · extract_lets v1 v2 v3
      have k1 : Keeps b v1 := by
        unfold v1
        exact keeps_setFlag h
      clear_value v1
      have k2 : Keeps b v2 := by
        unfold v2
        exact keeps_modGooIn k1
      clear_value v2
      have k3 : Keeps b v3 := by
        unfold v3
        exact keeps_henMake (keeps_raise k2)
      clear_value v3
      exact keeps_impose k3

theorem keeps_opTokenReturn {b : State} {a0 : State} (h : Keeps b a0) :
    Keeps b (opTokenReturn a0) := by
  unfold opTokenReturn
  exact keeps_returnTokens h

theorem keeps_beginSample {b : State} {a0 : State} {a1 : Nat} {a2 : Nat} {a3 : Record} (h : Keeps b a0) :
    Keeps b (State.beginSample a0 a1 a2 a3) := by
  unfold State.beginSample
  extract_lets v1 v2 v3 v4 v5 v6 v7 v8
  have k1 : Keeps b v1 := by
    unfold v1
    refine Keeps.ite ?_ ?_
    · exact keeps_modSlot h
    · exact h
  clear_value v1
  have k2 : Keeps b v2 := by
    unfold v2
    refine Keeps.foldl ?_ ?_
    · exact k1
    · intro w61 x62 k63
      exact keeps_setRecWord k63
  clear_value v2
  have k3 : Keeps b v3 := by
    unfold v3
    refine Keeps.ite ?_ ?_
    · exact keeps_modSlot k2
    · exact k1
  clear_value v3
  have k4 : Keeps b v4 := by
    unfold v4
    exact keeps_latch k3
  clear_value v4
  refine Keeps.ite ?_ ?_
  · unfold v7
    exact keeps_modSlot k4
  · refine Keeps.ite ?_ ?_
    · unfold v7
      exact keeps_modSlot k4
    · unfold v7
      exact keeps_modSlot (keeps_discardFrame k4)

theorem keeps_opBusoffRecovered {b : State} {a0 : Nat} {a1 : State} (h : Keeps b a1) :
    Keeps b (opBusoffRecovered a0 a1) := by
  unfold opBusoffRecovered
  refine Keeps.ite ?_ ?_
  · exact h
  · extract_lets v1
    have k1 : Keeps b v1 := by
      unfold v1
      exact keeps_setFlag (keeps_setFld (keeps_setFld h))
    clear_value v1
    exact keeps_canEvent1 (keeps_setFlag (keeps_setFld k1))

theorem keeps_opLoopDisable {b : State} {a0 : State} {a1 : Op} (h : Keeps b a0) :
    Keeps b (opLoopDisable a0 a1) := by
  unfold opLoopDisable
  refine keeps_ownSlot ?_ ?_
  · intro z1 k2
    refine Keeps.ite ?_ ?_
    · exact keeps_finish k2
    · refine Keeps.ite ?_ ?_
      · exact keeps_modSlot k2
      · exact keeps_disableSlot k2
  · exact h

theorem keeps_opPtpReceived {b : State} {a0 : Nat} {a1 : PtpMessage} {a2 : State} (h : Keeps b a2) :
    Keeps b (opPtpReceived a0 a1 a2) := by
  unfold opPtpReceived
  refine Keeps.ite ?_ ?_
  · exact h
  · extract_lets v1 v2 v3 v4 v5 v6
    have k2 : Keeps b v2 := by
      unfold v2
      exact keeps_setFlag h
    clear_value v2
    have k3 : Keeps b v3 := by
      unfold v3
      exact keeps_setFld (keeps_setFld k2)
    clear_value v3
    have k4 : Keeps b v4 := by
      unfold v4
      exact keeps_setFld k3
    clear_value v4
    have k6 : Keeps b v6 := by
      unfold v6
      refine Keeps.ite ?_ ?_
      · exact Keeps.same k4 rfl rfl rfl rfl rfl
      · exact k3
    clear_value v6
    exact keeps_setFlag k6

theorem keeps_mismatch {b : State} {a0 : State} {a1 : Nat} (h : Keeps b a0) :
    Keeps b (State.mismatch a0 a1) := by
  unfold State.mismatch
  extract_lets v1
  have k1 : Keeps b v1 := by
    unfold v1
    refine Keeps.ite ?_ ?_
    · exact h
    · exact keeps_setReg h
  clear_value v1
  refine Keeps.ite ?_ ?_
  · exact k1
  · exact keeps_henMake (keeps_raise k1)

theorem keeps_publishTree {b : State} {a0 : State} {a1 : Nat → Nat} {a2 : Nat} (h : Keeps b a0) :
    Keeps b (State.publishTree a0 a1 a2) := by
  unfold State.publishTree
  extract_lets v1 v2 v3
  have k1 : Keeps b v1 := by
    unfold v1
    refine Keeps.foldl ?_ ?_
    · exact h
    · intro w61 x62 k63
      extract_lets v64
      exact keeps_setReg (keeps_setReg (keeps_setReg k63))
  clear_value v1
  exact Keeps.same k1 rfl rfl rfl rfl rfl

theorem keeps_opSweepPublish {b : State} {a0 : List BrickError} {a1 : List (Nat × Nat × Nat)} {a2 : State} (h : Keeps b a2) :
    Keeps b (opSweepPublish a0 a1 a2) := by
  unfold opSweepPublish
  split
  · exact h
  · refine Keeps.ite ?_ ?_
    · exact h
    · extract_lets v1 v2 v3 v4 v5 v6 v7 v8 v9 v10 v11 v12 v13 v14
      have k1 : Keeps b v1 := by
        unfold v1
        refine Keeps.foldl ?_ ?_
        · exact h
        · intro w61 x62 k63
          exact keeps_rereads k63
      clear_value v1
      have k2 : Keeps b v2 := by
        unfold v2
        exact keeps_eccErrors k1
      clear_value v2
      have k4 : Keeps b v4 := by
        unfold v4
        exact Keeps.same k2 rfl rfl rfl rfl rfl
      clear_value v4
      have k9 : Keeps b v9 := by
        unfold v9
        refine Keeps.foldl ?_ ?_
        · exact k4
        · intro w64 x65 k66
          exact keeps_mismatch k66
      clear_value v9
      have k10 : Keeps b v10 := by
        unfold v10
        exact keeps_setFlag k9
      clear_value v10
      have k13 : Keeps b v13 := by
        unfold v13
        exact Keeps.same k10 rfl rfl rfl rfl rfl
      clear_value v13
      have k14 : Keeps b v14 := by
        unfold v14
        exact keeps_setPair (keeps_publishTree k13)
      clear_value v14
      exact keeps_setFlag (keeps_setFld k14)

theorem keeps_opOutputTest {b : State} {a0 : Nat} {a1 : Nat} {a2 : State} (h : Keeps b a2) :
    Keeps b (opOutputTest a0 a1 a2) := by
  unfold opOutputTest
  extract_lets v1
  refine Keeps.ite ?_ ?_
  · exact h
  · refine Keeps.ite ?_ ?_
    · exact h
    · exact keeps_stuckOn h

theorem keeps_learnRate {b : State} {a0 : State} {a1 : Int} (h : Keeps b a0) :
    Keeps b (State.learnRate a0 a1) := by
  unfold State.learnRate
  extract_lets v1 v2 v3
  refine Keeps.ite ?_ ?_
  · exact h
  · exact Keeps.same h rfl rfl rfl rfl rfl

theorem keeps_opEdge {b : State} {a0 : Bool} {a1 : Nat} {a2 : State} (h : Keeps b a2) :
    Keeps b (opEdge a0 a1 a2) := by
  unfold opEdge
  extract_lets v1 v2 v3 v4 v5 v6 v7 v8 v9 v10 v11 v12 v13 v14 v15 v16 v17 v18 v19
  have k3 : Keeps b v3 := by
    unfold v3
    refine Keeps.ite ?_ ?_
    · exact h
    · exact Keeps.same h rfl rfl rfl rfl rfl
  have k7 : Keeps b v7 := by
    unfold v7
    exact keeps_learnRate k3
  clear_value v7
  have k9 : Keeps b v9 := by
    unfold v9
    exact Keeps.same k7 rfl rfl rfl rfl rfl
  clear_value v9
  have k15 : Keeps b v15 := by
    unfold v15
    refine Keeps.ite ?_ ?_
    · exact keeps_raise (keeps_setFld k3)
    · exact k3
  have k17 : Keeps b v17 := by
    unfold v17
    exact Keeps.same k15 rfl rfl rfl rfl rfl
  have k18 : Keeps b v18 := by
    unfold v18
    exact keeps_showErrest (keeps_setFld k17)
  refine Keeps.ite ?_ ?_
  · exact h
  · refine Keeps.ite ?_ ?_
    · refine Keeps.ite ?_ ?_
      · exact k3
      · exact keeps_showErrest (keeps_setFld k9)
    · refine Keeps.ite ?_ ?_
      · exact k18
      · exact keeps_enterLocked k18

theorem keeps_dropBoth {b : State} {a0 : State} {a1 : Nat} {a2 : CamFrame} (h : Keeps b a0) :
    Keeps b (State.dropBoth a0 a1 a2) := by
  unfold State.dropBoth
  extract_lets v1 v2 v3 v4
  have k2 : Keeps b v2 := by
    unfold v2
    exact keeps_noteDrop (keeps_setFrame h)
  clear_value v2
  have k3 : Keeps b v3 := by
    unfold v3
    exact keeps_tapDrop k2
  clear_value v3
  have k4 : Keeps b v4 := by
    unfold v4
    exact keeps_tapDrop k3
  clear_value v4
  exact keeps_modPort k4

theorem keeps_opLongPacket {b : State} {a0 : Nat} {a1 : Nat} {a2 : Nat} {a3 : Bool} {a4 : Bool} {a5 : List Nat} {a6 : State} (h : Keeps b a6) :
    Keeps b (opLongPacket a0 a1 a2 a3 a4 a5 a6) := by
  unfold opLongPacket
  extract_lets v1 v2 v3 v4
  have k2 : Keeps b v2 := by
    unfold v2
    exact keeps_serveCams h
  clear_value v2
  refine Keeps.ite ?_ ?_
  · exact h
  · refine Keeps.ite ?_ ?_
    · exact keeps_bump h
    · refine Keeps.ite ?_ ?_
      · exact h
      · split
        · exact h
        · refine Keeps.ite ?_ ?_
          · exact h
          · refine Keeps.ite ?_ ?_
            · exact keeps_camDamage h
            · extract_lets v61 v62 v63 v64
              have k61 : Keeps b v61 := by
                unfold v61
                refine Keeps.ite ?_ ?_
                · exact keeps_tapDrop k2
                · exact k2
              clear_value v61
              have k63 : Keeps b v63 := by
                unfold v63
                refine Keeps.ite ?_ ?_
                · exact keeps_tapDrop k61
                · exact k61
              clear_value v63
              refine Keeps.ite ?_ ?_
              · exact keeps_dropBoth k63
              · refine Keeps.ite ?_ ?_
                · exact keeps_camDamage k63
                · refine Keeps.ite ?_ ?_
                  · exact keeps_camDamage k63
                  · exact keeps_setFrame k63

theorem keeps_opForecastPublish {b : State} {a0 : List Nat} {a1 : List Nat} {a2 : Nat} {a3 : List DrumRead} {a4 : State} (h : Keeps b a4) :
    Keeps b (opForecastPublish a0 a1 a2 a3 a4) := by
  unfold opForecastPublish
  extract_lets v1 v2 v3 v4 v5 v6 v7 v8 v9 v10 v11 v12 v13 v14
  have k12 : Keeps b v12 := by
    unfold v12
    exact keeps_setFld h
  clear_value v12
  have k13 : Keeps b v13 := by
    unfold v13
    exact keeps_setFlag k12
  clear_value v13
  refine Keeps.ite ?_ ?_
  · exact h
  · exact Keeps.same k13 rfl rfl rfl rfl rfl

theorem keeps_opEvaluationStart {b : State} {a0 : Nat} {a1 : List BrickError} {a2 : State} (h : Keeps b a2) :
    Keeps b (opEvaluationStart a0 a1 a2) := by
  unfold opEvaluationStart
  refine Keeps.ite ?_ ?_
  · exact h
  · split
    · exact h
    · refine Keeps.ite ?_ ?_
      · exact h
      · split
        · exact h
        · split
          · exact keeps_startEval (keeps_eccErrors (keeps_rereads h))
          · exact h

theorem keeps_opHenWrite {b : State} {a0 : State} {a1 : Op} (h : Keeps b a0) :
    Keeps b (opHenWrite a0 a1) := by
  unfold opHenWrite
  extract_lets v1
  refine Keeps.ite ?_ ?_
  · exact keeps_finish h
  · split
    rename_i y61 y62 y63 e64
    have k65 := congrArg Prod.fst e64
    replace k65 : Keeps b y61 := by
      refine Eq.subst (motive := fun z => Keeps b z) k65 ?_
      exact keeps_henMakeSeq h
    refine Keeps.ite ?_ ?_
    · exact keeps_finish k65
    · exact keeps_modifyOp k65

theorem keeps_opRooAlarm {b : State} {a0 : State} (h : Keeps b a0) :
    Keeps b (opRooAlarm a0) := by
  unfold opRooAlarm
  extract_lets v1 v2 v3
  have k1 : Keeps b v1 := by
    unfold v1
    exact keeps_opRooLoadApply h
  clear_value v1
  have k2 : Keeps b v2 := by
    unfold v2
    exact keeps_setFlag (keeps_setFlag k1)
  clear_value v2
  refine Keeps.ite ?_ ?_
  · exact k1
  · refine Keeps.ite ?_ ?_
    · exact keeps_raise k2
    · exact Keeps.same k2 rfl rfl rfl rfl rfl

theorem keeps_opLossInterval {b : State} {a0 : State} (h : Keeps b a0) :
    Keeps b (opLossInterval a0) := by
  unfold opLossInterval
  extract_lets v1 v2 v3 v4 v5 v6
  refine Keeps.ite ?_ ?_
  · exact h
  · exact Keeps.same h rfl rfl rfl rfl rfl

theorem keeps_opSupplyBand {b : State} {a0 : Nat} {a1 : Nat} {a2 : State} (h : Keeps b a2) :
    Keeps b (opSupplyBand a0 a1 a2) := by
  unfold opSupplyBand
  extract_lets v1 v2 v3 v4 v5 v6 v7 v8
  have k1 : Keeps b v1 := by
    unfold v1
    exact keeps_showSupply h
  clear_value v1
  have k4 : Keeps b v4 := by
    unfold v4
    exact keeps_setFld k1
  clear_value v4
  have k6 : Keeps b v6 := by
    unfold v6
    refine Keeps.ite ?_ ?_
    · exact keeps_bumpMax k4
    · exact k4
  clear_value v6
  have k8 : Keeps b v8 := by
    unfold v8
    refine Keeps.ite ?_ ?_
    · exact Keeps.same k6 rfl rfl rfl rfl rfl
    · exact k6
  clear_value v8
  refine Keeps.ite ?_ ?_
  · exact k1
  · refine Keeps.ite ?_ ?_
    · exact keeps_powerFail k1
    · refine Keeps.ite ?_ ?_
      · exact k8
      · refine Keeps.ite ?_ ?_
        · exact keeps_raise (keeps_bump k8)
        · refine Keeps.ite ?_ ?_
          · exact keeps_raise (keeps_bump k8)
          · refine Keeps.ite ?_ ?_
            · exact keeps_raise k8
            · refine Keeps.ite ?_ ?_
              · exact keeps_raise k8
              · exact k8

theorem keeps_opSessionExpiry {b : State} {a0 : State} (h : Keeps b a0) :
    Keeps b (opSessionExpiry a0) := by
  unfold opSessionExpiry
  refine Keeps.ite ?_ ?_
  · exact keeps_closeSession h
  · exact h

theorem keeps_opLegacy {b : State} {a0 : LegacyOp} {a1 : State} (h : Keeps b a1) :
    Keeps b (opLegacy a0 a1) := by
  unfold opLegacy
  refine Keeps.ite ?_ ?_
  · exact h
  · split
    · exact keeps_onBus h
    · exact Keeps.same h rfl rfl rfl rfl rfl
    · exact keeps_onBus h
    · exact keeps_modOxCh h
    · exact keeps_onBus h
    · exact keeps_onBus h
    · exact keeps_onBus h
    · exact keeps_mulCommand (keeps_modMulCh h)
    · exact keeps_legacyTiming h
    · exact keeps_setReg h
    · exact keeps_canRequest h
    · exact keeps_onBus h
    · exact keeps_onBus h
    · exact keeps_opCalendarWrite h
    · exact keeps_opOsfWrite h
    · exact keeps_mbxBus h
    · refine Keeps.ite ?_ ?_
      · exact h
      · exact Keeps.same h rfl rfl rfl rfl rfl

theorem keeps_opPiezoClose {b : State} {a0 : Nat} {a1 : Nat} {a2 : Nat} {a3 : State} (h : Keeps b a3) :
    Keeps b (opPiezoClose a0 a1 a2 a3) := by
  unfold opPiezoClose
  extract_lets v1 v2 v3 v4
  have k4 : Keeps b v4 := by
    unfold v4
    exact Keeps.same h rfl rfl rfl rfl rfl
  clear_value v4
  split
  · exact h
  · refine Keeps.ite ?_ ?_
    · exact h
    · exact keeps_setPiezo k4

theorem keeps_opPtpSync {b : State} {a0 : Nat} {a1 : State} (h : Keeps b a1) :
    Keeps b (opPtpSync a0 a1) := by
  unfold opPtpSync
  extract_lets v1 v2 v3 v4 v5
  have k5 : Keeps b v5 := by
    unfold v5
    exact Keeps.same h rfl rfl rfl rfl rfl
  clear_value v5
  refine Keeps.ite ?_ ?_
  · exact h
  · exact keeps_putSent k5

theorem keeps_opCanEnd {b : State} {a0 : List Byte} {a1 : State} (h : Keeps b a1) :
    Keeps b (opCanEnd a0 a1) := by
  unfold opCanEnd
  extract_lets v1
  refine Keeps.ite ?_ ?_
  · exact h
  · refine Keeps.ite ?_ ?_
    · exact keeps_canAnswer h
    · exact Keeps.same h rfl rfl rfl rfl rfl

theorem keeps_opSampleInstant {b : State} {a0 : Nat} {a1 : List BrickError} {a2 : State} (h : Keeps b a2) :
    Keeps b (opSampleInstant a0 a1 a2) := by
  unfold opSampleInstant
  extract_lets v1 v2 v3 v4 v5 v6 v7 v8 v9 v10
  have k4 : Keeps b v4 := by
    unfold v4
    exact keeps_exchangeBanks h
  clear_value v4
  have k6 : Keeps b v6 := by
    unfold v6
    exact keeps_settleSlot (keeps_eccErrors k4)
  clear_value v6
  have k9 : Keeps b v9 := by
    unfold v9
    exact keeps_resetOut (keeps_zeroLaw (keeps_setFld k6))
  clear_value v9
  have k10 : Keeps b v10 := by
    unfold v10
    refine Keeps.ite ?_ ?_
    · exact keeps_modSlot k9
    · exact k6
  clear_value v10
  refine Keeps.ite ?_ ?_
  · exact h
  · refine Keeps.ite ?_ ?_
    · exact k4
    · refine Keeps.ite ?_ ?_
      · unfold v8
        exact keeps_modSlot k10
      · refine Keeps.ite ?_ ?_
        · exact k10
        · refine Keeps.ite ?_ ?_
          · unfold v8
            exact keeps_modSlot k10
          · exact keeps_rereads (keeps_beginSample k10)

theorem keeps_opMachineRecord {b : State} {a0 : State} (h : Keeps b a0) :
    Keeps b (opMachineRecord a0) := by
  unfold opMachineRecord
  refine Keeps.ite ?_ ?_
  · exact h
  · extract_lets v1 v2 v3
    have k2 : Keeps b v2 := by
      unfold v2
      refine Keeps.foldl ?_ ?_
      · exact h
      · intro w61 x62 k63
        exact keeps_announce k63
    clear_value v2
    exact Keeps.same k2 rfl rfl rfl rfl rfl

theorem keeps_opResyncWritten {b : State} {a0 : State} (h : Keeps b a0) :
    Keeps b (opResyncWritten a0) := by
  unfold opResyncWritten
  refine Keeps.ite ?_ ?_
  · exact h
  · extract_lets v1 v2 v3 v4 v5
    have k2 : Keeps b v2 := by
      unfold v2
      exact keeps_writeBytes h
    clear_value v2
    have k4 : Keeps b v4 := by
      unfold v4
      exact Keeps.same k2 rfl rfl rfl rfl rfl
    clear_value v4
    have k5 : Keeps b v5 := by
      unfold v5
      exact keeps_setFlag (keeps_raise k4)
    clear_value v5
    exact keeps_setFld (keeps_setFlag k5)

theorem keeps_opOxCommandFlit {b : State} {a0 : Packet} {a1 : State} (h : Keeps b a1) :
    Keeps b (opOxCommandFlit a0 a1) := by
  unfold opOxCommandFlit
  refine Keeps.ite ?_ ?_
  · exact keeps_takeOxFlit (keeps_arrived h)
  · exact h

theorem keeps_opCalRefine {b : State} {a0 : List (Nat × Int)} {a1 : State} (h : Keeps b a1) :
    Keeps b (opCalRefine a0 a1) := by
  unfold opCalRefine
  refine Keeps.ite ?_ ?_
  · exact h
  · extract_lets v1
    have k1 : Keeps b v1 := by
      unfold v1
      refine Keeps.foldl ?_ ?_
      · exact h
      · intro w61 x62 k63
        exact keeps_refineOne k63
    clear_value v1
    refine Keeps.ite ?_ ?_
    · exact keeps_publishCal k1
    · exact k1

theorem keeps_opTallyBoundary {b : State} {a0 : State} (h : Keeps b a0) :
    Keeps b (opTallyBoundary a0) := by
  unfold opTallyBoundary
  extract_lets v1 v2 v3 v4 v5 v6 v7 v8 v9 v10 v11
  have k2 : Keeps b v2 := by
    unfold v2
    refine Keeps.foldl ?_ ?_
    · exact h
    · intro w61 x62 k63
      exact keeps_opReclaimRelease k63
  clear_value v2
  have k5 : Keeps b v5 := by
    unfold v5
    exact keeps_latchTallies (keeps_henClose k2)
  clear_value v5
  have k6 : Keeps b v6 := by
    unfold v6
    exact keeps_setFld k5
  clear_value v6
  have k8 : Keeps b v8 := by
    unfold v8
    exact keeps_setFlag (keeps_setFld k6)
  clear_value v8
  have k11 : Keeps b v11 := by
    unfold v11
    exact Keeps.same k8 rfl rfl rfl rfl rfl
  clear_value v11
  refine Keeps.ite ?_ ?_
  · exact h
  · exact keeps_raise k11

theorem keeps_opTimeInvalid {b : State} {a0 : State} (h : Keeps b a0) :
    Keeps b (opTimeInvalid a0) := by
  unfold opTimeInvalid
  refine Keeps.ite ?_ ?_
  · exact h
  · extract_lets v1 v2 v3
    have k1 : Keeps b v1 := by
      unfold v1
      exact keeps_setFlag h
    clear_value v1
    have k3 : Keeps b v3 := by
      unfold v3
      exact keeps_raise (Keeps.same k1 rfl rfl rfl rfl rfl)
    clear_value v3
    refine Keeps.ite ?_ ?_
    · exact k3
    · exact keeps_setPps k3

theorem keeps_opAntennaEnd {b : State} {a0 : Nat} {a1 : State} (h : Keeps b a1) :
    Keeps b (opAntennaEnd a0 a1) := by
  unfold opAntennaEnd
  refine Keeps.ite ?_ ?_
  · exact h
  · exact keeps_opAntenna h

theorem keeps_opVbat {b : State} {a0 : Nat} {a1 : State} (h : Keeps b a1) :
    Keeps b (opVbat a0 a1) := by
  unfold opVbat
  extract_lets v1 v2
  have k2 : Keeps b v2 := by
    unfold v2
    exact keeps_setFld h
  clear_value v2
  refine Keeps.ite ?_ ?_
  · exact h
  · refine Keeps.ite ?_ ?_
    · exact keeps_raise (keeps_setFlag k2)
    · exact k2

theorem keeps_opPiezoImpact {b : State} {a0 : Nat} {a1 : State} (h : Keeps b a1) :
    Keeps b (opPiezoImpact a0 a1) := by
  unfold opPiezoImpact
  refine Keeps.ite ?_ ?_
  · exact h
  · extract_lets v1
    split
    · exact keeps_setPiezo h
    · extract_lets v61
      exact keeps_setPiezo h

theorem keeps_opFifoDrain {b : State} {a0 : State} {a1 : Op} (h : Keeps b a0) :
    Keeps b (opFifoDrain a0 a1) := by
  unfold opFifoDrain
  extract_lets v1 v2 v3 v4 v5 v6
  have k6 : Keeps b v6 := by
    unfold v6
    exact keeps_setFld (keeps_writeBytes h)
  clear_value v6
  refine Keeps.ite ?_ ?_
  · exact keeps_finish h
  · refine Keeps.ite ?_ ?_
    · exact keeps_finish h
    · exact keeps_finish (keeps_showFifo k6)

theorem keeps_opTxFailure {b : State} {a0 : Nat} {a1 : Bool} {a2 : Nat} {a3 : State} (h : Keeps b a3) :
    Keeps b (opTxFailure a0 a1 a2 a3) := by
  unfold opTxFailure
  split
  · exact h
  · extract_lets v1 v2
    have k1 : Keeps b v1 := by
      unfold v1
      exact keeps_setFld h
    clear_value v1
    have k2 : Keeps b v2 := by
      unfold v2
      split
      · refine Keeps.ite ?_ ?_
        · exact keeps_canEvent2 (keeps_canBufferDone (keeps_setFld k1))
        · refine Keeps.ite ?_ ?_
          · exact keeps_canBufferDone (keeps_setFld k1)
          · exact k1
      · refine Keeps.ite ?_ ?_
        · exact keeps_finishWaiter (keeps_canUnqueue k1)
        · exact k1
    clear_value v2
    exact keeps_canFrameEnd k2

theorem keeps_opMoisture {b : State} {a0 : List (Nat × List Int)} {a1 : State} (h : Keeps b a1) :
    Keeps b (opMoisture a0 a1) := by
  unfold opMoisture
  refine Keeps.ite ?_ ?_
  · exact h
  · extract_lets v1 v2 v3
    exact Keeps.same h rfl rfl rfl rfl rfl

theorem keeps_opSpeedDiscrepancy {b : State} {a0 : State} (h : Keeps b a0) :
    Keeps b (opSpeedDiscrepancy a0) := by
  unfold opSpeedDiscrepancy
  refine Keeps.ite ?_ ?_
  · exact h
  · extract_lets v1
    have k1 : Keeps b v1 := by
      unfold v1
      exact keeps_setFlag (keeps_setFlag h)
    clear_value v1
    exact keeps_raise k1

theorem keeps_opNavUnit {b : State} {a0 : Nat} {a1 : List Flit} {a2 : Bool} {a3 : Nat} {a4 : State} (h : Keeps b a4) :
    Keeps b (opNavUnit a0 a1 a2 a3 a4) := by
  unfold opNavUnit
  refine Keeps.ite ?_ ?_
  · exact h
  · extract_lets v1 v2 v3 v4 v5 v6 v7 v8 v9 v10 v11 v12
    have k8 : Keeps b v8 := by
      unfold v8
      exact keeps_bump h
    clear_value v8
    have k10 : Keeps b v10 := by
      unfold v10
      refine Keeps.ite ?_ ?_
      · exact Keeps.same k8 rfl rfl rfl rfl rfl
      · exact keeps_raiseOnce (keeps_bump h)
    clear_value v10
    refine Keeps.ite ?_ ?_
    · exact k10
    · exact keeps_gnssRecord k10

theorem keeps_opTftpRequest {b : State} {a0 : Bool} {a1 : List Byte} {a2 : Bool} {a3 : Option Nat} {a4 : Option Nat} {a5 : State} (h : Keeps b a5) :
    Keeps b (opTftpRequest a0 a1 a2 a3 a4 a5) := by
  unfold opTftpRequest
  refine Keeps.ite ?_ ?_
  · exact h
  · refine Keeps.ite ?_ ?_
    · exact keeps_answerWith h
    · refine Keeps.ite ?_ ?_
      · exact keeps_answerWith h
      · refine Keeps.ite ?_ ?_
        · exact h
        · extract_lets v1 v2 v3
          have k3 : Keeps b v3 := by
            unfold v3
            exact Keeps.same h rfl rfl rfl rfl rfl
          clear_value v3
          refine Keeps.ite ?_ ?_
          · exact keeps_answerWith k3
          · exact keeps_answerWith k3

theorem keeps_opIgnChange {b : State} {a0 : Bool} {a1 : State} (h : Keeps b a1) :
    Keeps b (opIgnChange a0 a1) := by
  unfold opIgnChange
  exact Keeps.same h rfl rfl rfl rfl rfl

theorem keeps_opStageDiscard {b : State} {a0 : State} {a1 : Op} (h : Keeps b a0) :
    Keeps b (opStageDiscard a0 a1) := by
  unfold opStageDiscard
  refine Keeps.ite ?_ ?_
  · exact keeps_finish h
  · refine Keeps.ite ?_ ?_
    · exact keeps_finish h
    · exact keeps_finish (keeps_dropStage h)

theorem keeps_opChallenge {b : State} {a0 : Nat} {a1 : Nat} {a2 : List Byte} {a3 : State} (h : Keeps b a3) :
    Keeps b (opChallenge a0 a1 a2 a3) := by
  unfold opChallenge
  refine Keeps.ite ?_ ?_
  · exact h
  · extract_lets v1 v2 v3
    have k3 : Keeps b v3 := by
      unfold v3
      exact Keeps.same h rfl rfl rfl rfl rfl
    clear_value v3
    refine Keeps.ite ?_ ?_
    · exact keeps_bump h
    · exact keeps_announce k3

theorem keeps_opDspHpd {b : State} {a0 : Bool} {a1 : State} (h : Keeps b a1) :
    Keeps b (opDspHpd a0 a1) := by
  unfold opDspHpd
  extract_lets v1 v2 v3 v4 v5 v6
  have k1 : Keeps b v1 := by
    unfold v1
    exact keeps_dspSettle h
  clear_value v1
  have k4 : Keeps b v4 := by
    unfold v4
    exact keeps_setDsp k1
  clear_value v4
  have k5 : Keeps b v5 := by
    unfold v5
    exact keeps_setFlag k4
  clear_value v5
  refine Keeps.ite ?_ ?_
  · exact k4
  · refine Keeps.ite ?_ ?_
    · exact keeps_setFlag (keeps_setDsp k5)
    · exact k5

theorem keeps_opRebindTimeout {b : State} {a0 : Nat} {a1 : Nat} {a2 : State} (h : Keeps b a2) :
    Keeps b (opRebindTimeout a0 a1 a2) := by
  unfold opRebindTimeout
  split
  · exact h
  · refine Keeps.ite ?_ ?_
    · exact h
    · extract_lets v1 v2
      have k2 : Keeps b v2 := by
        unfold v2
        exact Keeps.same h rfl rfl rfl rfl rfl
      clear_value v2
      exact keeps_finishWaiter k2

theorem keeps_opSessionClose {b : State} {a0 : State} {a1 : Op} (h : Keeps b a0) :
    Keeps b (opSessionClose a0 a1) := by
  unfold opSessionClose
  refine Keeps.ite ?_ ?_
  · exact keeps_finish h
  · exact keeps_finish (keeps_closeSession h)

theorem keeps_opHenScanComplete {b : State} {a0 : List Nat} {a1 : State} (h : Keeps b a1) :
    Keeps b (opHenScanComplete a0 a1) := by
  unfold opHenScanComplete
  refine Keeps.ite ?_ ?_
  · exact h
  · extract_lets v1 v2 v3 v4 v5
    have k4 : Keeps b v4 := by
      unfold v4
      exact Keeps.same h rfl rfl rfl rfl rfl
    clear_value v4
    have k5 : Keeps b v5 := by
      unfold v5
      exact keeps_henUsed (keeps_setFld (keeps_setFlag k4))
    clear_value v5
    refine Keeps.ite ?_ ?_
    · exact k5
    · exact keeps_raise k5

end Sys2Proof.Machine
end

