-- ==== Sys2Proof/Laws/KeepsExec.lean ====
section
/-!
SUPPORT. Laws/KeepsExec.lean: every meaning answers a next state and leaves in order what Laws/Keeps.lean
names, one lemma for each.
-/

namespace Sys2Proof.Machine

theorem keeps_execCameraTrigger (t : Nat) (n : Fin 16) (s : State) :
    ∃ w, execCameraTrigger t n s = .next w ∧ Keeps s w := by
  have k := keeps_tick (t := t) (Keeps.refl s)
  exact ⟨_, rfl, keeps_opTrigger k⟩

theorem keeps_execFusTrgWrite (t : Nat) (n : Fin 16) (phase : Bool) (v : Word) (s : State) :
    ∃ w, execFusTrgWrite t n phase v s = .next w ∧ Keeps s w := by
  have k := keeps_tick (t := t) (Keeps.refl s)
  exact ⟨_, rfl, keeps_opTrgWrite k⟩

theorem keeps_execCamWideWrite (t : Nat) (v : Word) (s : State) :
    ∃ w, execCamWideWrite t v s = .next w ∧ Keeps s w := by
  have k := keeps_tick (t := t) (Keeps.refl s)
  exact ⟨_, rfl, keeps_opWideWrite k⟩

theorem keeps_execCamPortEnable (t : Nat) (n : Fin 16) (v : Word) (s : State) :
    ∃ w, execCamPortEnable t n v s = .next w ∧ Keeps s w := by
  have k := keeps_tick (t := t) (Keeps.refl s)
  exact ⟨_, rfl, keeps_opPortCfgWrite k⟩

theorem keeps_execCamSettingWrite (t : Nat) (n : Fin 16) (i : Fin 13) (v : Word) (s : State) :
    ∃ w, execCamSettingWrite t n i v s = .next w ∧ Keeps s w := by
  have k := keeps_tick (t := t) (Keeps.refl s)
  exact ⟨_, rfl, keeps_opSettingWrite k⟩

theorem keeps_execCamI2cStart (t : Nat) (n : Fin 16) (v : Word) (s : State) :
    ∃ w, execCamI2cStart t n v s = .next w ∧ Keeps s w := by
  have k := keeps_tick (t := t) (Keeps.refl s)
  exact ⟨_, rfl, keeps_opI2cStart k⟩

theorem keeps_execCamI2cDone (t : Nat) (n : Fin 16) (ack : Bool) (byte : Byte) (s : State) :
    ∃ w, execCamI2cDone t n ack byte s = .next w ∧ Keeps s w := by
  have k := keeps_tick (t := t) (Keeps.refl s)
  exact ⟨_, rfl, keeps_opI2cDone k⟩

theorem keeps_execCamLinkLost (t : Nat) (n : Fin 16) (s : State) :
    ∃ w, execCamLinkLost t n s = .next w ∧ Keeps s w := by
  have k := keeps_tick (t := t) (Keeps.refl s)
  exact ⟨_, rfl, keeps_opLinkLost k⟩

theorem keeps_execCamLinkRestored (t : Nat) (n : Fin 16) (s : State) :
    ∃ w, execCamLinkRestored t n s = .next w ∧ Keeps s w := by
  have k := keeps_tick (t := t) (Keeps.refl s)
  exact ⟨_, rfl, keeps_opLinkRestored k⟩

theorem keeps_execCsiFrameStart (t : Nat) (n : Fin 16) (s : State) :
    ∃ w, execCsiFrameStart t n s = .next w ∧ Keeps s w := by
  have k := keeps_tick (t := t) (Keeps.refl s)
  exact ⟨_, rfl, keeps_opFrameStart k⟩

theorem keeps_execCsiLongPacket (t : Nat) (n : Fin 16) (vc dt : Nat) (badHeader badCrc oneFlip : Bool) (sites : List Nat) (s : State) :
    ∃ w, execCsiLongPacket t n vc dt badHeader badCrc oneFlip sites s = .next w ∧ Keeps s w := by
  have k := keeps_tick (t := t) (Keeps.refl s)
  exact ⟨_, rfl, keeps_opLongPacket k⟩

theorem keeps_execTapLineSend (t : Nat) (n : Fin 16) (tapB : Bool) (s : State) :
    ∃ w, execTapLineSend t n tapB s = .next w ∧ Keeps s w := by
  have k := keeps_tick (t := t) (Keeps.refl s)
  exact ⟨_, rfl, keeps_opTapLine k⟩

theorem keeps_execCsiFrameEnd (t : Nat) (n : Fin 16) (s : State) :
    ∃ w, execCsiFrameEnd t n s = .next w ∧ Keeps s w := by
  have k := keeps_tick (t := t) (Keeps.refl s)
  exact ⟨_, rfl, keeps_opFrameEnd k⟩

theorem keeps_execCamFrameDeadline (t : Nat) (n : Fin 16) (s : State) :
    ∃ w, execCamFrameDeadline t n s = .next w ∧ Keeps s w := by
  have k := keeps_tick (t := t) (Keeps.refl s)
  exact ⟨_, rfl, keeps_opFrameDeadline k⟩

theorem keeps_execCamStatsReady (t : Nat) (n : Fin 16) (s : State) :
    ∃ w, execCamStatsReady t n s = .next w ∧ Keeps s w := by
  have k := keeps_tick (t := t) (Keeps.refl s)
  exact ⟨_, rfl, keeps_opStatsReady k⟩

theorem keeps_execCanOffbusSet (t : Nat) (c : Fin 12) (v : Word) (s : State) :
    ∃ w, execCanOffbusSet t c v s = .next w ∧ Keeps s w := by
  have k := keeps_tick (t := t) (Keeps.refl s)
  exact ⟨_, rfl, keeps_opCanCfgWrite k⟩

theorem keeps_execCanBusJoin (t : Nat) (c : Fin 12) (s : State) :
    ∃ w, execCanBusJoin t c s = .next w ∧ Keeps s w := by
  have k := keeps_tick (t := t) (Keeps.refl s)
  exact ⟨_, rfl, keeps_opCanJoin k⟩

theorem keeps_execCanAbdStart (t : Nat) (c : Fin 12) (v : Word) (s : State) :
    ∃ w, execCanAbdStart t c v s = .next w ∧ Keeps s w := by
  have k := keeps_tick (t := t) (Keeps.refl s)
  exact ⟨_, rfl, keeps_opCanCfgWrite k⟩

theorem keeps_execCanAbdCandidateTimeout (t : Nat) (c : Fin 12) (error : Bool) (s : State) :
    ∃ w, execCanAbdCandidateTimeout t c error s = .next w ∧ Keeps s w := by
  have k := keeps_tick (t := t) (Keeps.refl s)
  exact ⟨_, rfl, keeps_opAbdTimeout k⟩

theorem keeps_execCanTtTrigger (t : Nat) (c : Fin 2) (i : Fin 32) (busy : Bool) (s : State) :
    ∃ w, execCanTtTrigger t c i busy s = .next w ∧ Keeps s w := by
  have k := keeps_tick (t := t) (Keeps.refl s)
  exact ⟨_, rfl, keeps_opTtTrigger k⟩

theorem keeps_execCanTtReference (t : Nat) (c : Fin 2) (won : Bool) (s : State) :
    ∃ w, execCanTtReference t c won s = .next w ∧ Keeps s w := by
  have k := keeps_tick (t := t) (Keeps.refl s)
  exact ⟨_, rfl, keeps_opTtReference k⟩

theorem keeps_execCanFrameReceived (t : Nat) (c : Fin 12) (head : Flit) (data : List Byte) (sofUs : Nat) (rate : Fin 4) (rec : Nat) (s : State) :
    ∃ w, execCanFrameReceived t c head data sofUs rate rec s = .next w ∧ Keeps s w := by
  have k := keeps_tick (t := t) (Keeps.refl s)
  exact ⟨_, rfl, keeps_opCanReceived k⟩

theorem keeps_execCanFifoAckWrite (t : Nat) (c : Fin 12) (v : Word) (s : State) :
    ∃ w, execCanFifoAckWrite t c v s = .next w ∧ Keeps s w := by
  have k := keeps_tick (t := t) (Keeps.refl s)
  exact ⟨_, rfl, keeps_opFifoAck k⟩

theorem keeps_execCanTxreqWrite (t : Nat) (c : Fin 12) (v : Word) (s : State) :
    ∃ w, execCanTxreqWrite t c v s = .next w ∧ Keeps s w := by
  have k := keeps_tick (t := t) (Keeps.refl s)
  exact ⟨_, rfl, keeps_opTxReqWrite k⟩

theorem keeps_execCanTxcanWrite (t : Nat) (c : Fin 12) (v : Word) (s : State) :
    ∃ w, execCanTxcanWrite t c v s = .next w ∧ Keeps s w := by
  have k := keeps_tick (t := t) (Keeps.refl s)
  exact ⟨_, rfl, keeps_opTxCanWrite k⟩

theorem keeps_execCanTxStart (t : Nat) (c : Fin 12) (fits : Bool) (s : State) :
    ∃ w, execCanTxStart t c fits s = .next w ∧ Keeps s w := by
  have k := keeps_tick (t := t) (Keeps.refl s)
  exact ⟨_, rfl, keeps_opTxStart k⟩

theorem keeps_execCanFrameSent (t : Nat) (c : Fin 12) (tec : Nat) (s : State) :
    ∃ w, execCanFrameSent t c tec s = .next w ∧ Keeps s w := by
  have k := keeps_tick (t := t) (Keeps.refl s)
  exact ⟨_, rfl, keeps_opFrameSent k⟩

theorem keeps_execCanTxFailure (t : Nat) (c : Fin 12) (arb : Bool) (tec : Nat) (s : State) :
    ∃ w, execCanTxFailure t c arb tec s = .next w ∧ Keeps s w := by
  have k := keeps_tick (t := t) (Keeps.refl s)
  exact ⟨_, rfl, keeps_opTxFailure k⟩

theorem keeps_execCanTxrtFlit (t : Nat) (p : Packet) (s : State) :
    ∃ w, execCanTxrtFlit t p s = .next w ∧ Keeps s w := by
  have k := keeps_tick (t := t) (Keeps.refl s)
  exact ⟨_, rfl, keeps_opTxrtFlit k⟩

theorem keeps_execCanErrorStateChange (t : Nat) (c : Fin 12) (b : Fin 3) (tec rec : Nat) (s : State) :
    ∃ w, execCanErrorStateChange t c b tec rec s = .next w ∧ Keeps s w := by
  have k := keeps_tick (t := t) (Keeps.refl s)
  exact ⟨_, rfl, keeps_opErrorState k⟩

theorem keeps_execCanBusoffRecovered (t : Nat) (c : Fin 12) (s : State) :
    ∃ w, execCanBusoffRecovered t c s = .next w ∧ Keeps s w := by
  have k := keeps_tick (t := t) (Keeps.refl s)
  exact ⟨_, rfl, keeps_opBusoffRecovered k⟩

theorem keeps_execCanTx (t : Nat) (c : Fin 4096) (tag : Nat) (ecc : Bool) (s : State) :
    ∃ w, execCanTx t c tag ecc s = .next w ∧ Keeps s w := by
  have k := keeps_tick (t := t) (Keeps.refl s)
  exact ⟨_, rfl, keeps_beginOp (fun _ _ h => keeps_opCanTx h) k⟩

theorem keeps_execCanFifoDrain (t : Nat) (c : Fin 4096) (tag : Nat) (s : State) :
    ∃ w, execCanFifoDrain t c tag s = .next w ∧ Keeps s w := by
  have k := keeps_tick (t := t) (Keeps.refl s)
  exact ⟨_, rfl, keeps_beginOp (fun _ _ h => keeps_opFifoDrain h) k⟩

theorem keeps_execCenSelWrite (t : Nat) (v : Word) (s : State) :
    ∃ w, execCenSelWrite t v s = .next w ∧ Keeps s w := by
  have k := keeps_tick (t := t) (Keeps.refl s)
  exact ⟨_, rfl, keeps_opCenSel k⟩

theorem keeps_execCenRecRead (t : Nat) (i : Fin 512) (s : State) :
    ∃ w, execCenRecRead t i s = .next w ∧ Keeps s w := by
  have k := keeps_tick (t := t) (Keeps.refl s)
  exact ⟨_, rfl, keeps_opRecRead k⟩

theorem keeps_execCenRecWrite (t : Nat) (i : Fin 512) (v : Word) (s : State) :
    ∃ w, execCenRecWrite t i v s = .next w ∧ Keeps s w := by
  have k := keeps_tick (t := t) (Keeps.refl s)
  exact ⟨_, rfl, keeps_opRecWrite k⟩

theorem keeps_execCenBankWrite (t : Nat) (i : Fin 256) (v : Word) (s : State) :
    ∃ w, execCenBankWrite t i v s = .next w ∧ Keeps s w := by
  have k := keeps_tick (t := t) (Keeps.refl s)
  exact ⟨_, rfl, keeps_opBankWrite k⟩

theorem keeps_execCenEnable (t : Nat) (s : State) :
    ∃ w, execCenEnable t s = .next w ∧ Keeps s w := by
  have k := keeps_tick (t := t) (Keeps.refl s)
  exact ⟨_, rfl, keeps_opCenAdmit k⟩

theorem keeps_execCenRearm (t : Nat) (s : State) :
    ∃ w, execCenRearm t s = .next w ∧ Keeps s w := by
  have k := keeps_tick (t := t) (Keeps.refl s)
  exact ⟨_, rfl, keeps_opCenAdmit k⟩

theorem keeps_execCenDisable (t : Nat) (s : State) :
    ∃ w, execCenDisable t s = .next w ∧ Keeps s w := by
  have k := keeps_tick (t := t) (Keeps.refl s)
  exact ⟨_, rfl, keeps_opCenDisable k⟩

theorem keeps_execCenSwap (t : Nat) (s : State) :
    ∃ w, execCenSwap t s = .next w ∧ Keeps s w := by
  have k := keeps_tick (t := t) (Keeps.refl s)
  exact ⟨_, rfl, keeps_opCenSwap k⟩

theorem keeps_execLoopEnable (t : Nat) (c : Fin 4096) (tag : Nat) (s : State) :
    ∃ w, execLoopEnable t c tag s = .next w ∧ Keeps s w := by
  have k := keeps_tick (t := t) (Keeps.refl s)
  exact ⟨_, rfl, keeps_beginOp (fun _ _ h => keeps_opLoopAdmit h) k⟩

theorem keeps_execLoopRearm (t : Nat) (c : Fin 4096) (tag : Nat) (s : State) :
    ∃ w, execLoopRearm t c tag s = .next w ∧ Keeps s w := by
  have k := keeps_tick (t := t) (Keeps.refl s)
  exact ⟨_, rfl, keeps_beginOp (fun _ _ h => keeps_opLoopAdmit h) k⟩

theorem keeps_execLoopDisable (t : Nat) (c : Fin 4096) (tag : Nat) (s : State) :
    ∃ w, execLoopDisable t c tag s = .next w ∧ Keeps s w := by
  have k := keeps_tick (t := t) (Keeps.refl s)
  exact ⟨_, rfl, keeps_beginOp (fun _ _ h => keeps_opLoopDisable h) k⟩

theorem keeps_execLoopSwap (t : Nat) (c : Fin 4096) (tag : Nat) (s : State) :
    ∃ w, execLoopSwap t c tag s = .next w ∧ Keeps s w := by
  have k := keeps_tick (t := t) (Keeps.refl s)
  exact ⟨_, rfl, keeps_beginOp (fun _ _ h => keeps_opLoopSwap h) k⟩

theorem keeps_execLoopBankWrite (t : Nat) (c : Fin 4096) (tag : Nat) (ecc : Bool) (s : State) :
    ∃ w, execLoopBankWrite t c tag ecc s = .next w ∧ Keeps s w := by
  have k := keeps_tick (t := t) (Keeps.refl s)
  exact ⟨_, rfl, keeps_beginOp (fun _ _ h => keeps_opLoopBankWrite h) k⟩

theorem keeps_execLoopRead (t : Nat) (c : Fin 4096) (tag : Nat) (ecc : Bool) (s : State) :
    ∃ w, execLoopRead t c tag ecc s = .next w ∧ Keeps s w := by
  have k := keeps_tick (t := t) (Keeps.refl s)
  exact ⟨_, rfl, keeps_beginOp (fun _ _ h => keeps_opLoopRead h) k⟩

theorem keeps_execClkFreqWrite (t : Nat) (d : Fin 17) (v : Word) (s : State) :
    ∃ w, execClkFreqWrite t d v s = .next w ∧ Keeps s w := by
  have k := keeps_tick (t := t) (Keeps.refl s)
  exact ⟨_, rfl, keeps_opFreqWrite k⟩

theorem keeps_execPllLock (t : Nat) (d : Fin 17) (s : State) :
    ∃ w, execPllLock t d s = .next w ∧ Keeps s w := by
  have k := keeps_tick (t := t) (Keeps.refl s)
  exact ⟨_, rfl, keeps_opPllLock k⟩

theorem keeps_execRelockWindow (t : Nat) (d : Fin 17) (ok : Bool) (s : State) :
    ∃ w, execRelockWindow t d ok s = .next w ∧ Keeps s w := by
  have k := keeps_tick (t := t) (Keeps.refl s)
  exact ⟨_, rfl, keeps_opRelockWindow k⟩

theorem keeps_execRelockTimeout (t : Nat) (d : Fin 17) (s : State) :
    ∃ w, execRelockTimeout t d s = .next w ∧ Keeps s w := by
  have k := keeps_tick (t := t) (Keeps.refl s)
  exact ⟨_, rfl, keeps_opRelockTimeout k⟩

theorem keeps_execRelockRetry (t : Nat) (d : Fin 17) (s : State) :
    ∃ w, execRelockRetry t d s = .next w ∧ Keeps s w := by
  have k := keeps_tick (t := t) (Keeps.refl s)
  exact ⟨_, rfl, keeps_opRelockRetry k⟩

theorem keeps_execPllLockLoss (t : Nat) (d : Fin 17) (s : State) :
    ∃ w, execPllLockLoss t d s = .next w ∧ Keeps s w := by
  have k := keeps_tick (t := t) (Keeps.refl s)
  exact ⟨_, rfl, keeps_opLockLoss k⟩

theorem keeps_execOscJudgeWindow (t : Nat) (o : Fin 4) (count : Nat) (s : State) :
    ∃ w, execOscJudgeWindow t o count s = .next w ∧ Keeps s w := by
  have k := keeps_tick (t := t) (Keeps.refl s)
  exact ⟨_, rfl, keeps_opJudge k⟩

theorem keeps_execBlockSleep (t : Nat) (b : Fin 21) (s : State) :
    ∃ w, execBlockSleep t b s = .next w ∧ Keeps s w := by
  have k := keeps_tick (t := t) (Keeps.refl s)
  exact ⟨_, rfl, keeps_opBlockSleep k⟩

theorem keeps_execClkObsWrite (t : Nat) (v : Word) (s : State) :
    ∃ w, execClkObsWrite t v s = .next w ∧ Keeps s w := by
  have k := keeps_tick (t := t) (Keeps.refl s)
  exact ⟨_, rfl, keeps_opObsWrite k⟩

theorem keeps_execLegacyPeripheralAccess (t : Nat) (op : LegacyOp) (s : State) :
    ∃ w, execLegacyPeripheralAccess t op s = .next w ∧ Keeps s w := by
  have k := keeps_tick (t := t) (Keeps.refl s)
  exact ⟨_, rfl, keeps_opLegacy k⟩

theorem keeps_execLegacyUnemulatedAccess (t : Nat) (addr : Word) (store : Bool) (s : State) :
    ∃ w, execLegacyUnemulatedAccess t addr store s = .next w ∧ Keeps s w := by
  have k := keeps_tick (t := t) (Keeps.refl s)
  exact ⟨_, rfl, keeps_opUnemulated k⟩

theorem keeps_execLegacyWatchdogExpiry (t : Nat) (s : State) :
    ∃ w, execLegacyWatchdogExpiry t s = .next w ∧ Keeps s w := by
  have k := keeps_tick (t := t) (Keeps.refl s)
  exact ⟨_, rfl, keeps_opLegacyWatchdog k⟩

theorem keeps_execPiezoImpact (t : Nat) (ch : Fin 16) (s : State) :
    ∃ w, execPiezoImpact t ch s = .next w ∧ Keeps s w := by
  have k := keeps_tick (t := t) (Keeps.refl s)
  exact ⟨_, rfl, keeps_opPiezoImpact k⟩

theorem keeps_execPiezoWindowClose (t : Nat) (ch : Fin 16) (grain chaff : Nat) (s : State) :
    ∃ w, execPiezoWindowClose t ch grain chaff s = .next w ∧ Keeps s w := by
  have k := keeps_tick (t := t) (Keeps.refl s)
  exact ⟨_, rfl, keeps_opPiezoClose k⟩

theorem keeps_execPiezoBiasFault (t : Nat) (ch : Fin 16) (began : Nat) (s : State) :
    ∃ w, execPiezoBiasFault t ch began s = .next w ∧ Keeps s w := by
  have k := keeps_tick (t := t) (Keeps.refl s)
  exact ⟨_, rfl, keeps_opPiezoBias k⟩

theorem keeps_execLossInterval (t : Nat) (s : State) :
    ∃ w, execLossInterval t s = .next w ∧ Keeps s w := by
  have k := keeps_tick (t := t) (Keeps.refl s)
  exact ⟨_, rfl, keeps_opLossInterval k⟩

theorem keeps_execMassFlowInterval (t : Nat) (u : List (List Int)) (v : List Nat) (s : State) :
    ∃ w, execMassFlowInterval t u v s = .next w ∧ Keeps s w := by
  have k := keeps_tick (t := t) (Keeps.refl s)
  exact ⟨_, rfl, keeps_opMassFlow k⟩

theorem keeps_execMassFlowZeroUpdate (t : Nat) (s : State) :
    ∃ w, execMassFlowZeroUpdate t s = .next w ∧ Keeps s w := by
  have k := keeps_tick (t := t) (Keeps.refl s)
  exact ⟨_, rfl, keeps_opMassZero k⟩

theorem keeps_execMoistureInterval (t : Nat) (conv : List (Nat × List Int)) (s : State) :
    ∃ w, execMoistureInterval t conv s = .next w ∧ Keeps s w := by
  have k := keeps_tick (t := t) (Keeps.refl s)
  exact ⟨_, rfl, keeps_opMoisture k⟩

theorem keeps_execForecastFramePublish (t : Nat) (feed conf : List Nat) (covered : Nat) (meas : List DrumRead) (s : State) :
    ∃ w, execForecastFramePublish t feed conf covered meas s = .next w ∧ Keeps s w := by
  have k := keeps_tick (t := t) (Keeps.refl s)
  exact ⟨_, rfl, keeps_opForecastPublish k⟩

theorem keeps_execForecastStale (t : Nat) (s : State) :
    ∃ w, execForecastStale t s = .next w ∧ Keeps s w := by
  have k := keeps_tick (t := t) (Keeps.refl s)
  exact ⟨_, rfl, keeps_opForecastStale k⟩

theorem keeps_execFusFcstGainrst (t : Nat) (v : Word) (s : State) :
    ∃ w, execFusFcstGainrst t v s = .next w ∧ Keeps s w := by
  have k := keeps_tick (t := t) (Keeps.refl s)
  exact ⟨_, rfl, keeps_opFcstCfgWrite k⟩

theorem keeps_execFusCropWrite (t : Nat) (v : Word) (s : State) :
    ∃ w, execFusCropWrite t v s = .next w ∧ Keeps s w := by
  have k := keeps_tick (t := t) (Keeps.refl s)
  exact ⟨_, rfl, keeps_opCropWrite k⟩

theorem keeps_execYieldCellClose (t : Nat) (height : Int) (s : State) :
    ∃ w, execYieldCellClose t height s = .next w ∧ Keeps s w := by
  have k := keeps_tick (t := t) (Keeps.refl s)
  exact ⟨_, rfl, keeps_opYieldClose k⟩

theorem keeps_execYieldCellWrite (t : Nat) (s : State) :
    ∃ w, execYieldCellWrite t s = .next w ∧ Keeps s w := by
  have k := keeps_tick (t := t) (Keeps.refl s)
  exact ⟨_, rfl, keeps_opYieldWrite k⟩

theorem keeps_execFusYieldEnable (t : Nat) (v : Word) (s : State) :
    ∃ w, execFusYieldEnable t v s = .next w ∧ Keeps s w := by
  have k := keeps_tick (t := t) (Keeps.refl s)
  exact ⟨_, rfl, keeps_opYieldCtlWrite k⟩

theorem keeps_execCtxEnable (t : Nat) (c : Fin 4096) (s : State) :
    ∃ w, execCtxEnable t c s = .next w ∧ Keeps s w := by
  have k := keeps_tick (t := t) (Keeps.refl s)
  exact ⟨_, rfl, keeps_opCtxEnable k⟩

theorem keeps_execCtxDisable (t : Nat) (c : Fin 4096) (s : State) :
    ∃ w, execCtxDisable t c s = .next w ∧ Keeps s w := by
  have k := keeps_tick (t := t) (Keeps.refl s)
  exact ⟨_, rfl, keeps_opCtxDisable k⟩

theorem keeps_execContextDrained (t : Nat) (c : Fin 4096) (s : State) :
    ∃ w, execContextDrained t c s = .next w ∧ Keeps s w := by
  have k := keeps_tick (t := t) (Keeps.refl s)
  exact ⟨_, rfl, keeps_opCtxDrained k⟩

theorem keeps_execCtxConfigWrite (t : Nat) (c : Fin 4096) (r : CtxReg) (v : Word) (s : State) :
    ∃ w, execCtxConfigWrite t c r v s = .next w ∧ Keeps s w := by
  have k := keeps_tick (t := t) (Keeps.refl s)
  exact ⟨_, rfl, keeps_opCtxConfig k⟩

theorem keeps_execDbSqTail (t : Nat) (c : Fin 4096) (v : Word) (stores : List (Nat × Byte)) (s : State) :
    ∃ w, execDbSqTail t c v stores s = .next w ∧ Keeps s w := by
  refine ⟨_, rfl, keeps_opSqTail ?_⟩
  have k := keeps_tick (t := t) (Keeps.refl s)
  exact ⟨k.pending, k.time, k.free, fun h => memOk_foldl_dramPut stores (k.mem h), k.regs⟩

theorem keeps_execDbCqHead (t : Nat) (c : Fin 4096) (v : Word) (s : State) :
    ∃ w, execDbCqHead t c v s = .next w ∧ Keeps s w := by
  have k := keeps_tick (t := t) (Keeps.refl s)
  exact ⟨_, rfl, keeps_opCqHead k⟩

theorem keeps_execIrqCoalesceTimer (t : Nat) (c : Fin 4096) (s : State) :
    ∃ w, execIrqCoalesceTimer t c s = .next w ∧ Keeps s w := by
  have k := keeps_tick (t := t) (Keeps.refl s)
  exact ⟨_, rfl, keeps_updateLine k⟩

theorem keeps_execDescriptorRead (t : Nat) (c : Fin 4096) (ecc : Bool) (s : State) :
    ∃ w, execDescriptorRead t c ecc s = .next w ∧ Keeps s w := by
  have k := keeps_tick (t := t) (Keeps.refl s)
  exact ⟨_, rfl, keeps_opDescriptorRead k⟩

theorem keeps_execNop (t : Nat) (c : Fin 4096) (tag : Nat) (s : State) :
    ∃ w, execNop t c tag s = .next w ∧ Keeps s w := by
  have k := keeps_tick (t := t) (Keeps.refl s)
  exact ⟨_, rfl, keeps_beginOp (fun _ _ h => keeps_opNop h) k⟩

theorem keeps_execCancel (t : Nat) (c : Fin 4096) (tag : Nat) (s : State) :
    ∃ w, execCancel t c tag s = .next w ∧ Keeps s w := by
  have k := keeps_tick (t := t) (Keeps.refl s)
  exact ⟨_, rfl, keeps_opCancel k⟩

theorem keeps_execOperationComplete (t : Nat) (c : Fin 4096) (tag : Nat) (s : State) :
    ∃ w, execOperationComplete t c tag s = .next w ∧ Keeps s w := by
  have k := keeps_tick (t := t) (Keeps.refl s)
  exact ⟨_, rfl, keeps_opComplete k⟩

theorem keeps_execOperationDeadline (t : Nat) (c : Fin 4096) (tag : Nat) (s : State) :
    ∃ w, execOperationDeadline t c tag s = .next w ∧ Keeps s w := by
  have k := keeps_tick (t := t) (Keeps.refl s)
  exact ⟨_, rfl, keeps_opDeadline k⟩

theorem keeps_execDspOn (t : Nat) (s : State) :
    ∃ w, execDspOn t s = .next w ∧ Keeps s w := by
  have k := keeps_tick (t := t) (Keeps.refl s)
  exact ⟨_, rfl, keeps_opDspOn k⟩

theorem keeps_execDspOff (t : Nat) (s : State) :
    ∃ w, execDspOff t s = .next w ∧ Keeps s w := by
  have k := keeps_tick (t := t) (Keeps.refl s)
  exact ⟨_, rfl, keeps_opDspOff k⟩

theorem keeps_execDspLinkTraining (t : Nat) (s : State) :
    ∃ w, execDspLinkTraining t s = .next w ∧ Keeps s w := by
  have k := keeps_tick (t := t) (Keeps.refl s)
  exact ⟨_, rfl, keeps_opDspTraining k⟩

theorem keeps_execDspTrainingEnd (t : Nat) (ok : Bool) (s : State) :
    ∃ w, execDspTrainingEnd t ok s = .next w ∧ Keeps s w := by
  have k := keeps_tick (t := t) (Keeps.refl s)
  exact ⟨_, rfl, keeps_opDspTrainingEnd k⟩

theorem keeps_execDspHpdChange (t : Nat) (level : Bool) (s : State) :
    ∃ w, execDspHpdChange t level s = .next w ∧ Keeps s w := by
  have k := keeps_tick (t := t) (Keeps.refl s)
  exact ⟨_, rfl, keeps_opDspHpd k⟩

theorem keeps_execDspVerticalStart (t : Nat) (late : List Nat) (s : State) :
    ∃ w, execDspVerticalStart t late s = .next w ∧ Keeps s w := by
  have k := keeps_tick (t := t) (Keeps.refl s)
  exact ⟨_, rfl, keeps_opDspVertical k⟩

theorem keeps_execDspBacklightDelay (t : Nat) (s : State) :
    ∃ w, execDspBacklightDelay t s = .next w ∧ Keeps s w := by
  have k := keeps_tick (t := t) (Keeps.refl s)
  exact ⟨_, rfl, keeps_opDspBacklight k⟩

theorem keeps_execSweepOverrun (t : Nat) (s : State) :
    ∃ w, execSweepOverrun t s = .next w ∧ Keeps s w := by
  have k := keeps_tick (t := t) (Keeps.refl s)
  exact ⟨_, rfl, keeps_opSweepOverrun k⟩

theorem keeps_execDigestSweepStart (t : Nat) (s : State) :
    ∃ w, execDigestSweepStart t s = .next w ∧ Keeps s w := by
  have k := keeps_tick (t := t) (Keeps.refl s)
  exact ⟨_, rfl, keeps_opSweepStart k⟩

theorem keeps_execDigestSweepPublish (t : Nat) (ecc : List BrickError) (upsets : List (Nat × Nat × Nat)) (s : State) :
    ∃ w, execDigestSweepPublish t ecc upsets s = .next w ∧ Keeps s w := by
  have k := keeps_tick (t := t) (Keeps.refl s)
  exact ⟨_, rfl, keeps_opSweepPublish k⟩

theorem keeps_execCfgWrite (t : Nat) (c : Fin 4096) (tag : Nat) (ecc : Bool) (s : State) :
    ∃ w, execCfgWrite t c tag ecc s = .next w ∧ Keeps s w := by
  have k := keeps_tick (t := t) (Keeps.refl s)
  exact ⟨_, rfl, keeps_beginOp (fun _ _ h => keeps_opCfgWrite h) k⟩

theorem keeps_execCfgRead (t : Nat) (c : Fin 4096) (tag : Nat) (ecc : Bool) (s : State) :
    ∃ w, execCfgRead t c tag ecc s = .next w ∧ Keeps s w := by
  have k := keeps_tick (t := t) (Keeps.refl s)
  exact ⟨_, rfl, keeps_beginOp (fun _ _ h => keeps_opCfgRead h) k⟩

theorem keeps_execStageDiscard (t : Nat) (c : Fin 4096) (tag : Nat) (s : State) :
    ∃ w, execStageDiscard t c tag s = .next w ∧ Keeps s w := by
  have k := keeps_tick (t := t) (Keeps.refl s)
  exact ⟨_, rfl, keeps_beginOp (fun _ _ h => keeps_opStageDiscard h) k⟩

theorem keeps_execMorActArm (t : Nat) (s : State) :
    ∃ w, execMorActArm t s = .next w ∧ Keeps s w := by
  have k := keeps_tick (t := t) (Keeps.refl s)
  exact ⟨_, rfl, keeps_opActArm k⟩

theorem keeps_execMorActDisarm (t : Nat) (s : State) :
    ∃ w, execMorActDisarm t s = .next w ∧ Keeps s w := by
  have k := keeps_tick (t := t) (Keeps.refl s)
  exact ⟨_, rfl, keeps_opActDisarm k⟩

theorem keeps_execActivation (t : Nat) (s : State) :
    ∃ w, execActivation t s = .next w ∧ Keeps s w := by
  have k := keeps_tick (t := t) (Keeps.refl s)
  exact ⟨_, rfl, keeps_opActivation k⟩

theorem keeps_execMortarPacketArrive (t : Nat) (p : Packet) (s : State) :
    ∃ w, execMortarPacketArrive t p s = .next w ∧ Keeps s w := by
  have k := keeps_tick (t := t) (Keeps.refl s)
  exact ⟨_, rfl, keeps_opPacketArrive k⟩

theorem keeps_execRingRptrWrite (t : Nat) (ring : RingName) (v : Word) (s : State) :
    ∃ w, execRingRptrWrite t ring v s = .next w ∧ Keeps s w := by
  have k := keeps_tick (t := t) (Keeps.refl s)
  exact ⟨_, rfl, keeps_opRptrWrite k⟩

theorem keeps_execEthFrameReceived (t : Nat) (p : Fin 9) (frame : List Byte) (fcsOk : Bool) (sfdNs : Nat) (s : State) :
    ∃ w, execEthFrameReceived t p frame fcsOk sfdNs s = .next w ∧ Keeps s w := by
  have k := keeps_tick (t := t) (Keeps.refl s)
  exact ⟨_, rfl, keeps_opEthReceived k⟩

theorem keeps_execEthTxWptrWrite (t : Nat) (p : Fin 9) (v : Word) (s : State) :
    ∃ w, execEthTxWptrWrite t p v s = .next w ∧ Keeps s w := by
  have k := keeps_tick (t := t) (Keeps.refl s)
  exact ⟨_, rfl, keeps_opEthTxWptr k⟩

theorem keeps_execEthFrameSend (t : Nat) (p : Fin 9) (fell : Bool) (s : State) :
    ∃ w, execEthFrameSend t p fell s = .next w ∧ Keeps s w := by
  have k := keeps_tick (t := t) (Keeps.refl s)
  exact ⟨_, rfl, keeps_opEthSend k⟩

theorem keeps_execEthLinkChange (t : Nat) (p : Fin 9) (up : Bool) (speed : Fin 4) (s : State) :
    ∃ w, execEthLinkChange t p up speed s = .next w ∧ Keeps s w := by
  have k := keeps_tick (t := t) (Keeps.refl s)
  exact ⟨_, rfl, keeps_opEthLink k⟩

theorem keeps_execPtpMessageReceived (t : Nat) (p : Fin 8) (m : PtpMessage) (s : State) :
    ∃ w, execPtpMessageReceived t p m s = .next w ∧ Keeps s w := by
  have k := keeps_tick (t := t) (Keeps.refl s)
  exact ⟨_, rfl, keeps_opPtpReceived k⟩

theorem keeps_execPtpSyncSend (t : Nat) (p : Fin 8) (s : State) :
    ∃ w, execPtpSyncSend t p s = .next w ∧ Keeps s w := by
  have k := keeps_tick (t := t) (Keeps.refl s)
  exact ⟨_, rfl, keeps_opPtpSync k⟩

theorem keeps_execUnitRecordReceived (t : Nat) (can : Bool) (port src : Nat) (payload : List Byte) (s : State) :
    ∃ w, execUnitRecordReceived t can port src payload s = .next w ∧ Keeps s w := by
  have k := keeps_tick (t := t) (Keeps.refl s)
  exact ⟨_, rfl, keeps_opUnitRecord k⟩

theorem keeps_execMemberMissing (t : Nat) (i : Fin 32) (s : State) :
    ∃ w, execMemberMissing t i s = .next w ∧ Keeps s w := by
  have k := keeps_tick (t := t) (Keeps.refl s)
  exact ⟨_, rfl, keeps_opMemberMissing k⟩

theorem keeps_execMachineDigestUpdate (t : Nat) (s : State) :
    ∃ w, execMachineDigestUpdate t s = .next w ∧ Keeps s w := by
  have k := keeps_tick (t := t) (Keeps.refl s)
  exact ⟨_, rfl, keeps_opMachineDigest k⟩

theorem keeps_execMachineRecordSend (t : Nat) (s : State) :
    ∃ w, execMachineRecordSend t s = .next w ∧ Keeps s w := by
  have k := keeps_tick (t := t) (Keeps.refl s)
  exact ⟨_, rfl, keeps_opMachineRecord k⟩

theorem keeps_execFleetRecord (t : Nat) (s : State) :
    ∃ w, execFleetRecord t s = .next w ∧ Keeps s w := by
  have k := keeps_tick (t := t) (Keeps.refl s)
  exact ⟨_, rfl, keeps_opFleetRecord k⟩

theorem keeps_execIdentityChallenge (t : Nat) (path : Fin 10) (payload : Challenge) (s : State) :
    ∃ w, execIdentityChallenge t path payload s = .next w ∧ Keeps s w := by
  have k := keeps_tick (t := t) (Keeps.refl s)
  exact ⟨_, rfl, keeps_opChallenge k⟩

theorem keeps_execIdSign (t : Nat) (c : Fin 4096) (tag : Nat) (ecc : Bool) (s : State) :
    ∃ w, execIdSign t c tag ecc s = .next w ∧ Keeps s w := by
  have k := keeps_tick (t := t) (Keeps.refl s)
  exact ⟨_, rfl, keeps_beginOp (fun _ _ h => keeps_opIdSign h) k⟩

theorem keeps_execAnchorChallenge (t : Nat) (s : State) :
    ∃ w, execAnchorChallenge t s = .next w ∧ Keeps s w := by
  have k := keeps_tick (t := t) (Keeps.refl s)
  exact ⟨_, rfl, keeps_opAnchorChallenge k⟩

theorem keeps_execAnchorResponse (t : Nat) (payload : List Byte) (okRec okNew : Bool) (s : State) :
    ∃ w, execAnchorResponse t payload okRec okNew s = .next w ∧ Keeps s w := by
  have k := keeps_tick (t := t) (Keeps.refl s)
  exact ⟨_, rfl, keeps_opAnchorResponse k⟩

theorem keeps_execBindingAbsent (t : Nat) (s : State) :
    ∃ w, execBindingAbsent t s = .next w ∧ Keeps s w := by
  have k := keeps_tick (t := t) (Keeps.refl s)
  exact ⟨_, rfl, keeps_opBindingAbsent k⟩

theorem keeps_execSessionNonceDraw (t : Nat) (s : State) :
    ∃ w, execSessionNonceDraw t s = .next w ∧ Keeps s w := by
  have k := keeps_tick (t := t) (Keeps.refl s)
  exact ⟨_, rfl, keeps_opNonceDraw k⟩

theorem keeps_execSessionExpiry (t : Nat) (s : State) :
    ∃ w, execSessionExpiry t s = .next w ∧ Keeps s w := by
  have k := keeps_tick (t := t) (Keeps.refl s)
  exact ⟨_, rfl, keeps_opSessionExpiry k⟩

theorem keeps_execSessionOpen (t : Nat) (c : Fin 4096) (tag : Nat) (ecc sigOk : Bool) (s : State) :
    ∃ w, execSessionOpen t c tag ecc sigOk s = .next w ∧ Keeps s w := by
  have k := keeps_tick (t := t) (Keeps.refl s)
  exact ⟨_, rfl, keeps_beginOp (fun _ _ h => keeps_opSessionOpen h) k⟩

theorem keeps_execSessionClose (t : Nat) (c : Fin 4096) (tag : Nat) (s : State) :
    ∃ w, execSessionClose t c tag s = .next w ∧ Keeps s w := by
  have k := keeps_tick (t := t) (Keeps.refl s)
  exact ⟨_, rfl, keeps_beginOp (fun _ _ h => keeps_opSessionClose h) k⟩

theorem keeps_execRebind (t : Nat) (c : Fin 4096) (tag : Nat) (ecc : Bool) (s : State) :
    ∃ w, execRebind t c tag ecc s = .next w ∧ Keeps s w := by
  have k := keeps_tick (t := t) (Keeps.refl s)
  exact ⟨_, rfl, keeps_beginOp (fun _ _ h => keeps_opRebind h) k⟩

theorem keeps_execRebindTimeout (t : Nat) (c : Fin 4096) (tag : Nat) (s : State) :
    ∃ w, execRebindTimeout t c tag s = .next w ∧ Keeps s w := by
  have k := keeps_tick (t := t) (Keeps.refl s)
  exact ⟨_, rfl, keeps_opRebindTimeout k⟩

theorem keeps_execTimebaseReferenceEdge (t : Nat) (as : Bool) (ref : Nat) (s : State) :
    ∃ w, execTimebaseReferenceEdge t as ref s = .next w ∧ Keeps s w := by
  have k := keeps_tick (t := t) (Keeps.refl s)
  exact ⟨_, rfl, keeps_opEdge k⟩

theorem keeps_execTimebaseHoldover (t : Nat) (s : State) :
    ∃ w, execTimebaseHoldover t s = .next w ∧ Keeps s w := by
  have k := keeps_tick (t := t) (Keeps.refl s)
  exact ⟨_, rfl, keeps_opHoldover k⟩

theorem keeps_execTimebaseSlewEnd (t : Nat) (s : State) :
    ∃ w, execTimebaseSlewEnd t s = .next w ∧ Keeps s w := by
  have k := keeps_tick (t := t) (Keeps.refl s)
  exact ⟨_, rfl, keeps_opSlewEnd k⟩

theorem keeps_execFusTbSrcWrite (t : Nat) (v : Word) (s : State) :
    ∃ w, execFusTbSrcWrite t v s = .next w ∧ Keeps s w := by
  have k := keeps_tick (t := t) (Keeps.refl s)
  exact ⟨_, rfl, keeps_opTbSrcWrite k⟩

theorem keeps_execFusTbNowRead (t : Nat) (hi : Bool) (s : State) :
    ∃ w, execFusTbNowRead t hi s = .next w ∧ Keeps s w := by
  have k := keeps_tick (t := t) (Keeps.refl s)
  exact ⟨_, rfl, keeps_opTbNowRead k⟩

theorem keeps_execCalRefine (t : Nat) (est : List (Nat × Int)) (s : State) :
    ∃ w, execCalRefine t est s = .next w ∧ Keeps s w := by
  have k := keeps_tick (t := t) (Keeps.refl s)
  exact ⟨_, rfl, keeps_opCalRefine k⟩

theorem keeps_execFusCalPublish (t : Nat) (v : Word) (s : State) :
    ∃ w, execFusCalPublish t v s = .next w ∧ Keeps s w := by
  have k := keeps_tick (t := t) (Keeps.refl s)
  exact ⟨_, rfl, keeps_opCalPublish k⟩

theorem keeps_execEgoMotionSample (t : Nat) (enc : List Int) (encBad : Byte) (yaw1 yaw2 : Int) (pitch roll : Tilt)
    (imuValid imuAll : Bool) (s : State) :
    ∃ w, execEgoMotionSample t enc encBad yaw1 yaw2 pitch roll imuValid imuAll s = .next w ∧ Keeps s w := by
  have k := keeps_tick (t := t) (Keeps.refl s)
  exact ⟨_, rfl, keeps_opEgo k⟩

theorem keeps_execSlipUpdate (t : Nat) (s : State) :
    ∃ w, execSlipUpdate t () s = .next w ∧ Keeps s w := by
  have k := keeps_tick (t := t) (Keeps.refl s)
  exact ⟨_, rfl, keeps_opSlip k⟩

theorem keeps_execPosePropagate (t : Nat) (s : State) :
    ∃ w, execPosePropagate t () s = .next w ∧ Keeps s w := by
  have k := keeps_tick (t := t) (Keeps.refl s)
  exact ⟨_, rfl, keeps_opPose k⟩

theorem keeps_execPoseRecord (t : Nat) (s : State) :
    ∃ w, execPoseRecord t s = .next w ∧ Keeps s w := by
  have k := keeps_tick (t := t) (Keeps.refl s)
  exact ⟨_, rfl, keeps_opPoseRecord k⟩

theorem keeps_execFusNetEnable (t : Nat) (k : Fin 16) (v : Word) (s : State) :
    ∃ w, execFusNetEnable t k v s = .next w ∧ Keeps s w := by
  have k := keeps_tick (t := t) (Keeps.refl s)
  exact ⟨_, rfl, keeps_opNetCfgWrite k⟩

theorem keeps_execFusNetRst (t : Nat) (k : Fin 16) (v : Word) (s : State) :
    ∃ w, execFusNetRst t k v s = .next w ∧ Keeps s w := by
  have k := keeps_tick (t := t) (Keeps.refl s)
  exact ⟨_, rfl, keeps_opNetCfgWrite k⟩

theorem keeps_execFusionStepStart (t : Nat) (k : Fin 16) (bad : List (Nat × BrickError)) (ecc : List BrickError) (s : State) :
    ∃ w, execFusionStepStart t k bad ecc s = .next w ∧ Keeps s w := by
  have k := keeps_tick (t := t) (Keeps.refl s)
  exact ⟨_, rfl, keeps_opStepStart k⟩

theorem keeps_execFusionStepComplete (t : Nat) (k : Fin 16) (out : StepOut) (s : State) :
    ∃ w, execFusionStepComplete t k out s = .next w ∧ Keeps s w := by
  have k := keeps_tick (t := t) (Keeps.refl s)
  exact ⟨_, rfl, keeps_opStepComplete k⟩

theorem keeps_execFusionStepAbandon (t : Nat) (k : Fin 16) (s : State) :
    ∃ w, execFusionStepAbandon t k s = .next w ∧ Keeps s w := by
  have k := keeps_tick (t := t) (Keeps.refl s)
  exact ⟨_, rfl, keeps_opStepAbandon k⟩

theorem keeps_execGnssEpoch (t : Nat) (meas : List GnsMeas) (search : List (Nat × Nat × Nat × Nat)) (sol : GnsSol) (s : State) :
    ∃ w, execGnssEpoch t meas search sol s = .next w ∧ Keeps s w := by
  have k := keeps_tick (t := t) (Keeps.refl s)
  exact ⟨_, rfl, keeps_opGnssEpoch k⟩

theorem keeps_execGnssTimeInvalid (t : Nat) (s : State) :
    ∃ w, execGnssTimeInvalid t s = .next w ∧ Keeps s w := by
  have k := keeps_tick (t := t) (Keeps.refl s)
  exact ⟨_, rfl, keeps_opTimeInvalid k⟩

theorem keeps_execGnssNavUnit (t : Nat) (chan : Fin 96) (bits : List Flit) (inverted : Bool) (startNs : Nat) (s : State) :
    ∃ w, execGnssNavUnit t chan bits inverted startNs s = .next w ∧ Keeps s w := by
  have k := keeps_tick (t := t) (Keeps.refl s)
  exact ⟨_, rfl, keeps_opNavUnit k⟩

theorem keeps_execGnssPpsEdge (t : Nat) (edge : PpsPoint) (s : State) :
    ∃ w, execGnssPpsEdge t edge s = .next w ∧ Keeps s w := by
  have k := keeps_tick (t := t) (Keeps.refl s)
  exact ⟨_, rfl, keeps_opPpsEdge k⟩

theorem keeps_execGnssQerrReport (t : Nat) (s : State) :
    ∃ w, execGnssQerrReport t s = .next w ∧ Keeps s w := by
  have k := keeps_tick (t := t) (Keeps.refl s)
  exact ⟨_, rfl, keeps_opQerr k⟩

theorem keeps_execPpsFreerunPulse (t : Nat) (s : State) :
    ∃ w, execPpsFreerunPulse t s = .next w ∧ Keeps s w := by
  have k := keeps_tick (t := t) (Keeps.refl s)
  exact ⟨_, rfl, keeps_opFreerun k⟩

theorem keeps_execGnsInjCommit (t : Nat) (v : Word) (s : State) :
    ∃ w, execGnsInjCommit t v s = .next w ∧ Keeps s w := by
  have k := keeps_tick (t := t) (Keeps.refl s)
  exact ⟨_, rfl, keeps_opInjCommit k⟩

theorem keeps_execGnsCfgWrite (t : Nat) (r : Fin 4) (v : Word) (s : State) :
    ∃ w, execGnsCfgWrite t r v () s = .next w ∧ Keeps s w := by
  have k := keeps_tick (t := t) (Keeps.refl s)
  exact ⟨_, rfl, keeps_opGnsCfgWrite k⟩

theorem keeps_execGnssAntennaFault (t ua : Nat) (s : State) :
    ∃ w, execGnssAntennaFault t ua s = .next w ∧ Keeps s w := by
  have k := keeps_tick (t := t) (Keeps.refl s)
  exact ⟨_, rfl, keeps_opAntenna k⟩

theorem keeps_execAntennaBiasFaultEnd (t ua : Nat) (s : State) :
    ∃ w, execAntennaBiasFaultEnd t ua s = .next w ∧ Keeps s w := by
  have k := keeps_tick (t := t) (Keeps.refl s)
  exact ⟨_, rfl, keeps_opAntennaEnd k⟩

theorem keeps_execSafetyContactChange (t : Nat) (i : Fin 16) (contactB closed : Bool) (s : State) :
    ∃ w, execSafetyContactChange t i contactB closed s = .next w ∧ Keeps s w := by
  have k := keeps_tick (t := t) (Keeps.refl s)
  exact ⟨_, rfl, keeps_opContactChange k⟩

theorem keeps_execSafetyDiscrepancy (t : Nat) (i : Fin 16) (s : State) :
    ∃ w, execSafetyDiscrepancy t i s = .next w ∧ Keeps s w := by
  have k := keeps_tick (t := t) (Keeps.refl s)
  exact ⟨_, rfl, keeps_opDiscrepancy k⟩

theorem keeps_execSafetyCrossCircuit (t : Nat) (i : Fin 16) (s : State) :
    ∃ w, execSafetyCrossCircuit t i s = .next w ∧ Keeps s w := by
  have k := keeps_tick (t := t) (Keeps.refl s)
  exact ⟨_, rfl, keeps_opCrossCircuit k⟩

theorem keeps_execGooStop (t : Nat) (s : State) :
    ∃ w, execGooStop t s = .next w ∧ Keeps s w := by
  have k := keeps_tick (t := t) (Keeps.refl s)
  exact ⟨_, rfl, keeps_opGooStop k⟩

theorem keeps_execGooRelease (t : Nat) (s : State) :
    ∃ w, execGooRelease t s = .next w ∧ Keeps s w := by
  have k := keeps_tick (t := t) (Keeps.refl s)
  exact ⟨_, rfl, keeps_opGooRelease k⟩

theorem keeps_execGooOutputRequest (t : Nat) (v : Word) (s : State) :
    ∃ w, execGooOutputRequest t v s = .next w ∧ Keeps s w := by
  have k := keeps_tick (t := t) (Keeps.refl s)
  exact ⟨_, rfl, keeps_opOutputRequest k⟩

theorem keeps_execSafetyOutputTest (t : Nat) (o : Fin 8) (mv : Nat) (s : State) :
    ∃ w, execSafetyOutputTest t o mv s = .next w ∧ Keeps s w := by
  have k := keeps_tick (t := t) (Keeps.refl s)
  exact ⟨_, rfl, keeps_opOutputTest k⟩

theorem keeps_execSafetyOutputReadback (t : Nat) (o : Fin 8) (mv supply : Nat) (s : State) :
    ∃ w, execSafetyOutputReadback t o mv supply s = .next w ∧ Keeps s w := by
  have k := keeps_tick (t := t) (Keeps.refl s)
  exact ⟨_, rfl, keeps_opOutputReadback k⟩

theorem keeps_execContactorFeedbackCheck (t : Nat) (fb : Fin 4) (level : Bool) (s : State) :
    ∃ w, execContactorFeedbackCheck t fb level s = .next w ∧ Keeps s w := by
  have k := keeps_tick (t := t) (Keeps.refl s)
  exact ⟨_, rfl, keeps_opFeedback k⟩

theorem keeps_execSealedSwitchChange (t : Nat) (sw : Byte) (s : State) :
    ∃ w, execSealedSwitchChange t sw s = .next w ∧ Keeps s w := by
  have k := keeps_tick (t := t) (Keeps.refl s)
  exact ⟨_, rfl, keeps_opSealedSwitch k⟩

theorem keeps_execGooseDiagFailure (t : Nat) (k : Fin 4) (s : State) :
    ∃ w, execGooseDiagFailure t k s = .next w ∧ Keeps s w := by
  have k := keeps_tick (t := t) (Keeps.refl s)
  exact ⟨_, rfl, keeps_opDiagFailure k⟩

theorem keeps_execGooseSpeedUpdate (t : Nat) (low high : List Nat) (s : State) :
    ∃ w, execGooseSpeedUpdate t low high s = .next w ∧ Keeps s w := by
  have k := keeps_tick (t := t) (Keeps.refl s)
  exact ⟨_, rfl, keeps_opSpeedUpdate k⟩

theorem keeps_execSpeedDiscrepancy (t : Nat) (s : State) :
    ∃ w, execSpeedDiscrepancy t s = .next w ∧ Keeps s w := by
  have k := keeps_tick (t := t) (Keeps.refl s)
  exact ⟨_, rfl, keeps_opSpeedDiscrepancy k⟩

theorem keeps_execGooseStill (t : Nat) (s : State) :
    ∃ w, execGooseStill t s = .next w ∧ Keeps s w := by
  have k := keeps_tick (t := t) (Keeps.refl s)
  exact ⟨_, rfl, keeps_opStill k⟩

theorem keeps_execGooseStatusFlit (t : Nat) (s : State) :
    ∃ w, execGooseStatusFlit t s = .next w ∧ Keeps s w := by
  have k := keeps_tick (t := t) (Keeps.refl s)
  exact ⟨_, rfl, keeps_opGooseFlit k⟩

theorem keeps_execHenRecordWrite (t : Nat) (s : State) :
    ∃ w, execHenRecordWrite t s = .next w ∧ Keeps s w := by
  have k := keeps_tick (t := t) (Keeps.refl s)
  exact ⟨_, rfl, keeps_opHenRecordWrite k⟩

theorem keeps_execHenOpenRefresh (t : Nat) (s : State) :
    ∃ w, execHenOpenRefresh t s = .next w ∧ Keeps s w := by
  have k := keeps_tick (t := t) (Keeps.refl s)
  exact ⟨_, rfl, keeps_opHenOpenRefresh k⟩

theorem keeps_execHenTokenReturn (t : Nat) (s : State) :
    ∃ w, execHenTokenReturn t s = .next w ∧ Keeps s w := by
  have k := keeps_tick (t := t) (Keeps.refl s)
  exact ⟨_, rfl, keeps_opHenTokenReturn k⟩

theorem keeps_execHenHoursWrite (t : Nat) (s : State) :
    ∃ w, execHenHoursWrite t s = .next w ∧ Keeps s w := by
  have k := keeps_tick (t := t) (Keeps.refl s)
  exact ⟨_, rfl, keeps_opHenHoursWrite k⟩

theorem keeps_execHenScanComplete (t : Nat) (bad : List Nat) (s : State) :
    ∃ w, execHenScanComplete t bad s = .next w ∧ Keeps s w := by
  have k := keeps_tick (t := t) (Keeps.refl s)
  exact ⟨_, rfl, keeps_opHenScanComplete k⟩

theorem keeps_execHenCurSeqWrite (t : Nat) (v : Word) (crcBad : Bool) (s : State) :
    ∃ w, execHenCurSeqWrite t v crcBad s = .next w ∧ Keeps s w := by
  have k := keeps_tick (t := t) (Keeps.refl s)
  exact ⟨_, rfl, keeps_opHenCurSeqWrite k⟩

theorem keeps_execHenNext (t : Nat) (crcBad : Bool) (s : State) :
    ∃ w, execHenNext t crcBad s = .next w ∧ Keeps s w := by
  have k := keeps_tick (t := t) (Keeps.refl s)
  exact ⟨_, rfl, keeps_opHenNext k⟩

theorem keeps_execHenWrite (t : Nat) (c : Fin 4096) (tag : Nat) (s : State) :
    ∃ w, execHenWrite t c tag s = .next w ∧ Keeps s w := by
  have k := keeps_tick (t := t) (Keeps.refl s)
  exact ⟨_, rfl, keeps_beginOp (fun _ _ h => keeps_opHenWrite h) k⟩

theorem keeps_execHenRead (t : Nat) (c : Fin 4096) (tag : Nat) (ecc : Bool) (s : State) :
    ∃ w, execHenRead t c tag ecc s = .next w ∧ Keeps s w := by
  have k := keeps_tick (t := t) (Keeps.refl s)
  exact ⟨_, rfl, keeps_beginOp (fun _ _ h => keeps_opHenRead h) k⟩

theorem keeps_execHenClear (t : Nat) (c : Fin 4096) (tag : Nat) (s : State) :
    ∃ w, execHenClear t c tag s = .next w ∧ Keeps s w := by
  have k := keeps_tick (t := t) (Keeps.refl s)
  exact ⟨_, rfl, keeps_beginOp (fun _ _ h => keeps_opHenClear h) k⟩

theorem keeps_execMbxSend (t : Nat) (ch : Fin 64) (sideB : Bool) (ident : Fin 16) (v : Word) (s : State) :
    ∃ w, execMbxSend t ch sideB ident v s = .next w ∧ Keeps s w := by
  have k := keeps_tick (t := t) (Keeps.refl s)
  exact ⟨_, rfl, keeps_opMbxSend k⟩

theorem keeps_execMbxAck (t : Nat) (ch : Fin 64) (sideB : Bool) (ident : Fin 16) (v : Word) (s : State) :
    ∃ w, execMbxAck t ch sideB ident v s = .next w ∧ Keeps s w := by
  have k := keeps_tick (t := t) (Keeps.refl s)
  exact ⟨_, rfl, keeps_opMbxAck k⟩

theorem keeps_execMbxBothpend (t : Nat) (ch : Fin 64) (s : State) :
    ∃ w, execMbxBothpend t ch s = .next w ∧ Keeps s w := by
  have k := keeps_tick (t := t) (Keeps.refl s)
  exact ⟨_, rfl, keeps_opBothPend k⟩

theorem keeps_execModeRequest (t : Nat) (v : Word) (s : State) :
    ∃ w, execModeRequest t v s = .next w ∧ Keeps s w := by
  have k := keeps_tick (t := t) (Keeps.refl s)
  exact ⟨_, rfl, keeps_opModeRequest k⟩

theorem keeps_execModeChangeEffect (t : Nat) (s : State) :
    ∃ w, execModeChangeEffect t s = .next w ∧ Keeps s w := by
  have k := keeps_tick (t := t) (Keeps.refl s)
  exact ⟨_, rfl, keeps_opModeChange k⟩

theorem keeps_execIgnitionOffTimeout (t : Nat) (s : State) :
    ∃ w, execIgnitionOffTimeout t s = .next w ∧ Keeps s w := by
  have k := keeps_tick (t := t) (Keeps.refl s)
  exact ⟨_, rfl, keeps_opIgnitionOff k⟩

theorem keeps_execBootEntry (t : Nat) (rcvLow svcLow : Bool) (s : State) :
    ∃ w, execBootEntry t rcvLow svcLow s = .next w ∧ Keeps s w := by
  have k := keeps_tick (t := t) (Keeps.refl s)
  exact ⟨_, rfl, keeps_opBootEntry k⟩

theorem keeps_execBootStepComplete (t : Nat) (step : Fin 12) (ok : Bool) (s : State) :
    ∃ w, execBootStepComplete t step ok s = .next w ∧ Keeps s w := by
  have k := keeps_tick (t := t) (Keeps.refl s)
  exact ⟨_, rfl, keeps_opBootStep k⟩

theorem keeps_execBootGood (t : Nat) (v : Word) (s : State) :
    ∃ w, execBootGood t v s = .next w ∧ Keeps s w := by
  have k := keeps_tick (t := t) (Keeps.refl s)
  exact ⟨_, rfl, keeps_opBootGood k⟩

theorem keeps_execBootWatchdogExpiry (t : Nat) (s : State) :
    ∃ w, execBootWatchdogExpiry t s = .next w ∧ Keeps s w := by
  have k := keeps_tick (t := t) (Keeps.refl s)
  exact ⟨_, rfl, keeps_opBootWatchdog k⟩

theorem keeps_execMulCommandFlit (t : Nat) (p : Packet) (s : State) :
    ∃ w, execMulCommandFlit t p s = .next w ∧ Keeps s w := by
  have k := keeps_tick (t := t) (Keeps.refl s)
  exact ⟨_, rfl, keeps_opMulCommandFlit k⟩

theorem keeps_execMulChCmdWrite (t : Nat) (n : Fin 64) (v : Word) (s : State) :
    ∃ w, execMulChCmdWrite t n v s = .next w ∧ Keeps s w := by
  have k := keeps_tick (t := t) (Keeps.refl s)
  exact ⟨_, rfl, keeps_opMulCmdWrite k⟩

theorem keeps_execMulUvlo (t : Nat) (mv : Nat) (s : State) :
    ∃ w, execMulUvlo t mv s = .next w ∧ Keeps s w := by
  have k := keeps_tick (t := t) (Keeps.refl s)
  exact ⟨_, rfl, keeps_opMulUvlo k⟩

theorem keeps_execMulUvloRelease (t : Nat) (mv : Nat) (s : State) :
    ∃ w, execMulUvloRelease t mv s = .next w ∧ Keeps s w := by
  have k := keeps_tick (t := t) (Keeps.refl s)
  exact ⟨_, rfl, keeps_opMulUvloRelease k⟩

theorem keeps_execMulLimitStart (t : Nat) (n : Fin 64) (ma : Nat) (s : State) :
    ∃ w, execMulLimitStart t n ma s = .next w ∧ Keeps s w := by
  have k := keeps_tick (t := t) (Keeps.refl s)
  exact ⟨_, rfl, keeps_opLimitStart k⟩

theorem keeps_execMulLimitLong (t : Nat) (n : Fin 64) (s : State) :
    ∃ w, execMulLimitLong t n s = .next w ∧ Keeps s w := by
  have k := keeps_tick (t := t) (Keeps.refl s)
  exact ⟨_, rfl, keeps_opLimitLong k⟩

theorem keeps_execMulLimitEnd (t : Nat) (n : Fin 64) (ma : Nat) (s : State) :
    ∃ w, execMulLimitEnd t n ma s = .next w ∧ Keeps s w := by
  have k := keeps_tick (t := t) (Keeps.refl s)
  exact ⟨_, rfl, keeps_opLimitEnd k⟩

theorem keeps_execMulThermalShutdown (t : Nat) (n : Fin 64) (celsius : Int) (s : State) :
    ∃ w, execMulThermalShutdown t n celsius s = .next w ∧ Keeps s w := by
  have k := keeps_tick (t := t) (Keeps.refl s)
  exact ⟨_, rfl, keeps_opThermal k⟩

theorem keeps_execMulRetry (t : Nat) (n : Fin 64) (celsius : Int) (s : State) :
    ∃ w, execMulRetry t n celsius s = .next w ∧ Keeps s w := by
  have k := keeps_tick (t := t) (Keeps.refl s)
  exact ⟨_, rfl, keeps_opMulRetry k⟩

theorem keeps_execMulRetryCountClear (t : Nat) (n : Fin 64) (s : State) :
    ∃ w, execMulRetryCountClear t n s = .next w ∧ Keeps s w := by
  have k := keeps_tick (t := t) (Keeps.refl s)
  exact ⟨_, rfl, keeps_opMulRetryClear k⟩

theorem keeps_execMulOffstateCheck (t : Nat) (n : Fin 64) (mv : Nat) (s : State) :
    ∃ w, execMulOffstateCheck t n mv s = .next w ∧ Keeps s w := by
  have k := keeps_tick (t := t) (Keeps.refl s)
  exact ⟨_, rfl, keeps_opOffState k⟩

theorem keeps_execMulChStatClear (t : Nat) (n : Fin 64) (v : Word) (junction : Int) (s : State) :
    ∃ w, execMulChStatClear t n v junction s = .next w ∧ Keeps s w := by
  have k := keeps_tick (t := t) (Keeps.refl s)
  exact ⟨_, rfl, Keeps.ite k (keeps_mulClear k)⟩

theorem keeps_execMulFaultClear (t : Nat) (c : Fin 4096) (tag : Nat) (junction : Int) (s : State) :
    ∃ w, execMulFaultClear t c tag junction s = .next w ∧ Keeps s w := by
  have k := keeps_tick (t := t) (Keeps.refl s)
  exact ⟨_, rfl, keeps_beginOp (fun _ _ h => keeps_opMulFaultClear h) k⟩

theorem keeps_execMulStatusRead (t : Nat) (c : Fin 4096) (tag : Nat) (s : State) :
    ∃ w, execMulStatusRead t c tag s = .next w ∧ Keeps s w := by
  have k := keeps_tick (t := t) (Keeps.refl s)
  exact ⟨_, rfl, keeps_beginOp (fun _ _ h => keeps_opMulStatusRead h) k⟩

theorem keeps_execOxPwmPeriod (t : Nat) (n : Fin 48) (cur vb : Nat) (s : State) :
    ∃ w, execOxPwmPeriod t n cur vb s = .next w ∧ Keeps s w := by
  have k := keeps_tick (t := t) (Keeps.refl s)
  exact ⟨_, rfl, keeps_opPwmPeriod k⟩

theorem keeps_execOxCommandFlit (t : Nat) (p : Packet) (s : State) :
    ∃ w, execOxCommandFlit t p s = .next w ∧ Keeps s w := by
  have k := keeps_tick (t := t) (Keeps.refl s)
  exact ⟨_, rfl, keeps_opOxCommandFlit k⟩

theorem keeps_execOxCommandTimeout (t : Nat) (n : Fin 48) (s : State) :
    ∃ w, execOxCommandTimeout t n s = .next w ∧ Keeps s w := by
  have k := keeps_tick (t := t) (Keeps.refl s)
  exact ⟨_, rfl, keeps_opOxTimeout k⟩

theorem keeps_execOxDutyLimitEval (t : Nat) (n : Fin 48) (s : State) :
    ∃ w, execOxDutyLimitEval t n s = .next w ∧ Keeps s w := by
  have k := keeps_tick (t := t) (Keeps.refl s)
  exact ⟨_, rfl, keeps_opDutyLimit k⟩

theorem keeps_execOxPairWrite (t : Nat) (n : Fin 48) (v : Word) (s : State) :
    ∃ w, execOxPairWrite t n v s = .next w ∧ Keeps s w := by
  have k := keeps_tick (t := t) (Keeps.refl s)
  exact ⟨_, rfl, keeps_opOxCfgWrite k⟩

theorem keeps_execOxPigWrite (t : Nat) (n : Fin 48) (v : Word) (s : State) :
    ∃ w, execOxPigWrite t n v s = .next w ∧ Keeps s w := by
  have k := keeps_tick (t := t) (Keeps.refl s)
  exact ⟨_, rfl, keeps_opOxCfgWrite k⟩

theorem keeps_execOxPullinGrant (t : Nat) (n : Fin 48) (s : State) :
    ∃ w, execOxPullinGrant t n s = .next w ∧ Keeps s w := by
  have k := keeps_tick (t := t) (Keeps.refl s)
  exact ⟨_, rfl, keeps_opPullinGrant k⟩

theorem keeps_execOxPullinEnd (t : Nat) (n : Fin 48) (cur mj : Nat) (s : State) :
    ∃ w, execOxPullinEnd t n cur mj s = .next w ∧ Keeps s w := by
  have k := keeps_tick (t := t) (Keeps.refl s)
  exact ⟨_, rfl, keeps_opPullinEnd k⟩

theorem keeps_execOxTokenReturn (t : Nat) (s : State) :
    ∃ w, execOxTokenReturn t s = .next w ∧ Keeps s w := by
  have k := keeps_tick (t := t) (Keeps.refl s)
  exact ⟨_, rfl, keeps_opTokenReturn k⟩

theorem keeps_execOxRailLow (t : Nat) (vb : Nat) (s : State) :
    ∃ w, execOxRailLow t vb s = .next w ∧ Keeps s w := by
  have k := keeps_tick (t := t) (Keeps.refl s)
  exact ⟨_, rfl, keeps_opRailLow k⟩

theorem keeps_execOxRailRecover (t : Nat) (vb : Nat) (s : State) :
    ∃ w, execOxRailRecover t vb s = .next w ∧ Keeps s w := by
  have k := keeps_tick (t := t) (Keeps.refl s)
  exact ⟨_, rfl, keeps_opRailRecover k⟩

theorem keeps_execOxRailClamp (t : Nat) (vb : Nat) (s : State) :
    ∃ w, execOxRailClamp t vb s = .next w ∧ Keeps s w := by
  have k := keeps_tick (t := t) (Keeps.refl s)
  exact ⟨_, rfl, keeps_opRailClamp k⟩

theorem keeps_execOxRailClampEnd (t : Nat) (vb : Nat) (s : State) :
    ∃ w, execOxRailClampEnd t vb s = .next w ∧ Keeps s w := by
  have k := keeps_tick (t := t) (Keeps.refl s)
  exact ⟨_, rfl, keeps_opRailClampEnd k⟩

theorem keeps_execOxSupplyLow (t : Nat) (mv : Nat) (s : State) :
    ∃ w, execOxSupplyLow t mv s = .next w ∧ Keeps s w := by
  have k := keeps_tick (t := t) (Keeps.refl s)
  exact ⟨_, rfl, keeps_opOxSupplyLow k⟩

theorem keeps_execOxSupplyRestored (t : Nat) (mv : SupplySince) (s : State) :
    ∃ w, execOxSupplyRestored t mv s = .next w ∧ Keeps s w := by
  have k := keeps_tick (t := t) (Keeps.refl s)
  exact ⟨_, rfl, keeps_opOxSupplyRestored k⟩

theorem keeps_execOxShort (t : Nat) (n : Fin 48) (ma : Nat) (s : State) :
    ∃ w, execOxShort t n ma s = .next w ∧ Keeps s w := by
  have k := keeps_tick (t := t) (Keeps.refl s)
  exact ⟨_, rfl, keeps_opOxShort k⟩

theorem keeps_execOxOpen (t : Nat) (n : Fin 48) (s : State) :
    ∃ w, execOxOpen t n s = .next w ∧ Keeps s w := by
  have k := keeps_tick (t := t) (Keeps.refl s)
  exact ⟨_, rfl, keeps_opOxOpen k⟩

theorem keeps_execOxOvertemp (t : Nat) (n : Fin 48) (celsius : Int) (s : State) :
    ∃ w, execOxOvertemp t n celsius s = .next w ∧ Keeps s w := by
  have k := keeps_tick (t := t) (Keeps.refl s)
  exact ⟨_, rfl, keeps_opOxOvertemp k⟩

theorem keeps_execOxChStatClear (t : Nat) (n : Fin 48) (v : Word) (shortHolds : Bool) (junction : Int) (s : State) :
    ∃ w, execOxChStatClear t n v shortHolds () junction s = .next w ∧ Keeps s w := by
  have k := keeps_tick (t := t) (Keeps.refl s)
  exact ⟨_, rfl, Keeps.ite k (keeps_oxClear k)⟩

theorem keeps_execOxFaultClear (t : Nat) (c : Fin 4096) (tag : Nat) (shortHolds : Bool) (junction : Int) (s : State) :
    ∃ w, execOxFaultClear t c tag shortHolds () junction s = .next w ∧ Keeps s w := by
  have k := keeps_tick (t := t) (Keeps.refl s)
  exact ⟨_, rfl, keeps_beginOp (fun _ _ h => keeps_opOxFaultClear h) k⟩

theorem keeps_execOxStatusRead (t : Nat) (c : Fin 4096) (tag : Nat) (s : State) :
    ∃ w, execOxStatusRead t c tag s = .next w ∧ Keeps s w := by
  have k := keeps_tick (t := t) (Keeps.refl s)
  exact ⟨_, rfl, keeps_beginOp (fun _ _ h => keeps_opOxStatusRead h) k⟩

theorem keeps_execSupplyBandChange (t : Nat) (mv : SupplyHeld) (s : State) :
    ∃ w, execSupplyBandChange t mv s = .next w ∧ Keeps s w := by
  have k := keeps_tick (t := t) (Keeps.refl s)
  exact ⟨_, rfl, keeps_opSupplyBand k⟩

theorem keeps_execCrankTimeout (t : Nat) (s : State) :
    ∃ w, execCrankTimeout t s = .next w ∧ Keeps s w := by
  have k := keeps_tick (t := t) (Keeps.refl s)
  exact ⟨_, rfl, keeps_opCrankTimeout k⟩

theorem keeps_execSupplyCollapse (t : Nat) (mv : Nat) (s : State) :
    ∃ w, execSupplyCollapse t mv s = .next w ∧ Keeps s w := by
  have k := keeps_tick (t := t) (Keeps.refl s)
  exact ⟨_, rfl, keeps_opSupplyCollapse k⟩

theorem keeps_execRailFault (t : Nat) (d : Fin 13) (s : State) :
    ∃ w, execRailFault t d s = .next w ∧ Keeps s w := by
  have k := keeps_tick (t := t) (Keeps.refl s)
  exact ⟨_, rfl, keeps_opRailFault k⟩

theorem keeps_execJunctionLimit (t : Nat) (d : Fin 13) (s : State) :
    ∃ w, execJunctionLimit t d s = .next w ∧ Keeps s w := by
  have k := keeps_tick (t := t) (Keeps.refl s)
  exact ⟨_, rfl, keeps_opJunctionLimit k⟩

theorem keeps_execIgnChange (t : Nat) (level : Bool) (s : State) :
    ∃ w, execIgnChange t level s = .next w ∧ Keeps s w := by
  have k := keeps_tick (t := t) (Keeps.refl s)
  exact ⟨_, rfl, keeps_opIgnChange k⟩

theorem keeps_execCanWakePattern (t : Nat) (c : Fin 2) (s : State) :
    ∃ w, execCanWakePattern t c s = .next w ∧ Keeps s w := by
  have k := keeps_tick (t := t) (Keeps.refl s)
  exact ⟨_, rfl, keeps_opCanWake k⟩

theorem keeps_execPowerUpStart (t : Nat) (supplyMs : Nat) (s : State) :
    ∃ w, execPowerUpStart t supplyMs s = .next w ∧ Keeps s w := by
  have k := keeps_tick (t := t) (Keeps.refl s)
  exact ⟨_, rfl, keeps_opPowerUp k⟩

theorem keeps_execAoSwitchToBackup (t : Nat) (vao vbat : Nat) (s : State) :
    ∃ w, execAoSwitchToBackup t vao vbat s = .next w ∧ Keeps s w := by
  have k := keeps_tick (t := t) (Keeps.refl s)
  exact ⟨_, rfl, keeps_opAoToBackup k⟩

theorem keeps_execAoReturnToMain (t : Nat) (vao vbat heldUs : Nat) (s : State) :
    ∃ w, execAoReturnToMain t vao vbat heldUs s = .next w ∧ Keeps s w := by
  have k := keeps_tick (t := t) (Keeps.refl s)
  exact ⟨_, rfl, keeps_opAoToMain k⟩

theorem keeps_execBackupCellGivesOut (t : Nat) (s : State) :
    ∃ w, execBackupCellGivesOut t s = .next w ∧ Keeps s w := by
  have k := keeps_tick (t := t) (Keeps.refl s)
  exact ⟨_, rfl, keeps_opCellOut k⟩

theorem keeps_execCanaryFlip (t : Nat) (mv : Nat) (s : State) :
    ∃ w, execCanaryFlip t mv s = .next w ∧ Keeps s w := by
  have k := keeps_tick (t := t) (Keeps.refl s)
  exact ⟨_, rfl, keeps_opCanaryFlip k⟩

theorem keeps_execVbatMeasure (t : Nat) (mv : Nat) (s : State) :
    ∃ w, execVbatMeasure t mv s = .next w ∧ Keeps s w := by
  have k := keeps_tick (t := t) (Keeps.refl s)
  exact ⟨_, rfl, keeps_opVbat k⟩

theorem keeps_execQuotaSet (t : Nat) (c : Fin 4096) (tag : Nat) (s : State) :
    ∃ w, execQuotaSet t c tag s = .next w ∧ Keeps s w := by
  have k := keeps_tick (t := t) (Keeps.refl s)
  exact ⟨_, rfl, keeps_beginOp (fun _ _ h => keeps_opQuotaSet h) k⟩

theorem keeps_execQosQuotaWrite (t : Nat) (v : Word) (s : State) :
    ∃ w, execQosQuotaWrite t v s = .next w ∧ Keeps s w := by
  have k := keeps_tick (t := t) (Keeps.refl s)
  exact ⟨_, rfl, keeps_opQuotaWrite k⟩

theorem keeps_execQosDramWrite (t : Nat) (k : Fin 8) (v : Word) (s : State) :
    ∃ w, execQosDramWrite t k v s = .next w ∧ Keeps s w := by
  have k := keeps_tick (t := t) (Keeps.refl s)
  exact ⟨_, rfl, keeps_opDramWrite k⟩

theorem keeps_execAcquire (t : Nat) (c : Fin 4096) (tag : Nat) (ecc : Bool) (s : State) :
    ∃ w, execAcquire t c tag ecc s = .next w ∧ Keeps s w := by
  have k := keeps_tick (t := t) (Keeps.refl s)
  exact ⟨_, rfl, keeps_beginOp (fun _ _ h => keeps_opAcquire h) k⟩

theorem keeps_execWaitGrant (t : Nat) (c : Fin 4096) (tag : Nat) (s : State) :
    ∃ w, execWaitGrant t c tag s = .next w ∧ Keeps s w := by
  have k := keeps_tick (t := t) (Keeps.refl s)
  exact ⟨_, rfl, keeps_opWaitGrant k⟩

theorem keeps_execRelease (t : Nat) (c : Fin 4096) (tag : Nat) (s : State) :
    ∃ w, execRelease t c tag s = .next w ∧ Keeps s w := by
  have k := keeps_tick (t := t) (Keeps.refl s)
  exact ⟨_, rfl, keeps_beginOp (fun _ _ h => keeps_opRelease h) k⟩

theorem keeps_execReclaim (t : Nat) (c : Fin 4096) (tag : Nat) (s : State) :
    ∃ w, execReclaim t c tag s = .next w ∧ Keeps s w := by
  have k := keeps_tick (t := t) (Keeps.refl s)
  exact ⟨_, rfl, keeps_beginOp (fun _ _ h => keeps_opReclaim h) k⟩

theorem keeps_execReclaimRelease (t : Nat) (c : Fin 4096) (tag : Nat) (s : State) :
    ∃ w, execReclaimRelease t c tag s = .next w ∧ Keeps s w := by
  have k := keeps_tick (t := t) (Keeps.refl s)
  exact ⟨_, rfl, keeps_opReclaimRelease k⟩

theorem keeps_execDmaCopy (t : Nat) (c : Fin 4096) (tag : Nat) (ecc : DmaErrors) (s : State) :
    ∃ w, execDmaCopy t c tag ecc s = .next w ∧ Keeps s w := by
  have k := keeps_tick (t := t) (Keeps.refl s)
  exact ⟨_, rfl, keeps_beginOp (fun _ _ h => keeps_opDmaCopy h) k⟩

theorem keeps_execRegisterWrite (t : Nat) (a : Access) (s : State) :
    ∃ w, execRegisterWrite t a s = .next w ∧ Keeps s w := by
  have k := keeps_tick (t := t) (Keeps.refl s)
  exact ⟨_, rfl, keeps_opAccess k⟩

theorem keeps_execGlbLockSet (t : Nat) (b : Fin 21) (s : State) :
    ∃ w, execGlbLockSet t b s = .next w ∧ Keeps s w := by
  have k := keeps_tick (t := t) (Keeps.refl s)
  exact ⟨_, rfl, keeps_opLockSet k⟩

theorem keeps_execXo32Stop (t : Nat) (s : State) :
    ∃ w, execXo32Stop t s = .next w ∧ Keeps s w := by
  have k := keeps_tick (t := t) (Keeps.refl s)
  exact ⟨_, rfl, keeps_opXo32Stop k⟩

theorem keeps_execRooTick0Read (t : Nat) (ident : Fin 16) (s : State) :
    ∃ w, execRooTick0Read t ident s = .next w ∧ Keeps s w := by
  have k := keeps_tick (t := t) (Keeps.refl s)
  exact ⟨_, rfl, keeps_opTick0Read k⟩

theorem keeps_execRooTick2Read (t : Nat) (ident : Fin 16) (s : State) :
    ∃ w, execRooTick2Read t ident s = .next w ∧ Keeps s w := by
  have k := keeps_tick (t := t) (Keeps.refl s)
  exact ⟨_, rfl, keeps_opTick2Read k⟩

theorem keeps_execRooLoad (t : Nat) (s : State) :
    ∃ w, execRooLoad t s = .next w ∧ Keeps s w := by
  have k := keeps_tick (t := t) (Keeps.refl s)
  exact ⟨_, rfl, keeps_opRooLoad k⟩

theorem keeps_execRooLoadApply (t : Nat) (s : State) :
    ∃ w, execRooLoadApply t s = .next w ∧ Keeps s w := by
  have k := keeps_tick (t := t) (Keeps.refl s)
  exact ⟨_, rfl, keeps_opRooLoadApply k⟩

theorem keeps_execRooAlarm (t : Nat) (s : State) :
    ∃ w, execRooAlarm t s = .next w ∧ Keeps s w := by
  have k := keeps_tick (t := t) (Keeps.refl s)
  exact ⟨_, rfl, keeps_opRooAlarm k⟩

theorem keeps_execCalendarSecond (t : Nat) (s : State) :
    ∃ w, execCalendarSecond t s = .next w ∧ Keeps s w := by
  have k := keeps_tick (t := t) (Keeps.refl s)
  exact ⟨_, rfl, keeps_opCalendarSecond k⟩

theorem keeps_execCalendarWrite (t : Nat) (f : CalField) (v : Word) (s : State) :
    ∃ w, execCalendarWrite t f v s = .next w ∧ Keeps s w := by
  have k := keeps_tick (t := t) (Keeps.refl s)
  exact ⟨_, rfl, keeps_opCalendarWrite k⟩

theorem keeps_execMorRtStageWrite (t : Nat) (second : Bool) (v : Word) (s : State) :
    ∃ w, execMorRtStageWrite t second v s = .next w ∧ Keeps s w := by
  have k := keeps_tick (t := t) (Keeps.refl s)
  exact ⟨_, rfl, keeps_opRtStageWrite k⟩

theorem keeps_execMorRtCommit (t : Nat) (s : State) :
    ∃ w, execMorRtCommit t s = .next w ∧ Keeps s w := by
  have k := keeps_tick (t := t) (Keeps.refl s)
  exact ⟨_, rfl, keeps_opRtCommit k⟩

theorem keeps_execMorRtCancel (t : Nat) (s : State) :
    ∃ w, execMorRtCancel t s = .next w ∧ Keeps s w := by
  have k := keeps_tick (t := t) (Keeps.refl s)
  exact ⟨_, rfl, keeps_opRtCancel k⟩

theorem keeps_execRouteBoundarySwitch (t : Nat) (r : Fin 4096) (frame : Nat) (s : State) :
    ∃ w, execRouteBoundarySwitch t r frame s = .next w ∧ Keeps s w := by
  have k := keeps_tick (t := t) (Keeps.refl s)
  exact ⟨_, rfl, keeps_opRouteSwitch k⟩

theorem keeps_execRouteReservationRelease (t : Nat) (r : Fin 4096) (s : State) :
    ∃ w, execRouteReservationRelease t r s = .next w ∧ Keeps s w := by
  have k := keeps_tick (t := t) (Keeps.refl s)
  exact ⟨_, rfl, keeps_opReservationRelease k⟩

theorem keeps_execRouteCommit (t : Nat) (c : Fin 4096) (tag : Nat) (s : State) :
    ∃ w, execRouteCommit t c tag s = .next w ∧ Keeps s w := by
  have k := keeps_tick (t := t) (Keeps.refl s)
  exact ⟨_, rfl, keeps_beginOp (fun _ _ h => keeps_opRouteCommit h) k⟩

theorem keeps_execLoopSampleInstant (t : Nat) (slot : Fin 8192) (ecc : List BrickError) (s : State) :
    ∃ w, execLoopSampleInstant t slot ecc s = .next w ∧ Keeps s w := by
  have k := keeps_tick (t := t) (Keeps.refl s)
  exact ⟨_, rfl, keeps_opSampleInstant k⟩

theorem keeps_execEvaluationStart (t : Nat) (tile : Fin 128) (ecc : List BrickError) (s : State) :
    ∃ w, execEvaluationStart t tile ecc s = .next w ∧ Keeps s w := by
  have k := keeps_tick (t := t) (Keeps.refl s)
  exact ⟨_, rfl, keeps_opEvaluationStart k⟩

theorem keeps_execSpecFrameStart (t : Nat) (slot : Fin 8192) (n : FrameStart) (s : State) :
    ∃ w, execSpecFrameStart t slot n s = .next w ∧ Keeps s w := by
  have k := keeps_tick (t := t) (Keeps.refl s)
  exact ⟨_, rfl, keeps_opSpecFrameStart k⟩

theorem keeps_execEvaluationComplete (t : Nat) (slot : Fin 8192) (s : State) :
    ∃ w, execEvaluationComplete t slot s = .next w ∧ Keeps s w := by
  have k := keeps_tick (t := t) (Keeps.refl s)
  exact ⟨_, rfl, keeps_opEvaluationComplete k⟩

theorem keeps_execSpecFrameComplete (t : Nat) (slot : Fin 8192) (n : Nat) (s : State) :
    ∃ w, execSpecFrameComplete t slot n s = .next w ∧ Keeps s w := by
  have k := keeps_tick (t := t) (Keeps.refl s)
  exact ⟨_, rfl, keeps_opSpecFrameComplete k⟩

theorem keeps_execConfirmResult (t : Nat) (slot : Fin 8192) (s : State) :
    ∃ w, execConfirmResult t slot s = .next w ∧ Keeps s w := by
  have k := keeps_tick (t := t) (Keeps.refl s)
  exact ⟨_, rfl, keeps_opConfirm k⟩

theorem keeps_execLoopGuard (t : Nat) (slot : Fin 8192) (s : State) :
    ∃ w, execLoopGuard t slot s = .next w ∧ Keeps s w := by
  have k := keeps_tick (t := t) (Keeps.refl s)
  exact ⟨_, rfl, keeps_opLoopGuard k⟩

theorem keeps_execLoopOutputPhase (t : Nat) (slot : Fin 8192) (s : State) :
    ∃ w, execLoopOutputPhase t slot s = .next w ∧ Keeps s w := by
  have k := keeps_tick (t := t) (Keeps.refl s)
  exact ⟨_, rfl, keeps_opOutputPhase k⟩

theorem keeps_execSpecPacketReceive (t : Nat) (p : Packet) (s : State) :
    ∃ w, execSpecPacketReceive t p s = .next w ∧ Keeps s w := by
  have k := keeps_tick (t := t) (Keeps.refl s)
  exact ⟨_, rfl, keeps_opSpecPacket k⟩

theorem keeps_execDropPacketReceive (t : Nat) (p : Packet) (s : State) :
    ∃ w, execDropPacketReceive t p s = .next w ∧ Keeps s w := by
  have k := keeps_tick (t := t) (Keeps.refl s)
  exact ⟨_, rfl, keeps_opDropPacket k⟩

theorem keeps_execTallyBoundary (t : Nat) (s : State) :
    ∃ w, execTallyBoundary t s = .next w ∧ Keeps s w := by
  have k := keeps_tick (t := t) (Keeps.refl s)
  exact ⟨_, rfl, keeps_opTallyBoundary k⟩

theorem keeps_execGlbResyncRequest (t : Nat) (v : Word) (s : State) :
    ∃ w, execGlbResyncRequest t v s = .next w ∧ Keeps s w := by
  have k := keeps_tick (t := t) (Keeps.refl s)
  exact ⟨_, rfl, keeps_opResync k⟩

theorem keeps_execResyncSummaryWritten (t : Nat) (s : State) :
    ∃ w, execResyncSummaryWritten t s = .next w ∧ Keeps s w := by
  have k := keeps_tick (t := t) (Keeps.refl s)
  exact ⟨_, rfl, keeps_opResyncWritten k⟩

theorem keeps_execUpdateStage (t : Nat) (v : Word) (sigOk : Bool) (s : State) :
    ∃ w, execUpdateStage t v sigOk s = .next w ∧ Keeps s w := by
  have k := keeps_tick (t := t) (Keeps.refl s)
  exact ⟨_, rfl, keeps_opUpdCtl k⟩

theorem keeps_execUpdateStageDone (t : Nat) (sigOk : Bool) (s : State) :
    ∃ w, execUpdateStageDone t sigOk s = .next w ∧ Keeps s w := by
  have k := keeps_tick (t := t) (Keeps.refl s)
  exact ⟨_, rfl, keeps_opStageDone k⟩

theorem keeps_execUpdateArm (t : Nat) (v : Word) (s : State) :
    ∃ w, execUpdateArm t v s = .next w ∧ Keeps s w := by
  have k := keeps_tick (t := t) (Keeps.refl s)
  exact ⟨_, rfl, keeps_opUpdCtl k⟩

theorem keeps_execUpdateDisarm (t : Nat) (v : Word) (s : State) :
    ∃ w, execUpdateDisarm t v s = .next w ∧ Keeps s w := by
  have k := keeps_tick (t := t) (Keeps.refl s)
  exact ⟨_, rfl, keeps_opUpdCtl k⟩

theorem keeps_execUpdateDiscard (t : Nat) (v : Word) (s : State) :
    ∃ w, execUpdateDiscard t v s = .next w ∧ Keeps s w := by
  have k := keeps_tick (t := t) (Keeps.refl s)
  exact ⟨_, rfl, keeps_opUpdCtl k⟩

theorem keeps_execUpdateActivation (t : Nat) (s : State) :
    ∃ w, execUpdateActivation t s = .next w ∧ Keeps s w := by
  have k := keeps_tick (t := t) (Keeps.refl s)
  exact ⟨_, rfl, keeps_opActivationDue k⟩

theorem keeps_execRecoveryTftpRequest (t : Nat) (write : Bool) (file : List Byte) (octet : Bool) (blksize size : Option Nat) (s : State) :
    ∃ w, execRecoveryTftpRequest t write file octet blksize size s = .next w ∧ Keeps s w := by
  have k := keeps_tick (t := t) (Keeps.refl s)
  exact ⟨_, rfl, keeps_opTftpRequest k⟩

theorem keeps_execRecoveryTftpData (t : Nat) (blk : Nat) (data : List Byte) (s : State) :
    ∃ w, execRecoveryTftpData t blk data s = .next w ∧ Keeps s w := by
  have k := keeps_tick (t := t) (Keeps.refl s)
  exact ⟨_, rfl, keeps_opTftpData k⟩

theorem keeps_execRecoveryCanStart (t : Nat) (data : List Byte) (s : State) :
    ∃ w, execRecoveryCanStart t data s = .next w ∧ Keeps s w := by
  have k := keeps_tick (t := t) (Keeps.refl s)
  exact ⟨_, rfl, keeps_opCanStart k⟩

theorem keeps_execRecoveryCanData (t : Nat) (data : List Byte) (s : State) :
    ∃ w, execRecoveryCanData t data s = .next w ∧ Keeps s w := by
  have k := keeps_tick (t := t) (Keeps.refl s)
  exact ⟨_, rfl, keeps_opCanData k⟩

theorem keeps_execRecoveryCanEnd (t : Nat) (data : List Byte) (s : State) :
    ∃ w, execRecoveryCanEnd t data s = .next w ∧ Keeps s w := by
  have k := keeps_tick (t := t) (Keeps.refl s)
  exact ⟨_, rfl, keeps_opCanEnd k⟩

theorem keeps_execRecoveryDownloadDone (t : Nat) (sigOk written : Bool) (s : State) :
    ∃ w, execRecoveryDownloadDone t sigOk written s = .next w ∧ Keeps s w := by
  have k := keeps_tick (t := t) (Keeps.refl s)
  exact ⟨_, rfl, keeps_opDownloadDone k⟩

theorem keeps_execRecoveryExit (t : Nat) (rcvHigh : Bool) (s : State) :
    ∃ w, execRecoveryExit t rcvHigh s = .next w ∧ Keeps s w := by
  have k := keeps_tick (t := t) (Keeps.refl s)
  exact ⟨_, rfl, keeps_opRecoveryExit k⟩

end Sys2Proof.Machine
end

