-- ==== Sys2Proof/Laws/Reports.lean ====
section
/-!
SUPPORT. Laws/Reports.lean: what reporting leaves alone (Safety.lean, `Reports`), one lemma for each
reporting operation, and what raising an event sets.
-/

namespace Sys2Proof

open Machine

/-! ### Small field lemmas -/

theorem readByte_congr {s u : State} (h : u.dram = s.dram) (a : Nat) : u.readByte a = s.readByte a := by
  unfold State.readByte; rw [h]

theorem fld_congr {s u : State} {f : Fld} (h : u.reg f.off = s.reg f.off) : u.fld f = s.fld f := by
  unfold State.fld; rw [h]

theorem flag_congr {s u : State} {f : Fld} (h : u.reg f.off = s.reg f.off) : u.flag f = s.flag f := by
  unfold State.flag; rw [fld_congr h]

theorem reg_congr {s u : State} (h : u.regs = s.regs) (o : Nat) : u.reg o = s.reg o := by
  unfold State.reg; rw [h]

theorem Reports.fld {v u : State} (h : Reports v u) (f : Fld) (hf : reportReg f.off = false) :
    u.fld f = v.fld f := fld_congr (h.reg _ hf)

theorem Reports.flag {v u : State} (h : Reports v u) (f : Fld) (hf : reportReg f.off = false) :
    u.flag f = v.flag f := flag_congr (h.reg _ hf)

/-- Registers from the CTX block on are no reporting registers. -/
theorem quiet_of_le {o : Nat} (h : 0x40090 ≤ o) : reportReg o = false := by
  simp only [reportReg, Bool.or_eq_false_iff, Bool.and_eq_false_iff, decide_eq_false_iff_not, beq_eq_false_iff_ne]
  omega

/-! ### The relation -/

theorem Reports.refl (v : State) : Reports v v :=
  ⟨rfl, fun _ _ => rfl, rfl, rfl, fun _ _ => rfl, ⟨rfl, rfl⟩, id, fun _ _ _ => rfl, rfl, rfl, ⟨rfl, rfl, rfl⟩,
    ⟨rfl, rfl, rfl⟩, fun _ => ⟨rfl, rfl, rfl⟩, ⟨rfl, rfl, rfl⟩⟩

theorem Reports.cqSize {v u : State} (h : Reports v u) (c : Nat) : u.cqSize c = v.cqSize c := by
  unfold State.cqSize
  rw [h.fld _ (quiet_of_le (by simp only [F.CTX_CFG_CQ_LOG2, R.CTX_CFG]; omega))]

theorem Reports.cplBase {v u : State} (h : Reports v u) (c : Nat) :
    u.fld (F.CTX_CPL_BASE_ADDR c) = v.fld (F.CTX_CPL_BASE_ADDR c) :=
  h.fld _ (quiet_of_le (by simp only [F.CTX_CPL_BASE_ADDR, R.CTX_CPL_BASE]; omega))

theorem Reports.byte {v u : State} (h : Reports v u) (a : Nat) : reportByte u a ↔ reportByte v a := by
  unfold reportByte inCplRing inHenRing
  simp only [h.cqSize, h.cplBase, h.place.1, h.place.2]

theorem Reports.trans {v u w : State} (h : Reports v u) (k : Reports u w) : Reports v w where
  rest := by
    have e1 := k.rest; have e2 := h.rest
    generalize w.regs = r at *; generalize w.dram = d at *; generalize w.rings = g at *
    generalize w.host = o at *; generalize w.hen = n at *
    rw [e1]; rw [e2]
  reg off q := (k.reg off q).trans (h.reg off q)
  scanned := k.scanned.trans h.scanned
  badrec := k.badrec.trans h.badrec
  ring off q := (k.ring off q).trans (h.ring off q)
  place := ⟨k.place.1.trans h.place.1, k.place.2.trans h.place.2⟩
  buf b := k.buf (h.buf b)
  mem b a q := (k.mem (h.buf b) a (mt (h.byte a).1 q)).trans (h.mem b a q)
  ops := k.ops.trans h.ops
  lastRead := k.lastRead.trans h.lastRead
  period := ⟨k.period.1.trans h.period.1, k.period.2.1.trans h.period.2.1, k.period.2.2.trans h.period.2.2⟩
  summary := ⟨k.summary.1.trans h.summary.1, k.summary.2.1.trans h.summary.2.1, k.summary.2.2.trans h.summary.2.2⟩
  ptrs c := ⟨(k.ptrs c).1.trans (h.ptrs c).1, (k.ptrs c).2.1.trans (h.ptrs c).2.1,
    (k.ptrs c).2.2.trans (h.ptrs c).2.2⟩
  hen := ⟨k.hen.1.trans h.hen.1, k.hen.2.1.trans h.hen.2.1, k.hen.2.2.trans h.hen.2.2⟩

theorem Reports.ite {v s u : State} {p : Prop} [Decidable p] (h : Reports v s) (k : Reports v u) :
    Reports v (if p then s else u) := by split <;> assumption

/-! ### Steps of a report -/

/-- A write to a reporting register. -/
theorem reports_setReg (s : State) (o : Nat) (w : Word) (h : reportReg o = true) (h2 : o ≠ 0x40000) :
    Reports s (s.setReg o w) where
  rest := rfl
  reg off q := reg_setReg_ne _ _ (by rintro rfl; rw [h] at q; cases q)
  scanned := fld_setReg_ne _ _ _ (Ne.symm h2)
  badrec := fld_setReg_ne _ _ _ (Ne.symm h2)
  ring _ _ := rfl
  place := ⟨rfl, rfl⟩
  buf := id
  mem _ _ _ := rfl
  ops := rfl
  lastRead := rfl
  period := ⟨rfl, rfl, rfl⟩
  summary := ⟨rfl, rfl, rfl⟩
  ptrs _ := ⟨rfl, rfl, rfl⟩
  hen := ⟨rfl, rfl, rfl⟩

theorem reports_setFld (s : State) (f : Fld) (v : Nat) (h : reportReg f.off = true) (h2 : f.off ≠ 0x40000) :
    Reports s (s.setFld f v) := reports_setReg _ _ _ h h2

theorem reports_used (s : State) (v : Nat) : Reports s (s.setFld F.HEN_STAT_USED v) where
  rest := rfl
  reg off q := reg_setFld_ne _ _ _ (by rintro rfl; cases q)
  scanned := fld_setFld_ne _ _ _ _ (by unfold Fld.ok; decide) (.inr (by decide))
  badrec := fld_setFld_ne _ _ _ _ (by unfold Fld.ok; decide) (.inr (by decide))
  ring _ _ := rfl
  place := ⟨rfl, rfl⟩
  buf := id
  mem _ _ _ := rfl
  ops := rfl
  lastRead := rfl
  period := ⟨rfl, rfl, rfl⟩
  summary := ⟨rfl, rfl, rfl⟩
  ptrs _ := ⟨rfl, rfl, rfl⟩
  hen := ⟨rfl, rfl, rfl⟩

/-- A change of counters, raise counts and marks of the host rings. -/
theorem reports_host (s : State) (h : HostSt) (h1 : h.ops = s.host.ops) (h2 : h.lastRead = s.host.lastRead)
    (h3 : h.tallyLast = s.host.tallyLast) (h4 : h.tallyNext = s.host.tallyNext)
    (h5 : h.tallyPeriod = s.host.tallyPeriod) (h6 : h.summary = s.host.summary)
    (h7 : h.summaryAddr = s.host.summaryAddr) (h8 : h.summarySeq = s.host.summarySeq)
    (h9 : ∀ c, (spGet h.ctx c).sqTail = (spGet s.host.ctx c).sqTail ∧
      (spGet h.ctx c).sqHead = (spGet s.host.ctx c).sqHead ∧ (spGet h.ctx c).cqHead = (spGet s.host.ctx c).cqHead) :
    Reports s { s with host := h } where
  rest := rfl
  reg _ _ := rfl
  scanned := rfl
  badrec := rfl
  ring _ _ := rfl
  place := ⟨rfl, rfl⟩
  buf := id
  mem _ _ _ := rfl
  ops := h1
  lastRead := h2
  period := ⟨h3, h4, h5⟩
  summary := ⟨h6, h7, h8⟩
  ptrs := h9
  hen := ⟨rfl, rfl, rfl⟩

theorem reports_bumpBy (s : State) (f : Fld) (n : Nat) : Reports s (s.bumpBy f n) :=
  reports_host _ _ rfl rfl rfl rfl rfl rfl rfl rfl fun _ => ⟨rfl, rfl, rfl⟩

theorem reports_bump (s : State) (f : Fld) : Reports s (s.bump f) := reports_bumpBy s f 1

theorem reports_bumpMax (s : State) (f : Fld) (n : Nat) : Reports s (s.bumpMax f n) :=
  reports_host _ _ rfl rfl rfl rfl rfl rfl rfl rfl fun _ => ⟨rfl, rfl, rfl⟩

theorem reports_onceMark (s : State) (e k : Nat) : Reports s (s.onceMark e k) :=
  reports_host _ _ rfl rfl rfl rfl rfl rfl rfl rfl fun _ => ⟨rfl, rfl, rfl⟩

theorem reports_setCtx (s : State) (c : Nat) (x : CtxSt) (h1 : x.sqTail = (s.ctxSt c).sqTail)
    (h2 : x.sqHead = (s.ctxSt c).sqHead) (h3 : x.cqHead = (s.ctxSt c).cqHead) : Reports s (s.setCtx c x) := by
  refine reports_host _ _ rfl rfl rfl rfl rfl rfl rfl rfl fun c' => ?_
  rw [spGet_spSet]
  split
  · next e => subst e; exact ⟨h1, h2, h3⟩
  · exact ⟨rfl, rfl, rfl⟩

theorem reports_updateLine (s : State) (c : Nat) : Reports s (s.updateLine c) :=
  reports_setCtx _ _ _ rfl rfl rfl

/-! ### Stores -/

theorem readByte_dramPut (m : List Host.Cell) (a b : Nat) (x : Byte) (h : b ≠ a) :
    spGetD dramDefault (dramPut m a x) b = spGetD dramDefault m b := by
  unfold dramPut
  split
  · exact spGetD_spSetD_ne _ _ _ _ _ h
  · rfl

theorem readByte_dramPutAll (m : List Host.Cell) (a : Nat) (bs : List Byte) (b : Nat)
    (h : b < a ∨ a + bs.length ≤ b) :
    spGetD dramDefault (dramPutAll m a bs) b = spGetD dramDefault m b := by
  induction bs generalizing m a with
  | nil => rfl
  | cons x bs ih =>
    simp only [dramPutAll, List.length_cons] at h ⊢
    rw [ih _ _ (by omega), readByte_dramPut _ _ _ _ (by omega)]

/-- A store leaves every byte outside it. -/
theorem readByte_writeBytes_ne (s : State) (a : Nat) (bs : List Byte) (b : Nat)
    (h : b < a ∨ a + bs.length ≤ b) : (s.writeBytes a bs).readByte b = s.readByte b :=
  readByte_dramPutAll _ _ _ _ h

@[simp] theorem length_leBytes (n v : Nat) : (leBytes n v).length = n := by
  induction n generalizing v with
  | zero => rfl
  | succ n ih => simp [leBytes, ih]

theorem length_henBytes (r : HenRec) : (henBytes r).length = 32 := by
  simp [henBytes]

theorem ring_slot (w size k : Nat) (h : 0 < size) : w % size * k + k ≤ k * size := by
  have h1 : w % size + 1 ≤ size := Nat.mod_lt _ h
  calc w % size * k + k = (w % size + 1) * k := by ring
    _ ≤ size * k := Nat.mul_le_mul_right _ h1
    _ = k * size := Nat.mul_comm _ _

/-- A store inside a ring that reports may store to. -/
theorem reports_writeBytes (s : State) (a : Nat) (bs : List Byte)
    (h : HenBufInv s → ∀ b, a ≤ b → b < a + bs.length → reportByte s b) : Reports s (s.writeBytes a bs) where
  rest := rfl
  reg _ _ := rfl
  scanned := rfl
  badrec := rfl
  ring _ _ := rfl
  place := ⟨rfl, rfl⟩
  buf := id
  mem i b q := readByte_writeBytes_ne _ _ _ _ (by
    by_contra hc; exact q (h i b (by omega) (by omega)))
  ops := rfl
  lastRead := rfl
  period := ⟨rfl, rfl, rfl⟩
  summary := ⟨rfl, rfl, rfl⟩
  ptrs _ := ⟨rfl, rfl, rfl⟩
  hen := ⟨rfl, rfl, rfl⟩

theorem reports_writeRecord (s : State) {c : Nat} (body : Nat) (irq : Bool) (hc : c < 4096) :
    Reports s (s.writeRecord c body irq) := by
  unfold State.writeRecord
  extract_lets x size addr v1 v2
  have h1 : Reports s v1 := by
    refine reports_writeBytes _ _ _ fun _ b h1 h2 => .inl ⟨c, hc, ?_⟩
    have := ring_slot x.cqTail size 16 (Nat.two_pow_pos _)
    simp only [length_leBytes] at h2
    have e : s.cqSize c = size := rfl
    unfold inCplRing
    rw [e]
    exact ⟨Nat.le_trans (Nat.le_add_right _ _) h1, by
      have h3 : addr + 16 ≤ s.fld (F.CTX_CPL_BASE_ADDR c) * 4096 + 16 * size := by
        show s.fld (F.CTX_CPL_BASE_ADDR c) * 4096 + (x.cqTail % size) * 16 + 16 ≤ _
        rw [Nat.add_assoc]; exact Nat.add_le_add_left this _
      exact Nat.lt_of_lt_of_le h2 h3⟩
  have h2 : Reports v1 v2 := reports_setCtx _ _ _ rfl rfl rfl
  exact ((h1.trans h2).trans (reports_bump _ _)).trans (reports_updateLine _ _)

/-! ### Events -/

theorem reports_latchEvent (s : State) {e : Nat} (arg : Nat) (he : e < 256) : Reports s (s.latchEvent e arg) := by
  unfold State.latchEvent
  refine Reports.trans (Reports.trans (u := { s with host := { s.host with
      raises := spMod s.host.raises e (fun n => (n + 1) % 2 ^ 32) } }) ?_
    (reports_setFld _ _ _ ?_ ?_)) (reports_setFld _ _ _ ?_ ?_)
  · exact reports_host _ _ rfl rfl rfl rfl rfl rfl rfl rfl fun _ => ⟨rfl, rfl, rfl⟩
  · show reportReg (0x1400 + 4 * e) = true
    simp only [reportReg, Bool.or_eq_true, Bool.and_eq_true, decide_eq_true_eq]
    omega
  · simp only [F.GLB_EVT_ARG_ARG, R.GLB_EVT_ARG]; omega
  · show reportReg (0x200 + 4 * (e / 32)) = true
    simp only [reportReg, Bool.or_eq_true, Bool.and_eq_true, decide_eq_true_eq]
    omega
  · simp only [R.GLB_EVT_PEND]; omega

theorem evtCtx_lt (s : State) (e : Nat) : s.fld (F.GLB_EVT_RT_CTX e) < 4096 := fld_lt s _

theorem reports_eventRecord (s : State) (e arg : Nat) {c : Nat} (hc : c < 4096) :
    Reports s (s.eventRecord e arg c) := reports_writeRecord _ _ _ hc

theorem reports_eventLost (s : State) (c : Nat) : Reports s (s.eventLost c) := by
  unfold State.eventLost
  extract_lets v1 v2 d v3
  have h1 : Reports s v1 := reports_bump _ _
  have h2 : Reports s v2 := h1.trans ((reports_onceMark _ _ _).trans (reports_latchEvent _ _ (by decide)))
  have h3 : Reports s v3 := h2.trans (reports_bump _ _)
  exact Reports.ite h1 (Reports.ite h2 (Reports.ite (h2.trans (reports_eventRecord _ _ _ (evtCtx_lt _ _)))
    (Reports.ite h3 (h3.trans ((reports_onceMark _ _ _).trans (reports_latchEvent _ _ (by decide)))))))

/-- Raising an event is a report. -/
theorem reports_raise (s : State) {e : Nat} (arg : Nat) (he : e < 256) : Reports s (s.raise e arg) := by
  unfold State.raise
  extract_lets v1 c
  have h1 : Reports s v1 := reports_latchEvent _ _ he
  exact Reports.ite h1 (Reports.ite (h1.trans (reports_eventRecord _ _ _ (evtCtx_lt _ _)))
    (h1.trans (reports_eventLost _ _)))

theorem reports_raiseOnce (s : State) {e : Nat} (k arg : Nat) (he : e < 256) : Reports s (s.raiseOnce e k arg) :=
  Reports.ite (Reports.refl _) ((reports_onceMark _ _ _).trans (reports_raise _ _ he))

/-! ### The Hen's records -/

@[simp] theorem ring_setRing_self (s : State) (o : Nat) (r : RingSt) : (s.setRing o r).ring o = r :=
  spGet_spSet_self _ _ _

theorem ring_setRing_ne (s : State) {o o' : Nat} (r : RingSt) (h : o' ≠ o) : (s.setRing o r).ring o' = s.ring o' :=
  spGet_spSet_ne _ _ _ _ h

/-- A change of the records that wait for the export ring. -/
theorem reports_setBuf (s : State) (l : List (List Byte)) (h : HenBufInv s → ∀ r ∈ l, r.length = 32) :
    Reports s (s.setRing R.HEN_EXP_BASE_LO { s.ring R.HEN_EXP_BASE_LO with buf := l }) where
  rest := rfl
  reg _ _ := rfl
  scanned := rfl
  badrec := rfl
  ring _ q := ring_setRing_ne _ _ q
  place := by rw [ring_setRing_self]; exact ⟨rfl, rfl⟩
  buf i := by unfold HenBufInv; rw [ring_setRing_self]; exact h i
  mem _ _ _ := rfl
  ops := rfl
  lastRead := rfl
  period := ⟨rfl, rfl, rfl⟩
  summary := ⟨rfl, rfl, rfl⟩
  ptrs _ := ⟨rfl, rfl, rfl⟩
  hen := ⟨rfl, rfl, rfl⟩

theorem reports_flushOne (s : State) (r : List Byte) (l : List (List Byte))
    (h : (s.ring R.HEN_EXP_BASE_LO).buf = r :: l) :
    Reports s ((s.setRing henExport.off { s.ring henExport.off with buf := l }).ringStore henExport r) := by
  unfold State.ringStore
  extract_lets src g w v1
  have hg : g = { s.ring R.HEN_EXP_BASE_LO with buf := l } := ring_setRing_self _ _ _
  have h1 : Reports s (s.writeBytes (g.base + (w % 2 ^ g.log2) * henExport.recSize) r) := by
    refine reports_writeBytes _ _ _ fun hi b h1 h2 => .inr ?_
    have hr : r.length = 32 := hi r (by rw [h]; exact List.mem_cons_self)
    have := ring_slot w (2 ^ g.log2) 32 (Nat.two_pow_pos _)
    have e : henExport.recSize = 32 := rfl
    rw [e] at h1 h2
    unfold inHenRing
    rw [show (s.ring R.HEN_EXP_BASE_LO).base = g.base by rw [hg],
      show (s.ring R.HEN_EXP_BASE_LO).log2 = g.log2 by rw [hg]]
    omega
  have h2 : Reports _ v1 := reports_setBuf (s.writeBytes (g.base + (w % 2 ^ g.log2) * henExport.recSize) r) l
    fun hi q hq => hi q (by
      show q ∈ (s.ring R.HEN_EXP_BASE_LO).buf
      rw [h]; exact List.mem_cons_of_mem _ hq)
  clear_value w g
  exact (h1.trans h2).trans (reports_setFld _ _ _ (by decide) (by decide))

theorem reports_henFlushN (n : Nat) (s : State) : Reports s (ringFlushN n henExport s) := by
  induction n generalizing s with
  | zero => exact Reports.refl _
  | succ n ih =>
    unfold ringFlushN
    split
    · exact Reports.refl _
    · next r l h =>
      exact Reports.ite (Reports.refl _) (Reports.ite (reports_raiseOnce _ _ _ (by decide))
        ((reports_flushOne s r l h).trans (ih _)))

theorem reports_henPush (s : State) (r : HenRec) : Reports s (s.ringPush henExport (henBytes r) 0) := by
  unfold State.ringPush
  extract_lets src v1 v2 src3 v3 v4 v5
  have h1 : Reports s v1 := reports_setBuf _ _ fun hi q hq => by
    rcases List.mem_append.1 hq with hq | hq
    · exact hi q hq
    · rw [List.mem_singleton.1 hq, length_henBytes]
  have h2 : Reports s v2 := h1.trans (reports_henFlushN _ _)
  have h3 : Reports s v3 := h2.trans (reports_setBuf _ _ fun hi q hq => hi q (List.mem_of_mem_drop hq))
  have h4 : Reports s v4 := h3.trans (reports_bump _ _)
  have h5 : Reports s v5 := Reports.ite (h4.trans (Reports.ite (reports_raiseOnce _ _ _ (by decide)) (reports_raise _ _ (by decide)))) h2
  exact h5

/-- A change of the Hen's records, queue and bookkeeping. -/
theorem reports_hen (s : State) (h : HenSt) (h1 : h.hours = s.hen.hours) (h2 : h.pcyc = s.hen.pcyc)
    (h3 : h.tokens = s.hen.tokens) : Reports s { s with hen := h } where
  rest := rfl
  reg _ _ := rfl
  scanned := rfl
  badrec := rfl
  ring _ _ := rfl
  place := ⟨rfl, rfl⟩
  buf := id
  mem _ _ _ := rfl
  ops := rfl
  lastRead := rfl
  period := ⟨rfl, rfl, rfl⟩
  summary := ⟨rfl, rfl, rfl⟩
  ptrs _ := ⟨rfl, rfl, rfl⟩
  hen := ⟨h1, h2, h3⟩

theorem reports_henSetSlot (s : State) (k : Nat) (x : Option HenSlot) : Reports s (s.henSetSlot k x) :=
  reports_hen _ _ rfl rfl rfl

theorem reports_henEnqueue (s : State) (w : HenWrite) : Reports s (s.henEnqueue w) := by
  unfold State.henEnqueue
  extract_lets ahead behind past src v1 v2
  have h1 : Reports s v1 := reports_hen _ _ rfl rfl rfl
  have h2 : Reports s v2 := h1.trans (reports_bumpMax _ _ _)
  exact Reports.ite (h2.trans (reports_raiseOnce _ _ _ (by decide))) h2

theorem reports_henLost (s : State) (e : Nat) : Reports s (s.henLost e) :=
  (reports_bump _ _).trans (reports_raiseOnce _ _ _ (by decide))

theorem reports_henClose (s : State) : Reports s s.henClose := by
  unfold State.henClose
  split
  · exact Reports.refl _
  · extract_lets src v1
    have h1 : Reports s v1 := reports_hen _ _ rfl rfl rfl
    split
    · exact h1
    · extract_lets v2 rc
      have h2 : Reports s v2 := h1.trans (Reports.ite (reports_henEnqueue _ _) (reports_henLost _ _))
      exact Reports.ite (h2.trans (reports_henPush _ _)) h2

theorem reports_henMakeSeq (s : State) (sev event arg : Nat) (host : Option Nat) :
    Reports s (s.henMakeSeq sev event arg host).1 := by
  unfold State.henMakeSeq
  extract_lets k same src v1 v2 q src3 v3
  have h1 : Reports s v1 := reports_hen _ _ rfl rfl rfl
  have h3 : Reports s v3 := (reports_henClose _).trans (reports_hen _ _ rfl rfl rfl)
  clear_value same
  split
  · exact Reports.ite (h1.trans (reports_henClose _)) h1
  · split
    · exact h3.trans (reports_henLost _ _)
    · split
      · exact h3.trans ((reports_bump _ _).trans (reports_raiseOnce _ _ _ (by decide)))
      · next slot _ =>
        refine Reports.trans ?_ (reports_henEnqueue _ _)
        refine Reports.trans ?_ (reports_used _ _)
        exact h3.trans (reports_hen v3 _ rfl rfl rfl)

/-- Making a Hen record is a report. -/
theorem reports_henMake (s : State) (sev event arg : Nat) : Reports s (s.henMake sev event arg) :=
  reports_henMakeSeq _ _ _ _ _

/-! ### One event -/

theorem SameEvent.refl (e : Nat) (v : State) : SameEvent e v v := ⟨rfl, rfl, rfl⟩

theorem SameEvent.trans {e : Nat} {v u w : State} (h : SameEvent e v u) (k : SameEvent e u w) : SameEvent e v w :=
  ⟨k.1.trans h.1, k.2.1.trans h.2.1, k.2.2.trans h.2.2⟩

theorem SameEvent.ite {e : Nat} {v s u : State} {p : Prop} [Decidable p] (h : SameEvent e v s)
    (k : SameEvent e v u) : SameEvent e v (if p then s else u) := by split <;> assumption

theorem Raised.after {e a : Nat} {v u w : State} (h : Raised e a v u) (k : SameEvent e u w) : Raised e a v w :=
  ⟨k.1.trans h.1, k.2.1.trans h.2.1, k.2.2.trans h.2.2⟩

theorem Raised.before {e a : Nat} {v u w : State} (h : SameEvent e v u) (k : Raised e a u w) : Raised e a v w :=
  ⟨k.1, k.2.1, by rw [k.2.2, h.2.2]⟩

theorem Raised.ite {e a : Nat} {v s u : State} {p : Prop} [Decidable p] (h : Raised e a v s)
    (k : Raised e a v u) : Raised e a v (if p then s else u) := by split <;> assumption

/-- Nothing but other parts of the state has changed. -/
theorem sameEvent_of {v u : State} (e : Nat) (h1 : u.regs = v.regs) (h2 : u.host.raises = v.host.raises) :
    SameEvent e v u := by
  refine ⟨flag_congr (reg_congr h1 _), fld_congr (reg_congr h1 _), by rw [h2]⟩

/-- A write to a register outside the event registers. -/
theorem sameEvent_setReg (s : State) {e o : Nat} (w : Word) (he : e < 256)
    (h : o < 0x200 ∨ (0x220 ≤ o ∧ o < 0x1400) ∨ 0x1800 ≤ o) : SameEvent e s (s.setReg o w) := by
  have h1 : 0x200 + 4 * (e / 32) ≠ o := by omega
  have h2 : 0x1400 + 4 * e ≠ o := by omega
  refine ⟨?_, ?_, rfl⟩
  · exact flag_congr (reg_setReg_ne _ _ h1)
  · exact fld_setReg_ne _ _ _ h2

theorem sameEvent_setFld (s : State) {e : Nat} (f : Fld) (v : Nat) (he : e < 256)
    (h : f.off < 0x200 ∨ (0x220 ≤ f.off ∧ f.off < 0x1400) ∨ 0x1800 ≤ f.off) : SameEvent e s (s.setFld f v) :=
  sameEvent_setReg s _ he h

theorem sameEvent_writeBytes (s : State) (e a : Nat) (bs : List Byte) : SameEvent e s (s.writeBytes a bs) :=
  sameEvent_of e rfl rfl

theorem sameEvent_writeRecord (s : State) (e c body : Nat) (irq : Bool) : SameEvent e s (s.writeRecord c body irq) :=
  sameEvent_of e rfl rfl

theorem pendBit_ok (e : Nat) : (pendBit e).ok := by
  unfold Fld.ok pendBit; simp only []; omega

theorem evtArg_ok (e : Nat) : (F.GLB_EVT_ARG_ARG e).ok := Nat.le_refl 32

theorem pendBit_apart {d e : Nat} (h : d ≠ e) : (pendBit d).apart (pendBit e) := by
  unfold Fld.apart pendBit R.GLB_EVT_PEND
  simp only []; omega

theorem argPend_apart {d e : Nat} (he : e < 256) : (F.GLB_EVT_ARG_ARG d).apart (pendBit e) := by
  refine .inl ?_
  simp only [F.GLB_EVT_ARG_ARG, R.GLB_EVT_ARG, pendBit, R.GLB_EVT_PEND]; omega

theorem pendArg_apart {d e : Nat} (hd : d < 256) : (pendBit d).apart (F.GLB_EVT_ARG_ARG e) := by
  refine .inl ?_
  simp only [F.GLB_EVT_ARG_ARG, R.GLB_EVT_ARG, pendBit, R.GLB_EVT_PEND]; omega

theorem raised_latchEvent (s : State) {e : Nat} (arg : Nat) (he : e < 256) : Raised e arg s (s.latchEvent e arg) := by
  refine ⟨?_, ?_, ?_⟩
  · exact flag_setFlag_self _ (pendBit e) true (pendBit_ok e) rfl
  · exact (fld_setFld_ne _ (pendBit e) _ _ (evtArg_ok e) (pendArg_apart he)).trans
      (fld_setFld_self _ _ _ (evtArg_ok e))
  · exact spGet_spMod_self s.host.raises e (fun n => (n + 1) % 2 ^ 32)

theorem sameEvent_latchEvent (s : State) {d e : Nat} (arg : Nat) (hd : d < 256) (he : e < 256) (h : d ≠ e) :
    SameEvent e s (s.latchEvent d arg) := by
  refine ⟨?_, ?_, ?_⟩
  · exact (flag_setFld_ne _ (pendBit d) _ _ (pendBit_ok e) (pendBit_apart h)).trans
      (flag_setFld_ne _ _ _ _ (pendBit_ok e) (argPend_apart he))
  · exact (fld_setFld_ne _ (pendBit d) _ _ (evtArg_ok e) (pendArg_apart hd)).trans
      (fld_setFld_ne _ _ _ _ (evtArg_ok e) (by
        refine .inl ?_
        simp only [F.GLB_EVT_ARG_ARG, R.GLB_EVT_ARG]; omega))
  · exact spGet_spMod_ne s.host.raises d e (fun n => (n + 1) % 2 ^ 32) h.symm

theorem sameEvent_onceMark (s : State) (e d k : Nat) : SameEvent e s (s.onceMark d k) := sameEvent_of e rfl rfl
theorem sameEvent_bump (s : State) (e : Nat) (f : Fld) : SameEvent e s (s.bump f) := sameEvent_of e rfl rfl

theorem sameEvent_eventLost (s : State) {e : Nat} (c : Nat) (he : e < 256) (h : e ≠ 34) :
    SameEvent e s (s.eventLost c) := by
  unfold State.eventLost
  extract_lets v1 v2 d v3
  have h1 : SameEvent e s v1 := sameEvent_bump _ _ _
  have h2 : SameEvent e s v2 := h1.trans ((sameEvent_onceMark _ _ _ _).trans (sameEvent_latchEvent _ _ (by decide) he h.symm))
  have h3 : SameEvent e s v3 := h2.trans (sameEvent_bump _ _ _)
  exact SameEvent.ite h1 (SameEvent.ite h2 (SameEvent.ite (h2.trans (sameEvent_writeRecord _ _ _ _ _))
    (SameEvent.ite h3 (h3.trans ((sameEvent_onceMark _ _ _ _).trans (sameEvent_latchEvent _ _ (by decide) he h.symm))))))

/-- Raising event e raises it (R243). -/
theorem raised_raise (s : State) {e : Nat} (arg : Nat) (he : e < 256) (h : e ≠ 34) :
    Raised e arg s (s.raise e arg) := by
  unfold State.raise
  extract_lets v1 c
  have h1 : Raised e arg s v1 := raised_latchEvent _ _ he
  exact Raised.ite h1 (Raised.ite (h1.after (sameEvent_writeRecord _ _ _ _ _))
    (h1.after (sameEvent_eventLost _ _ he h)))

/-- Raising another event leaves event e. -/
theorem sameEvent_raise (s : State) {d e : Nat} (arg : Nat) (hd : d < 256) (he : e < 256) (h : d ≠ e) (h' : e ≠ 34) :
    SameEvent e s (s.raise d arg) := by
  unfold State.raise
  extract_lets v1 c
  have h1 : SameEvent e s v1 := sameEvent_latchEvent _ _ hd he h
  exact SameEvent.ite h1 (SameEvent.ite (h1.trans (sameEvent_writeRecord _ _ _ _ _))
    (h1.trans (sameEvent_eventLost _ _ he h')))

theorem sameEvent_raiseOnce (s : State) {d e : Nat} (k arg : Nat) (hd : d < 256) (he : e < 256) (h : d ≠ e)
    (h' : e ≠ 34) : SameEvent e s (s.raiseOnce d k arg) :=
  SameEvent.ite (SameEvent.refl _ _) ((sameEvent_onceMark _ _ _ _).trans (sameEvent_raise _ _ hd he h h'))

theorem raised_raiseOnce (s : State) {e : Nat} (k arg : Nat) (he : e < 256) (h : e ≠ 34)
    (hs : s.onceSeen e k = false) : Raised e arg s (s.raiseOnce e k arg) := by
  unfold State.raiseOnce
  rw [if_neg (by simp [hs])]
  exact Raised.before (sameEvent_onceMark _ _ _ _) (raised_raise _ _ he h)

/-- The events that making a Hen record can raise. -/
def henEvent (e : Nat) : Bool := e == 34 || e == 42 || e == 216 || e == 217 || e == 220

theorem henEvent_ne {e : Nat} (h : henEvent e = false) : e ≠ 34 ∧ 42 ≠ e ∧ 216 ≠ e ∧ 217 ≠ e ∧ 220 ≠ e := by
  simp only [henEvent, Bool.or_eq_false_iff, beq_eq_false_iff_ne] at h
  omega

theorem sameEvent_henFlushN (n : Nat) (s : State) {e : Nat} (he : e < 256) (h : henEvent e = false) :
    SameEvent e s (ringFlushN n henExport s) := by
  obtain ⟨h34, h42, -⟩ := henEvent_ne h
  induction n generalizing s with
  | zero => exact SameEvent.refl _ _
  | succ n ih =>
    unfold ringFlushN
    split
    · exact SameEvent.refl _ _
    · next r l _ =>
      refine SameEvent.ite (SameEvent.refl _ _) (SameEvent.ite (sameEvent_raiseOnce _ _ _ (by decide) he h42 h34)
        (SameEvent.trans ?_ (ih _)))
      unfold State.ringStore
      exact SameEvent.trans (sameEvent_of e rfl rfl) (sameEvent_setFld _ _ _ he (.inr (.inr (by decide))))

theorem sameEvent_henPush (s : State) (r : HenRec) {e : Nat} (he : e < 256) (h : henEvent e = false) :
    SameEvent e s (s.ringPush henExport (henBytes r) 0) := by
  obtain ⟨h34, h42, h216, h217, h220⟩ := henEvent_ne h
  unfold State.ringPush
  extract_lets src v1 v2 src3 v3 v4 v5
  have h1 : SameEvent e s v1 := sameEvent_of e rfl rfl
  have h2 : SameEvent e s v2 := h1.trans (sameEvent_henFlushN _ _ he h)
  have h3 : SameEvent e s v3 := h2.trans (sameEvent_of e rfl rfl)
  have h4 : SameEvent e s v4 := h3.trans (sameEvent_bump _ _ _)
  have h5 : SameEvent e s v5 := SameEvent.ite (h4.trans (SameEvent.ite
    (sameEvent_raiseOnce _ _ _ (by decide) he h220 h34) (sameEvent_raise _ _ (by decide) he h220 h34))) h2
  exact h5

theorem sameEvent_henEnqueue (s : State) (w : HenWrite) {e : Nat} (he : e < 256) (h : henEvent e = false) :
    SameEvent e s (s.henEnqueue w) := by
  obtain ⟨h34, h42, h216, h217, h220⟩ := henEvent_ne h
  unfold State.henEnqueue
  extract_lets ahead behind past src v1 v2
  have h2 : SameEvent e s v2 := sameEvent_of e rfl rfl
  exact SameEvent.ite (h2.trans (sameEvent_raiseOnce _ _ _ (by decide) he h42 h34)) h2

theorem sameEvent_henLost (s : State) (d : Nat) {e : Nat} (he : e < 256) (h : henEvent e = false) :
    SameEvent e s (s.henLost d) := by
  obtain ⟨h34, h42, h216, h217, h220⟩ := henEvent_ne h
  exact (sameEvent_bump _ _ _).trans (sameEvent_raiseOnce _ _ _ (by decide) he h217 h34)

theorem sameEvent_henClose (s : State) {e : Nat} (he : e < 256) (h : henEvent e = false) :
    SameEvent e s s.henClose := by
  unfold State.henClose
  split
  · exact SameEvent.refl _ _
  · extract_lets src v1
    have h1 : SameEvent e s v1 := sameEvent_of e rfl rfl
    split
    · exact h1
    · extract_lets v2 rc
      have h2 : SameEvent e s v2 := h1.trans (SameEvent.ite (sameEvent_henEnqueue _ _ he h) (sameEvent_henLost _ _ he h))
      exact SameEvent.ite (h2.trans (sameEvent_henPush _ _ he h)) h2

theorem sameEvent_henMakeSeq (s : State) (sev event arg : Nat) (host : Option Nat) {e : Nat} (he : e < 256)
    (h : henEvent e = false) : SameEvent e s (s.henMakeSeq sev event arg host).1 := by
  obtain ⟨h34, h42, h216, h217, h220⟩ := henEvent_ne h
  unfold State.henMakeSeq
  extract_lets k same src v1 v2 q src3 v3
  have h1 : SameEvent e s v1 := sameEvent_of e rfl rfl
  have h3 : SameEvent e s v3 := (sameEvent_henClose _ he h).trans (sameEvent_of e rfl rfl)
  clear_value same
  split
  · exact SameEvent.ite (h1.trans (sameEvent_henClose _ he h)) h1
  · split
    · exact h3.trans (sameEvent_henLost _ _ he h)
    · split
      · exact h3.trans ((sameEvent_bump _ _ _).trans (sameEvent_raiseOnce _ _ _ (by decide) he h216 h34))
      · next slot _ =>
        refine SameEvent.trans ?_ (sameEvent_henEnqueue _ _ he h)
        refine SameEvent.trans ?_ (sameEvent_setFld _ _ _ he (.inr (.inr (by decide))))
        exact h3.trans (sameEvent_of e rfl rfl)

theorem sameEvent_henMake (s : State) (sev event arg : Nat) {e : Nat} (he : e < 256) (h : henEvent e = false) :
    SameEvent e s (s.henMake sev event arg) := sameEvent_henMakeSeq _ _ _ _ _ he h

/-! ### Completing an operation -/

theorem reports_tallyCode (s : State) (c cls code : Nat) : Reports s (s.tallyCode c cls code) := by
  unfold State.tallyCode
  extract_lets v1 v2 v3
  have h1 : Reports s v1 := Reports.ite (reports_bump _ _) (Reports.refl _)
  have h2 : Reports s v2 := Reports.ite (h1.trans (reports_bump _ _)) h1
  have h3 : Reports s v3 := Reports.ite (h2.trans (reports_bump _ _)) h2
  exact Reports.ite (h3.trans (reports_bump _ _)) h3

/-- Completing an operation drops it and reports. -/
theorem reports_finish (s : State) (o : Op) (code detail result : Nat) (hc : o.ctx < 4096) :
    Reports (s.dropOp o.ctx o.tag) (s.finish o code detail result) := by
  unfold State.finish
  extract_lets late code' detail' v1 v2
  have h2 : Reports v1 v2 := reports_tallyCode _ _ _ _
  exact Reports.ite h2 (h2.trans (reports_writeRecord _ _ _ hc))

theorem sameEvent_tallyCode (s : State) (e c cls code : Nat) : SameEvent e s (s.tallyCode c cls code) := by
  unfold State.tallyCode
  extract_lets v1 v2 v3
  have h1 : SameEvent e s v1 := SameEvent.ite (sameEvent_bump _ _ _) (SameEvent.refl _ _)
  have h2 : SameEvent e s v2 := SameEvent.ite (h1.trans (sameEvent_bump _ _ _)) h1
  have h3 : SameEvent e s v3 := SameEvent.ite (h2.trans (sameEvent_bump _ _ _)) h2
  exact SameEvent.ite (h3.trans (sameEvent_bump _ _ _)) h3

theorem sameEvent_dropOp (s : State) {e : Nat} (c tag : Nat) (he : e < 256) : SameEvent e s (s.dropOp c tag) := by
  unfold State.dropOp State.showInflight
  refine SameEvent.trans (SameEvent.trans (sameEvent_of e rfl rfl) (sameEvent_setFld _ _ _ he (.inr (.inr ?_))))
    (sameEvent_setFld _ _ _ he (.inl (by decide)))
  simp only [F.CTX_STAT_INFLIGHT, R.CTX_STAT]; omega

theorem sameEvent_finish (s : State) (o : Op) (code detail result : Nat) {e : Nat} (he : e < 256) :
    SameEvent e s (s.finish o code detail result) := by
  unfold State.finish
  extract_lets late code' detail' v1 v2
  have h2 : SameEvent e s v2 := (sameEvent_dropOp _ _ _ he).trans (sameEvent_tallyCode _ _ _ _ _)
  exact SameEvent.ite h2 (h2.trans (sameEvent_writeRecord _ _ _ _ _))

end Sys2Proof
end

