-- ==== Sys2Proof/Laws/Start.lean ====
section
/-!
SUPPORT. Laws/Start.lean: how a descriptor's command begins, and what reports leave of the blocks.
-/

namespace Sys2Proof

open Machine

/-- Nothing of the state but set-up registers, module DRAM and the host rings. -/
structure HostOnly (v u : State) : Prop where
  rest : u = { v with regs := u.regs, dram := u.dram, host := u.host }

/-- The same, the DRAM tokens in service (R259) and the blocks' last requests (R431). -/
structure HostAndTokens (v u : State) : Prop where
  rest : u = { v with
    regs := u.regs, dram := u.dram, host := u.host
    qos := { v.qos with dramTo := u.qos.dramTo }, clk := { v.clk with workAt := u.clk.workAt } }

theorem HostOnly.refl (v : State) : HostOnly v v := ⟨rfl⟩

theorem HostOnly.trans {v u w : State} (h : HostOnly v u) (k : HostOnly u w) : HostOnly v w := by
  constructor
  have e1 := k.rest; have e2 := h.rest
  generalize w.regs = r at *; generalize w.dram = d at *; generalize w.host = o at *
  rw [e1]; rw [e2]

theorem HostOnly.ite {v s u : State} {p : Prop} [Decidable p] (h : HostOnly v s) (k : HostOnly v u) :
    HostOnly v (if p then s else u) := by split <;> assumption

theorem hostOnly_setReg (s : State) (o : Nat) (w : Word) : HostOnly s (s.setReg o w) := ⟨rfl⟩
theorem hostOnly_setFld (s : State) (f : Fld) (v : Nat) : HostOnly s (s.setFld f v) := hostOnly_setReg _ _ _
theorem hostOnly_host (s : State) (h : HostSt) : HostOnly s { s with host := h } := ⟨rfl⟩
theorem hostOnly_writeBytes (s : State) (a : Nat) (bs : List Byte) : HostOnly s (s.writeBytes a bs) := ⟨rfl⟩
theorem hostOnly_setCtx (s : State) (c : Nat) (x : CtxSt) : HostOnly s (s.setCtx c x) := hostOnly_host _ _
theorem hostOnly_setOps (s : State) (l : List Op) : HostOnly s (s.setOps l) := hostOnly_host _ _
theorem hostOnly_latch (s : State) (e a : Nat) : HostOnly s (s.latchEvent e a) :=
  ((hostOnly_host _ _).trans (hostOnly_setFld _ _ _)).trans (hostOnly_setFld _ _ _)
theorem hostOnly_mark (s : State) (e a : Nat) : HostOnly s (s.onceMark e a) := hostOnly_host _ _
theorem hostOnly_bump (s : State) (f : Fld) : HostOnly s (s.bump f) := hostOnly_host _ _
theorem hostOnly_bumpMax (s : State) (f : Fld) (n : Nat) : HostOnly s (s.bumpMax f n) := hostOnly_host _ _
theorem hostOnly_record (s : State) (c b : Nat) (i : Bool) : HostOnly s (s.writeRecord c b i) :=
  (((hostOnly_writeBytes _ _ _).trans (hostOnly_setCtx _ _ _)).trans (hostOnly_bump _ _)).trans (hostOnly_setCtx _ _ _)

theorem hostOnly_lost (s : State) (c : Nat) : HostOnly s (s.eventLost c) := by
  unfold State.eventLost
  extract_lets v1 v2 d v3
  have h1 : HostOnly s v1 := hostOnly_bump _ _
  have h2 : HostOnly s v2 := h1.trans ((hostOnly_mark _ _ _).trans (hostOnly_latch _ _ _))
  have h3 : HostOnly s v3 := h2.trans (hostOnly_bump _ _)
  exact HostOnly.ite h1 (HostOnly.ite h2 (HostOnly.ite (h2.trans (hostOnly_record _ _ _ _))
    (HostOnly.ite h3 (h3.trans ((hostOnly_mark _ _ _).trans (hostOnly_latch _ _ _))))))

theorem hostOnly_raise (s : State) (e a : Nat) : HostOnly s (s.raise e a) := by
  unfold State.raise
  extract_lets v1 c
  have h1 : HostOnly s v1 := hostOnly_latch _ _ _
  exact HostOnly.ite h1 (HostOnly.ite (h1.trans (hostOnly_record _ _ _ _)) (h1.trans (hostOnly_lost _ _)))

theorem hostOnly_raiseOnce (s : State) (e k a : Nat) : HostOnly s (s.raiseOnce e k a) :=
  HostOnly.ite (HostOnly.refl _) ((hostOnly_mark _ _ _).trans (hostOnly_raise _ _ _))

theorem hostOnly_dropOp (s : State) (c t : Nat) : HostOnly s (s.dropOp c t) :=
  (hostOnly_setOps _ _).trans ((hostOnly_setFld _ _ _).trans (hostOnly_setFld _ _ _))

theorem hostOnly_tallyCode (s : State) (c cls code : Nat) : HostOnly s (s.tallyCode c cls code) := by
  unfold State.tallyCode
  extract_lets v1 v2 v3
  have h1 : HostOnly s v1 := HostOnly.ite (hostOnly_bump _ _) (HostOnly.refl _)
  have h2 : HostOnly s v2 := HostOnly.ite (h1.trans (hostOnly_bump _ _)) h1
  have h3 : HostOnly s v3 := HostOnly.ite (h2.trans (hostOnly_bump _ _)) h2
  exact HostOnly.ite (h3.trans (hostOnly_bump _ _)) h3

theorem hostOnly_finish (s : State) (o : Op) (a b c : Nat) : HostOnly s (s.finish o a b c) := by
  unfold State.finish
  extract_lets late code' detail' v1 v2
  have h2 : HostOnly s v2 := (hostOnly_dropOp _ _ _).trans (hostOnly_tallyCode _ _ _ _)
  exact HostOnly.ite h2 (h2.trans (hostOnly_record _ _ _ _))

@[simp] theorem ctxSt_setCtx_self (s : State) (c : Nat) (x : CtxSt) : (s.setCtx c x).ctxSt c = x :=
  spGet_spSet_self s.host.ctx c x

theorem ctxSt_setCtx_ne (s : State) {c c' : Nat} (x : CtxSt) (h : c' ≠ c) : (s.setCtx c x).ctxSt c' = s.ctxSt c' :=
  spGet_spSet_ne s.host.ctx c c' x h

theorem HostOnly.andTokens {v u : State} (h : HostOnly v u) : HostAndTokens v u := by
  constructor
  have e := h.rest
  generalize u.regs = r at e; generalize u.dram = d at e; generalize u.host = o at e
  rw [e]

theorem HostAndTokens.trans {v u w : State} (h : HostAndTokens v u) (k : HostAndTokens u w) : HostAndTokens v w := by
  constructor
  have e1 := k.rest; have e2 := h.rest
  generalize w.regs = r at *; generalize w.dram = d at *; generalize w.host = o at *
  generalize w.qos.dramTo = q at *; generalize w.clk.workAt = a at *
  rw [e1]; rw [e2]

theorem HostAndTokens.ite {v s u : State} {p : Prop} [Decidable p] (h : HostAndTokens v s) (k : HostAndTokens v u) :
    HostAndTokens v (if p then s else u) := by split <;> assumption

theorem wakeBlock_hostAndTokens (s : State) (b : Nat) : HostAndTokens s (s.wakeBlock b) := by
  unfold State.wakeBlock
  exact HostAndTokens.ite ⟨rfl⟩ ⟨rfl⟩

theorem startOp_hostOnly (s : State) (o : Op) : HostOnly s (s.startOp o) := by
  unfold State.startOp State.modifyOp
  exact (hostOnly_setOps _ _).trans (hostOnly_bumpMax _ _ _)

theorem started_hostAndTokens (s : State) (o : Op) (b : Nat) : HostAndTokens s ((s.startOp o).wakeBlock b) :=
  (startOp_hostOnly s o).andTokens.trans (wakeBlock_hostAndTokens _ b)

theorem takeTokens_hostAndTokens (s : State) (o : Op) : HostAndTokens s (s.takeTokens o) := by
  unfold State.takeTokens
  split
  · exact ⟨rfl⟩
  · exact ⟨rfl⟩

/-- What starting an operation touches. -/
theorem begun_hostAndTokens (s : State) (o : Op) : HostAndTokens s (begun s o) :=
  (started_hostAndTokens s o _).trans (takeTokens_hostAndTokens _ o)

theorem formFault_hostAndTokens {v u : State} (h : HostAndTokens v u) (o : Op) : u.formFault o = v.formFault o := by
  rw [h.rest]; rfl

/-- A class below 6 waits on no threshold. -/
theorem pastThreshold_low (s : State) {k : Nat} (q : Nat) (h : k < 6) : s.pastThreshold k q = false := by
  unfold State.pastThreshold
  have e6 : (k == 6) = false := beq_eq_false_iff_ne.2 (by omega)
  have e7 : (k == 7) = false := beq_eq_false_iff_ne.2 (by omega)
  rw [e6, e7]; rfl

/-- An operation that may start runs on the state in which it has started. -/
theorem beginOp_startable {s : State} {c tag opcode : Nat} {o : Op} (h : Startable s c tag opcode o)
    (f : State → Op → State) : s.beginOp c tag opcode f = f (begun s o) (running s o) := by
  obtain ⟨h1, rfl, h3, h4, h5, h6⟩ := h
  unfold State.beginOp begun running
  rw [h1]
  dsimp only
  have hs := started_hostAndTokens s o (opcodeBlock o.opcode)
  have ht : s.inTime o = true := by
    have k := h3
    simp only [State.mayStart, Bool.and_eq_true] at k
    exact k.1.2
  have hc : ∀ u : State, u.crowded o = false := fun u => by
    simp only [State.crowded, Bool.and_eq_false_iff, decide_eq_false_iff_not]; exact .inl (by omega)
  have e : ((s.startOp o).wakeBlock (opcodeBlock o.opcode)).now = s.now := by rw [hs.rest]
  rw [formFault_hostAndTokens hs, h5, h4, h3, ht, hc, e]
  simp

end Sys2Proof
end

