-- ==== Sys2Proof/Machine/Pins.lean ====
section
/-!
DEFINITION. Machine/Pins.lean: the connectors and the signal of every pin (R517 to R523), the levels that
inputs take (R526), and the level of the output pins that the state gives (R211, R328, R434, R509, R527).
-/

namespace Sys2Proof.Machine

/-- The connectors of R517. -/
inductive Connector
  | a | b | c | d | e | f | g | p
  deriving DecidableEq, Repr

/-- Ways of a connector (R517). -/
def Connector.ways : Connector → Nat
  | .a => 112 | .b => 180 | .c => 180 | .d => 16 | .e => 64 | .f => 1 | .g => 12 | .p => 4

/-- A net of the pin tables. `low` is the N, L, B, minus or reference side of a pair. -/
inductive Signal
  | vsup | vload | gnd | agnd | notConnected | ign
  | ox (n : Nat) | oxReturn (n : Nat) | mule (n : Nat) | safeIn (i : Nat) (contactB : Bool)
  | safeOut (o : Nat) | testA | testB | feedback (f : Nat)
  | can (c : Nat) (low : Bool) | fin (k : Nat) | ain (k : Nat) | enc (j : Nat) (b : Bool)
  | piezo (k : Nat) (reference : Bool) | massExc (m : Nat) (minus : Bool) | massSig (m : Nat) (minus : Bool)
  | moisture (k : Nat) (shield : Bool) | sup5 (s : Nat) | sup12 (s : Nat)
  | eth (p pair : Nat) (n : Bool) | ppsOut | edpLane (l : Nat) (n : Bool) | edpAux (n : Bool)
  | hpd | blEn | blPwm | panelVdd | camera (n : Nat) | antenna | rcvN | svcN | clkObs
  deriving DecidableEq, Repr

/-- Is k from `lo` on, below `lo + n`? -/
def within (k lo n : Nat) : Bool := decide (lo ≤ k) && decide (k < lo + n)

/-- Connector A (R519). -/
def pinA (k : Nat) : Option Signal :=
  if within k 1 4 then some .vsup else if within k 5 6 then some .vload
  else if within k 11 8 || within k 100 8 then some .gnd
  else if k = 19 then some .ign
  else if within k 20 16 then some (.ox (k - 20))
  else if within k 36 24 then some (.mule (k - 36))
  else if within k 60 16 then some (.safeIn ((k - 60) / 2) ((k - 60) % 2 == 1))
  else if within k 76 2 then some .testA else if within k 78 2 then some .testB
  else if within k 80 8 then some (.can ((k - 80) / 2) ((k - 80) % 2 == 1))
  else if within k 88 4 then some (.fin (k - 88))
  else if within k 92 8 then some (.ain (k - 92))
  else if within k 108 5 then some .notConnected else none

/-- Connector B (R520). -/
def pinB (k : Nat) : Option Signal :=
  if within k 1 48 then some (.ox (k - 1)) else if within k 49 48 then some (.oxReturn (k - 49))
  else if within k 97 64 then some (.mule (k - 97))
  else if within k 161 8 then some (.safeOut (k - 161))
  else if within k 169 12 then some .gnd else none

/-- Connector C (R521). -/
def pinC (k : Nat) : Option Signal :=
  if within k 1 32 then some (.safeIn ((k - 1) / 2) ((k - 1) % 2 == 1))
  else if k = 33 then some .testA else if k = 34 then some .testB
  else if within k 35 4 then some (.feedback (k - 35))
  else if within k 39 32 then some (.piezo ((k - 39) / 2) ((k - 39) % 2 == 1))
  else if within k 71 16 then
    (let m := (k - 71) / 4
     match (k - 71) % 4 with
      | 0 => some (.massExc m false) | 1 => some (.massExc m true)
      | 2 => some (.massSig m false) | _ => some (.massSig m true))
  else if within k 87 4 then some (.moisture ((k - 87) / 2) ((k - 87) % 2 == 1))
  else if within k 91 32 then some (.ain (k - 91))
  else if within k 123 16 then some (.fin (k - 123))
  else if within k 139 16 then some (.enc ((k - 139) / 2) ((k - 139) % 2 == 1))
  else if within k 155 4 then some (.sup5 (k - 155)) else if within k 159 4 then some (.sup12 (k - 159))
  else if within k 163 18 then some .agnd else none

/-- Connector E (R522). -/
def pinE (k : Nat) : Option Signal :=
  if within k 1 24 then some (.can ((k - 1) / 2) ((k - 1) % 2 == 1))
  else if within k 25 16 then some (.eth ((k - 25) / 2) 0 ((k - 25) % 2 == 1))
  else if k = 41 then some .ppsOut
  else if within k 42 7 || k == 64 then some .gnd
  else if within k 49 8 then some (.edpLane ((k - 49) / 2) ((k - 49) % 2 == 1))
  else if within k 57 2 then some (.edpAux (k == 58))
  else if k = 59 then some .hpd else if k = 60 then some .blEn else if k = 61 then some .blPwm
  else if within k 62 2 then some .panelVdd else none

/-- The signal of a pin (R519 to R523). Pins with one signal are one net, so the shared pins of R518 are those
of equal signals. -/
def pinSignal (at_ : Connector) (k : Nat) : Option Signal :=
  match at_ with
  | .a => pinA k
  | .b => pinB k
  | .c => pinC k
  | .d => if within k 1 16 then some (.camera (k - 1)) else none
  | .e => pinE k
  | .f => if k = 1 then some .antenna else none
  | .g => if within k 1 8 then some (.eth 8 ((k - 1) / 2) ((k - 1) % 2 == 1))
      else if k = 9 then some .rcvN else if k = 10 then some .svcN else if k = 11 then some .clkObs
      else if k = 12 then some .gnd else none
  | .p => if k = 1 then some .vsup else if k = 2 then some .vload else if within k 3 2 then some .gnd else none

/-- The level of a digital input at `mv`: high and low by R526's limits, in mV, `was` between them (log entry
130). -/
def Signal.level (g : Signal) (mv : Nat) (was : Bool) : Option Bool :=
  let band := fun (lo hi : Nat) => if hi ≤ mv then some true else if mv ≤ lo then some false else some was
  match g with
  | .ign => band 3000 8000
  | .safeIn _ _ | .feedback _ => band 5000 11000
  | .fin _ | .enc _ _ => band 1500 3500
  | .hpd => some (decide (2000 ≤ mv))
  | _ => none

/-- The level of an output pin whose level the state gives: an Ox output is high for the share of its period
that OX_CH_MON shows, a Mule output while its switch is on (R527). -/
def State.pinLevel (s : State) (g : Signal) : Option Bool :=
  match g with
  | .mule n => if n < 64 then some (s.fld (F.MUL_CH_STAT_STATE n) == 1) else none
  | .safeOut o => if o < 8 then some (s.flag (F.GOO_OUT_STAT_ON o)) else none
  | .blEn => some s.dsp.backlight
  | .panelVdd => some s.dsp.supply
  | .ppsOut => some s.ppsLevel
  | .clkObs => if s.clkObs.isNone then some false else none
  | _ => none

end Sys2Proof.Machine
end

