-- ==== Sys2Proof/WellFormed.lean ====
section
/-!
DEFINITION. WellFormed.lean: which commands stand for something the spec can bring about: widths of
packet fields (R62), access offsets inside a window (R7, R228), descriptor tags (R231), brick words
(R57), frame lengths (R350, R483) and the like. The machine gives every command a meaning; a sender of
well-formed commands is what the manual describes.
-/

namespace Sys2Proof

/-- Header fields fit the header flit and the payload has at most 16 flits (R62). -/
def Packet.wf (p : Packet) : Bool :=
  decide (p.dst < 256) && decide (p.src < 256) && decide (p.cls < 8) && decide (p.typ < 8)
    && decide (p.stream < 4096) && decide (p.frame < 65536) && decide (p.addr < 2 ^ 64)
    && decide (p.payload.length ≤ 16)

/-- Bytes of a window: the set-up window 2 MiB, the doorbell window 16 MiB (R7, R228). -/
def Window.size : Window → Nat
  | .setup => 0x200000
  | .doorbell => 0x1000000

/-- An access lies in its window and is 1, 2, 4 or 8 bytes wide, by one of the 16 identities (R368). -/
def Access.wf (a : Access) : Bool :=
  decide (a.ident < 16) && decide (a.off < a.win.size)
    && (a.size == 1 || a.size == 2 || a.size == 4 || a.size == 8)

/-- A brick word exists and at least one of its 128 bits is wrong (R57, R58). -/
def BrickError.wf (e : BrickError) : Bool :=
  decide (e.tile < 128) && decide (e.word < 131072) && decide (0 < e.flips) && decide (e.flips < 2 ^ 128)

/-- An upset names one of the 661 units (R78) and bits of one byte. -/
def upsetWf (u : Nat × Nat × Nat) : Bool :=
  decide (u.1 < 661) && decide (0 < u.2.2) && decide (u.2.2 < 256)

/-- A descriptor's TAG is 16 bits wide (R231). -/
def tagWf (tag : Nat) : Bool := decide (tag < 65536)

/-- Which commands are well formed. -/
def Instr.wf (i : Instr) : Bool :=
  match i with
  | .registerWrite _ a => a.wf
  | .mortarPacketArrive _ p | .specPacketReceive _ p | .dropPacketReceive _ p | .oxCommandFlit _ p
  | .mulCommandFlit _ p | .canTxrtFlit _ p => p.wf
  | .loopSampleInstant _ _ ecc | .evaluationStart _ _ ecc => ecc.all BrickError.wf
  | .fusionStepStart _ _ bad ecc => bad.all (fun p => decide (p.1 < 16) && p.2.wf) && ecc.all BrickError.wf
  | .digestSweepPublish _ ecc upsets => ecc.all BrickError.wf && upsets.all upsetWf
  | .nop _ _ tag | .cancel _ _ tag | .cfgWrite _ _ tag _ | .cfgRead _ _ tag _ | .routeCommit _ _ tag
  | .stageDiscard _ _ tag | .loopEnable _ _ tag | .loopDisable _ _ tag | .loopRearm _ _ tag
  | .loopSwap _ _ tag | .loopBankWrite _ _ tag _ | .loopRead _ _ tag _ | .operationComplete _ _ tag
  | .operationDeadline _ _ tag | .quotaSet _ _ tag | .reclaim _ _ tag | .reclaimRelease _ _ tag
  | .acquire _ _ tag _ | .release _ _ tag | .waitGrant _ _ tag
  | .oxFaultClear _ _ tag _ _ _ | .oxStatusRead _ _ tag | .mulFaultClear _ _ tag _
  | .mulStatusRead _ _ tag | .canTx _ _ tag _ | .canFifoDrain _ _ tag | .henWrite _ _ tag
  | .henRead _ _ tag _ | .henClear _ _ tag | .idSign _ _ tag _ | .sessionOpen _ _ tag _ _
  | .sessionClose _ _ tag | .rebind _ _ tag _ | .rebindTimeout _ _ tag => tagWf tag
  | .dmaCopy _ _ tag ecc => tagWf tag && ecc.bricks.all BrickError.wf
  | .specFrameStart _ _ n => n.ecc.all BrickError.wf
  | .piezoWindowClose _ _ grain chaff => decide (grain ≤ 32768) && decide (chaff ≤ 32768)
  | .gooseSpeedUpdate _ low high => low.length == 8 && high.length == 8
  | .massFlowInterval _ u v => u.length == 4 && u.all (fun x => x.length == 20) && v.length == 16
  | .forecastFramePublish _ feed conf _ _ => feed.length == 96 && conf.length == 96
  | .canFrameReceived _ _ _ data _ _ rec => decide (data.length ≤ 64) && decide (rec < 128)
  | .canFrameSent _ _ tec | .canTxFailure _ _ _ tec => decide (tec < 256)
  | .canErrorStateChange _ _ _ tec rec => decide (tec < 256) && decide (rec < 128)
  | .csiLongPacket _ _ vc dt _ _ _ _ => decide (vc < 16) && decide (dt < 64)
  | .henScanComplete _ bad => bad.all (fun k => decide (k < 32768))
  | .memberMissing _ m => decide (1 ≤ m.val)
  | .recoveryCanStart _ data | .recoveryCanData _ data | .recoveryCanEnd _ data => decide (data.length ≤ 64)
  | .identityChallenge _ _ c => decide (c.src < 2 ^ 48)
  | .dspVerticalStart _ late => late.all (fun y => decide (y < 4096))
  | .ethFrameReceived _ _ frame _ _ => decide (frame.length ≤ 1522)
  | _ => true

end Sys2Proof
end

