-- ==== Sys2Proof/Tests/Slice0.lean ====
section
/-!
SUPPORT. Tests/Slice0.lean: small tests of the model, and for each statement with hypotheses a state and operands
that meet them. Expected results come from the spec's own worked examples and tables, by hand.
-/

namespace Sys2Proof.Tests

open Machine


/-! ### Well-formedness: an ill-formed term for each check, which the check refuses -/

theorem test_wf_packet : (Instr.mortarPacketArrive 0 { (default : Packet) with dst := 256 }).wf = false ∧
    (Instr.specPacketReceive 0 { (default : Packet) with src := 256 }).wf = false ∧
    (Instr.dropPacketReceive 0 { (default : Packet) with cls := 8 }).wf = false ∧
    (Instr.oxCommandFlit 0 { (default : Packet) with typ := 8 }).wf = false ∧
    (Instr.mulCommandFlit 0 { (default : Packet) with stream := 4096 }).wf = false ∧
    (Instr.canTxrtFlit 0 { (default : Packet) with frame := 65536 }).wf = false ∧
    (Instr.mortarPacketArrive 0 { (default : Packet) with addr := 2 ^ 64 }).wf = false ∧
    (Instr.mortarPacketArrive 0 { (default : Packet) with payload := List.replicate 17 0 }).wf = false ∧
    (Instr.mortarPacketArrive 0 default).wf = true := by decide

theorem test_wf_access : (Instr.registerWrite 0 ⟨16, .setup, 0, 4, false, 0⟩).wf = false ∧
    (Instr.registerWrite 0 ⟨0, .setup, 0x200000, 4, false, 0⟩).wf = false ∧ (Instr.registerWrite 0 ⟨0, .setup, 0, 3, false, 0⟩).wf = false ∧
    (Instr.registerWrite 0 ⟨15, .doorbell, 0x200000, 8, false, 0⟩).wf = true := by decide

theorem test_wf_bricks : (Instr.loopSampleInstant 0 0 [⟨128, 0, 1⟩]).wf = false ∧ (Instr.evaluationStart 0 0 [⟨0, 131072, 1⟩]).wf = false ∧
    (Instr.fusionStepStart 0 0 [(16, ⟨0, 0, 1⟩)] []).wf = false ∧ (Instr.fusionStepStart 0 0 [] [⟨0, 0, 0⟩]).wf = false ∧
    (Instr.fusionStepStart 0 0 [(15, ⟨0, 0, 1⟩)] []).wf = true ∧ (Instr.digestSweepPublish 0 [⟨0, 0, 2 ^ 128⟩] []).wf = false ∧
    (Instr.digestSweepPublish 0 [] [(661, 0, 1)]).wf = false ∧ (Instr.digestSweepPublish 0 [] [(0, 0, 256)]).wf = false ∧
    (Instr.digestSweepPublish 0 [⟨127, 131071, 1⟩] [(660, 0, 255)]).wf = true := by decide

theorem test_wf_dma : (Instr.dmaCopy 0 0 0 ⟨true, [⟨128, 0, 1⟩]⟩).wf = false ∧ (Instr.dmaCopy 0 0 65536 ⟨true, []⟩).wf = false ∧
    (Instr.dmaCopy 0 0 65535 ⟨true, [⟨127, 0, 1⟩]⟩).wf = true := by decide

theorem test_wf_lists : (Instr.gooseSpeedUpdate 0 (List.replicate 8 0) (List.replicate 7 0)).wf = false ∧ (Instr.gooseSpeedUpdate 0 (List.replicate 8 0) (List.replicate 8 0)).wf = true ∧
    (Instr.massFlowInterval 0 (List.replicate 4 (List.replicate 19 0)) (List.replicate 16 0)).wf = false ∧
    (Instr.massFlowInterval 0 (List.replicate 3 (List.replicate 20 0)) (List.replicate 16 0)).wf = false ∧
    (Instr.massFlowInterval 0 (List.replicate 4 (List.replicate 20 0)) (List.replicate 16 0)).wf = true ∧
    (Instr.forecastFramePublish 0 (List.replicate 95 0) (List.replicate 96 0) 0 []).wf = false ∧
    (Instr.forecastFramePublish 0 (List.replicate 96 0) (List.replicate 96 0) 0 []).wf = true ∧
    (Instr.identityChallenge 0 0 ⟨2 ^ 48, []⟩).wf = false ∧ (Instr.dspVerticalStart 0 [4096]).wf = false ∧
    (Instr.dspVerticalStart 0 [4095]).wf = true := by decide

theorem test_wf_fields : (Instr.nop 0 0 65536).wf = false ∧ (Instr.piezoWindowClose 0 0 32769 0).wf = false ∧
    (Instr.oxFaultClear 0 0 65536 false () 0).wf = false ∧
    (Instr.canErrorStateChange 0 0 0 256 0).wf = false ∧
    (Instr.canFrameReceived 0 0 0 (List.replicate 65 0) 0 0 0).wf = false ∧ (Instr.canFrameSent 0 0 256).wf = false ∧
    (Instr.canTxFailure 0 0 false 256).wf = false ∧ (Instr.canErrorStateChange 0 0 0 0 128).wf = false ∧
    (Instr.csiLongPacket 0 0 16 0 false false false []).wf = false ∧ (Instr.csiLongPacket 0 0 0 64 false false false []).wf = false ∧ (Instr.henScanComplete 0 [32768]).wf = false ∧
    (Instr.memberMissing 0 0).wf = false ∧ (Instr.recoveryCanStart 0 (List.replicate 65 0)).wf = false := by decide

theorem test_wf_frame : ∀ n, 1522 < n → (Instr.ethFrameReceived 0 0 (List.replicate n 0) true 0).wf = false := by
  intro n h; simp [Instr.wf]; exact h

/-! ### The manual's worked examples -/

/-- "One PID sample in Q15", chapter 4: F01 with SHIFT 2 gives 7,182 and the I and D of its table. -/
theorem test_pid_example :
    let r : Record := fun i => if i = 0 then place 2 79 4 + place 3 86 4 else if i = 7 then place (ofSigned 16 (-16384)) 0 16 + place 16384 16 16 else 0
    let b : Bank := fun i => if i = 0 then place 16384 0 16 + place 328 16 16 + place 8192 32 16 + place 24576 48 16 + place 4096 64 16 else 0
    let x := pidLaw r b (place 6390 64 16) (place 107374182 0 40 + place (ofSigned 40 (-4000000)) 64 40)
      [⟨8192, true, 0, []⟩, ⟨6554, true, 0, []⟩, ⟨1638, true, 0, []⟩]
    x.1 = 7182 ∧ toSigned 40 (bitsOf x.2.1 0 40) = 109523238 ∧ toSigned 40 (bitsOf x.2.1 64 40) = -8373952 ∧ x.2.2.1 = 6554 ∧ x.2.2.2 = false := by decide

/-- Advances of a field until it carries out, from a written value. -/
def carryAfter (f : CalField) (mon year : Nat) : Nat → Nat → Nat
  | 0, _ => 0
  | n + 1, v => let x := calAdvanceField f mon year v
                if x.2 then 1 else 1 + carryAfter f mon year n x.1

set_option maxRecDepth 8000 in
/-- The rollovers of R475 from written values. -/
theorem test_calendar_rollovers : carryAfter .sec 1 0 50 0x5A = 38 ∧ carryAfter .sec 1 0 50 0x4A = 16 ∧ carryAfter .min 1 0 50 0x60 = 32 ∧
    carryAfter .hour 1 0 50 0x24 = 28 ∧ carryAfter .hour 1 0 50 0x1A = 10 ∧ calAdvanceField .dow 1 0 0 = (1, false) ∧
    calAdvanceField .date 1 0 0 = (1, false) ∧ carryAfter .date 4 0 50 0x31 = 15 ∧ carryAfter .date 2 0 50 0x29 = 1 ∧
    carryAfter .date 2 1 50 0x29 = 23 ∧ carryAfter .mon 1 0 50 0x13 = 13 ∧ calAdvanceField .mon 0 0 0 = (1, false) ∧
    calAdvanceField .year 1 0x99 0x99 = (0, true) ∧ carryAfter .year 1 0 150 0x9A = 102 := by decide

/-- "Holdover at the field edge", chapter 6: ERREST reads 3 after 2.5 s and 62 after 61 s + 18.4 us. -/
theorem test_holdover_bound : let s := State.reset.setFld F.FUS_TB_STAT_STATE 3
    ({ s with now := 2500 * psPerMs, fus := { s.fus with bound := 80, lastEdge := 0, held := true } } : State).errest = 3 ∧
    ({ s with now := 61000018400 * 1000, fus := { s.fus with bound := 80, lastEdge := 0, held := true } } : State).errest = 62 := by decide

theorem test_when_StepFront : ({ State.reset with pending := [.xo32Stop 0] } : State).pending = .xo32Stop 0 :: [] := by
  decide

theorem test_when_StepIdle : State.reset.pending = [] := by decide

theorem test_when_StepMemory : MemInv State.reset ∧ Machine.step State.reset = .next State.reset :=
  ⟨⟨rfl, by intro c h; cases h⟩, rfl⟩

theorem test_when_StepRegisters : RegInv State.reset ∧ Machine.step State.reset = .next State.reset := ⟨rfl, rfl⟩

theorem test_when_StepOrder : Machine.step State.reset = .next State.reset := rfl

theorem test_when_EventRaised : (255 < 256 ∧ 255 ≠ 34) ∧ (0 < 256 ∧ 0 ≠ 34) := by decide

theorem test_when_EventFrame : 0 < 256 ∧ 255 < 256 := by decide

theorem test_when_HenRecordFrame : 255 < 256 ∧ 255 ∉ [34, 42, 216, 217, 220] := by decide

theorem test_when_StoredBytes : (2 ^ 36 - 1) + ([1] : List Byte).length ≤ dramSize ∧ 0 < ([1] : List Byte).length := by
  decide

/-- Context 0 with one operation of this descriptor in flight, host software running, in FIELD. -/
def withOp (w0 w1 w2 : Nat) : State :=
  let o : Op := { (default : Op) with cls := 3, w0 := BitVec.ofNat 128 w0, w1 := BitVec.ofNat 128 w1, w2 := BitVec.ofNat 128 w2, deadline := 1000000 }
  let s : State := { State.reset with mode := .field, host := { State.reset.host with ops := [o] } }
  s.setFlag F.GLB_BOOT_STAT_READY true

/-- The operation of `withOp`. -/
def theOp (s : State) : Op := s.host.ops.headD default

theorem startable_withOp (s : State) (op : Nat) (h : s.findOp 0 0 = some (theOp s) ∧ (theOp s).opcode = op ∧
    s.mayStart (theOp s) = true ∧ s.servesRings = true ∧ s.formFault (theOp s) = none ∧ (theOp s).cls < 6) :
    Startable s 0 0 op (theOp s) := ⟨h.1, h.2.1, h.2.2.1, h.2.2.2.1, h.2.2.2.2.1, h.2.2.2.2.2⟩

theorem test_when_nop : Startable ((withOp 0 0 0).tick 5) 0 0 0x00 (theOp (withOp 0 0 0)) :=
  startable_withOp ((withOp 0 0 0).tick 5) 0 (by decide)

theorem test_when_nopFault : let s := (withOp 0 1 0).tick 5; s.findOp 0 0 = some (theOp s) ∧
    s.formFault (theOp s) = some (faultDetail 1 0 2) ∧ s.mayStart (theOp s) = true ∧ s.servesRings = true := by decide

theorem test_when_opLate : let s := (withOp 0x34 0 0).tick 2000000
    s.findOp 0 0 = some (theOp s) ∧ (theOp s).phase = .queued ∧ s.servesRings = true ∧ 3 ≤ (theOp s).cls ∧
      (theOp s).deadline < s.now := by decide

theorem test_when_nopIdle : State.reset.findOp 0 0 = none := by decide

theorem test_when_opRange : (let o := theOp (withOp 0x51 0x9C 0); o.opcode = 0x51 ∧ 12 ≤ o.arg1 0 4 ∧ 8 < o.arg1 4 4) ∧
    (let o := theOp (withOp 0x24 0 0); o.opcode = 0x24 ∧ o.arg1 22 7 = 0) ∧
    (let o := theOp (withOp 0x30 0x60000 0); o.opcode = 0x30 ∧ 6 ≤ o.arg1 16 4) ∧
    (let o := theOp (withOp 0x31 0x1010006 0); o.opcode = 0x31 ∧ 5 < o.arg1 0 8 ∧ 256 < o.arg1 16 9) ∧
    (let o := theOp (withOp 0x34 0x000101C000000000 0); o.opcode = 0x34 ∧ 448 ≤ o.arg1 32 9 ∨ o.arg1 48 16 % 16 ≠ 0) ∧
    (let o := theOp (withOp 0x40 48 0); o.opcode = 0x40 ∧ 48 ≤ o.arg1 0 6) ∧
    (let o := theOp (withOp 0x71 0 0); o.opcode = 0x71 ∧ o.arg1 32 16 = 0) := by decide

/-- FIELD after reset, with the module up for `ms` milliseconds. -/
def fieldAt (ms : Nat) : State := { State.reset with mode := .field, now := ms * psPerMs }

theorem test_when_PowerSupply : (let v := (fieldAt 20).tick 0; v.hubRuns = true ∧
    (v.showSupply 15999).fld F.PWR_STAT_BAND = 0 ∧ v.domOn 12 = true ∧ v.domOn 8 = true ∧ v.domOn 1 = true) ∧
    (let v := ((fieldAt 200).setFld F.PWR_STAT_BAND 2).tick 0
     v.fld F.PWR_STAT_BAND = 2 ∧ v.pwr.crankAt + 200 * psPerMs ≤ v.now) ∧
    (let v := ((fieldAt 199).setFld F.PWR_STAT_BAND 2).tick 0
     (v.showSupply 10000).fld F.PWR_STAT_BAND = 2 ∧ v.pwr.crankAt + 2000 * psPerUs ≤ v.now ∧
       (v.showSupply 10000).crankOver = false) := by decide

theorem test_when_PowerStarts :
    (let v := (({ State.reset with pwr := { State.reset.pwr with ign := true } }) : State).tick 5
     v.mode = .standby ∧ v.flag F.PWR_STAT_AOSRC = false ∧
       v.wakeSources &&& bitsOf (v.reg R.PWR_WAKE_CFG).toNat 0 4 ≠ 0 ∧
       (v.showVao 2699).flag F.PWR_STAT_AOSRC = false ∧ v.hubRuns = false ∧ v.heldUp = false) ∧
    (let v := (State.reset.setFlag F.PWR_STAT_AOSRC true).tick 5
     (v.showVao 2801).flag F.PWR_STAT_AOSRC = true ∧ v.flag F.PWR_STAT_AOSRC = true) ∧
    (let v := (fieldAt 10).tick 0; v.hubRuns = true ∧ v.modTime = 10 * psPerMs) := by decide

theorem test_when_RoosterCount : (fieldAt 1).pwr.xoRuns = true ∧ (fieldAt 1).hubRuns = true ∧
    (let v := ((fieldAt 1).setFlag F.ROO_STAT_LOADPEND true).tick 0
     v.flag F.ROO_STAT_LOADPEND = true ∧ v.pwr.loadRaw < v.rawTicks) ∧
    (let v := ((fieldAt 1).setFlag F.ROO_CTL_ALMEN true).tick 0
     v.flag F.ROO_STAT_LOADPEND = false ∧ v.flag F.ROO_CTL_ALMEN = true ∧ v.pwr.almRaw < v.rawTicks ∧
       v.triple F.ROO_ALM0_VALUE F.ROO_ALM1_VALUE F.ROO_ALM2_VALUE ≤ v.tickCount) := by decide

theorem test_when_RoosterCalendar : (let v := ((fieldAt 1000).setFld F.ROO_CAL_SEC_SEC 0x58).tick 0
     v.pwr.calBase + 32768 ≤ v.trimmed ∧ v.secWaits = false ∧ v.calWritten = [] ∧ bcdOk (v.fld F.ROO_CAL_SEC_SEC) = true ∧ v.fld F.ROO_CAL_SEC_SEC < 0x59) ∧
    (let v := ((fieldAt 1000).setFld F.ROO_CAL_SEC_SEC 0x59).tick 0
     v.fld F.ROO_CAL_SEC_SEC = 0x59 ∧ v.fld F.ROO_CAL_MIN_MIN < 0x59) ∧
    (let v := ({ fieldAt 1000 with pending := [.calendarWrite (1000 * psPerMs) .sec 0] } : State).tick 0; v.secWaits = true) ∧
    (let v := opCalendarWrite .min true 0 ((fieldAt 1000).tick 0)
     v.calWritten.any (fun w => w.field == .min && w.legacy) = true ∧
       v.calWritten.any (fun w => w.field == .sec && w.legacy) = false) ∧
    bcdOk ((0x59#32).toNat % 128) = true ∧ 0x59 < (0x5A#32).toNat % 128 := by decide

/-- R475: 23:59:59 on 28 February of year 00, a leap year by its nibbles, is followed by 29 February. -/
theorem test_leapDay : monthLength 0x02 0x00 = 0x29 ∧ monthLength 0x02 0x01 = 0x28 ∧ monthLength 0x11 0x99 = 0x30 := by
  decide

/-- A relock of domain 0 under way. -/
def relocking (r : Relock) : State := ((fieldAt 200).setRelock 0 (some r)).tick 0

theorem test_when_ClockRelocks :
    ((relocking default).relockOf 0 = some default ∧ (default : Relock).locked = false ∧ (default : Relock).failed = false
      ∧ (default : Relock).startAt + 500 * psPerUs ≤ (relocking default).now) ∧
    (let r : Relock := { (default : Relock) with locked := true, passes := 1, fails := 7 }
     (relocking r).relockOf 0 = some r ∧ r.windowAt + 8 * psPerUs ≤ (relocking r).now) ∧
    (let r : Relock := { (default : Relock) with failed := true }
     (relocking r).relockOf 0 = some r ∧ r.startAt + 100 * psPerMs ≤ (relocking r).now) ∧
    ((fieldAt 1).relockOf 15 = none ∧ ((fieldAt 1).setFld (F.CLK_DOM_STAT_SRC 15) 0).flag (F.CLK_DOM_STAT_SRC 15) = false)
    := by decide

theorem test_when_ClockJudgement : (let v := (fieldAt 1).tick 0
     v.hubRuns = true ∧ countGood 0 2551 = false ∧ countGood 0 2550 = true ∧ spGet v.clk.good 0 + 1 < 8 ∧ 20 ∉ [0, 1, 2, 3, 5, 10, 14, 15] ∧
       v.fld (F.CLK_GATE_STATE 20) = 0 ∧ max v.bootAt (spGet v.clk.workAt 20) + v.idlePs 20 ≤ v.now) ∧
    (let v := ({ (fieldAt 1).setFld F.CLK_OSC_STAT_STABLE 15 with clk := { State.reset.clk with bad := [(2, 1)] } } : State)
     v.oscStable 0 = true ∧ v.oscStable 2 = true ∧ countGood 2 0 = false ∧ 1 ≤ spGet v.clk.bad 2) ∧
    100000000 * (bitsOf (4#32).toNat 16 16 + 1) < obsDefaultHz (bitsOf (4#32).toNat 0 5) ∧
    (fieldAt 1).obsHz (bitsOf (19#32).toNat 0 5) ≤ 100000000 * (bitsOf (19#32).toNat 16 16 + 1) ∧
    obsDefaultHz (bitsOf (19#32).toNat 0 5) ≤ 100000000 * (bitsOf (19#32).toNat 16 16 + 1) := by decide

/-- BOOT, entered, with step `k` done. -/
def bootAfter (k : Nat) : State :=
  { State.reset with mode := .boot, boot := { State.reset.boot with entered := true, step := k, wdRuns := true } }

theorem test_when_ModeChanges : (let v := (fieldAt 1).tick 0
     v.hubRuns = true ∧ v.modeReason .boot = 1 ∧ v.modeReason .standby = 0 ∧ v.boot.pend = none ∧ v.safeStop = false) ∧
    (let v := (((fieldAt 90000).setFlag F.GLB_MODE_STAT_PEND true).setFld F.GLB_BOOT_CFG_IGNOFF_S 1)
     v.flag F.GLB_MODE_STAT_PEND = true ∧ v.pwr.ign = false ∧
       v.pwr.ignLowAt + v.fld F.GLB_BOOT_CFG_IGNOFF_S * psPerS ≤ v.now) ∧
    ((fieldAt 1).setFlag F.GOO_STAT_SAFESTOP true).safeStop = true ∧
    (let v := bootAfter 1; v.mode = .boot ∧ v.boot.entered = true ∧ v.boot.pend = none ∧ v.stepOk 2 true = true) ∧
    (let v := (bootAfter 11).setFlag F.GLB_BOOT_STAT_READY true
     v.flag F.GLB_BOOT_STAT_READY = true ∧ v.boot.wdRuns = true ∧ v.modTime < v.watchdogEnd ∧ v.boot.settling = false ∧
       v.flag F.GLB_BOOT_STAT_GOODSEEN = false) ∧ bitOf (1#32).toNat 0 = true := by decide

theorem test_when_BootEntered : (let s : State := { State.reset with mode := .boot }
     (s.tick 5).mode = .boot ∧ (s.tick 5).boot.entered = false) := by decide

theorem test_when_Compatibility :
    (({ State.reset with mode := .compat } : State).setFlag F.CMP_STAT_RUN true).legacyRuns = true ∧
    legacyMapped (0x40005000#32).toNat = false ∧ (0x40003FFF#32).toNat / 4096 = 0x40003 ∧ (0x7FFFF#32).toNat < 0x80000 := by decide

/-- Channel 0 open for identities 0 and 1, with these messages from A. -/
def boxed (n : Nat) : State :=
  let s := (fieldAt 1).setReg (R.MBX_BIND 0) 0
  let s := ((s.setFlag (F.MBX_BIND_EN 0) true).setFld (F.MBX_BIND_IDA 0) 0).setFld (F.MBX_BIND_IDB 0) 1
  s.setMbxCh 0 { (default : MbxCh) with since := some (0, 1), fromA := { (default : MbxDir) with queue := List.replicate n (0, 0) } }

theorem test_when_Mailboxes : (boxed 3).mbxAllowed 0 false 0 = true ∧ (boxed 3).mbxAllowed 0 false 1 = false ∧
    (((boxed 3).mbxCh 0).dir false).queue.length < 4 ∧ 4 ≤ (((boxed 4).mbxCh 0).dir false).queue.length ∧
    (boxed 3).mbxAllowed 0 true 1 = true ∧ (((boxed 0).mbxCh 0).dir (!true)).queue = [] ∧
    (((boxed 1).mbxCh 0).dir (!true)).queue = [(0, 0)] ∧ (boxed 1).flag (F.MBX_ACKREC_NEW 0 0 0) = false ∧
    ((boxed 1).mbxCh 0).episode = false ∧ 0 + 1 * psPerMs ≤ (boxed 1).modTime ∧ (boxed 4).ackNow 0 true = false ∧
    (let v : State := { boxed 4 with pending := [.mbxAck psPerMs 0 true 1 0] }
     v.ackNow 0 true = true ∧ ((v.mbxCh 0).dir false).queue.length = 4) := by decide

theorem test_when_TallyAndResync : (let v := ({ fieldAt 1000 with host := { State.reset.host with tallyNext := 1000, tallyPeriod := 1000 } } : State).tick 0
     v.hubRuns = true ∧ v.nextBoundary ≠ 0 ∧ v.nextBoundary * psPerMs ≤ v.modTime) ∧
    (let v := (State.reset.setFlag F.GLB_RESYNC_STAT_BUSY true).plainWrite R.GLB_RESYNC_CTL 1
     v.flag F.GLB_RESYNC_STAT_BUSY = true) ∧
    (let v := State.reset.plainWrite R.GLB_RESYNC_CTL 1
     v.flag F.GLB_RESYNC_STAT_BUSY = false ∧
       v.pair F.GLB_RESYNC_ADDR_LO_ADDR F.GLB_RESYNC_ADDR_HI_ADDR + 4096 ≤ dramSize) := by decide

/-- The panel in this phase, HPD high. -/
def panelIn (p : DspPhase) (tr : Bool) : State :=
  { (fieldAt 5000).setFlag F.DSP_STAT_HPD true with dsp := { State.reset.dsp with phase := p, training := tr, hpd := true } }

theorem test_when_Panel : (panelIn .off false).dspRuns = true ∧ (panelIn .off false).dsp.phase ≠ .offLast ∧
    (panelIn .run false).dsp.hpd = true ∧ (panelIn (.black 0) false).dsp.vertAt = 0 ∧ (panelIn .waitHpd true).flag F.DSP_STAT_HPD = true ∧ (panelIn .waitHpd false).dsp.training = false ∧
    (panelIn .training true).dsp.training = true ∧ (panelIn .waitStart false).dsp.phase = .waitStart ∧
    (panelIn .scan false).dsp.since + (panelIn .scan false).fld F.DSP_SEQ_BLDLY * psPerMs ≤ (panelIn .scan false).now := by
  decide

theorem test_when_HenStore :
    (let v := opHenTokenReturn { (fieldAt 20).setFlag F.HEN_STAT_SCANNED true with hen := { State.reset.hen with queue := [⟨0, 1, none⟩] } }
     v.hubRuns = true ∧ v.flag F.HEN_STAT_SCANNED = true ∧ v.hen.tokens.length < 64 ∧ v.hen.queue = [⟨0, 1, none⟩]) ∧
    (opHenTokenReturn (fieldAt 0)).flag F.HEN_STAT_SCANNED = false ∧
    (let v := { fieldAt 1000 with hen := { State.reset.hen with openSeq := some 0, openAt := 0, slots := [(0, some default)] } }
     v.henFind 0 = some (0, default) ∧ v.now - v.hen.openAt ≠ 0 ∧ (v.now - v.hen.openAt) % psPerS = 0) ∧
    (fieldAt 36000).hubRuns = true ∧ (fieldAt 36000).modTime ≠ 0 ∧ (fieldAt 36000).atWhole (36 * psPerS) = true := by decide

theorem test_when_henWrite : (let s := (withOp 0x70 3 0).tick 5
     Startable s 0 0 0x70 (theOp s) ∧ (theOp s).arg1 0 2 = 3) ∧
    (let s := (withOp 0x70 2 0).tick 5; Startable s 0 0 0x70 (theOp s) ∧ ¬((theOp s).arg1 0 2 = 3 ∧ (theOp s).ctx ≠ 0)) :=
  ⟨⟨startable_withOp _ _ (by decide), by decide⟩, ⟨startable_withOp _ _ (by decide), by decide⟩⟩

theorem test_when_henRead : let s := (withOp 0x71 (4096 * 2 ^ 32) 0).tick 5
    Startable s 0 0 0x71 (theOp s) ∧ (theOp s).arg1 32 16 = 4096 :=
  ⟨startable_withOp _ _ (by decide), by decide⟩

theorem test_when_henClear : let s := (withOp 0x72 (2 * 2 ^ 32) 0).tick 5
    Startable s 0 0 0x72 (theOp s) ∧ (theOp s).ctx = 0 ∧ (theOp s).arg1 32 2 < 3 ∧ (fieldAt 1).hen.shown = none ∧
      (begun s (theOp s)).mode ≠ .service := ⟨startable_withOp _ _ (by decide), by decide⟩

/-- The same operation in context 1. -/
def inCtx1 (s : State) : State := { s with host := { s.host with ops := s.host.ops.map (fun o => { o with ctx := 1 }) } }

theorem startable_inCtx1 (s : State) (op : Nat) (h : s.findOp 1 0 = some (theOp s) ∧ (theOp s).opcode = op ∧
    s.mayStart (theOp s) = true ∧ s.servesRings = true ∧ s.formFault (theOp s) = none ∧ (theOp s).cls < 6) :
    Startable s 1 0 op (theOp s) := ⟨h.1, h.2.1, h.2.2.1, h.2.2.2.1, h.2.2.2.2.1, h.2.2.2.2.2⟩

theorem test_when_henElsewhere : (let s := (inCtx1 (withOp 0x70 3 0)).tick 5
     Startable s 1 0 0x70 (theOp s) ∧ (theOp s).arg1 0 2 = 3 ∧ (theOp s).ctx ≠ 0) ∧
    (let s := (inCtx1 (withOp 0x72 0 0)).tick 5; Startable s 1 0 0x72 (theOp s) ∧ (theOp s).ctx ≠ 0) ∧
    (let s := (withOp 0x72 (3 * 2 ^ 32) 0).tick 5; Startable s 0 0 0x72 (theOp s) ∧ (theOp s).arg1 32 2 = 3) :=
  ⟨⟨startable_inCtx1 _ _ (by decide), by decide⟩, ⟨startable_inCtx1 _ _ (by decide), by decide⟩,
    ⟨startable_withOp _ _ (by decide), by decide⟩⟩

/-- GNSS time valid since reset, the module up for `ms` milliseconds. -/
def timed (ms : Nat) : State := (fieldAt ms).setFlag F.GNS_STAT_TIMEVALID true

theorem test_when_GnssTime : (timed 2000).flag F.GNS_STAT_TIMEVALID = true ∧
    (timed 2000).gns.lastFix + 2 * psPerS ≤ (timed 2000).modTime ∧
    (timed 100).gns.validFrom + 100 * psPerMs ≤ (timed 100).modTime ∧ (timed 100).gns.lastSec ≠ some 5 ∧
    (-2500 < (2500 : Int) - 1000 * (timed 100).fld F.GNS_ANTDLY_NS) ∧ (fieldAt 1).modNs ≤ 0 + 100000000 ∧
    (let v := ((fieldAt 1000).setFlag F.GNS_PPS_CFG_FREERUN true).setFlag F.GNS_PPS_CFG_EN true
     v.flag F.GNS_STAT_TIMEVALID = false ∧ v.flag F.GNS_PPS_CFG_FREERUN = true ∧ v.flag F.GNS_PPS_CFG_EN = true ∧
       v.atWhole 1000 = true ∧ (v.modNs + v.tbOfs) % 1000000000 = 0 ∧ v.mode.gnss = true) ∧
    (∀ b, (fieldAt 1).flag (antFlag b) = false) ∧ (∀ b, ((fieldAt 1).setFlag (antFlag b) true).flag (antFlag b) = true) ∧
    State.reset.mode.gnss = false := by decide

theorem test_when_GnssChannels :
    (let v := (fieldAt 1000).setFlag F.GNS_CFG_EN true
     v.epochDue = true ∧ (fieldAt 0).flag F.GNS_CFG_EN = false ∧ v.flag F.GNS_CFG_EN = true ∧
       bitsOf (BitVec.toNat (3#32)) 1 4 ≠ bitsOf (v.reg R.GNS_CFG).toNat 1 4) ∧
    (let v := ((fieldAt 1000).setFlag F.GNS_CFG_EN true).setFld (F.GNS_CH_STAT_STATE 95) 3
     v.flag F.GNS_CFG_EN = true ∧ v.fld (F.GNS_CH_STAT_STATE 95) = 3 ∧ v.flag F.GNS_RING_CTL_NAV = false) ∧
    (let v := ({ fieldAt 1000 with gns := { State.reset.gns with fresh := true } } : State).plainWrite R.GNS_INJ_CTL (3#32 ||| 8#32)
     v.fld F.GNS_INJ_CTL_FIX = 3 ∧ v.gns.fresh = true ∧ v.epochDue = false ∧ v.fld F.GNS_INJ_CTL_EPOCH = v.gns.epoch % 65536) ∧
    (fieldAt 1000).gns.fresh = false := by decide

/-- A GPS L1 C/A subframe of zero bits and one of the bits of its parity: a word of zeros after zeros passes, since each
parity bit is the sum of no bit that is set; with a data bit set and the parity left at zero it fails. -/
theorem test_navParity : navCheck 0 0 = 1023 ∧ navCheck 0 1 ≠ 1023 := by decide

/-- The Goose runs in FIELD, `ms` milliseconds up, with input 0 enabled and both its contacts closed. -/
def guarded (ms : Nat) : State :=
  (((((fieldAt ms).setFlag F.GOO_STAT_VERIFIED true).setFlag (F.GOO_IN_CFG_EN 0) true).setFlag (F.GOO_IN_STAT_A 0) true).setFlag
    (F.GOO_IN_STAT_B 0) true)

theorem test_when_GooseStop : (guarded 1).gooRuns = true ∧ (guarded 1).atWhole psPerMs = true ∧
    (guarded 1).flag (F.GOO_IN_CFG_EN 0) = true ∧ (guarded 1).flag (F.GOO_IN_STAT_A 0) = true ∧
    (guarded 1).flag (F.GOO_IN_STAT_B 0) = true ∧ (guarded 1).flag (F.GOO_IN_CFG_EN 1) = false ∧
    (guarded 1).flag (F.GOO_IN_STAT_A 1) = !true ∧ (guarded 1).flag (F.GOO_IN_STAT_XF 0) = false ∧
    (∀ k : Fin 4, (guarded 1).flag (diagFld k.val) = false) ∧ State.reset.gooRuns = false := by decide

set_option maxRecDepth 4000 in
theorem test_when_GooseStop_released : let w := (State.reset.setFlag F.GOO_STAT_SAFESTOP true).endLocalTrips
    w.flag F.GOO_STAT_SAFESTOP = true ∧ w.releasable = true := by decide

set_option maxRecDepth 4000 in
theorem test_when_GooseStop_held : (State.reset.addGooCause 8).endLocalTrips.releasable = false := by decide

theorem test_when_GooseStop_timed :
    (let v := (guarded 2000).modGooIn 0 (fun x => { x with discAt := some 0 })
     (v.gooIn 0).discAt = some 0 ∧ 0 + v.fld (F.GOO_IN_CFG_DISC_MS 0) * psPerMs ≤ v.modTime) ∧
    (let v := ({ guarded 30 with goo := { State.reset.goo with swDiff := some 0 } } : State)
     v.atWhole (10 * psPerMs) = true ∧ BitVec.toNat (1#8) ≠ v.fld F.GOO_SW_SWBOOT ∧ 0 + 30 * psPerMs ≤ v.modTime ∧
       v.gooCause 6 = false) := by decide

theorem test_when_GooseOutputs :
    (let v := (guarded 100).setFlag (F.GOO_OUT_STAT_ON 0) true
     v.outOn 0 = true ∧ v.modTime = 0 * 12500 * psPerUs + 1 * (100 * psPerMs)) ∧
    (guarded 10).gooRuns = true ∧ (guarded 10).atWhole (10 * psPerMs) = true ∧
    spanLasts 1 (guarded 1000).modTime psPerS = true ∧ (guarded 1000).flag F.GOO_SPD_SPDDISC = false ∧
    (let v := (guarded 1).setFlag F.GOO_STAT_RT_EN true; v.flag F.GOO_STAT_RT_EN = true ∧ v.atWhole psPerMs = true) := by
  decide

/-- In FIELD, `us` microseconds up, with channel 0 in this state. -/
def driven (us : Nat) (x : OxCh) : State := (({ fieldAt 0 with now := us * psPerUs } : State).setFlag (F.OX_CH_CFG_EN 0) true).setOxCh 0 x

theorem test_when_OxChannel : (driven 49 default).mode ≠ .compat ∧
    ((driven 49 default).modTime - pwmPhase 0) % pwmPeriod ≠ 0 ∧
    ((driven 50 default).modTime - pwmPhase 0) % pwmPeriod = 0 ∧ (driven 50 default).oxBase 0 = 0 ∧
    (let v := (driven 50 { (default : OxCh) with live := true, noCmd := 255 }).setFld (F.OX_CH_LIM_TMO 0) 255
     (v.oxCh 0).live = true ∧ v.fld (F.OX_CH_LIM_TMO 0) ≠ 0 ∧ v.fld (F.OX_CH_LIM_TMO 0) ≤ (v.oxCh 0).noCmd ∧
       (v.oxCh 0).timedOut = false) ∧
    (driven 10000 default).atWhole (10 * psPerMs) = true ∧
    (driven 10000 default).flag (F.OX_CH_STAT_DLIMACT 0) = false ∧ (driven 1 default).oxLegacy 0 = false ∧
    (let old := (driven 1 default).reg (R.OX_CH_CFG 0); old.getLsbD 22 = false ∧ old.getLsbD 0 = true) ∧
    ({ driven 1 default with mode := .compat } : State).oxLegacy 0 = true ∧ 0 ∉ (driven 1 default).oxWaiting ∧
    (driven 1 { (default : OxCh) with begun := some 0 }).oxCh 0 = { (default : OxCh) with begun := some 0 } ∧
    (fieldAt 1).lands { (default : Packet) with dst := 147, typ := 3, payload := [0] } = true ∧
    (fieldAt 1).flag (F.OX_CH_CFG_EN 47) = false ∧ bitOf (BitVec.toNat (8#32)) 22 = false := by decide

theorem test_when_OxGranted : let v := (({ fieldAt 0 with now := 1 } : State).setOxCh 47 { (default : OxCh) with req := some 0 }).returnTokens
    47 ∈ v.oxWaiting ∧ v.flag F.OX_GLB_STAT_LOW = false ∧ v.oxTokens 47 = true ∧ v.modTime < pwmPhase 47 := by decide

theorem test_when_OxStage : (fieldAt 1).flag F.OX_GLB_STAT_LOW = false ∧ ((fieldAt 1).setBoost 399).flag F.OX_GLB_STAT_LOW = false ∧
    ((fieldAt 1).setBoost 581).flag F.OX_GLB_STAT_CLAMP = false ∧ (fieldAt 1).flag F.OX_GLB_STAT_SUPLOW = false ∧
    ((fieldAt 3).setFlag F.OX_GLB_STAT_SUPLOW true).flag F.OX_GLB_STAT_SUPLOW = true ∧
    (fieldAt 3).ox.lowAt < psPerMs ∧ psPerMs + 2 * psPerMs ≤ (fieldAt 3).modTime ∧ (fieldAt 1).oxBase 47 = 47 ∧
    (fieldAt 1).oxPaired 47 = false ∧ 400 ≤ ((driven 1 { (default : OxCh) with openCnt := 400 }).oxCh 0).openCnt ∧
    (fieldAt 1).oxLegacy 47 = false ∧ ({ fieldAt 1 with mode := .compat } : State).oxLegacy 15 = true := by decide

theorem test_when_oxDescriptors : (let s := (withOp 0x40 47 0).tick 5
     Startable s 0 0 0x40 (theOp s) ∧ (theOp s).arg1 0 6 = 47 ∧ (theOp s).ctx = 0) ∧
    (let s := (withOp 0x40 48 0).tick 5; s.formFault (theOp s) = some (faultDetail 1 0 3)) ∧
    (let s := (inCtx1 (withOp 0x40 0 0)).tick 5; Startable s 1 0 0x40 (theOp s) ∧ (theOp s).ctx ≠ 0) ∧
    (let s := (withOp 0x41 0 0).tick 5; Startable s 0 0 0x41 (theOp s)) :=
  ⟨⟨startable_withOp _ _ (by decide), by decide⟩, by decide,
    ⟨startable_inCtx1 _ _ (by decide), by decide⟩, startable_withOp _ _ (by decide)⟩

/-- In FIELD, `ms` milliseconds up, channel 0 enabled with off-state diagnosis and in this state. -/
def loaded (ms : Nat) (x : MulCh) : State :=
  (((fieldAt ms).setFlag (F.MUL_CH_CFG_EN 0) true).setFlag (F.MUL_CH_CFG_OLDET 0) true).setMulCh 0 x

theorem test_when_MuleSwitching : (loaded 1 default).mulLegacy 0 = false ∧ (fieldAt 1).flag F.MUL_GLB_STAT_UVLO = false ∧
    (fieldAt 1).mul.uvloAt + 100 * psPerUs ≤ (fieldAt 1).modTime ∧ (fieldAt 2).mul.uvloAt + 2 * psPerMs ≤ (fieldAt 2).modTime ∧
    (fieldAt 1).lands { (default : Packet) with dst := 148, typ := 3, payload := [0] } = true ∧
    ((fieldAt 1).setFlag F.MUL_GLB_STAT_UVLO true).flag F.MUL_GLB_STAT_UVLO = true ∧
    (let x := (loaded 1 { (default : MulCh) with on := true }).mulCh 0; x.on = true ∧ x.limitAt = none) ∧ mulLimit 0 = 25000 ∧
    (let v := loaded 10 { (default : MulCh) with limitAt := some 0 }
     (v.mulCh 0).limitAt = some 0 ∧ (v.mulCh 0).limitLong = false ∧ 0 + 10 * psPerMs ≤ v.modTime) ∧
    (let v := loaded 100 { (default : MulCh) with shutAt := some 0, cmd := true }
     (v.mulCh 0).shutAt = some 0 ∧ 0 + 100 * psPerMs ≤ v.modTime ∧ (v.mulCh 0).cmd = true) ∧
    (let v := loaded 10 { (default : MulCh) with openCnt := 2 }
     v.atWhole (10 * psPerMs) = true ∧ (v.mulCh 0).on = false ∧ v.mulEnabled 0 = true ∧
       v.flag (F.MUL_CH_CFG_OLDET 0) = true ∧ (v.mulCh 0).offSince + psPerMs ≤ v.modTime) := by decide

theorem test_when_MuleClearing : (fieldAt 1).mulLegacy 63 = false ∧ ({ fieldAt 1 with mode := .compat } : State).mulLegacy 23 = true ∧
    bitsOf (BitVec.toNat (8#32)) 3 3 = 1 ∧ bitsOf (BitVec.toNat (7#32)) 3 3 = 0 ∧
    ((fieldAt 1).setFlag (F.MUL_CH_STAT_TSD 63) true).flag (F.MUL_CH_STAT_TSD 63) = true ∧
    ((fieldAt 1).mulCh 63).tsdAt < (fieldAt 1).modTime ∧
    ((fieldAt 0).mulCh 63).tsdAt = (fieldAt 0).modTime := by decide

theorem test_when_mulDescriptors : (let s := (withOp 0x48 63 0).tick 5
     Startable s 0 0 0x48 (theOp s) ∧ (theOp s).ctx = 0) ∧
    (let s := (inCtx1 (withOp 0x48 0 0)).tick 5; Startable s 1 0 0x48 (theOp s) ∧ (theOp s).ctx ≠ 0) ∧
    (let s := (withOp 0x49 0 0).tick 5; Startable s 0 0 0x49 (theOp s)) :=
  ⟨⟨startable_withOp _ _ (by decide), by decide⟩, ⟨startable_inCtx1 _ _ (by decide), by decide⟩,
    startable_withOp _ _ (by decide)⟩

/-- The same state in another mode. -/
def inMode (m : Mode) (s : State) : State := { s with mode := m }

/-- In FIELD, `ms` milliseconds up, controller 0 on the bus and in this state. -/
def onBus (ms : Nat) (x : CanCh) : State :=
  (((fieldAt ms).setFlag (F.CAN_CFG_OFFBUS 0) false).setFlag (F.CAN_STAT_SYNC 0) true).setCanCh 0 x

theorem test_when_CanBus : ({ fieldAt 1 with mode := .compat } : State).canLegacy 3 = true ∧ (onBus 1 default).canLegacy 0 = false ∧
    (onBus 1 default).flag (F.CAN_CFG_OFFBUS 0) = false ∧ (onBus 1 default).canRuns 0 = true ∧
    (∀ i ∈ canInitBits, bitOf (BitVec.toNat ((onBus 1 default).reg (R.CAN_CFG 0) ||| 1)) i = bitOf ((onBus 1 default).reg (R.CAN_CFG 0)).toNat i) ∧
    (fieldAt 1).flag (F.CAN_CFG_OFFBUS 11) = true ∧ bitOf (BitVec.toNat (136#32)) 0 = false ∧ bitOf (BitVec.toNat (136#32)) 3 = true ∧
    bitOf (BitVec.toNat (136#32)) 7 = true ∧ (let a : CanAbd := ⟨7, 0, 0, 0, none, 0⟩
      let v := onBus 200 { (default : CanCh) with abd := some a }
      (v.canCh 0).abd = some a ∧ a.wonAt = none ∧ a.since + 200 * psPerMs ≤ v.modTime) ∧
    (onBus 1 default).flag (F.CAN_STAT_SYNC 0) = true ∧ (onBus 1 default).canFrozen 0 = false ∧
    ((onBus 1 default).canCh 0).abd = none ∧ (onBus 1 default).isReference 0 0 = false ∧ headFd 0 = false ∧
    ((onBus 1 default).setFld (F.CAN_STAT_BSTATE 0) 2).fld (F.CAN_STAT_BSTATE 0) = 2 ∧
    ((onBus 100 default).canCh 0).waitFrom + 128 * 11 * (onBus 100 default).canBit 0 ≤ (onBus 100 default).modTime := by decide

theorem test_when_CanTriggers :
    (let v := ((onBus 1 { (default : CanCh) with refAt := 1001 }).setFlag (F.CAN_TT_CFG_TTEN 0) true).setReg (R.CAN_MEM 0 896) 2#32
     v.ttOn 0 = true ∧ v.canJoined 0 = true ∧ (v.canCh 0).refAt ≠ 0 ∧ 0 < (v.ttList 0).length ∧ ttKind (v.ttElement 0 0) = 2 ∧
       ttActs (v.ttElement 0 0) (v.fld (F.CAN_TT_STAT_CYCCNT 0)) = true ∧
       v.modUs = (v.canCh 0).refAt - 1 + bitsOf (v.ttElement 0 0) 16 16) ∧
    (let v := ((onBus 1 default).setFlag (F.CAN_TT_CFG_TTEN 0) true).setFlag (F.CAN_TT_CFG_POTM 0) true
     v.flag (F.CAN_TT_CFG_POTM 0) = true ∧ v.canSends 0 = true ∧ (v.canCh 0).onBus = none ∧ v.referenceDue 0 = true) := by
  decide

theorem test_when_canFifoDrain : (let s := (withOp 0x51 0x8B 0).tick 5
     Startable s 0 0 0x51 (theOp s) ∧ (theOp s).ctx = 0 ∧ (theOp s).arg1 0 4 = 11 ∧ (theOp s).arg1 4 4 = 8 ∧
       (begun s (theOp s)).canLegacy 11 = false) ∧
    (let s := (inCtx1 (withOp 0x51 0x11 0)).tick 5; Startable s 1 0 0x51 (theOp s) ∧ (theOp s).ctx ≠ 0) ∧
    (let s := (inMode .compat (withOp 0x51 0x11 0)).tick 5
     Startable s 0 0 0x51 (theOp s) ∧ (begun s (theOp s)).canLegacy 1 = true) :=
  ⟨⟨startable_withOp _ _ (by decide), by decide⟩, ⟨startable_inCtx1 _ _ (by decide), by decide⟩,
    ⟨startable_withOp _ _ (by decide), by decide⟩⟩

/-- A queued frame of operation 0. -/
def aFrame (one : Bool) : CanQueued := ⟨0, 0, one, 0, []⟩

theorem test_when_CanTransmit : (onBus 1 default).canSends 0 = true ∧ (onBus 1 default).ttOn 0 = false ∧
    (onBus 1 default).canNext 0 = none ∧ ((onBus 1 default).canRequest 0 128).canNext 0 = some (0, .buffer 7 false) ∧
    (onBus 1 { (default : CanCh) with queue := [aFrame false] }).canNext 0 = some (0, .queued (aFrame false)) ∧
    ((onBus 1 { (default : CanCh) with onBus := some (.buffer 7 true) }).canCh 0).onBus = some (.buffer 7 true) ∧
    ((onBus 1 { (default : CanCh) with onBus := some (.queued (aFrame true)) }).canCh 0).onBus = some (.queued (aFrame true)) := by
  decide

theorem test_when_canTx : (let s := (withOp 0x50 11 0).tick 5
     Startable s 0 0 0x50 (theOp s) ∧ (theOp s).arg1 0 4 = 11 ∧ (begun s (theOp s)).canRuns 11 = true ∧
       (begun s (theOp s)).canLegacy 11 = false ∧ ((begun s (theOp s)).canCh 11).queue.length < 32 ∧
       (begun s (theOp s)).flag (F.CAN_CFG_OFFBUS 11) = true) ∧
    (let s := ((withOp 0x50 11 0).setFlag (F.CAN_CFG_OFFBUS 11) false).tick 5
     Startable s 0 0 0x50 (theOp s) ∧ (begun s (theOp s)).flag (F.CAN_CFG_OFFBUS 11) = false ∧
       (begun s (theOp s)).fld (F.CAN_STAT_BSTATE 11) ≠ 2) ∧
    (let s := (withOp 0x50 11 (0xF * 2 ^ 72 + 2 ^ 65)).tick 5
     Startable s 0 0 0x50 (theOp s) ∧ 16 < canLength (headFd (headClean (theOp s).w2.toNat)) (headDlc (headClean (theOp s).w2.toNat))) ∧
    (let s := (inMode .compat (withOp 0x50 3 0)).tick 5
     Startable s 0 0 0x50 (theOp s) ∧ (begun s (theOp s)).canLegacy 3 = true) ∧
    (let s := ((withOp 0x50 11 0).setCanCh 11 { (default : CanCh) with queue := List.replicate 32 (aFrame false) }).tick 5
     Startable s 0 0 0x50 (theOp s) ∧ 32 ≤ ((begun s (theOp s)).canCh 11).queue.length) :=
  ⟨⟨startable_withOp _ _ (by decide), by decide⟩, ⟨startable_withOp _ _ (by decide), by decide⟩,
    ⟨startable_withOp _ _ (by decide), by decide⟩,
    ⟨startable_withOp _ _ (by decide), by decide⟩,
    ⟨startable_withOp _ _ (by decide), by decide⟩⟩

/-- Context 0 in this state, rings of 16 at the bottom of module DRAM. -/
def ctxIn (st : Nat) : State :=
  ((((fieldAt 1).setFld (F.CTX_CFG_SQ_LOG2 0) 4).setFld (F.CTX_CFG_CQ_LOG2 0) 4).setFld (F.CTX_CPL_BASE_ADDR 0) 1).setFld (F.CTX_STAT_STATE 0) st

theorem test_when_Contexts : (ctxIn 0).enableReason 0 = 0 ∧ (fieldAt 1).enableReason 0 ≠ 0 ∧ (ctxIn 1).ctxState 0 = 1 ∧
    (ctxIn 3).ctxState 0 = 3 ∧ (ctxIn 3).inflight 0 = 0 ∧ State.reset.mode.rings = false ∧
    (ctxIn 1).sqSize 0 < sub16 (BitVec.toNat (17#32)) ((ctxIn 1).ctxSt 0).sqHead ∧
    sub16 (BitVec.toNat (16#32)) ((ctxIn 1).ctxSt 0).sqHead ≤ (ctxIn 1).sqSize 0 ∧
    sub16 ((ctxIn 1).ctxSt 0).cqTail ((ctxIn 1).ctxSt 0).cqHead < sub16 ((ctxIn 1).ctxSt 0).cqTail (BitVec.toNat (1#32)) ∧
    sub16 ((ctxIn 1).ctxSt 0).cqTail (BitVec.toNat (0#32)) ≤ sub16 ((ctxIn 1).ctxSt 0).cqTail ((ctxIn 1).ctxSt 0).cqHead := by
  decide

/-- Context 0 with two operations in flight: this CANCEL, and a NOP of tag 1 in this phase. -/
def cancelling (target : Nat) (ph : OpPhase) : State :=
  let s := withOp 1 target 0
  { s with host := { s.host with ops := s.host.ops ++ [{ (default : Op) with cls := 3, phase := ph, w0 := BitVec.ofNat 128 (2 ^ 16) }] } }

theorem test_when_OperationsInFlight :
    (let v := ((ctxIn 1).setFlag F.GLB_BOOT_STAT_READY true).setCtx 0 { (default : CtxSt) with sqTail := 1 }
     v.servesRings = true ∧ v.nextRead = some 0) ∧ (ctxIn 1).nextRead = none ∧
    (let v := (cancelling 1 .queued).tick 5
     v.findOp 0 0 = some (theOp v) ∧ (theOp v).opcode = 1 ∧ (theOp v).fence = false ∧ (theOp v).phase = .queued ∧
       v.servesRings = true ∧ v.formFault (theOp v) = none ∧ ((v.startOp (theOp v)).findOp 0 1).any (fun x => x.phase != .started && x.tag != 0)) ∧
    (let v := (cancelling 1 .started).tick 5; ((v.startOp (theOp v)).findOp 0 1).any (fun x => x.phase == .started)) ∧
    (let v := (cancelling 2 .queued).tick 5; (v.startOp (theOp v)).findOp 0 2 = none) := by decide

theorem test_when_OperationsEnd :
    (let o : Op := { (default : Op) with cls := 3, phase := .started, ready := true }
     let v : State := { State.reset with host := { State.reset.host with ops := [o] } }
     v.findOp 0 0 = some o ∧ o.tokensAt ≤ v.now) ∧
    (let o : Op := { (default : Op) with cls := 3, deadline := 7 }
     let v : State := { State.reset with now := 7, host := { State.reset.host with ops := [o] } }
     v.findOp 0 0 = some o ∧ o.phase = .queued ∧ 3 ≤ o.cls ∧ o.deadline ≤ v.now) ∧
    (let o : Op := { (default : Op) with cls := 3, phase := .waiting, deadline := 7 }
     let w : Wait := { (default : Wait) with kind := 2 }
     let v : State := { State.reset with now := 7, host := { State.reset.host with ops := [o] }, qos := { State.reset.qos with waits := [w] } }
     v.findOp 0 0 = some o ∧ o.phase = .waiting ∧ v.qos.waits.find? (fun w => w.ctx == 0 && w.tag == 0) = some w) := by decide

theorem test_when_Quotas : (let s := (withOp 0x30 (5 * 2 ^ 16) 0).tick 5
     Startable s 0 0 0x30 (theOp s) ∧ (theOp s).ctx = 0 ∧ (theOp s).arg1 16 4 = 5) ∧
    (let s := (inCtx1 (withOp 0x30 0 0)).tick 5; Startable s 1 0 0x30 (theOp s) ∧ (theOp s).ctx ≠ 0) ∧
    (let s := (((withOp 0x30 (1 + 65 * 2 ^ 32) 0).setFld (F.CTX_STAT_STATE 1) 1).setFld (F.CTX_CFG_CLASS 1) 0).tick 5
     Startable s 0 0 0x30 (theOp s) ∧ (begun s (theOp s)).breaksKept 1 65 = true ∧ (theOp s).arg1 0 12 = 1 ∧ (theOp s).arg1 32 32 = 65) ∧
    (let s := (withOp 0x31 (5 + 256 * 2 ^ 16) 0).tick 5; Startable s 0 0 0x31 (theOp s) ∧ (theOp s).arg1 0 8 = 5 ∧ (theOp s).arg1 16 9 = 256) ∧
    True :=
  ⟨⟨startable_withOp _ _ (by decide), by decide⟩,
    ⟨startable_inCtx1 _ _ (by decide), by decide⟩, ⟨startable_withOp _ _ (by decide), by decide⟩,
    ⟨startable_withOp _ _ (by decide), by decide⟩, trivial⟩

theorem test_when_Reclaim : let o : Op := { (default : Op) with cls := 3, phase := .started, w0 := 0x31#128, w1 := 1#128 }
    let v : State := { fieldAt 1000 with host := { State.reset.host with ops := [o], tallyPeriod := 1000 } }
    v.findOp 0 0 = some o ∧ o.opcode = 0x31 ∧ v.atBoundary = true ∧ o.startAt + 100 * psPerUs ≤ v.now := by decide

/-- Context 0 holds channel 63 and segment 447 of tile 0. -/
def holding (s : State) : State := { s with qos := { s.qos with dma := [(63, ⟨1, 0⟩)], segs := [(447, ⟨1, 0⟩)] } }

/-- Context 1 holds loop slot 0. -/
def heldSlot (s : State) : State := { s with qos := { s.qos with slots := [(0, ⟨2, 0⟩)] } }

theorem test_when_acquire :
    (let s := (withOp 0x32 2 0).tick 5; let v := begun s (theOp s); let w := (theOp s).request
     Startable s 0 0 0x32 (theOp s) ∧ v.indexOwner 2 0 ≠ 1 ∧ v.quotaAllows 0 2 1 = true ∧
       v.isFree w = true ∧ v.firstWaiter w = none) ∧
    (let s := (heldSlot (withOp 0x32 2 0)).tick 5; let v := begun s (theOp s); let w := (theOp s).request
     Startable s 0 0 0x32 (theOp s) ∧ v.isFree w = false ∧ (theOp s).arg1 8 1 = 0) ∧
    (let s := (heldSlot (withOp 0x32 258 0)).tick 5; let v := begun s (theOp s); let w := (theOp s).request
     Startable s 0 0 0x32 (theOp s) ∧ v.isFree w = false ∧ (theOp s).arg1 8 1 = 1 ∧ v.cycleOf w = none) ∧
    (let s := (inCtx1 (withOp 0x32 2 0)).tick 5; let v := begun s (theOp s)
     Startable s 1 0 0x32 (theOp s) ∧ v.quotaAllows 1 2 1 = false) ∧
    (let s := (holding (withOp 0x32 (4 + 63 * 2 ^ 48) 0)).tick 5; let v := begun s (theOp s)
     Startable s 0 0 0x32 (theOp s) ∧ v.indexOwner 4 63 = 1) ∧
    (let s := (withOp 0x32 3 0).tick 5; let v := begun s (theOp s)
     Startable s 0 0 0x32 (theOp s) ∧ (theOp s).request.kind = 3 ∧ v.quotaAllows 0 3 1 = true ∧
       v.quotaAllows 0 5 (v.bwOf (theOp s).request.index) = true) :=
  ⟨⟨startable_withOp _ _ (by decide), by decide⟩,
    ⟨startable_withOp _ _ (by decide), by decide⟩, ⟨startable_withOp _ _ (by decide), by decide⟩,
    ⟨startable_inCtx1 _ _ (by decide), by decide⟩, ⟨startable_withOp _ _ (by decide), by decide⟩,
    ⟨startable_withOp _ _ (by decide), by decide⟩⟩

theorem test_when_acquireSegments :
    (let s := (withOp (0x32 + 4096 * 2 ^ 64) (1 + 2 ^ 32) 0).tick 5; let v := begun s (theOp s)
     Startable s 0 0 0x32 (theOp s) ∧ (theOp s).request.kind = 1 ∧ v.quotaAllows 0 1 (theOp s).request.count = true) ∧
    (let s := (((inCtx1 (withOp 0x32 3 0)).setQuota 1 3 1).setRoute 0 { RouteSt.initial with active := ⟨0, 0x10010#32⟩ }).tick 5
     let v := begun s (theOp s)
     Startable s 1 0 0x32 (theOp s) ∧ v.quotaAllows 1 3 1 = true ∧ (theOp s).request.kind = 3 ∧
       v.quotaAllows 1 5 (v.bwOf (theOp s).request.index) = false) :=
  ⟨⟨startable_withOp _ _ (by decide), by decide⟩, ⟨startable_inCtx1 _ _ (by decide), by decide⟩⟩

theorem test_when_waits :
    (let o : Op := { (default : Op) with cls := 3, phase := .waiting, deadline := 7 }
     let w : Wait := { (default : Wait) with kind := 2 }
     let v : State := { State.reset with now := 7, host := { State.reset.host with ops := [o] }, qos := { State.reset.qos with waits := [w] } }
     v.findOp 0 0 = some o ∧ v.qos.waits.find? (fun w => w.ctx == 0 && w.tag == 0) = some w ∧ v.waitOver o = false ∧
       v.isFree w = true ∧ v.firstWaiter w = some w ∧ ({ v with now := 2000000 } : State).waitOver o = true) := by decide

theorem test_when_release_copy :
    (let s := (holding (withOp 0x33 (4 + 63 * 2 ^ 48) 0)).tick 5; let v := begun s (theOp s)
     Startable s 0 0 0x33 (theOp s) ∧ v.indexOwner 4 63 = 1) ∧
    (let s := (withOp 0x33 1 0).tick 5; Startable s 0 0 0x33 (theOp s) ∧ (begun s (theOp s)).segOwner 0 0 ≠ 1) ∧
    (let s := (holding (withOp 0x34 (63 + 447 * 2 ^ 32 + 4096 * 2 ^ 48) 0)).tick 5; let v := begun s (theOp s)
     Startable s 0 0 0x34 (theOp s) ∧ (theOp s).arg1 48 16 = 4096 ∧ v.chanOwner ((theOp s).arg1 0 6) = 1 ∧ v.segOwner 0 447 = 1 ∧
       (theOp s).arg1 6 1 = 0 ∧ (theOp s).arg1 32 9 = 447) ∧
    (let s := (holding (withOp 0x34 (127 + 447 * 2 ^ 32 + 16 * 2 ^ 48) 0)).tick 5; let v := begun s (theOp s)
     Startable s 0 0 0x34 (theOp s) ∧ v.chanOwner ((theOp s).arg1 0 6) = 1 ∧ v.segOwner 0 447 = 1 ∧ (theOp s).arg1 6 1 = 1) ∧
    (let s := (holding (withOp 0x34 (64 + 16 * 2 ^ 48) 0)).tick 5
     Startable s 0 0 0x34 (theOp s) ∧ (theOp s).arg1 6 1 = 1 ∧ (begun s (theOp s)).chanOwner 0 ≠ 1) :=
  ⟨⟨startable_withOp _ _ (by decide), by decide⟩, ⟨startable_withOp _ _ (by decide), by decide⟩,
    ⟨startable_withOp _ _ (by decide), by decide⟩, ⟨startable_withOp _ _ (by decide), by decide⟩,
    ⟨startable_withOp _ _ (by decide), by decide⟩⟩

/-- Route 0 with a pending change made at reset. -/
def pending : State := (fieldAt 1).setRoute 0 { (fieldAt 1).route 0 with pend := true }

theorem test_when_StreamRoutes : (pending.route pending.selRoute).pend = true ∧ ((fieldAt 1).route 0).pend = false ∧
    (let m := (fieldAt 1).commitRoute 0 none; m.2 = .pending ∧ (fieldAt 1).selRoute = 0) ∧
    (pending.commitRoute 0 none).2 ≠ .pending ∧ pending.boundaryNow 0 = true ∧
    (pending.route 0).pendAt / mortarCycle < pending.now / mortarCycle ∧ (pending.route 0).waiter = none ∧
    (let v := (fieldAt 1).setRoute 4095 { (fieldAt 1).route 4095 with old := some RouteEntry.initial }
     let y := v.route 4095; y.old ≠ none ∧ y.eosDue = [] ∧ y.open_ = false) ∧
    (fieldAt 1).rptrAccepted R.GNS_RING_BASE_LO 1 = false ∧
    (let v := (fieldAt 1).setFld (wptrOf R.GNS_RING_BASE_LO) 1
     (1 : Nat) ≠ v.fld (rptrOf R.GNS_RING_BASE_LO) ∧ v.rptrAccepted R.GNS_RING_BASE_LO 1 = true) := by decide

/-- Route 5 held by context 0. -/
def heldRoute (p : Bool) (s : State) : State :=
  ({ s with qos := { s.qos with routes := [(5, ⟨1, 0⟩)] } } : State).setRoute 5 { s.route 5 with pend := p }

theorem test_when_routeCommit :
    (let s := (inCtx1 (withOp 0x12 5 0)).tick 5; let v := begun s (theOp s)
     Startable s 1 0 0x12 (theOp s) ∧ v.claim (v.routeOwner 5) 1 3 = some (codeRefusedQuota, 3)) ∧
    (let s := (heldRoute true (withOp 0x12 5 0)).tick 5; let v := begun s (theOp s)
     Startable s 0 0 0x12 (theOp s) ∧ v.claim (v.routeOwner 5) 0 3 = none ∧ v.quotaAllows 0 5 0 = true ∧ v.routeOwner 5 ≠ 0 ∧
       (v.route 5).pend = true) ∧
    (let s := (heldRoute false (withOp 0x12 5 0)).tick 5; let v := begun s (theOp s)
     Startable s 0 0 0x12 (theOp s) ∧ (v.commitRoute 5 (some (0, 0))).2 = .pending) :=
  ⟨⟨startable_inCtx1 _ _ (by decide), by decide⟩, ⟨startable_withOp _ _ (by decide), by decide⟩,
    ⟨startable_withOp _ _ (by decide), by decide⟩⟩

/-- A set of epoch 1 staged. -/
def setStaged (s : State) : State := (s.setFlag F.MOR_ACT_STAT_STAGED true).setFld F.MOR_STG_EPOCH_EPOCH 1

theorem test_when_StagedSets : (fieldAt 100).hubRuns = true ∧ (fieldAt 100).atWhole (100 * psPerMs) = true ∧
    (fieldAt 100).mor.sweepAt = none ∧ (0 + 100) * psPerMs ≤ (fieldAt 100).modTime ∧ (fieldAt 99).modTime < (0 + 100) * psPerMs ∧
    State.reset.armReason ≠ 0 ∧ (State.reset.setFlag F.MOR_ACT_STAT_ARMED true).flag F.MOR_ACT_STAT_ARMED = true ∧
    (State.reset.setFlag F.MOR_ACT_STAT_ARMED true).tAct ≤ State.reset.modTime ∧
    State.reset.modTime + psPerMs ≤ (State.reset.setFld F.MOR_ACT_TIME_LO_TIME 1000000).tAct := by decide

theorem crowded_of_none (s : State) (h : s.stagedEntries = []) : tileCrowded s.stagedEntries = false := by
  rw [h]; decide

/-- Epoch 1 staged and T_act at 2 ms, at module time 0. -/
def arming : State := ((setStaged (fieldAt 0)).setFld F.MOR_ACT_EPOCH_EPOCH 1).setFld F.MOR_ACT_TIME_LO_TIME 2000000

theorem test_when_armed : arming.armReason = 0 := by
  unfold State.armReason
  rw [crowded_of_none arming (List.mergeSort_nil ..)]
  decide

theorem test_when_configuration :
    (let s := (withOp 0x10 (512 + 16 * 2 ^ 96) 0).tick 5; Startable s 0 0 0x10 (theOp s) ∧ (theOp s).arg1 32 32 = 0) ∧
    (let s := (withOp 0x10 (512 + 16 * 2 ^ 96 + 2 ^ 32) 0).tick 5; let v := begun s (theOp s)
     Startable s 0 0 0x10 (theOp s) ∧ v.stageRefusal 1 = none) ∧
    (let s := (withOp 0x10 (512 + 16 * 2 ^ 96 + 2 ^ 63) 0).tick 5; let v := begun s (theOp s)
     Startable s 0 0 0x10 (theOp s) ∧ v.stageRefusal (2 ^ 31) = some 5) ∧
    (let s := (withOp 0x11 (512 + 16 * 2 ^ 96 + 2 ^ 32) 0).tick 5; let v := begun s (theOp s)
     Startable s 0 0 0x11 (theOp s) ∧ v.isStaged 1 = false) ∧
    (let s := (withOp 0x11 (512 + 16 * 2 ^ 96) 0).tick 5; Startable s 0 0 0x11 (theOp s) ∧ (theOp s).arg1 32 32 = 0) ∧
    (let s := (withOp 0x13 1 0).tick 5; let v := begun s (theOp s); Startable s 0 0 0x13 (theOp s) ∧ v.isStaged 1 = false) ∧
    (let s := (setStaged (withOp 0x13 1 0)).tick 5; let v := begun s (theOp s)
     Startable s 0 0 0x13 (theOp s) ∧ v.isStaged 1 = true ∧ v.flag F.MOR_ACT_STAT_ARMED = false) :=
  ⟨⟨startable_withOp _ _ (by decide), by decide⟩, ⟨startable_withOp _ _ (by decide), by decide⟩,
    ⟨startable_withOp _ _ (by decide), by decide⟩, ⟨startable_withOp _ _ (by decide), by decide⟩,
    ⟨startable_withOp _ _ (by decide), by decide⟩, ⟨startable_withOp _ _ (by decide), by decide⟩,
    ⟨startable_withOp _ _ (by decide), by decide⟩⟩

theorem test_when_AccessOutside : (fieldAt 1).hubRuns = true ∧ findReg 0x1FFFFC = none ∧ findReg R.GLB_STATUS ≠ none := by decide

/-- A swap of slot 0 pending. -/
def swapping (s : State) : State := s.setFlag (F.CEN_LSTAT_SWPEND 0) true

theorem test_when_BankRefusal : (swapping (fieldAt 1)).flag (F.CEN_LSTAT_SWPEND (swapping (fieldAt 1)).selSlot) = true ∧
    (fieldAt 1).hubRuns = true := by decide

theorem test_when_BankRefusal_descriptors :
    (let s := (swapping (withOp 0x24 (2 ^ 28) 0)).tick 5; let v := begun s (theOp s)
     Startable s 0 0 0x24 (theOp s) ∧ (theOp s).ctx = 0 ∧ v.flag (F.CEN_LSTAT_SWPEND (theOp s).slot) = true ∧
       (theOp s).arg1 22 7 = 64) ∧
    (let s := (swapping (withOp 0x23 0 0)).tick 5; let v := begun s (theOp s)
     Startable s 0 0 0x23 (theOp s) ∧ v.flag (F.CEN_LSTAT_SWPEND (theOp s).slot) = true) :=
  ⟨⟨startable_withOp _ _ (by decide), by decide⟩, ⟨startable_withOp _ _ (by decide), by decide⟩⟩

theorem test_when_CommandRegisters : (findReg R.CEN_CTL).isSome = true ∧ R.CEN_CTL % 4 = 0 ∧ manyCommands R.CEN_CTL 3#32 = true ∧
    manyCommands R.CEN_CTL 1#32 = false ∧ (fieldAt 1).hubRuns = true := by decide

theorem test_command_registers : (findReg R.GOO_CTL).isSome = true ∧ commandBits R.GOO_CTL = 0 ∧ (findReg 0x102400).isSome = true ∧
    (findReg 0x1027FC).isSome = true ∧ blockOf 0x1027FC = 10 := by decide

/-- Slot 0, in RUN, with this running side and a record of 25 us without phase. -/
def looped (x : SlotSt) : State :=
  (((fieldAt 1).setRecWord 0 0 25).setFld (F.CEN_LSTAT_LSTATE 0) 1).setSlot 0 x

theorem test_when_LoopCommands : (fieldAt 1).flag (F.CEN_LSTAT_SWPEND (fieldAt 1).selSlot) = false ∧
    (fieldAt 1).admitReason 0 false = 3 ∧ State.reset.admitReason 0 true = 5 ∧ (fieldAt 1).selSlot = 0 ∧
    (looped SlotSt.initial).lstate 0 ≠ 0 ∧ ((looped SlotSt.initial).slot 0).disabling = false := by decide

theorem test_when_admitted : (let w := fun (i v : Nat) (s : State) => s.setRecWord 0 i v
    let s := w 0 (25 + 64 * 2 ^ 48 + 2 ^ 72 + 2 ^ 75 + 2 ^ 83 + 2 ^ 86 + 2 ^ 90 + 2 ^ 93) (w 1 2 (fieldAt 1))
    s.admitReason 0 false = 0 ∧ (s.setFld (F.CEN_LSTAT_LSTATE 0) 2).admitReason 0 true = 0) := by decide

theorem test_when_loopDescriptors :
    (let s := (withOp 0x20 8191 0).tick 5; let v := begun s (theOp s)
     Startable s 0 0 0x20 (theOp s) ∧ v.claim (v.slotOwner 8191) 0 2 = none ∧ (v.holdSlot 8191 0).admitReason 8191 false ≠ 0) ∧
    (let s := (inCtx1 (withOp 0x20 8191 0)).tick 5; let v := begun s (theOp s)
     Startable s 1 0 0x20 (theOp s) ∧ v.claim (v.slotOwner 8191) 1 2 = some (codeRefusedQuota, 2)) ∧
    (let s := (inCtx1 (withOp 0x22 0 0)).tick 5; let v := begun s (theOp s)
     Startable s 1 0 0x22 (theOp s) ∧ v.slotOwner 0 ≠ 2 ∧ (theOp s).ctx ≠ 0) ∧
    (let s := (withOp 0x22 0 0).tick 5; Startable s 0 0 0x22 (theOp s) ∧ (begun s (theOp s)).admitReason 0 true ≠ 0) ∧
    (let s := (withOp 0x21 0 0).tick 5; Startable s 0 0 0x21 (theOp s) ∧ (theOp s).ctx = 0) ∧
    (let s := (inCtx1 (withOp 0x21 0 0)).tick 5; Startable s 1 0 0x21 (theOp s) ∧ (begun s (theOp s)).slotOwner 0 ≠ 2) ∧
    (let s := (withOp 0x23 0 0).tick 5; Startable s 0 0 0x23 (theOp s) ∧ (begun s (theOp s)).flag (F.CEN_LSTAT_SWPEND 0) = false) :=
  ⟨⟨startable_withOp _ _ (by decide), by decide⟩, ⟨startable_inCtx1 _ _ (by decide), by decide⟩,
    ⟨startable_inCtx1 _ _ (by decide), by decide⟩, ⟨startable_withOp _ _ (by decide), by decide⟩,
    ⟨startable_withOp _ _ (by decide), by decide⟩, ⟨startable_inCtx1 _ _ (by decide), by decide⟩,
    ⟨startable_withOp _ _ (by decide), by decide⟩⟩

theorem test_when_loopTransfers :
    (let s := (withOp 0x24 (63 * 2 ^ 16 + 2 ^ 22) 0).tick 5; Startable s 0 0 0x24 (theOp s) ∧ (theOp s).arg1 16 6 + (theOp s).arg1 22 7 = 64 ∧
       (begun s (theOp s)).flag (F.CEN_LSTAT_SWPEND 0) = false) ∧
    (let s := (inCtx1 (withOp 0x25 0 0)).tick 5; Startable s 1 0 0x25 (theOp s) ∧ (begun s (theOp s)).slotOwner 0 ≠ 2) ∧
    (let s := (withOp 0x25 0 0).tick 5; Startable s 0 0 0x25 (theOp s) ∧ (theOp s).ctx = 0) :=
  ⟨⟨startable_withOp _ _ (by decide), by decide⟩, ⟨startable_inCtx1 _ _ (by decide), by decide⟩,
    ⟨startable_withOp _ _ (by decide), by decide⟩⟩

/-- A record that admission accepts, in slot 0. -/
def admissible (s : State) : State :=
  (s.setRecWord 0 0 (25 + 64 * 2 ^ 48 + 2 ^ 72 + 2 ^ 75 + 2 ^ 83 + 2 ^ 86 + 2 ^ 90 + 2 ^ 93)).setRecWord 0 1 2

theorem test_when_loopAdmitted :
    (let s := (admissible (withOp 0x20 0 0)).tick 5
     Startable s 0 0 0x20 (theOp s) ∧ ((begun s (theOp s)).holdSlot 0 0).admitReason 0 false = 0) ∧
    (let s := ((admissible (withOp 0x22 0 0)).setFld (F.CEN_LSTAT_LSTATE 0) 2).tick 5
     Startable s 0 0 0x22 (theOp s) ∧ (begun s (theOp s)).admitReason 0 true = 0) :=
  ⟨⟨startable_withOp _ _ (by decide), by decide⟩, ⟨startable_withOp _ _ (by decide), by decide⟩⟩

/-- A sample of slot 0 that began at 1 ms. -/
def aSample : Sample := { (default : Sample) with n := 40, at_ := psPerMs, words := [25, 0, 0, 0, 0, 0, 0, 0] }

theorem test_when_LoopSamples :
    (let v := looped SlotSt.initial; let w := (v.eccErrors []).settleSlot 0
     isSampleInstant (v.record 0) v.modTime = true ∧ (v.slot 0).samples.any (fun y => y.at_ == v.modTime) = false ∧
       v.exchangeBanks 0 (sampleNumber (v.record 0) v.modTime) = v ∧ w.lstate 0 = 1 ∧ (w.slot 0).disabling = false ∧
       (w.slot 0).quietTo ≤ v.modTime ∧ (w.slot 0).notBefore ≤ v.modTime) ∧
    (let v := looped { SlotSt.initial with samples := [aSample] }
     (v.slot 0).samples.find? (fun m => !m.guarded && m.guardAt == v.modTime) = some aSample ∧ aSample.idle = false ∧
       recSpec (wordsRecord aSample.words) = false) ∧
    (let m := { aSample with guarded := true, idle := true }; let v := looped { SlotSt.initial with samples := [m] }
     (v.slot 0).samples.find? (fun m => m.guarded && m.outAt == v.modTime) = some m ∧ m.idle = true) := by decide

theorem test_when_evaluated :
    let e : Eval := ⟨false, 0, none, false, default⟩
    let m : Sample := { aSample with eval := some e }; let v := looped { SlotSt.initial with samples := [m] }
    v.engineBusy 0 = false ∧ (v.nextReady 0).any (fun x => x.frame == false && x.slot == 0 && x.sample == 40) = true ∧
      (v.slot 0).samples.find? (fun m => m.n == 40 && !m.guarded) = some m := by decide

theorem test_when_framed :
    let f : Frame := { (default : Frame) with sample := 40, released := true }; let v := looped { SlotSt.initial with frames := [f] }
    v.engineBusy 0 = false ∧ (v.nextReady 0).any (fun x => x.frame && x.slot == 0 && x.sample == 40) = true ∧
      (v.slot 0).frames.find? (fun f => f.sample == 40) = some f := by decide

theorem test_when_frameDone :
    let f : Frame := { (default : Frame) with sample := 40, startedAt := some (psPerMs - evalCost ((looped SlotSt.initial).record 0) * tileCycle) }
    let v := looped { SlotSt.initial with frames := [f] }
    (v.slot 0).frames.find? (fun f => f.sample == 40) = some f ∧ f.complete = false ∧ f.recompute = false ∧
      psPerMs - evalCost ((looped SlotSt.initial).record 0) * tileCycle
        + evalCost (v.recordAt 0 (sampleInstant (v.record 0) 40)) * tileCycle = v.modTime ∧ v.engineBusy 0 = true := by decide

theorem test_when_confirmed :
    let m : Sample := { aSample with at_ := psPerMs - 8 * tileCycle, awaits := true, words := [25 + 64 * 2 ^ 48, 0, 0, 0, 0, 0, 0, 0] }
    let v := looped { SlotSt.initial with samples := [m] }
    (v.slot 0).samples.find? (fun m => m.awaits && !m.guarded) = some m ∧ v.modTime = m.at_ + (8 + v.confirmRank 0 m.at_) * tileCycle ∧
      v.modTime < m.guardAt ∧ (v.slot 0).frames.find? (fun f => f.sample == m.n) = none := by decide

/-- A SPEC packet for tile 0 on route 7 from slot 64. -/
def aSpec (drop : Bool) : Packet :=
  ⟨0, 1, 1, false, false, 3, true, true, true, 7, 0, 0, [BitVec.ofNat 128 (64 * 2 ^ 112 + boolNat drop * 2 ^ 70)]⟩

theorem test_when_specPackets : (specPacket (aSpec false)).any (fun x => x.1 == false && x.2.1 == 64) = true ∧
    (specPacket (aSpec true)).any (fun x => x.1 && x.2.1 == 64) = true ∧ (fieldAt 1).specReader 0 7 64 = false := by decide

theorem test_when_specRead : (let x := { SlotSt.initial with bound := 1 }; let s := ((looped x).setSlot 64 x).setFld (F.CEN_LSTAT_LSTATE 64) 1
     let s := (((s.setRecWord 0 0 (25 + 2 ^ 86 + 2 ^ 105 + 2 ^ 109)).setRecWord 0 1 (1 + 7 * 4 + 2 * 2 ^ 19)).setRecWord 64 6 (7 + 2 ^ 15)).setRecWord 64 0 (2 ^ 105 + 2 ^ 109)
     s.setRoute 7 { s.route 7 with active := { (s.route 7).active with w0 := 0xFFFF0001 } }).specReader 0 7 64 = true := by decide

/-- Piezo channel c enabled, with this running side. -/
def tapped (c : Nat) (x : PiezoSt) : State := ((fieldAt 100).setFlag (F.FUS_PIEZO_CFG_EN c) true).setPiezo c x

theorem test_when_CropSensors :
    (let x : PiezoSt := ⟨some 5, [3], none, 0⟩; let v := tapped 15 x
     v.flag (F.FUS_PIEZO_CFG_EN 15) = true ∧ v.flag (F.FUS_PIEZO_CFG_FAULT 15) = false ∧ v.atWhole (4 * psPerUs) = true ∧
       (v.piezo 15).windowEnd = some 5 ∧ 5 ≤ v.modTime) ∧
    (tapped 0 ⟨some (200 * psPerMs), [3], none, 0⟩).modTime < 200 * psPerMs ∧ ((tapped 0 ⟨none, [], none, 0⟩).piezo 0).windowEnd = none ∧
    (let v := tapped 15 ⟨none, [], none, 0⟩; 90 * psPerMs + 10 * psPerMs ≤ v.modTime ∧ v.flag (F.FUS_PIEZO_CFG_FAULT 15) = false ∧
       v.modTime < 91 * psPerMs + 10 * psPerMs) ∧
    (let v := tapped 0 ⟨some 5, [psPer100Ms], none, 0⟩; (v.crop.lossNext + 1) * psPer100Ms ≤ v.modTime ∧
      ∀ p ∈ v.crop.piezo, ∀ a ∈ p.2.crossings, a / psPer100Ms ≠ v.crop.lossNext) ∧
    (let v := tapped 0 ⟨some 5, [5], none, 0⟩; ∃ p ∈ v.crop.piezo, ∃ a ∈ p.2.crossings, a / psPer100Ms = v.crop.lossNext) := by decide

theorem test_when_flows : (fieldAt 100).atWhole (10 * psPerMs) = true ∧ (fieldAt 101).atWhole (10 * psPerMs) = false ∧
    (∀ c < 4, (fieldAt 100).mfEnabled c = false) ∧ ((fieldAt 100).setFlag (F.FUS_MFLOW_SPD_EN 3) true).mfEnabled 3 = true ∧
    (fieldAt 100).atWhole psPerS = false ∧ (fieldAt 100).atWhole psPer100Ms = true ∧ (fieldAt 101).atWhole psPer100Ms = false ∧
    (let m : MassSample := ⟨2000, 0, false, [], [], [5], [true]⟩; let s := fieldAt 20000; let v := { s with crop := { s.crop with mass := [m] } }
     v.atWhole psPerS = true ∧ v.idleSince = some 0 ∧ 0 + (v.fld F.FUS_YIELD_CFG_DLY_MASS_MS * psPerMs + 5 * psPerS) ≤ v.modTime ∧
       v.crop.mass.filter (fun m => decide (v.modMs / 10 < m.at10 + 500)) = [m]) ∧
    (fieldAt 1).idleSince = some 0 ∧ (fieldAt 1).modTime < 0 + ((fieldAt 1).fld F.FUS_YIELD_CFG_DLY_MASS_MS * psPerMs + 5 * psPerS) ∧
    (fieldAt 100).tableRead 0 (-1) = none ∧
    (((fieldAt 100).setRecWord 0 0 (2 ^ 121)).setBankWord 0 0 32 (2 ^ 32)).tableRead 0 1 = some 0 := by decide

/-- The forecast is enabled, with these frames. -/
def forecasting (ms : Nat) (l : List FcFrame) : State :=
  let s := (fieldAt ms).setFlag F.FUS_FCST_CFG_EN true
  { s with crop := { s.crop with frames := l } }

theorem test_when_forecast : (forecasting 130 []).flag F.FUS_FCST_CFG_EN = true ∧ (fieldAt 130).flag F.FUS_FCST_CFG_EN = false ∧
    (fieldAt 130).mode.harvests = true ∧ (forecasting 130 []).modTime - (forecasting 130 []).modMs / 100 * psPer100Ms ≤ 30 * psPerMs ∧
    30 * psPerMs < (forecasting 131 []).modTime - (forecasting 131 []).modMs / 100 * psPer100Ms ∧ (fieldAt 130).meanFeed [] = none ∧
    (∃ x ∈ (forecasting 130 [{ (default : FcFrame) with k := 1 }]).crop.frames, x.k = 1) ∧ (inMode .standby (fieldAt 1)).mode.harvests = false ∧
    (let f : FcFrame := { (default : FcFrame) with k := 1, t0 := -2300 }
     (f.t0 + 2400) * psPerMs + 500 * psPerMs < (forecasting 601 [f]).modTime ∧ (forecasting 600 [f]).modTime ≤ (f.t0 + 2400) * psPerMs + 500 * psPerMs ∧
       (forecasting 601 [f]).flag F.FUS_FCST_CFG_STALE = false) := by decide

/-- Work at instant `ms` since b ns, ended at e if given. -/
def working (ms b : Nat) (e : Option Nat) : State :=
  let s := ((fieldAt ms).setFlag F.GOO_STAT_HDRENG true).setFlag F.FUS_YIELD_CTL_EN true
  { s with crop := { s.crop with workFrom := some b, workTo := e } }

theorem test_when_work : (working 999 5 none).workReady = true ∧ (-1 : Int) < (working 999 5 none).fld F.FUS_YIELD_CTL_HWORK ∧
    ¬((65536 : Int) < (working 999 5 none).fld F.FUS_YIELD_CTL_HWORK) ∧
    (working 999 5 none).modNs < 1000000000 ∧ 1000000000 ≤ (working 1000 5 none).modNs ∧ 5 < (working 999 5 none).modNs ∧
    (fieldAt 1).crop.workFrom = none ∧ (working 999 5 (some 1000000000)).crop.workTo = some 1000000000 ∧
    (let w := (working 999 5 none).plainWrite R.FUS_YIELD_CTL 0#32
     w.crop.workFrom ≠ none ∧ w.crop.workTo = none ∧ w.workReady = false ∧ w.flag F.FUS_YIELD_CTL_EN = false) := by decide

theorem test_when_cells : ((fieldAt 1).flag F.FUS_YIELD_CTL_EN = false ∧ ((fieldAt 1).plainWrite R.FUS_YIELD_CTL 1#32).flag F.FUS_YIELD_CTL_EN = true) ∧
    (let c : YieldCell := { (default : YieldCell) with toNs := 1000000000, dist := 100, width := 1 }; let s := fieldAt 1000
     let v := { s with crop := { s.crop with cells := [c], published := [(1000, some 100, some 0)] } }
     (c.second + 1) * psPerS + max c.dm c.dw * psPerMs ≤ v.modTime ∧ ((fieldAt 999).modTime < (c.second + 1) * psPerS + max c.dm c.dw * psPerMs) ∧
       v.crop.published.filter (fun p => inShifted c (v.fld (F.FUS_STATION_DLY_DLY_MS 3) + 1000) p.1) = [] ∧ yieldOf c 0 0 = some 0 ∧
       yieldOf { c with width := 0 } 0 0 = none) ∧
    (let c : YieldCell := { (default : YieldCell) with toNs := 1000000000 }; inShifted c 1000 1001 = true ∧ inShifted c 1000 1000 = false) := by decide

/-- With the GNSS reference selected and valid, its timebase in this state after these edges. -/
def phased (st used : Nat) (r : EdgeRun) : State :=
  let s := ((((timed 1000).setFld F.FUS_TB_CFG_SRC 1).setFld F.FUS_TB_STAT_STATE st).setFld F.FUS_TB_STAT_SRCUSED used).setFlag F.FUS_TB_STAT_SLEW true
  { s with fus := { s.fus with gnssRun := r }, gns := { s.gns with due := some (s.modNs, 5) } }

theorem test_when_FusionTime :
    (let v := phased 2 1 ⟨0, 0⟩; v.srcAllows false = true ∧ v.flag F.GNS_STAT_TIMEVALID = true ∧ v.gns.due = some (v.modNs, 5999999999 / 1000000000) ∧
       5000000000 % 1000000000 = 0 ∧ v.tbState = 2 ∧ v.fld F.FUS_TB_STAT_SRCUSED = 1 ∧
       v.modNs < v.fus.lastEdge + 2500000000 ∧ v.srcAllows true = false ∧ v.flag F.FUS_TB_STAT_SLEW = true ∧ v.fus.slewEnd ≤ v.modNs) ∧
    (let v := (fieldAt 2500).setFld F.FUS_TB_STAT_STATE 2; v.tbState = 2 ∧ v.fus.lastEdge + 2500000000 ≤ v.modNs) ∧
    (let v := phased 0 0 ⟨0, 0⟩; v.tbState = 0 ∧ v.fus.gnssRun.count = 0) ∧
    (let v := phased 1 0 ⟨3, 1000⟩; v.tbState = 1 ∧ v.fus.gnssRun.last + 999999000 ≤ v.modNs ∧ v.modNs ≤ v.fus.gnssRun.last + 1000001000) ∧
    (let v := phased 1 0 ⟨0, 0⟩; v.tbState = 1 ∧ v.fus.gnssRun.count = 0 ∧ v.fus.asRun.count = 0) ∧
    (let s := fieldAt 1; let v := { s with fus := { s.fus with slewEnd := 1000001 } }; v.modNs < v.fus.slewEnd) := by decide

theorem test_when_ego :
    (let v := (fieldAt 10).setFlag F.FUS_EGO_CFG_EN true; v.flag F.FUS_EGO_CFG_EN = true ∧ v.atWhole psPerMs = true ∧ v.fus.egoBad = 0) ∧
    (let s := (fieldAt 10).setFlag F.FUS_EGO_CFG_EN true; let v := { s with fus := { s.fus with egoBad := 1 } }
     v.flag F.FUS_EGO_CFG_EN = true ∧ v.fus.egoBad ≠ 0) ∧ (fieldAt 10).flag F.FUS_EGO_CFG_EN = false ∧ ((fieldAt 10).tick (10 * psPerMs + 1)).atWhole psPerMs = false ∧
    (let s := (fieldAt 1000).setFlag F.FUS_EGO_STAT_VALID true; let v := { s with gns := { s.gns with fix := 2, speed := 1001 } }
     v.atWhole psPerS = true ∧ v.flag F.FUS_EGO_STAT_VALID = true) ∧
    (let v := ((fieldAt 10).setFlag F.FUS_OUT_CTL_POSE true).setFlag F.FUS_OUT_CTL_EN true
     v.atWhole (10 * psPerMs) = true ∧ v.flag F.FUS_OUT_CTL_POSE = true ∧ v.flag F.FUS_OUT_CTL_EN = true) ∧
    (fieldAt 10).flag F.FUS_OUT_CTL_POSE = false := by decide

/-- Network k enabled, with a calibration published, port 3 in its mask, and this step. -/
def stepping (k : Nat) (x : FusionStep) : State :=
  (((((fieldAt 100).setFld F.FUS_CAL_VER_VERSION 1).setFlag (F.FUS_NET_CFG_EN k) true).setFld (F.FUS_NET_CFG_CAMMASK k) 8).setFld
    (F.FUS_NET_TIM_DL k) 10).modNet k (fun n => { n with steps := [x] })

def aStep (started : Bool) (atMs arrived : Nat) : FusionStep := ⟨atMs * 1000000, 7, arrived, started, 0, false, false, 1, []⟩

theorem test_when_FusionNets :
    (let v := (fieldAt 1).setFld F.FUS_CAL_VER_VERSION 1; v.netRejects 15 0 false = false ∧
       v.netRejects 15 1 false = true) ∧ (fieldAt 1).fld F.FUS_CAL_VER_VERSION = 0 ∧
    (let v := stepping 15 (aStep false 100 8); (v.netSt 15).steps = [aStep false 100 8] ∧ v.flag (F.FUS_NET_CFG_EN 15) = true ∧
       (∀ p, p < 16 → bitOf 8 p = true → bitOf (aStep false 100 8).arrived p = true) ∧ v.resetCauses 15 false = [] ∧ v.fld (F.FUS_NET_CFG_CAMMASK 15) = 8 ∧
       (v.netSt 15).steps.find? (fun x => !x.started) = some (aStep false 100 8) ∧ v.stepWaits 15 (aStep false 100 8) = false) ∧
    (let v := (stepping 15 (aStep false 80 0)).addCause 15 3; 80 * 1000000 + v.fld (F.FUS_NET_TIM_ASM 15) * 100000 ≤ v.modNs ∧ v.resetCauses 15 false = [3]) ∧
    (let v := (stepping 15 (aStep false 100 0)).setFld (F.FUS_NET_TIM_ASM 15) 1
     v.modNs < 100 * 1000000 + v.fld (F.FUS_NET_TIM_ASM 15) * 100000 ∧ bitOf 8 3 = true ∧ bitOf (aStep false 100 0).arrived 3 = false) ∧
    (let v := stepping 0 (aStep true 100 8); v.modNs < 100 * 1000000 + v.fld (F.FUS_NET_TIM_DL 0) * 100000 ∧ v.flag (F.FUS_NET_TILES_GEN 0) = false) ∧
    (let v := stepping 0 (aStep true 99 8); 99 * 1000000 + v.fld (F.FUS_NET_TIM_DL 0) * 100000 ≤ v.modNs) := by decide

theorem test_when_refined :
    (let s := (fieldAt 10000).setFlag F.FUS_CAL_CTL_REFINE true
     let v := { s with fus := { s.fus with ego := [2001, 0, 0, 0] }, gns := { s.gns with fix := 2 } }
     v.flag F.FUS_CAL_CTL_REFINE = true ∧ v.atWhole (10 * psPerS) = true ∧ 2000 < (v.fus.ego.getD 0 0).natAbs ∧
       calBound 134 = some 20000 ∧ (19999 - toSigned 32 (spGet v.fus.calHost 134)).natAbs < 20000 ∧
       toSigned 32 (spGet v.fus.calHost 134) + 20000 ≤ 20000 ∧
       (let w := { v with fus := { v.fus with atBound := [134] } }; w.fus.atBound.contains 134 = true ∧ calBound 134 = some 20000)) ∧ (fieldAt 1).flag F.FUS_CAL_CTL_REFINE = false := by decide

/-- In FIELD at 1 s, wide, port n enabled with its link up, 64 by 16 raw 8-bit, and this running side. -/
def filming (n : Nat) (p : PortSt) : State :=
  let s := ((((fieldAt 1000).setFlag F.CAM_GLB_CFG_WIDE true).setFlag (F.CAM_PORT_STAT_LINK n) true).setFld (F.CAM_PORT_FMT_WIDTH n) 64).setFld (F.CAM_PORT_FMT_HEIGHT n) 16
  ((s.setFld (F.FUS_TRG_CFG_PERIOD_US n) 1000).setFlag (F.CAM_PORT_CFG_EN n) true).setPort n p

theorem test_when_CameraPorts :
    (let v := ((fieldAt 1000).setFlag (F.FUS_TRG_CFG_EN 15) true).setFld (F.FUS_TRG_CFG_PERIOD_US 15) 1000
     v.flag (F.FUS_TRG_CFG_EN 15) = true ∧ v.atWhole 1000 = true ∧ (v.modNs - (v.fld (F.FUS_TRG_PH_PHASE 15) * 10) % 1000000) % 1000000 = 0 ∧
       (v.fld (F.FUS_TRG_PH_PHASE 15) * 10) % 1000000 ≤ v.modNs ∧ spGet v.fus.trgFrom 15 ≤ v.modNs) ∧ (fieldAt 1).flag (F.FUS_TRG_CFG_EN 0) = false ∧
    (filming 15 default).flag (F.CAM_PORT_CFG_EN 15) = true ∧ (∀ n, n < 16 → (fieldAt 1).flag (F.CAM_PORT_CFG_EN n) = false) ∧
    (let v := (filming 15 default).setFlag (F.CAM_PORT_CFG_EN 15) false
     v.enableRefused 15 (1#32 ||| BitVec.ofNat 32 (2 * 5 + 256 * 0x2A)) = false ∧ v.enableRefused 15 1#32 = true) ∧
    (fieldAt 1).flag F.CAM_GLB_CFG_WIDE = false ∧ (inMode .standby (fieldAt 1)).mode.images = false ∧
    ((fieldAt 1).port 0).i2c = none ∧ ((filming 0 { (default : PortSt) with i2c := some 128 }).port 0).i2c = some 128 ∧ ((fieldAt 1).port 0).linkEp = false ∧
    ((filming 0 { (default : PortSt) with linkEp := true }).port 0).linkEp = true ∧ (filming 0 default).flag (F.CAM_PORT_STAT_LINK 0) = true ∧
    ((filming 0 default).camDamage 0 7).flag (F.CAM_PORT_STAT_LINK 0) = true ∧ ((fieldAt 1).camDamage 0 7).flag (F.CAM_PORT_STAT_LINK 0) = false := by decide

/-- A frame of 16 lines of 64 photosites triggered at 1 s, tap A at the receive point. -/
def aFrameIn (lines : Nat) (closed : Bool) : CamFrame :=
  { (default : CamFrame) with at_ := 1000000000, f := 3, fmt := 64 + 16 * 65536, tim := 100, settings := [0, 0, 0, 8]
                              lines := List.replicate lines (List.replicate 64 0), closed := closed, doneB := true }

/-- Port 0 with this frame. -/
def filmed (f : CamFrame) : State := filming 0 { (default : PortSt) with frames := [f] }

theorem test_when_CameraFrames :
    (let p : PortSt := { (default : PortSt) with trigs := [(1000000000, 7)] }; let v := filming 15 p
     v.flag (F.CAM_PORT_CFG_EN 15) = true ∧ v.flag (F.CAM_PORT_STAT_LINK 15) = true ∧ (v.port 15).open_ = none ∧ (v.port 15).orphan = false ∧
       (v.port 15).trigs.find? (fun q => decide (v.modNs ≤ q.1 + (v.fld (F.CAM_PORT_TIM_FSWIN 15) * 100000 + 9))) = some (1000000000, 7)) ∧
    ((filming 0 default).port 0).trigs = [] ∧ (fieldAt 1).flag (F.CAM_PORT_CFG_EN 0) = false ∧
    ((filming 0 { (default : PortSt) with orphan := true }).port 0).orphan = true ∧
    (let f := aFrameIn 2 false; let v := filmed f
     (v.port 0).open_ = some f ∧ (v.port 0).orphan = false ∧ f.statsDone = false ∧ f.width = 64 ∧ f.height = 16 ∧ f.lines.length < f.height ∧
       (v.port 0).frames.filter (fun f => f.overdue v.modTime) = []) ∧
    (({ aFrameIn 2 false with statsDone := true } : CamFrame).statsDone = true) := by decide

theorem test_when_received :
    let f := aFrameIn 2 false; let a := (filmed f).serveCams 0 64
    (a.port 0).fill ≤ 2 ^ 20 ∧ (a.port 0).tapFull false = false ∧ (a.port 0).tapFull true = false ∧ a.frameAt 0 f = f := by decide

theorem test_when_inputFull :
    2 ^ 20 < (((filming 0 { (default : PortSt) with frames := [aFrameIn 2 false], fill := 2 ^ 35 }).serveCams 0 64).port 0).fill := by decide

theorem test_when_tapped :
    let f := aFrameIn 2 false; let v := (filmed f).serveCams 0 0; let w := v.setRoute 0 { v.route 0 with active := { (v.route 0).active with w0 := 82 * 65536 + 1, w1 := 5 } }
    (v.port 0).frames.find? (fun f => !f.done false) = some f ∧ f.sent false < (v.port 0).ready f ∧ f.overdue v.modTime = false ∧
      (v.atEmission 130 (f.tapRoute false) f.f true).tapUsable 0 (f.tapRoute false) true = false ∧
      (w.atEmission 130 (f.tapRoute false) f.f true).tapUsable 0 (f.tapRoute false) true = true ∧ f.needs false 0 ≤ f.lines.length ∧
      ({ f with tim := 0 }).overdue v.modTime = true ∧ (v.port 0).ready { f with sentA := 2 } ≤ 2 := by decide

theorem test_when_closed :
    (let f := aFrameIn 16 false; let v := filmed f; (v.port 0).open_ = some f ∧ f.lines.length = f.height ∧ v.trgFires 0 = false ∧
       (let w := v.setFlag (F.FUS_TRG_CFG_EN 0) true; w.trgFires 0 = true ∧ ({ f with at_ := 0 }).at_ < w.modNs)) ∧
    (let f : CamFrame := { aFrameIn 16 true with tim := 0 }; let v := filmed f
     (v.port 0).frames.filter (fun f => f.overdue v.modTime) = [f] ∧
       (v.port 0).frames.find? (fun f => f.closed && f.damage == 0 && !f.statsDone) = some f ∧
       (let w := (v.setFrame 0 { f with statsDone := true }).dropFinished 0; w.flag F.CAM_GLB_CFG_WIDE = true ∧
         ((v.setFlag F.CAM_GLB_CFG_WIDE false).setFrame 0 { f with statsDone := true }).flag F.CAM_ST_CTL_HOLD = false)) := by decide

/-- Port p is enabled with its link up, at 1 s. -/
def wired (p : Nat) : State := ((fieldAt 1000).setFlag (F.FLT_ETH_CFG_EN p) true).setFlag (F.FLT_ETH_STAT_LINK p) true

/-- The module's own address asked for, in RECOVERY. -/
def anArp : List Byte := List.replicate 12 0 ++ [8, 6, 0, 1, 8, 0, 6, 4, 0, 1] ++ List.replicate 16 0 ++ arpAddress

theorem test_when_recovers : (inMode .recovery (fieldAt 1)).mode = .recovery ∧ (fieldAt 1).mode ≠ .recovery ∧
    ((inMode .recovery (fieldAt 1)).arpAnswer anArp).isSome = true ∧ (fieldAt 1).arpAnswer [] = none := by decide

/-- A frame of n bytes to broadcast. -/
def aFrameOf (n : Nat) : List Byte := List.replicate 6 255 ++ List.replicate (n - 6) 0

theorem test_when_FleetNetwork :
    (let v := wired 8; v.ethUp 8 = true ∧ (aFrameOf 60).length = 60 ∧ ethConsumed (aFrameOf 60) = false ∧ v.ethMine 8 (aFrameOf 60) = true ∧
      v.ethMine 8 (List.replicate 60 0) = false ∧ v.flag (F.FLT_ETH_STAT_LINK 8) = true ∧ v.ethServed = true ∧
      v.ringFull (R.FLT_ETH_RX_BASE_LO 8) = false ∧ v.pastThreshold (v.fld (F.FLT_ETH_CFG_CLASS 8)) 256 = false) ∧
    ((wired 8).setFld (wptrOf (R.FLT_ETH_RX_BASE_LO 8)) 1).ringFull (R.FLT_ETH_RX_BASE_LO 8) = true ∧
    (fieldAt 1).ethUp 0 = false ∧ (fieldAt 1).flag (F.FLT_ETH_STAT_LINK 0) = false ∧ (fieldAt 2).ethServed = false ∧ (fieldAt 3).ethServed = true := by decide

set_option maxRecDepth 4000 in
theorem test_when_threshold :
    let o : Op := { (default : Op) with w0 := 0x24 + 2 ^ 70, cls := 6, phase := .started }; let s := ((wired 8).setFld (F.FLT_ETH_CFG_CLASS 8) 6).setFld (F.QOS_CLASS_CFG_THR 6) 1
    let v := { s with host := { s.host with ops := [o, o] } }
    v.fld (F.FLT_ETH_CFG_CLASS 8) = 6 ∧ v.pastThreshold 6 256 = true ∧ v.ringFull (R.FLT_ETH_RX_BASE_LO 8) = false := by decide

theorem test_when_transmits :
    (let v := ((wired 8).setFld (wptrOf (R.FLT_ETH_TX_BASE_LO 8)) 1).writeBytes 0 (leBytes 16 60)
     v.ethUp 8 = true ∧ v.fld (wptrOf (R.FLT_ETH_TX_BASE_LO 8)) ≠ v.fld (rptrOf (R.FLT_ETH_TX_BASE_LO 8)) ∧ (v.ring (R.FLT_ETH_TX_BASE_LO 8)).base = 0 ∧
       v.readFlit 0 = 60#128) ∧
    (let v := wired 8; sub16 (v.fld (wptrOf (R.FLT_ETH_TX_BASE_LO 8))) 0 ≤ sub16 1 0 ∧ sub16 1 0 ≤ 2 ^ (v.ring (R.FLT_ETH_TX_BASE_LO 8)).log2 ∧
       ¬(sub16 2 0 ≤ 2 ^ (v.ring (R.FLT_ETH_TX_BASE_LO 8)).log2)) ∧
    (let v := ((wired 7).setFlag F.FLT_PTP_CFG_EN true).setFlag F.FLT_PTP_STAT_GM true
     v.ethUp 7 = true ∧ v.flag F.FLT_PTP_CFG_EN = true ∧ v.flag F.FLT_PTP_STAT_GM = true ∧ spGet v.flt.syncSent 7 = 0 ∧ v.flag F.FLT_PTP_CFG_GMCAP = false) := by decide

/-- Member 31 is enabled, and last heard at the start. -/
def joined (here heard : List Nat) : State :=
  let s := (fieldAt 1000).setFlag (F.FLT_MEM_CFG_EN 31) true
  { s with flt := { s.flt with memHere := here, memHeard := heard, recordDue := true } }

theorem test_when_members : (let v := joined [] [31]; v.ethServed = true ∧ v.members.find? (v.memberIs false 0 0) = some 31 ∧
      (((v.setFlag (F.FLT_ETH_CFG_EN 0) true).setFlag (F.FLT_ETH_STAT_LINK 0) true).ethUp 0 = true) ∧ v.flt.memHere.contains 31 = false ∧ v.flt.memHeard.contains 31 = true ∧ v.members.find? (v.memberIs true 0 0) = none ∧ v.flt.recordDue = true) ∧
    (let v := joined [31] [31]; v.members.contains 31 = true ∧ spGet v.flt.memAt 31 + psPerS ≤ v.modTime ∧ v.recordWaits 31 = false) ∧ (fieldAt 1).flt.recordDue = false ∧
    (let v := ((fieldAt 10000).setFlag F.FLT_FLEET_CFG_EN true).setFld F.FLT_FLEET_CFG_FLEET_S 10
     v.atWhole (v.fld F.FLT_FLEET_CFG_FLEET_S * psPerS) = true ∧ 0 < v.modTime ∧ v.flag F.FLT_FLEET_CFG_EN = true) := by decide

/-- In FIELD at 10 s, announcing on port 0, READY since the start, bound to machine 9, in this state of the binding. -/
def bound (st : Nat) (rs : List Rebind) : State :=
  let s := ((((fieldAt 10000).setFlag (F.FLT_ETH_CFG_EN 0) true).setFlag (F.FLT_ETH_STAT_LINK 0) true).setFlag (F.FLT_ETH_CFG_ANN 0) true).setFld F.FLT_BIND_STAT_BSTATE st
  { s with nv := { s.nv with binding := some ⟨9, 0⟩ }, flt := { s.flt with readyAt := some 0, rebinds := rs, challenge := 0, challengeAt := some 0 } }

def aResponse (id : Nat) : List Byte := [4, 0, 0, 0] ++ List.replicate 32 0 ++ leBytes 8 id ++ List.replicate 64 0

set_option maxRecDepth 4000 in
theorem test_when_FleetIdentity :
    (let v := bound 1 []; v.annPaths.contains 0 = true ∧ spGet v.flt.answered 0 = [] ∧ v.ethServed = true ∧ v.challengeDue = true ∧
       v.flt.challengeAt = some 0 ∧ v.bstate = 1 ∧ v.nv.binding = some ⟨9, 0⟩ ∧ v.flt.readyAt = some 0 ∧ 0 + 10 * psPerS ≤ v.modTime) ∧
    (let s := bound 1 []; let a := s.modTime; let v := { s with flt := { s.flt with answered := spSet [] 0 [a, a, a, a] } }
     4 ≤ ((spGet v.flt.answered 0).filter (fun a => decide (v.modTime < a + psPerS))).length) ∧
    (let b := aResponse 9; b.length = 108 ∧ (b.getD 0 0).toNat = 4 ∧ leNat ((b.drop 4).take 32) = (bound 1 []).flt.challenge ∧ leNat ((b.drop 36).take 8) = 9) ∧
    (let r : Rebind := ⟨0, 5, 9, 0, 0⟩; let v := bound 4 [r]; v.flt.rebinds.find? (fun r => true && r.id == 9 && decide (r.at_ ≤ 0) && decide (v.modTime ≤ r.at_ + 10 * psPerS)) = some r ∧ v.bstate = 4 ∧
       v.flt.rebinds.find? (fun r => r.ctx == 0 && r.tag == 5) = some r ∧ r.at_ + 10 * psPerS ≤ v.modTime) ∧
    ((fieldAt 1).flag F.FLT_BIND_STAT_SESSION = false ∧ ((fieldAt 1).setFlag F.FLT_BIND_STAT_SESSION true).flag F.FLT_BIND_STAT_SESSION = true ∧
      (fieldAt 1).flt.sessionEnd ≤ (fieldAt 1).modTime) := by decide

/-- The session of a state lasts. -/
def inSession (s : State) : State := { s with flt := { s.flt with sessionEnd := 2 ^ 64 } }

theorem test_when_identityOps :
    (let s := (withOp 0x60 0 0).tick 5; Startable s 0 0 0x60 (theOp s)) ∧
    (let s := (withOp 0x61 0 0).tick 5; Startable s 0 0 0x61 (theOp s) ∧ (theOp s).ctx = 0 ∧ (begun s (theOp s)).flt.nonceFresh = false) ∧
    (let s := (inCtx1 (withOp 0x62 0 0)).tick 5; Startable s 1 0 0x62 (theOp s) ∧ (theOp s).ctx ≠ 0) ∧
    (let s := (inSession ((withOp 0x63 0 0).setFlag F.FLT_BIND_STAT_SESSION true |>.setFld F.FLT_BIND_STAT_RIGHTS 2)).tick 5
     let v := begun s (theOp s); Startable s 0 0 0x63 (theOp s) ∧ v.flag F.FLT_BIND_STAT_SESSION = true ∧ v.modTime < v.flt.sessionEnd ∧ bitOf (v.fld F.FLT_BIND_STAT_RIGHTS) 1 = true ∧
       v.mode = .field) ∧
    (let s := (inSession ((inMode .service (withOp 0x63 0 0)).setFlag F.FLT_BIND_STAT_SESSION true |>.setFld F.FLT_BIND_STAT_RIGHTS 2)).tick 5
     let v := begun s (theOp s); Startable s 0 0 0x63 (theOp s) ∧ v.mode = .service) :=
  ⟨startable_withOp _ _ (by decide), ⟨startable_withOp _ _ (by decide), by decide⟩, ⟨startable_inCtx1 _ _ (by decide), by decide⟩,
    ⟨startable_withOp _ _ (by decide), by decide⟩, ⟨startable_withOp _ _ (by decide), by decide⟩⟩

/-- A token of one hour with right 1 for the nonce and the module identity that are all zero, at address 0. -/
def tokened : State :=
  let s := (withOp 0x61 0 0).writeBytes 0 (List.replicate 40 0 ++ [2, 0, 0, 0] ++ leBytes 4 3600 ++ List.replicate 80 0)
  { s with flt := { s.flt with nonceFresh := true } }

set_option maxRecDepth 4000 in
theorem test_when_token : let s := tokened.tick 5; let v := begun s (theOp s); let tok := v.readBytes (theOp s).buf 128
    v.flt.nonceFresh = true ∧ tok.take 32 = (List.range 8).flatMap (fun i => leBytes 4 (v.fld (F.FLT_SES_NONCE_NONCE i))) ∧
      leNat ((tok.drop 32).take 8) = v.moduleId ∧ leNat ((tok.drop 44).take 4) = 3600 ∧ (tok.getD 40 0).toNat % 4 = 2 := by decide

/-- In mode m, 10 s up, with a staged set and an update time of `sec` seconds, armed or not. -/
def updating (m : Mode) (armed : Bool) (sec : Nat) : State :=
  let s := (((inMode m (fieldAt 10000)).setFlag F.GLB_UPD_STAT_STAGED true).setFlag F.GLB_UPD_STAT_ARMED armed).setFlag F.GOO_STAT_STILL true
  { s.setPair F.GLB_UPD_TIME_LO_TIME F.GLB_UPD_TIME_HI_TIME (sec * 1000000000) with boot := { s.boot with updAt := sec * 1000000000 } }

theorem test_when_UpdateStaging :
    ((fieldAt 1).flag F.GLB_UPD_STAT_ARMED = false ∧ (fieldAt 1).flag F.GLB_UPD_STAT_STAGING = false ∧ (fieldAt 1).flag F.GLB_UPD_STAT_STAGED = false) ∧
    (let v := (fieldAt 1).setFlag F.GLB_UPD_STAT_STAGING true; v.flag F.GLB_UPD_STAT_STAGING = true ∧ v.stageReason true ≠ 0) ∧
    (updating .road true 12).flag F.GLB_UPD_STAT_ARMED = true ∧ (updating .road true 12).nv.defer = false ∧
    (updating .road true 12).modNs + 1000000000 ≤ (updating .road true 12).boot.updAt ∧
    1 < ((List.range 4).filter (bitOf (2 ||| 1))).length ∧ 1 < ((List.range 4).filter (bitOf (4 ||| 8))).length ∧
    (updating .road false 12).flag F.GLB_UPD_STAT_STAGED = true ∧ (updating .road false 12).flag F.GLB_UPD_STAT_ARMED = false ∧
    ¬((updating .road false 12).updTime < (updating .road false 12).modNs + 2000000000 ∨
      (updating .road false 12).modNs + 604800000000000 < (updating .road false 12).updTime) ∧
    (updating .road false 11).updTime < (updating .road false 11).modNs + 2000000000 := by decide

theorem test_when_activated : (let v := updating .road true 10; v.boot.toConvert = none ∧ v.boot.updAt ≤ v.modNs ∧ v.nv.defer = false ∧
      v.flag F.GLB_UPD_STAT_ARMED = true ∧ v.mode = .road ∧ v.flag F.GOO_STAT_STILL = true ∧ v.flag F.GOO_STAT_HDRENG = false) ∧
    (updating .field true 10).mode = .field ∧ (updating .field true 10).boot.updAt ≤ (updating .field true 10).modNs := by decide

/-- In RECOVERY with this download. -/
def recovering (b : BootSt) : State := { inMode .recovery (fieldAt 1) with boot := b }

set_option maxRecDepth 4000 in
theorem test_when_RecoveryDownloads :
    (let v := inMode .recovery (fieldAt 1); v.mode = .recovery ∧ v.boot.rxOpen = false) ∧ (fieldAt 1).mode ≠ .recovery ∧
    (let b := { (fieldAt 1).boot with rxOpen := true, rxDone := false, rxNext := 1, tftpBlk := 512 }; let v := recovering b
     v.boot.rxOpen = true ∧ v.boot.tftpBlk ≠ 0 ∧ v.boot.rxNext % 65536 = 1 ∧ ((List.replicate 512 (0 : Byte)).take 512).length = v.boot.tftpBlk ∧
       (([] : List Byte).take 512).length < v.boot.tftpBlk ∧ (v.boot.rxNext - 1) % 65536 = 0 ∧ 2 ≠ v.boot.rxNext % 65536) ∧
    natAt [1, 0, 0, 0, 0, 0, 0, 0] 0 1 = 1 ∧ natAt [3, 0, 0, 0, 0, 0, 0, 0] 0 1 = 3 ∧
    (let d : List Byte := [2, 1, 9, 9, 9, 9, 9, 9]; let b := { (fieldAt 1).boot with rxOpen := true, rxDone := false, rxNext := 1, rxLen := 9, rxBytes := [1, 2, 3, 4, 5, 6], tftpBlk := 0 }
     natAt d 0 1 = 2 ∧ natAt d 1 1 = b.rxNext % 256 ∧ b.rxBytes.length < b.rxLen ∧ natAt [2, 0, 9, 9, 9, 9, 9, 9] 1 1 = (b.rxNext - 1) % 256 ∧
       natAt [2, 2, 9, 9, 9, 9, 9, 9] 1 1 ≠ b.rxNext % 256 ∧ ¬(6 < b.rxBytes.length)) ∧
    (let b := { (fieldAt 1).boot with rxOpen := true, rxDone := true, rxLen := 9, rxBytes := [] }; (recovering b).boot.rxBytes.length ≠ (recovering b).boot.rxLen) := by decide

/-- A container of eight empty components, as R450 lays it out; the digest is SHA-256 of no bytes. -/
def emptyContainer : List Byte :=
  leBytes 4 0x50544C55 ++ leBytes 2 1 ++ leBytes 2 8 ++ leBytes 4 77 ++ leBytes 4 0 ++ leBytes 4 0x7204 ++ leBytes 4 576 ++ leBytes 40 0
    ++ (List.range 8).flatMap (fun i => leBytes 16 (i + 1)
      ++ beBytes 32 0xe3b0c44298fc1c149afbf4c8996fb92427ae41e4649b934ca495991b7852b855 ++ leBytes 16 0)

theorem test_sha_empty : sha256 [] = beBytes 32 0xe3b0c44298fc1c149afbf4c8996fb92427ae41e4649b934ca495991b7852b855 := by decide +kernel

theorem test_when_downloaded : containerReason emptyContainer 576 true 0 = 0 ∧ containerReason emptyContainer 576 false 0 = 2 ∧
    (let v := recovering { (fieldAt 1).boot with rxOpen := true, rxDone := true, rxLen := 576, rxBytes := emptyContainer }
     v.boot.rxBytes.length = v.boot.rxLen ∧ v.nv.minSvn = 0) ∧ (imageOf emptyContainer).id = 77 := by decide +kernel

end Sys2Proof.Tests
end

section
/-!
PROOFS. Scope: the statements about what every command leaves in order, about module DRAM and the set-up
window's accesses outside its registers, and about the machine after reset (00_scope.md).
-/

namespace Sys2Proof

open Machine

/-! ### Every command (Laws/KeepsExec.lean) -/

/-- The commands of the table taken together: each answers a next state and keeps what `Keeps` names.
(CSI_LONG_PACKET's operands are written out, since its meaning leaves one of them unused.) -/
theorem exec_keeps : ∀ (i : Instr) (s : State), ∃ t, Machine.exec i s = .next t ∧ Keeps s t
  | .registerWrite .., _ => keeps_execRegisterWrite ..
  | .glbLockSet .., _ => keeps_execGlbLockSet ..
  | .piezoImpact .., _ => keeps_execPiezoImpact ..
  | .piezoWindowClose .., _ => keeps_execPiezoWindowClose ..
  | .lossInterval .., _ => keeps_execLossInterval ..
  | .piezoBiasFault .., _ => keeps_execPiezoBiasFault ..
  | .massFlowInterval .., _ => keeps_execMassFlowInterval ..
  | .massFlowZeroUpdate .., _ => keeps_execMassFlowZeroUpdate ..
  | .moistureInterval .., _ => keeps_execMoistureInterval ..
  | .forecastFramePublish .., _ => keeps_execForecastFramePublish ..
  | .forecastStale .., _ => keeps_execForecastStale ..
  | .fusFcstGainrst .., _ => keeps_execFusFcstGainrst ..
  | .fusCropWrite .., _ => keeps_execFusCropWrite ..
  | .yieldCellClose .., _ => keeps_execYieldCellClose ..
  | .yieldCellWrite .., _ => keeps_execYieldCellWrite ..
  | .fusYieldEnable .., _ => keeps_execFusYieldEnable ..
  | .ringRptrWrite .., _ => keeps_execRingRptrWrite ..
  | .mortarPacketArrive .., _ => keeps_execMortarPacketArrive ..
  | .morRtStageWrite .., _ => keeps_execMorRtStageWrite ..
  | .morRtCommit .., _ => keeps_execMorRtCommit ..
  | .morRtCancel .., _ => keeps_execMorRtCancel ..
  | .routeBoundarySwitch .., _ => keeps_execRouteBoundarySwitch ..
  | .routeReservationRelease .., _ => keeps_execRouteReservationRelease ..
  | .digestSweepStart .., _ => keeps_execDigestSweepStart ..
  | .digestSweepPublish .., _ => keeps_execDigestSweepPublish ..
  | .sweepOverrun .., _ => keeps_execSweepOverrun ..
  | .morActArm .., _ => keeps_execMorActArm ..
  | .morActDisarm .., _ => keeps_execMorActDisarm ..
  | .activation .., _ => keeps_execActivation ..
  | .cenSelWrite .., _ => keeps_execCenSelWrite ..
  | .cenEnable .., _ => keeps_execCenEnable ..
  | .cenDisable .., _ => keeps_execCenDisable ..
  | .cenRearm .., _ => keeps_execCenRearm ..
  | .cenSwap .., _ => keeps_execCenSwap ..
  | .cenRecWrite .., _ => keeps_execCenRecWrite ..
  | .cenRecRead .., _ => keeps_execCenRecRead ..
  | .cenBankWrite .., _ => keeps_execCenBankWrite ..
  | .loopSampleInstant .., _ => keeps_execLoopSampleInstant ..
  | .evaluationStart .., _ => keeps_execEvaluationStart ..
  | .evaluationComplete .., _ => keeps_execEvaluationComplete ..
  | .loopGuard .., _ => keeps_execLoopGuard ..
  | .loopOutputPhase .., _ => keeps_execLoopOutputPhase ..
  | .specFrameStart .., _ => keeps_execSpecFrameStart ..
  | .specFrameComplete .., _ => keeps_execSpecFrameComplete ..
  | .confirmResult .., _ => keeps_execConfirmResult ..
  | .specPacketReceive .., _ => keeps_execSpecPacketReceive ..
  | .dropPacketReceive .., _ => keeps_execDropPacketReceive ..
  | .timebaseReferenceEdge .., _ => keeps_execTimebaseReferenceEdge ..
  | .timebaseHoldover .., _ => keeps_execTimebaseHoldover ..
  | .timebaseSlewEnd .., _ => keeps_execTimebaseSlewEnd ..
  | .fusTbSrcWrite .., _ => keeps_execFusTbSrcWrite ..
  | .fusTbNowRead .., _ => keeps_execFusTbNowRead ..
  | .cameraTrigger .., _ => keeps_execCameraTrigger ..
  | .fusTrgWrite .., _ => keeps_execFusTrgWrite ..
  | .egoMotionSample .., _ => keeps_execEgoMotionSample ..
  | .slipUpdate .., _ => keeps_execSlipUpdate ..
  | .posePropagate .., _ => keeps_execPosePropagate ..
  | .poseRecord .., _ => keeps_execPoseRecord ..
  | .fusNetEnable .., _ => keeps_execFusNetEnable ..
  | .fusNetRst .., _ => keeps_execFusNetRst ..
  | .fusionStepStart .., _ => keeps_execFusionStepStart ..
  | .fusionStepComplete .., _ => keeps_execFusionStepComplete ..
  | .fusionStepAbandon .., _ => keeps_execFusionStepAbandon ..
  | .calRefine .., _ => keeps_execCalRefine ..
  | .fusCalPublish .., _ => keeps_execFusCalPublish ..
  | .camWideWrite .., _ => keeps_execCamWideWrite ..
  | .camPortEnable .., _ => keeps_execCamPortEnable ..
  | .camSettingWrite .., _ => keeps_execCamSettingWrite ..
  | .camI2cStart .., _ => keeps_execCamI2cStart ..
  | .camI2cDone .., _ => keeps_execCamI2cDone ..
  | .camLinkLost .., _ => keeps_execCamLinkLost ..
  | .camLinkRestored .., _ => keeps_execCamLinkRestored ..
  | .csiFrameStart .., _ => keeps_execCsiFrameStart ..
  | .csiLongPacket t n vc dt header crc oneFlip sites, s => keeps_execCsiLongPacket t n vc dt header crc oneFlip sites s
  | .tapLineSend .., _ => keeps_execTapLineSend ..
  | .csiFrameEnd .., _ => keeps_execCsiFrameEnd ..
  | .camFrameDeadline .., _ => keeps_execCamFrameDeadline ..
  | .camStatsReady .., _ => keeps_execCamStatsReady ..
  | .gnssEpoch .., _ => keeps_execGnssEpoch ..
  | .gnssTimeInvalid .., _ => keeps_execGnssTimeInvalid ..
  | .gnssNavUnit .., _ => keeps_execGnssNavUnit ..
  | .gnssPpsEdge .., _ => keeps_execGnssPpsEdge ..
  | .gnssQerrReport .., _ => keeps_execGnssQerrReport ..
  | .ppsFreerunPulse .., _ => keeps_execPpsFreerunPulse ..
  | .gnsInjCommit .., _ => keeps_execGnsInjCommit ..
  | .gnsCfgWrite .., _ => keeps_execGnsCfgWrite ..
  | .gnssAntennaFault .., _ => keeps_execGnssAntennaFault ..
  | .ctxEnable .., _ => keeps_execCtxEnable ..
  | .ctxDisable .., _ => keeps_execCtxDisable ..
  | .contextDrained .., _ => keeps_execContextDrained ..
  | .ctxConfigWrite .., _ => keeps_execCtxConfigWrite ..
  | .dbSqTail .., _ => keeps_execDbSqTail ..
  | .dbCqHead .., _ => keeps_execDbCqHead ..
  | .descriptorRead .., _ => keeps_execDescriptorRead ..
  | .nop .., _ => keeps_execNop ..
  | .cancel .., _ => keeps_execCancel ..
  | .cfgWrite .., _ => keeps_execCfgWrite ..
  | .cfgRead .., _ => keeps_execCfgRead ..
  | .routeCommit .., _ => keeps_execRouteCommit ..
  | .stageDiscard .., _ => keeps_execStageDiscard ..
  | .loopEnable .., _ => keeps_execLoopEnable ..
  | .loopDisable .., _ => keeps_execLoopDisable ..
  | .loopRearm .., _ => keeps_execLoopRearm ..
  | .loopSwap .., _ => keeps_execLoopSwap ..
  | .loopBankWrite .., _ => keeps_execLoopBankWrite ..
  | .loopRead .., _ => keeps_execLoopRead ..
  | .operationComplete .., _ => keeps_execOperationComplete ..
  | .irqCoalesceTimer .., _ => keeps_execIrqCoalesceTimer ..
  | .operationDeadline .., _ => keeps_execOperationDeadline ..
  | .tallyBoundary .., _ => keeps_execTallyBoundary ..
  | .glbResyncRequest .., _ => keeps_execGlbResyncRequest ..
  | .resyncSummaryWritten .., _ => keeps_execResyncSummaryWritten ..
  | .quotaSet .., _ => keeps_execQuotaSet ..
  | .reclaim .., _ => keeps_execReclaim ..
  | .reclaimRelease .., _ => keeps_execReclaimRelease ..
  | .acquire .., _ => keeps_execAcquire ..
  | .release .., _ => keeps_execRelease ..
  | .dmaCopy .., _ => keeps_execDmaCopy ..
  | .waitGrant .., _ => keeps_execWaitGrant ..
  | .qosQuotaWrite .., _ => keeps_execQosQuotaWrite ..
  | .qosDramWrite .., _ => keeps_execQosDramWrite ..
  | .oxPwmPeriod .., _ => keeps_execOxPwmPeriod ..
  | .oxCommandFlit .., _ => keeps_execOxCommandFlit ..
  | .oxCommandTimeout .., _ => keeps_execOxCommandTimeout ..
  | .oxDutyLimitEval .., _ => keeps_execOxDutyLimitEval ..
  | .oxPairWrite .., _ => keeps_execOxPairWrite ..
  | .oxPigWrite .., _ => keeps_execOxPigWrite ..
  | .oxPullinGrant .., _ => keeps_execOxPullinGrant ..
  | .oxPullinEnd .., _ => keeps_execOxPullinEnd ..
  | .oxTokenReturn .., _ => keeps_execOxTokenReturn ..
  | .oxRailLow .., _ => keeps_execOxRailLow ..
  | .oxRailRecover .., _ => keeps_execOxRailRecover ..
  | .oxRailClamp .., _ => keeps_execOxRailClamp ..
  | .oxSupplyLow .., _ => keeps_execOxSupplyLow ..
  | .oxSupplyRestored .., _ => keeps_execOxSupplyRestored ..
  | .oxShort .., _ => keeps_execOxShort ..
  | .oxOpen .., _ => keeps_execOxOpen ..
  | .oxOvertemp .., _ => keeps_execOxOvertemp ..
  | .oxChStatClear .., _ => keeps_execOxChStatClear ..
  | .oxFaultClear .., _ => keeps_execOxFaultClear ..
  | .oxStatusRead .., _ => keeps_execOxStatusRead ..
  | .mulCommandFlit .., _ => keeps_execMulCommandFlit ..
  | .mulChCmdWrite .., _ => keeps_execMulChCmdWrite ..
  | .mulUvlo .., _ => keeps_execMulUvlo ..
  | .mulUvloRelease .., _ => keeps_execMulUvloRelease ..
  | .mulLimitStart .., _ => keeps_execMulLimitStart ..
  | .mulLimitLong .., _ => keeps_execMulLimitLong ..
  | .mulThermalShutdown .., _ => keeps_execMulThermalShutdown ..
  | .mulRetry .., _ => keeps_execMulRetry ..
  | .mulRetryCountClear .., _ => keeps_execMulRetryCountClear ..
  | .mulOffstateCheck .., _ => keeps_execMulOffstateCheck ..
  | .mulChStatClear .., _ => keeps_execMulChStatClear ..
  | .mulFaultClear .., _ => keeps_execMulFaultClear ..
  | .mulStatusRead .., _ => keeps_execMulStatusRead ..
  | .safetyContactChange .., _ => keeps_execSafetyContactChange ..
  | .safetyDiscrepancy .., _ => keeps_execSafetyDiscrepancy ..
  | .safetyCrossCircuit .., _ => keeps_execSafetyCrossCircuit ..
  | .gooStop .., _ => keeps_execGooStop ..
  | .gooRelease .., _ => keeps_execGooRelease ..
  | .gooOutputRequest .., _ => keeps_execGooOutputRequest ..
  | .safetyOutputTest .., _ => keeps_execSafetyOutputTest ..
  | .safetyOutputReadback .., _ => keeps_execSafetyOutputReadback ..
  | .contactorFeedbackCheck .., _ => keeps_execContactorFeedbackCheck ..
  | .sealedSwitchChange .., _ => keeps_execSealedSwitchChange ..
  | .gooseDiagFailure .., _ => keeps_execGooseDiagFailure ..
  | .gooseSpeedUpdate .., _ => keeps_execGooseSpeedUpdate ..
  | .speedDiscrepancy .., _ => keeps_execSpeedDiscrepancy ..
  | .gooseStill .., _ => keeps_execGooseStill ..
  | .gooseStatusFlit .., _ => keeps_execGooseStatusFlit ..
  | .canOffbusSet .., _ => keeps_execCanOffbusSet ..
  | .canBusJoin .., _ => keeps_execCanBusJoin ..
  | .canFrameReceived .., _ => keeps_execCanFrameReceived ..
  | .canFifoAckWrite .., _ => keeps_execCanFifoAckWrite ..
  | .canTxreqWrite .., _ => keeps_execCanTxreqWrite ..
  | .canTxcanWrite .., _ => keeps_execCanTxcanWrite ..
  | .canTxStart .., _ => keeps_execCanTxStart ..
  | .canFrameSent .., _ => keeps_execCanFrameSent ..
  | .canTxFailure .., _ => keeps_execCanTxFailure ..
  | .canTxrtFlit .., _ => keeps_execCanTxrtFlit ..
  | .canErrorStateChange .., _ => keeps_execCanErrorStateChange ..
  | .canBusoffRecovered .., _ => keeps_execCanBusoffRecovered ..
  | .canAbdStart .., _ => keeps_execCanAbdStart ..
  | .canAbdCandidateTimeout .., _ => keeps_execCanAbdCandidateTimeout ..
  | .canTtTrigger .., _ => keeps_execCanTtTrigger ..
  | .canTtReference .., _ => keeps_execCanTtReference ..
  | .canWakePattern .., _ => keeps_execCanWakePattern ..
  | .canTx .., _ => keeps_execCanTx ..
  | .canFifoDrain .., _ => keeps_execCanFifoDrain ..
  | .mbxSend .., _ => keeps_execMbxSend ..
  | .mbxAck .., _ => keeps_execMbxAck ..
  | .mbxBothpend .., _ => keeps_execMbxBothpend ..
  | .henRecordWrite .., _ => keeps_execHenRecordWrite ..
  | .henOpenRefresh .., _ => keeps_execHenOpenRefresh ..
  | .henTokenReturn .., _ => keeps_execHenTokenReturn ..
  | .henHoursWrite .., _ => keeps_execHenHoursWrite ..
  | .henScanComplete .., _ => keeps_execHenScanComplete ..
  | .henCurSeqWrite .., _ => keeps_execHenCurSeqWrite ..
  | .henNext .., _ => keeps_execHenNext ..
  | .henWrite .., _ => keeps_execHenWrite ..
  | .henRead .., _ => keeps_execHenRead ..
  | .henClear .., _ => keeps_execHenClear ..
  | .supplyBandChange .., _ => keeps_execSupplyBandChange ..
  | .crankTimeout .., _ => keeps_execCrankTimeout ..
  | .supplyCollapse .., _ => keeps_execSupplyCollapse ..
  | .railFault .., _ => keeps_execRailFault ..
  | .junctionLimit .., _ => keeps_execJunctionLimit ..
  | .ignChange .., _ => keeps_execIgnChange ..
  | .powerUpStart .., _ => keeps_execPowerUpStart ..
  | .aoSwitchToBackup .., _ => keeps_execAoSwitchToBackup ..
  | .aoReturnToMain .., _ => keeps_execAoReturnToMain ..
  | .canaryFlip .., _ => keeps_execCanaryFlip ..
  | .vbatMeasure .., _ => keeps_execVbatMeasure ..
  | .xo32Stop .., _ => keeps_execXo32Stop ..
  | .rooTick0Read .., _ => keeps_execRooTick0Read ..
  | .rooTick2Read .., _ => keeps_execRooTick2Read ..
  | .rooLoad .., _ => keeps_execRooLoad ..
  | .rooLoadApply .., _ => keeps_execRooLoadApply ..
  | .rooAlarm .., _ => keeps_execRooAlarm ..
  | .calendarSecond .., _ => keeps_execCalendarSecond ..
  | .calendarWrite .., _ => keeps_execCalendarWrite ..
  | .oscJudgeWindow .., _ => keeps_execOscJudgeWindow ..
  | .clkFreqWrite .., _ => keeps_execClkFreqWrite ..
  | .pllLock .., _ => keeps_execPllLock ..
  | .relockWindow .., _ => keeps_execRelockWindow ..
  | .relockTimeout .., _ => keeps_execRelockTimeout ..
  | .relockRetry .., _ => keeps_execRelockRetry ..
  | .pllLockLoss .., _ => keeps_execPllLockLoss ..
  | .blockSleep .., _ => keeps_execBlockSleep ..
  | .clkObsWrite .., _ => keeps_execClkObsWrite ..
  | .modeRequest .., _ => keeps_execModeRequest ..
  | .modeChangeEffect .., _ => keeps_execModeChangeEffect ..
  | .ignitionOffTimeout .., _ => keeps_execIgnitionOffTimeout ..
  | .bootEntry .., _ => keeps_execBootEntry ..
  | .bootStepComplete .., _ => keeps_execBootStepComplete ..
  | .bootGood .., _ => keeps_execBootGood ..
  | .bootWatchdogExpiry .., _ => keeps_execBootWatchdogExpiry ..
  | .recoveryTftpRequest .., _ => keeps_execRecoveryTftpRequest ..
  | .recoveryTftpData .., _ => keeps_execRecoveryTftpData ..
  | .recoveryCanStart .., _ => keeps_execRecoveryCanStart ..
  | .recoveryCanData .., _ => keeps_execRecoveryCanData ..
  | .recoveryCanEnd .., _ => keeps_execRecoveryCanEnd ..
  | .recoveryDownloadDone .., _ => keeps_execRecoveryDownloadDone ..
  | .recoveryExit .., _ => keeps_execRecoveryExit ..
  | .updateStage .., _ => keeps_execUpdateStage ..
  | .updateStageDone .., _ => keeps_execUpdateStageDone ..
  | .updateArm .., _ => keeps_execUpdateArm ..
  | .updateDisarm .., _ => keeps_execUpdateDisarm ..
  | .updateDiscard .., _ => keeps_execUpdateDiscard ..
  | .updateActivation .., _ => keeps_execUpdateActivation ..
  | .legacyPeripheralAccess .., _ => keeps_execLegacyPeripheralAccess ..
  | .legacyUnemulatedAccess .., _ => keeps_execLegacyUnemulatedAccess ..
  | .legacyWatchdogExpiry .., _ => keeps_execLegacyWatchdogExpiry ..
  | .ethFrameReceived .., _ => keeps_execEthFrameReceived ..
  | .ethTxWptrWrite .., _ => keeps_execEthTxWptrWrite ..
  | .ethFrameSend .., _ => keeps_execEthFrameSend ..
  | .ethLinkChange .., _ => keeps_execEthLinkChange ..
  | .ptpMessageReceived .., _ => keeps_execPtpMessageReceived ..
  | .ptpSyncSend .., _ => keeps_execPtpSyncSend ..
  | .unitRecordReceived .., _ => keeps_execUnitRecordReceived ..
  | .machineDigestUpdate .., _ => keeps_execMachineDigestUpdate ..
  | .machineRecordSend .., _ => keeps_execMachineRecordSend ..
  | .memberMissing .., _ => keeps_execMemberMissing ..
  | .fleetRecord .., _ => keeps_execFleetRecord ..
  | .identityChallenge .., _ => keeps_execIdentityChallenge ..
  | .anchorChallenge .., _ => keeps_execAnchorChallenge ..
  | .anchorResponse .., _ => keeps_execAnchorResponse ..
  | .bindingAbsent .., _ => keeps_execBindingAbsent ..
  | .sessionNonceDraw .., _ => keeps_execSessionNonceDraw ..
  | .sessionExpiry .., _ => keeps_execSessionExpiry ..
  | .idSign .., _ => keeps_execIdSign ..
  | .sessionOpen .., _ => keeps_execSessionOpen ..
  | .sessionClose .., _ => keeps_execSessionClose ..
  | .rebind .., _ => keeps_execRebind ..
  | .rebindTimeout .., _ => keeps_execRebindTimeout ..
  | .dspOn .., _ => keeps_execDspOn ..
  | .dspOff .., _ => keeps_execDspOff ..
  | .dspLinkTraining .., _ => keeps_execDspLinkTraining ..
  | .dspTrainingEnd .., _ => keeps_execDspTrainingEnd ..
  | .dspHpdChange .., _ => keeps_execDspHpdChange ..
  | .dspVerticalStart .., _ => keeps_execDspVerticalStart ..
  | .dspBacklightDelay .., _ => keeps_execDspBacklightDelay ..
  | .mulLimitEnd .., _ => keeps_execMulLimitEnd ..
  | .oxRailClampEnd .., _ => keeps_execOxRailClampEnd ..
  | .antennaBiasFaultEnd .., _ => keeps_execAntennaBiasFaultEnd ..
  | .backupCellGivesOut .., _ => keeps_execBackupCellGivesOut ..

/-- A step answers a next state that keeps what `Keeps` names of the state without its front command: with
no command waiting it idles, and otherwise it runs the front command on the queue's rest. -/
theorem step_keeps (s : State) :
    ∃ t, Machine.step s = .next t ∧ Keeps { s with pending := s.pending.tail } t := by
  unfold Machine.step
  split
  · next h => exact ⟨s, rfl, Keeps.same (Keeps.refl _) (by simp [h]) rfl rfl rfl rfl⟩
  · next i rest h => simpa [h] using exec_keeps i { s with pending := rest }

/-- What a step answers keeps what `Keeps` names of the state without its front command. -/
theorem keeps_of_step {s u : State} (h : Machine.step s = .next u) :
    Keeps { s with pending := s.pending.tail } u := by
  obtain ⟨t, ht, k⟩ := step_keeps s
  obtain rfl : t = u := by simpa [ht] using h
  exact k

/-- Settles O6: no command disturbs the canonical form of the registers (`Keeps.regs`), and taking the front
command from the queue leaves the registers. -/
theorem stepRegisters : Obligations.StepRegisters :=
  fun _ _ hinv hstep => (keeps_of_step hstep).regs hinv

/-- Settles O8: by the case split over the table in `exec_keeps`. -/
theorem stepRuns : Obligations.StepRuns := by
  refine ⟨fun i s => ?_, fun s => ?_⟩
  · obtain ⟨t, ht, k⟩ := exec_keeps i s
    exact ⟨t, ht, k.pending, k.time, k.free, k.mem, k.regs⟩
  · obtain ⟨t, ht, -⟩ := step_keeps s
    exact ⟨t, ht⟩

/-! ### Bytes stored in module DRAM (R5, R14) -/

/-- A byte stored within module DRAM reads back. -/
theorem readByte_dramPut_self (m : List Host.Cell) {a : Nat} (x : Byte) (h : a < dramSize) :
    spGetD dramDefault (dramPut m a x) a = x := by
  rw [dramPut, if_pos h, spGetD_spSetD_self]

theorem readByte_dramPutAll_mem (m : List Host.Cell) (a : Nat) (bs : List Byte) (h : a + bs.length ≤ dramSize)
    (i : Nat) (hi : i < bs.length) : spGetD dramDefault (dramPutAll m a bs) (a + i) = bs[i] := by
  induction bs generalizing m a i with
  | nil => simp at hi
  | cons x bs ih =>
    rw [List.length_cons] at h hi
    cases i with
    | zero =>
      rw [dramPutAll, readByte_dramPutAll _ _ _ _ (by omega)]
      exact readByte_dramPut_self m x (by omega)
    | succ j =>
      have hrest := ih (dramPut m a x) (a + 1) (by omega) j (by omega)
      rwa [Nat.add_right_comm, Nat.add_assoc] at hrest

/-- Settles O12: by induction on the stored bytes, the first of which no later one overwrites. -/
theorem storedBytes : Obligations.StoredBytes := fun s a bs h =>
  ⟨readByte_dramPutAll_mem s.dram a bs h, readByte_writeBytes_ne s a bs⟩

/-! ### Accesses outside the registers of the set-up window (R7, R276) -/

/-- The state with the bus answered as such an access is: a read returns zero. -/
def answered (a : Access) (v : State) : State := if a.read then v.onBus 0 else v

@[simp] theorem answered_regs (a : Access) (v : State) : (answered a v).regs = v.regs := by
  unfold answered; split <;> rfl

@[simp] theorem answered_host (a : Access) (v : State) : (answered a v).host = v.host := by
  unfold answered; split <;> rfl

theorem answered_busData (a : Access) (v : State) :
    (answered a v).busData = if a.read = true then 0 else v.busData := by
  unfold answered; split <;> rfl

/-- Answering the bus and setting BADACC leave everything but the registers and the bus. -/
theorem badAccess_answered_rest (a : Access) (v : State) : (answered a v).badAccess =
    { v with regs := (answered a v).badAccess.regs, busData := (answered a v).badAccess.busData } := by
  unfold answered; split <;> rfl

/-- What such an access does: it answers the bus and sets BADACC. -/
theorem opAccess_outside {a : Access} {v : State} (hrun : v.hubRuns = true) (hwin : a.win = .setup)
    (hout : a.size ≠ 4 ∨ a.off % 4 ≠ 0 ∨ findReg a.off = none) :
    opAccess a v = (answered a v).badAccess := by
  unfold opAccess
  rw [if_neg (by simp [hrun])]
  by_cases hword : a.size ≠ 4 ∨ a.off % 4 ≠ 0
  · rw [if_pos hword]; rfl
  · have hnone : findReg a.off = none := (or_assoc.2 hout).resolve_left hword
    rw [if_neg hword, hwin, hnone]; rfl

theorem flag_badAccess (s : State) : s.badAccess.flag F.GLB_STATUS_BADACC = true :=
  flag_setFlag_self s _ true (by simp [Fld.ok, F.GLB_STATUS_BADACC]) rfl

/-- BADACC stands in GLB_STATUS, and no other register changes. -/
theorem reg_badAccess_ne (s : State) {off : Nat} (h : off ≠ R.GLB_STATUS) : s.badAccess.reg off = s.reg off :=
  reg_setFld_ne s _ _ h

theorem sameEvent_badAccess (s : State) {e : Nat} (he : e < 256) : SameEvent e s s.badAccess :=
  sameEvent_setFld s _ _ he (.inl (by decide))

theorem lockv_off_ne (b : Nat) : (F.GLB_LOCK_LOCKV b).off ≠ R.GLB_STATUS := by
  simp only [F.GLB_LOCK_LOCKV, R.GLB_LOCK, R.GLB_STATUS]; omega

/-- Settles O45: the access answers the bus and sets BADACC (`opAccess_outside`), which stands in a register
of its own. -/
theorem accessOutside : Obligations.AccessOutside := by
  intro s t a v hrun hwin hout
  have hreg : ∀ off, off ≠ R.GLB_STATUS → (answered a v).badAccess.reg off = v.reg off := fun off h =>
    (reg_badAccess_ne _ h).trans (reg_congr (answered_regs a v) off)
  refine ⟨(answered a v).badAccess, congrArg _ (opAccess_outside hrun hwin hout), flag_badAccess _, hreg,
    fun b _ => flag_congr (hreg _ (lockv_off_ne b)), ?_, badAccess_answered_rest a v, answered_busData a v⟩
  have hbus : SameEvent 35 v (answered a v) := sameEvent_of 35 (by simp) (by simp)
  exact hbus.trans (sameEvent_badAccess _ (by decide))

/-! ### The machine after reset (R10, R14) -/

/-- A register that the list does not name holds its reset value. -/
theorem reg_of_regs_nil {s : State} (h : s.regs = []) (off : Nat) : s.reg off = regReset off := by
  rw [State.reg, h]; rfl

/-- A byte that the list does not name reads 0. -/
theorem readByte_of_dram_nil {s : State} (h : s.dram = []) (a : Nat) : s.readByte a = 0 := by
  rw [State.readByte, h]; rfl

/-- Settles O3: the lists of the machine after reset are empty. -/
theorem resetInv : Obligations.ResetInv :=
  ⟨memOk_nil, rfl, fun _ h => absurd h List.not_mem_nil, rfl⟩

/-- Settles O4: the lists of registers and of bytes are empty after reset. -/
theorem resetRegisters : Obligations.ResetRegisters := ⟨reg_of_regs_nil rfl, readByte_of_dram_nil rfl⟩

end Sys2Proof
end

section
/-!
PROOFS. The module at a glance: the statement that every step keeps module DRAM in canonical form
(01_module_at_a_glance.md).
-/

namespace Sys2Proof

/-- Settles O5: no command disturbs the canonical form of module DRAM (`Keeps.mem`), and taking the front
command from the queue leaves module DRAM. -/
theorem stepMemory : Obligations.StepMemory :=
  fun _ _ hinv hstep => (keeps_of_step hstep).mem hinv

end Sys2Proof
end

section
/-!
PROOFS. The crop-to-setting chain: the statements about stream routes, packets and ring pointers, about the
crop sensors, and about forecast frames and yield cells (02_crop_to_setting_chain.md).
-/

namespace Sys2Proof

open Machine

/-- What the step of one command answers, from what its operation makes of the state at its instant. -/
theorem next_of_eq {a b : State} (h : a = b) :
    (.next a : Host.Outcome State Fault Refusal) = .next b := congrArg _ h

/-- The state with the index of free values at n (log entry 11). -/
def atFree (v : State) (n : Nat) : State := { v with freeCtr := n }

/-! ### Routes: staging, commit and cancel (R72, R74) -/

theorem opRtStageWrite_pending {v : State} (b : Bool) (x : Word) (h : (v.route v.selRoute).pend = true) :
    opRtStageWrite b x v = v.setRoute v.selRoute { v.route v.selRoute with rej := true } := if_pos h

theorem opRtStageWrite_free {v : State} (b : Bool) (x : Word) (h : (v.route v.selRoute).pend = false) :
    opRtStageWrite b x v = v.setRoute v.selRoute { v.route v.selRoute with
      staged := RouteEntry.clean (if b = true then { (v.route v.selRoute).staged with w1 := x }
        else { (v.route v.selRoute).staged with w0 := x }) } := if_neg (by simp [h])

/-- A commit changes the mortar alone. -/
theorem commitRoute_qos (v : State) (r : Nat) (w : Option (Nat × Nat)) : (v.commitRoute r w).1.qos = v.qos := by
  unfold State.commitRoute
  extract_lets x e loads links
  split
  · rfl
  · split
    · rfl
    · split <;> rfl

theorem commitRoute_pending {v : State} {r : Nat} (w : Option (Nat × Nat)) (h : (v.route r).pend = true) :
    v.commitRoute r w = (v.setRoute r { v.route r with rej := true }, .alreadyPending) := if_pos h

theorem opRtCommit_admitted {v : State} (h : (v.commitRoute v.selRoute none).2 = .pending) :
    opRtCommit v = (((if v.routeOwner v.selRoute = 0 then (v.commitRoute v.selRoute none).1.holdRoute v.selRoute 0
      else (v.commitRoute v.selRoute none).1).reportOver v 0 3).reportOver v 0 5) := by
  have howner : (v.commitRoute v.selRoute none).1.routeOwner v.selRoute = v.routeOwner v.selRoute := by
    rw [State.routeOwner, commitRoute_qos]; rfl
  simp only [opRtCommit, h, State.holdRouteFor0, howner]

theorem opRtCommit_refused {v : State} (h : (v.commitRoute v.selRoute none).2 ≠ .pending) :
    opRtCommit v = (v.commitRoute v.selRoute none).1 := by
  unfold opRtCommit
  dsimp only
  split
  · next e => exact absurd e h
  · rfl

theorem opRtCancel_idle {v : State} (h : (v.route v.selRoute).pend = false) : opRtCancel v = v :=
  if_pos (by simp [h])

theorem opRtCancel_drops {v : State} (h : (v.route v.selRoute).pend = true)
    (hb : v.changeDue v.selRoute = false ∨ v.boundaryInCycle v.selRoute = false) :
    opRtCancel v = v.dropPending v.selRoute codeCancelledHost 0 := by
  have hb' : ¬ (v.changeDue v.selRoute && v.boundaryInCycle v.selRoute) = true := by
    rwa [Bool.not_eq_true, Bool.and_eq_false_iff]
  simp only [opRtCancel, h, if_neg hb']; rfl

/-- A boundary in the same mortar cycle wins over CANCEL (R74). -/
theorem opRtCancel_boundary {v : State} (h : (v.route v.selRoute).pend = true)
    (hd : v.changeDue v.selRoute = true) (hb : v.boundaryInCycle v.selRoute = true) :
    opRtCancel v = v.takeTarget v.selRoute 0 := by
  simp [opRtCancel, h, hd, hb]

/-! ### Routes: boundaries and reservations (R71, R73) -/

/-- A change is due when one waits and, if it was committed, that was in an earlier mortar cycle (R73). -/
theorem changeDue_iff (v : State) (r : Nat) : v.changeDue r = true ↔
    ((v.route r).pend = true ∧ (v.route r).pendAt / 640 < v.now / 640) ∨
      ((v.route r).pend = false ∧ (v.route r).next ≠ none) := by
  cases h : (v.route r).pend <;> simp [State.changeDue, RouteSt.target, h, Option.ne_none_iff_isSome]

theorem opRouteSwitch_due {v : State} {r : Nat} (frame : Nat) (hd : v.changeDue r = true)
    (hb : v.boundaryNow r = true) : opRouteSwitch r frame v = v.takeTarget r frame := by
  rw [opRouteSwitch, hd, hb]; rfl

theorem opRouteSwitch_idle {v : State} {r : Nat} (frame : Nat)
    (h : ((v.route r).pend = false ∧ (v.route r).next = none) ∨ v.boundaryNow r = false ∨
      ((v.route r).pend = true ∧ v.now / 640 ≤ (v.route r).pendAt / 640)) : opRouteSwitch r frame v = v := by
  refine if_neg ?_
  rw [Bool.and_eq_true, changeDue_iff]
  rintro ⟨⟨hp, hlt⟩ | ⟨hp, hn⟩, hb⟩
  · simp [hp, hb] at h; omega
  · simp [hp, hb, hn] at h

/-- A committed change becomes active: SWITCHED is set, and the ROUTE_COMMIT that waits for it completes. -/
theorem takeTarget_committed {v : State} {r : Nat} (frame : Nat) (h : (v.route r).pend = true) :
    v.takeTarget r frame =
      let w := v.switchRoute r (v.route r).staged (v.route r).stagedLinks
      let w := (w.setRoute r { w.route r with
        pend := false, switched := true, waiter := none, stagedLinks := []
        next := none, nextLinks := [] }).imageChanged true
      match (v.route r).waiter with
      | none => w
      | some (c, tag) => match w.findOp c tag with
        | some o => w.finish o codeDone 0 (if (v.route r).staged.en = true then frame % 65536 else 0)
        | none => w := by
  simp only [State.takeTarget, RouteSt.target, h, Bool.or_true, if_true] <;> rfl

/-- An activation's entry becomes active; no ROUTE_COMMIT waits for it. -/
theorem takeTarget_activation {v : State} {r : Nat} {e : RouteEntry} (frame : Nat)
    (h : (v.route r).pend = false) (hn : (v.route r).next = some e) (hw : (v.route r).waiter = none) :
    v.takeTarget r frame =
      let w := v.switchRoute r e (v.route r).nextLinks
      w.setRoute r { w.route r with
        pend := false, switched := (v.route r).switched, waiter := none, stagedLinks := []
        next := none, nextLinks := [] } := by
  simp only [State.takeTarget, RouteSt.target, h, hn, hw, Bool.or_false, Option.map_some, Bool.false_eq_true, if_false]

/-- A packet of route r is still to leave its source. -/
def stillLeaving (v : State) (r : Nat) : Bool := v.mor.flight.any (fun f => f.stream == r && decide (v.now < f.left))

theorem opReservationRelease_holds {v : State} {r : Nat} (h : (v.route r).old = none ∨ (v.route r).eosDue ≠ [] ∨
    (v.route r).oldOpen = true ∨ stillLeaving v r = true) : opReservationRelease r v = v := by
  refine if_pos ?_
  simpa [Bool.or_eq_true, or_assoc, stillLeaving] using h

theorem opReservationRelease_ends {v : State} {r : Nat} (ho : (v.route r).old ≠ none) (he : (v.route r).eosDue = [])
    (hp : (v.route r).oldOpen = false) (hl : stillLeaving v r = false) :
    opReservationRelease r v =
      let w := v.setRoute r { v.route r with old := none, oldLinks := [], oldHeld := false, releasing := false }
      if (v.route r).releasing = true then w.freeRoute r else w := by
  refine if_neg ?_
  have ho' : (v.route r).old.isNone = false := by simpa [Option.isNone_eq_false_iff, Option.ne_none_iff_isSome] using ho
  unfold stillLeaving at hl
  simp only [ho', he, hp, hl]
  simp

/-! ### Routes: ROUTE_COMMIT (R237, R238, R268) -/

/-- The entry that a ROUTE_COMMIT gives its route (R237). -/
def commitEntry (o : Op) : RouteEntry :=
  RouteEntry.clean ⟨BitVec.ofNat 32 (o.arg2 0 32), BitVec.ofNat 32 (o.arg2 32 32)⟩

/-- The state in which the context of a ROUTE_COMMIT holds its route (R268). -/
def routeHeld (v : State) (o : Op) : State :=
  if v.routeOwner (o.arg1 0 12) = 0 then v.holdRoute (o.arg1 0 12) o.ctx else v

/-- The route may be the context's, and its quota of bandwidth allows the entry (R262, R268). -/
structure CommitAllowed (v : State) (o : Op) : Prop where
  claim : v.claim (v.routeOwner (o.arg1 0 12)) o.ctx 3 = none
  quota : v.quotaAllows o.ctx 5 (v.bwGrowth (o.arg1 0 12) (commitEntry o)) = true

section
variable {v : State} {o : Op}

theorem opRouteCommit_otherHolder {k d : Nat} (h : v.claim (v.routeOwner (o.arg1 0 12)) o.ctx 3 = some (k, d)) :
    opRouteCommit v o = v.finish o k d 0 := by
  simp only [opRouteCommit, h]

theorem opRouteCommit_overQuota (hc : v.claim (v.routeOwner (o.arg1 0 12)) o.ctx 3 = none)
    (hq : v.quotaAllows o.ctx 5 (v.bwGrowth (o.arg1 0 12) (commitEntry o)) = false) :
    opRouteCommit v o = v.finish o codeRefusedQuota 5 0 := by
  unfold commitEntry at hq
  simp only [opRouteCommit, hc, hq, Bool.not_false, if_true]

/-- An allowed ROUTE_COMMIT of epoch 0 changes the active set, one of another epoch the staged set (R237). -/
theorem opRouteCommit_allowed (h : CommitAllowed v o) : opRouteCommit v o =
    if o.arg1 32 32 = 0 then
      if ((routeHeld v o).route (o.arg1 0 12)).pend then (routeHeld v o).finish o codeRefusedLocked 6 0 else
      match ((routeHeld v o).setRoute (o.arg1 0 12)
        { (routeHeld v o).route (o.arg1 0 12) with staged := commitEntry o }).commitRoute (o.arg1 0 12)
          (some (o.ctx, o.tag)) with
      | (s, .pending) => s
      | (s, .refusedCount) => s.finish o codeRefusedCapacity 3 0
      | (s, .refusedLink) => s.finish o codeRefusedCapacity 17 0
      | (s, .alreadyPending) => s.finish o codeRefusedLocked 6 0
    else match (routeHeld v o).stageRefusal (o.arg1 32 32) with
      | some d => (routeHeld v o).finish o codeRefusedLocked d 0
      | none =>
        let w := (routeHeld v o).openStage (o.arg1 32 32)
        let m := State.drawFree { w with mor := { w.mor with
          stagedRoutes := spSet w.mor.stagedRoutes (o.arg1 0 12) (some (commitEntry o)) } } 32
        m.2.finish o codeDone 0 m.1.toNat := by
  obtain ⟨hc, hq⟩ := h
  unfold commitEntry at hq
  simp only [opRouteCommit, hc, hq]
  rfl

theorem opRouteCommit_changeWaits (h : CommitAllowed v o) (he : o.arg1 32 32 = 0)
    (hp : ((routeHeld v o).route (o.arg1 0 12)).pend = true) :
    opRouteCommit v o = (routeHeld v o).finish o codeRefusedLocked 6 0 := by
  rw [opRouteCommit_allowed h, if_pos he, if_pos hp]

theorem opRouteCommit_commits (h : CommitAllowed v o) (he : o.arg1 32 32 = 0)
    (hp : ((routeHeld v o).route (o.arg1 0 12)).pend = false) (w : State) (m : CommitResult) :
    ((routeHeld v o).setRoute (o.arg1 0 12) { (routeHeld v o).route (o.arg1 0 12) with
      staged := commitEntry o }).commitRoute (o.arg1 0 12) (some (o.ctx, o.tag)) = (w, m) →
    opRouteCommit v o = match m with
      | .pending => w
      | .refusedCount => w.finish o codeRefusedCapacity 3 0
      | .refusedLink => w.finish o codeRefusedCapacity 17 0
      | .alreadyPending => w.finish o codeRefusedLocked 6 0 := by
  intro hm
  rw [opRouteCommit_allowed h, if_pos he, if_neg (by simp [hp]), hm]
  cases m <;> rfl

theorem opRouteCommit_setNotOpen (h : CommitAllowed v o) (he : o.arg1 32 32 ≠ 0) {d : Nat}
    (hd : (routeHeld v o).stageRefusal (o.arg1 32 32) = some d) :
    opRouteCommit v o = (routeHeld v o).finish o codeRefusedLocked d 0 := by
  rw [opRouteCommit_allowed h, if_neg he, hd]

theorem opRouteCommit_stages (h : CommitAllowed v o) (he : o.arg1 32 32 ≠ 0)
    (hd : (routeHeld v o).stageRefusal (o.arg1 32 32) = none) :
    opRouteCommit v o =
      let w := (routeHeld v o).openStage (o.arg1 32 32)
      let m := State.drawFree { w with mor := { w.mor with
        stagedRoutes := spSet w.mor.stagedRoutes (o.arg1 0 12) (some (commitEntry o)) } } 32
      m.2.finish o codeDone 0 m.1.toNat := by
  rw [opRouteCommit_allowed h, if_neg he, hd]

end

/-! ### Packets that arrive (R61 to R64, R73) -/

section
variable {v : State} {p : Packet}

theorem opPacketArrive_notYet (h : v.lands p = false) : opPacketArrive p v = v := if_pos (by simp [h])

theorem opPacketArrive_unused (h : v.lands p = true) (hlo : 153 ≤ p.dst) (hhi : p.dst < 255) :
    opPacketArrive p v =
      { v.arrived p with mor := { (v.arrived p).mor with routeFaults := (v.arrived p).mor.routeFaults + 1 } } := by
  simp [opPacketArrive, h, hlo, hhi]

theorem opPacketArrive_misdelivered (h : v.lands p = true) (hs : p.spec = true) (hlo : 128 ≤ p.dst)
    (hhi : p.dst < 153) : opPacketArrive p v = State.specMisdelivered
      (match endpointBlock p.dst with | some b => (v.arrived p).wakeBlock b | none => v.arrived p) p.dst :=
  (if_neg (by simp [h])).trans ((if_neg (Nat.not_le.2 hhi)).trans (if_pos (by simp [hs, hlo])))

/-- A tile and module DRAM's endpoint have no block of the hub to wake (R61). -/
theorem endpointBlock_none {d : Nat} (h : d ≤ 128) : endpointBlock d = none := by
  unfold endpointBlock
  repeat rw [if_neg (by omega)]

theorem opPacketArrive_delivers (h : v.lands p = true) (hs : p.spec = false) (hd : p.dst ≤ 128) :
    opPacketArrive p v = (v.arrived p).deliver p := by
  simp only [opPacketArrive, h, hs, endpointBlock_none hd, Nat.not_le.2 (Nat.lt_of_le_of_lt hd (by decide : 128 < 153)),
    Bool.false_and, Bool.not_true, Bool.false_eq_true, if_false]

theorem deliver_write (hs : p.spec = false) (ht : p.typ = 0) : v.deliver p = v.takeWrite p := by
  simp only [State.deliver, hs, ht]; rfl

theorem deliver_read (hs : p.spec = false) (ht : p.typ = 1) : v.deliver p = v.takeRead p := by
  simp only [State.deliver, hs, ht]; rfl

theorem deliver_response (hs : p.spec = false) (ht : p.typ = 2) : v.deliver p = v.takeResponse p := by
  simp only [State.deliver, hs, ht]; rfl

theorem deliver_streamEnd (hs : p.spec = false) (ht : p.typ = 4) (hd : p.dst < 128) :
    v.deliver p = v.streamEnd p.dst p.stream := by
  simp only [State.deliver, hs, ht, if_pos hd]; rfl

theorem takeWrite_dram (hd : p.dst = 128) :
    v.takeWrite p = v.writeBytes p.addr (p.payload.flatMap (fun f => leBytes 16 f.toNat)) := if_pos hd

theorem takeWrite_bricks (hd : p.dst < 128) : v.takeWrite p =
    if p.addr % 16 = 0 ∧ p.addr + (p.payload.flatMap (fun f => leBytes 16 f.toNat)).length ≤ brickSpace
    then v.brickWrite p.dst p.addr (p.payload.flatMap (fun f => leBytes 16 f.toNat)) else v := by
  simp only [State.takeWrite, Nat.ne_of_lt hd, hd, true_and, if_false]

theorem takeRead_dram (hd : p.dst = 128) : v.takeRead p = v.answerRead p (v.readBytes p.addr 16) := if_pos hd

end

/-! ### Ring pointers (R53 step 7) -/

section
variable {v : State} {n : RingName} {x : Word}

theorem opRptrWrite_same (h : bitsOf x.toNat 16 16 = v.fld (rptrOf (ringOf n).1)) : opRptrWrite n x v = v :=
  if_pos h

theorem opRptrWrite_outside (h : bitsOf x.toNat 16 16 ≠ v.fld (rptrOf (ringOf n).1))
    (ha : v.rptrAccepted (ringOf n).1 (bitsOf x.toNat 16 16) = false) :
    opRptrWrite n x v = v.setFlag F.GLB_STATUS_RINGERR true := by
  simp only [opRptrWrite, if_neg h, ha]; rfl

theorem opRptrWrite_consumed (h : bitsOf x.toNat 16 16 ≠ v.fld (rptrOf (ringOf n).1))
    (ha : v.rptrAccepted (ringOf n).1 (bitsOf x.toNat 16 16) = true) :
    opRptrWrite n x v =
      let w := v.setFld (rptrOf (ringOf n).1) (bitsOf x.toNat 16 16)
      match (ringOf n).2 with
      | some d => if (ringOf n).1 = R.CAM_ST_BASE_LO ∧ w.flag F.CAM_GLB_CFG_WIDE = false then w else w.ringFlush d
      | none => w := by
  simp only [opRptrWrite, if_neg h, ha, if_true, Bool.and_eq_true, decide_eq_true_eq, Bool.not_eq_true'] <;> rfl

end

theorem exec_routeCommit {s : State} {t : Nat} {c : Fin 4096} {tag : Nat} {o : Op}
    (h : Startable (s.tick t) c.val tag 0x12 o) : Machine.exec (.routeCommit t c tag) s =
      .next (opRouteCommit (begun (s.tick t) o) (running (s.tick t) o)) :=
  next_of_eq (beginOp_startable h opRouteCommit)

/-- Settles O43: each command by the cases of its operation. -/
theorem streamRoutes : Obligations.StreamRoutes := by
  refine ⟨fun s t b x => ?stage, fun s t => ?control, fun s t frame r => ?boundary, fun s t c tag o h => ?commit,
    fun s t p h => ?waits, fun s t p h => ?packet, fun s t n x => ?pointer⟩
  case stage =>
    exact ⟨fun h => next_of_eq (opRtStageWrite_pending b x h), fun h => next_of_eq (opRtStageWrite_free b x h)⟩
  case control =>
    exact ⟨fun h => next_of_eq (opRtCommit_admitted h), fun h => next_of_eq (opRtCommit_refused h),
      commitRoute_pending none, fun h hb => next_of_eq (opRtCancel_drops h hb),
      fun h hd hb => next_of_eq (opRtCancel_boundary h hd hb), fun h => next_of_eq (opRtCancel_idle h)⟩
  case boundary =>
    refine ⟨fun h => next_of_eq (opRouteSwitch_idle frame h), fun hp hb hlt => ?_, fun e hp hn hb hw => ?_,
      fun h => next_of_eq (opReservationRelease_holds h),
      fun ho he hp hl => next_of_eq (opReservationRelease_ends ho he hp hl)⟩
    · have hdue : (s.tick t).changeDue r.val = true := (changeDue_iff _ _).2 (.inl ⟨hp, hlt⟩)
      exact next_of_eq ((opRouteSwitch_due frame hdue hb).trans (takeTarget_committed frame hp))
    · have hdue : (s.tick t).changeDue r.val = true := (changeDue_iff _ _).2 (.inr ⟨hp, by simp [hn]⟩)
      exact next_of_eq ((opRouteSwitch_due frame hdue hb).trans (takeTarget_activation frame hp hn hw))
  case commit =>
    have hrun := exec_routeCommit h
    exact ⟨fun k d hc => hrun.trans (next_of_eq (opRouteCommit_otherHolder hc)),
      fun hc hq => hrun.trans (next_of_eq (opRouteCommit_overQuota hc hq)),
      fun ⟨hc, hq⟩ he hp => hrun.trans (next_of_eq (opRouteCommit_changeWaits ⟨hc, hq⟩ he hp)),
      fun ⟨hc, hq⟩ he hp w m hm => hrun.trans (next_of_eq (opRouteCommit_commits ⟨hc, hq⟩ he hp w m hm)),
      fun ⟨hc, hq⟩ he d hd => hrun.trans (next_of_eq (opRouteCommit_setNotOpen ⟨hc, hq⟩ he hd)),
      fun ⟨hc, hq⟩ he hd => hrun.trans (next_of_eq (opRouteCommit_stages ⟨hc, hq⟩ he hd))⟩
  case waits => exact next_of_eq (opPacketArrive_notYet h)
  case packet =>
    have hdel : p.spec = false → p.dst ≤ 128 → Machine.exec (.mortarPacketArrive t p) s =
        .next (((s.tick t).arrived p).deliver p) := fun hs hd => next_of_eq (opPacketArrive_delivers h hs hd)
    exact ⟨fun hlo hhi => next_of_eq (opPacketArrive_unused h hlo hhi),
      fun hs hlo hhi => next_of_eq (opPacketArrive_misdelivered h hs hlo hhi),
      fun hs ht hd => (hdel hs hd.le).trans (next_of_eq ((deliver_write hs ht).trans (takeWrite_dram hd))),
      fun hs ht hd => (hdel hs hd.le).trans (next_of_eq ((deliver_write hs ht).trans (takeWrite_bricks hd))),
      fun hs ht hd => (hdel hs hd.le).trans (next_of_eq ((deliver_read hs ht).trans (takeRead_dram hd))),
      fun hs ht hd => (hdel hs hd.le).trans (next_of_eq (deliver_response hs ht)),
      fun hs ht hd => (hdel hs hd.le).trans (next_of_eq (deliver_streamEnd hs ht hd))⟩
  case pointer =>
    exact ⟨fun h => next_of_eq (opRptrWrite_same h), fun h ha => next_of_eq (opRptrWrite_outside h ha),
      fun h ha => next_of_eq (opRptrWrite_consumed h ha)⟩

/-! ### Piezo impacts (R34, R35) -/

section
variable {v : State} {c : Nat}

theorem opPiezoImpact_ignored (h : v.flag (F.FUS_PIEZO_CFG_EN c) = false ∨ v.flag (F.FUS_PIEZO_CFG_FAULT c) = true ∨
    v.atWhole (4 * psPerUs) = false) : opPiezoImpact c v = v :=
  if_pos (by simpa [piezoSample, or_assoc] using h)

/-- A crossing at a sample instant of a channel that counts opens a window, or lengthens the open one at its
second crossing (R34 step 3). -/
theorem opPiezoImpact_counts (he : v.flag (F.FUS_PIEZO_CFG_EN c) = true) (hf : v.flag (F.FUS_PIEZO_CFG_FAULT c) = false)
    (hw : v.atWhole piezoSample = true) : opPiezoImpact c v =
    match (v.piezo c).windowEnd with
    | none => v.setPiezo c { v.piezo c with
        windowEnd := some (v.modTime + 240 * piezoSample), crossings := [v.modTime] }
    | some e => v.setPiezo c { v.piezo c with
        windowEnd := some (if (v.piezo c).crossings.length = 1 then v.modTime + 256 * piezoSample else e)
        crossings := (v.piezo c).crossings ++ [v.modTime] } :=
  if_neg (by simp [he, hf, hw])

theorem opPiezoImpact_opens (he : v.flag (F.FUS_PIEZO_CFG_EN c) = true) (hf : v.flag (F.FUS_PIEZO_CFG_FAULT c) = false)
    (hw : v.atWhole (4 * psPerUs) = true) (h : (v.piezo c).windowEnd = none) : opPiezoImpact c v =
      v.setPiezo c { v.piezo c with windowEnd := some (v.modTime + 960 * psPerUs), crossings := [v.modTime] } := by
  rw [opPiezoImpact_counts he hf hw, h]; rfl

theorem opPiezoImpact_again (he : v.flag (F.FUS_PIEZO_CFG_EN c) = true) (hf : v.flag (F.FUS_PIEZO_CFG_FAULT c) = false)
    (hw : v.atWhole (4 * psPerUs) = true) {e : Nat} (h : (v.piezo c).windowEnd = some e) : opPiezoImpact c v =
      v.setPiezo c { v.piezo c with
        windowEnd := some (if (v.piezo c).crossings.length = 1 then v.modTime + 1024 * psPerUs else e)
        crossings := (v.piezo c).crossings ++ [v.modTime] } := by
  rw [opPiezoImpact_counts he hf hw, h]; rfl

/-- The class of a window's impacts: one that stands alone has the class of its scores (R34 steps 4 and 5). -/
theorem impactClass_alone (g h n : Nat) : (if n = 1 then impactClass g h else 2) =
    if n ≠ 1 ∨ (g < 75 ∧ h < 75) then 2 else if h < g then 0 else 1 := by
  simp only [impactClass, Nat.max_lt]
  split_ifs <;> omega

theorem opPiezoClose_noWindow (g h : Nat) (hn : (v.piezo c).windowEnd = none) : opPiezoClose c g h v = v := by
  simp only [opPiezoClose, hn]

theorem opPiezoClose_early {e : Nat} (g h : Nat) (hs : (v.piezo c).windowEnd = some e) (ht : v.modTime < e) :
    opPiezoClose c g h v = v := by
  simp only [opPiezoClose, hs, if_pos ht]

theorem opPiezoClose_counts {e : Nat} (g h : Nat) (hs : (v.piezo c).windowEnd = some e) (ht : e ≤ v.modTime) :
    opPiezoClose c g h v =
      State.setPiezo { v with crop := { v.crop with
        impacts := v.crop.impacts ++ (v.piezo c).crossings.map (fun a => (a / psPer100Ms, c,
          if (v.piezo c).crossings.length ≠ 1 ∨ (g < 75 ∧ h < 75) then 2 else if h < g then 0 else 1)) } }
        c { v.piezo c with windowEnd := none, crossings := [] } := by
  simp only [opPiezoClose, hs, if_neg (Nat.not_lt.2 ht), impactClass_alone]

theorem opPiezoBias_ignored {b : Nat} (h : v.modTime < b + 10 * psPerMs ∨ v.flag (F.FUS_PIEZO_CFG_FAULT c) = true) :
    opPiezoBias c b v = v := if_pos (by simpa using h)

theorem opPiezoBias_faults {b : Nat} (ht : b + 10 * psPerMs ≤ v.modTime)
    (hf : v.flag (F.FUS_PIEZO_CFG_FAULT c) = false) : opPiezoBias c b v =
      ((v.setPiezo c ⟨none, [], some (match (v.piezo c).faultFrom with
          | some f => min f (b / psPer100Ms)
          | none => b / psPer100Ms), (v.piezo c).backFrom⟩).setFlag
        (F.FUS_PIEZO_CFG_FAULT c) true).raise 97 c :=
  if_neg (by simp [hf, ht])

end

/-! ### Loss intervals (R39) -/

section
variable {v : State}

theorem opLossInterval_waits (h : v.modTime < (v.crop.lossNext + 1) * psPer100Ms ∨
    ∃ p ∈ v.crop.piezo, ∃ a ∈ p.2.crossings, a / psPer100Ms = v.crop.lossNext) : opLossInterval v = v :=
  if_pos (by simpa [List.any_eq_true] using h)

theorem opLossInterval_publishes (ht : (v.crop.lossNext + 1) * psPer100Ms ≤ v.modTime)
    (hc : ∀ p ∈ v.crop.piezo, ∀ a ∈ p.2.crossings, a / psPer100Ms ≠ v.crop.lossNext) :
    opLossInterval v =
      let i := v.crop.lossNext
      let a := (v.lossOf 0 i :: v.crop.loss0).take 10
      let b := (v.lossOf 1 i :: v.crop.loss1).take 10
      { v with crop := { v.crop with
        lossNext := i + 1, loss0 := a, loss1 := b, impacts := v.crop.impacts.filter (fun x => decide (i < x.1))
        published := (((i + 1) * 100, meanOfTen (a.map (fun x => x.2)), meanOfTen (b.map (fun x => x.2)))
          :: v.crop.published).take 600
        rate0 := meanOfTen (a.map (fun x => x.1)), rate1 := meanOfTen (b.map (fun x => x.1)) } } :=
  if_neg (by
    rw [Bool.or_eq_true, List.any_eq_true, decide_eq_true_eq]
    rintro (hlt | ⟨p, hp, h⟩)
    · omega
    · obtain ⟨a, ha, e⟩ := List.any_eq_true.1 h
      exact hc p hp a ha (beq_iff_eq.1 e))

end

/-! ### Mass flow (R36) -/

section
variable (v : State)

/-- Channel c is enabled and its VNOM and speed q are both 0, so that the quotient of R36 has no value (log
entry 89). -/
def massOpen (c q : Nat) : Bool := v.mfEnabled c && (v.fld (F.FUS_MFLOW_SPD_VNOM c) == 0 && q == 0)

/-- The flow of channel c by the formula of R36 from its bridge mean u and speed q, and its suspect mark. -/
def massFormula (c : Nat) (u : Int) (q : Nat) : Nat × Bool :=
  massFlow (v.massKOf c) u (spGet v.crop.u0 c) (v.fld (F.FUS_MFLOW_SPD_VNOM c)) q

/-- The flow that channel c counts with, the index of free values being n. -/
def massShare (n c : Nat) (u : Int) (q : Nat) : Nat :=
  if v.mfEnabled c = false then 0
  else if massOpen v c q = true then (Config.freeValue 64 n).toNat else (massFormula v c u q).1

theorem massOpen_eq_false {c q : Nat} (h : v.mfEnabled c = true → v.fld (F.FUS_MFLOW_SPD_VNOM c) ≠ 0 ∨ q ≠ 0) :
    massOpen v c q = false := by
  cases he : v.mfEnabled c
  · simp [massOpen, he]
  · simpa [massOpen, he, ← not_and_or] using h he

theorem massShare_disabled (n : Nat) {c : Nat} (u : Int) (q : Nat) (he : v.mfEnabled c = false) :
    massShare v n c u q = 0 := if_pos he

theorem massShare_formula (n : Nat) {c : Nat} (u : Int) {q : Nat} (he : v.mfEnabled c = true)
    (hv : v.fld (F.FUS_MFLOW_SPD_VNOM c) ≠ 0 ∨ q ≠ 0) : massShare v n c u q = (massFormula v c u q).1 := by
  rw [massShare, if_neg (by simp [he]), massOpen_eq_false v fun _ => hv]; rfl

theorem massOf_atFree (n c : Nat) (u : Int) (q : Nat) : (atFree v n).massOf c u q =
    ((massShare v n c u q, v.mfEnabled c && (massFormula v c u q).2),
      atFree v (if massOpen v c q = true then n + 1 else n)) := by
  show (if (!v.mfEnabled c) = true then ((0, false), atFree v n)
    else if (v.fld (F.FUS_MFLOW_SPD_VNOM c) == 0 && q == 0) = true then
      (((Config.freeValue 64 n).toNat, (massFormula v c u q).2), atFree v (n + 1))
    else (massFormula v c u q, atFree v n)) = _
  unfold massShare massOpen
  cases v.mfEnabled c
  · rfl
  · cases (v.fld (F.FUS_MFLOW_SPD_VNOM c) == 0 && q == 0) <;> rfl

end

section
variable (v : State) (us : Nat → Int) (sp : Nat → Nat)

/-- The index of free values before channel c draws: the channels below it have drawn. -/
def massCtr (c : Nat) : Nat := v.freeCtr + (List.range c).countP (fun i => massOpen v i (sp i))

theorem massCtr_succ (c : Nat) :
    massCtr v sp (c + 1) = if massOpen v c (sp c) = true then massCtr v sp c + 1 else massCtr v sp c := by
  cases h : massOpen v c (sp c) <;> simp [massCtr, List.range_succ, h, Nat.add_assoc]

/-- What `massOf` gives of channel c after the channels below it. -/
theorem massOf_inTurn (c : Nat) : (atFree v (massCtr v sp c)).massOf c (us c) (sp c) =
    ((massShare v (massCtr v sp c) c (us c) (sp c), v.mfEnabled c && (massFormula v c (us c) (sp c)).2),
      atFree v (massCtr v sp (c + 1))) := by
  rw [massOf_atFree, massCtr_succ]

end

theorem opMassFlow_between {v : State} (u : List (List Int)) (q : List Nat) (h : v.atWhole (10 * psPerMs) = false) :
    opMassFlow u q v = v := if_pos (by simp [h])

section
variable (v : State) (u : List (List Int)) (q : List Nat)

/-- The bridge mean of channel c (R36). -/
def bridgeMean (c : Nat) : Int := meanInt (u.getD c [])

/-- The speed on the frequency input that channel c selects (R36). -/
def elevatorSpeed (c : Nat) : Nat := q.getD (v.fld (F.FUS_MFLOW_SPD_FIN c)) 0

/-- The flow that channel c counts with in the sample that ends now. -/
def sampleShare (c : Nat) : Nat :=
  massShare v (massCtr v (elevatorSpeed v q) c) c (bridgeMean u c) (elevatorSpeed v q c)

theorem opMassFlow_samples (h : v.atWhole (10 * psPerMs) = true) :
    opMassFlow u q v =
      let x := sampleShare v u q
      let w := fun c => massFormula v c (bridgeMean u c) (elevatorSpeed v q c)
      { v with
        freeCtr := v.freeCtr + (List.range 4).countP (fun c => massOpen v c (elevatorSpeed v q c))
        crop := { v.crop with
          mass := ({
            at10 := v.modMs / 10, flow := x 0 + x 1 + x 2 + x 3
            suspect := (List.range 4).any (fun c => v.mfEnabled c && (w c).2)
            ks := (List.range 4).map v.massKOf, ens := (List.range 4).map v.mfEnabled
            us := (List.range 4).map (bridgeMean u)
            fast := (List.range 4).map (fun c =>
              decide (v.fld (F.FUS_MFLOW_SPD_VNOM c) ≤ 2 * elevatorSpeed v q c)) } :: v.crop.mass).take 4500
          massK := (List.range 4).foldl (fun a c => spSet a c (v.fld (F.FUS_MFLOW_K_K c) + 1)) v.crop.massK } } := by
  have hany : ∀ f : Nat → Bool, (List.range 4).any f = (f 0 || f 1 || f 2 || f 3) := fun f => by
    rw [show List.range 4 = [0, 1, 2, 3] from rfl]; simp [Bool.or_assoc]
  have hturn := massOf_inTurn v (bridgeMean u) (elevatorSpeed v q)
  unfold opMassFlow
  rw [if_neg (by simp [h])]
  extract_lets us vs
  have h0 : v.massOf 0 (us.getD 0 0) (vs.getD 0 0) = _ := hturn 0
  have h1 : State.massOf _ 1 (us.getD 1 0) (vs.getD 1 0) = _ := hturn 1
  have h2 : State.massOf _ 2 (us.getD 2 0) (vs.getD 2 0) = _ := hturn 2
  have h3 : State.massOf _ 3 (us.getD 3 0) (vs.getD 3 0) = _ := hturn 3
  simp only [h0, h1, h2, h3, hany]
  rfl

end

/-! ### The zero update (R36) -/

section
variable {v : State}

/-- How long the work condition must have been false (R36). -/
def zeroQuiet (v : State) : Nat := v.fld F.FUS_YIELD_CFG_DLY_MASS_MS * psPerMs + 5 * psPerS

theorem opMassZero_waits (h : v.atWhole psPerS = false ∨ v.idleSince = none ∨
    (∃ e, v.idleSince = some e ∧ v.modTime < e + zeroQuiet v)) : opMassZero v = v := by
  refine if_pos ?_
  rcases h with h | h | ⟨e, h, ht⟩
  · simp [h]
  · simp [h]
  · simpa [h] using .inr ht

theorem opMassZero_updates {e : Nat} (hw : v.atWhole psPerS = true) (hi : v.idleSince = some e)
    (ht : e + zeroQuiet v ≤ v.modTime) {m : MassSample} {l : List MassSample}
    (hl : v.crop.mass.filter (fun m => decide (v.modMs / 10 < m.at10 + 500)) = m :: l) :
    opMassZero v = { v with crop := { v.crop with
      u0 := ((List.range 4).filter (fun c => v.mfEnabled c && m.fast.getD c false)).foldl (fun a c =>
        spSet a c (meanInt ((m :: l).map (fun x => x.us.getD c 0)))) v.crop.u0 } } := by
  have hlong : ¬ ((!v.atWhole psPerS || !decide (e + zeroQuiet v ≤ v.modTime)) = true) := by simp [hw, ht]
  unfold zeroQuiet at hlong
  simp only [opMassZero, hi, hl, if_neg hlong]

end

/-! ### Moisture (R37) -/

section
variable {v : State}

theorem opMoisture_between (l : List (Nat × List Int)) (h : v.atWhole psPer100Ms = false) : opMoisture l v = v :=
  if_pos (by simp [h])

/-- One sensor connected: its reading joins those kept, or there is none (R37). -/
theorem opMoisture_one (h : v.atWhole psPer100Ms = true) (g : Nat) (x : List Int) :
    opMoisture [(g, x)] v =
      match v.tableRead g (meanInt x) with
      | none => { v with crop := { v.crop with moist := v.crop.moist.take 1200 } }
      | some y => { v with crop := { v.crop with
          moist := ((v.modMs, y.toNat) :: v.crop.moist).take 1200, lastMoist := some y.toNat } } := by
  refine (if_neg (by simp [h])).trans ?_
  cases hr : v.tableRead g (meanInt x) <;> simp [hr]

end

/-- Settles O51: each command by the cases of its operation. -/
theorem cropSensors : Obligations.CropSensors := by
  refine ⟨fun s t c => ?impact, fun s t g h c => ?close, fun s t b c => ?bias, fun s t => ?loss,
    fun s t u q => ?mass, fun s t => ?zero, fun s t l => ?moisture⟩
  case impact =>
    exact ⟨fun h => next_of_eq (opPiezoImpact_ignored h), fun he hf hw =>
      ⟨fun h => next_of_eq (opPiezoImpact_opens he hf hw h), fun e h => next_of_eq (opPiezoImpact_again he hf hw h)⟩⟩
  case close =>
    exact ⟨fun hn => next_of_eq (opPiezoClose_noWindow g h hn),
      fun e hs ht => next_of_eq (opPiezoClose_early g h hs ht),
      fun e hs ht => next_of_eq (opPiezoClose_counts g h hs ht)⟩
  case bias =>
    exact ⟨fun h => next_of_eq (opPiezoBias_ignored h), fun ht hf => next_of_eq (opPiezoBias_faults ht hf)⟩
  case loss =>
    exact ⟨fun h => next_of_eq (opLossInterval_waits h), fun ht hc => next_of_eq (opLossInterval_publishes ht hc)⟩
  case mass =>
    refine ⟨fun h => next_of_eq (opMassFlow_between u q h), fun h => ⟨sampleShare (s.tick t) u q, _,
      fun c _ he => ?_, fun c _ he hv => ?_, fun hall => ?_, next_of_eq (opMassFlow_samples _ u q h)⟩⟩
    · exact massShare_disabled _ _ _ _ he
    · exact massShare_formula _ _ _ he hv
    · refine List.countP_eq_zero.2 fun c hc => ?_
      exact Bool.eq_false_iff.1 (massOpen_eq_false _ (hall c (List.mem_range.1 hc)))
  case zero =>
    exact ⟨fun h => next_of_eq (opMassZero_waits h),
      fun e hw hi ht m l hl => next_of_eq (opMassZero_updates hw hi ht hl)⟩
  case moisture =>
    refine ⟨fun h => next_of_eq (opMoisture_between l h), fun h g x hl => ?_⟩
    subst hl
    have hone := opMoisture_one h g x
    exact ⟨fun hn => next_of_eq (by rw [hone, hn]), fun y hy => next_of_eq (by rw [hone, hy])⟩

/-! ### Forecast frames (R42 to R46) -/

section
variable {v : State}

theorem opForecastPublish_idle {n : Nat} {f c : List Nat} {d : List DrumRead}
    (h : v.flag F.FUS_FCST_CFG_EN = false ∨ v.mode.harvests = false ∨
      30 * psPerMs < v.modTime - v.modMs / 100 * psPer100Ms ∨ ∃ x ∈ v.crop.frames, x.k = v.modMs / 100 % 2 ^ 32) :
    opForecastPublish f c n d v = v :=
  if_pos (by simpa [List.any_eq_true, or_assoc] using h)

/-- The frame that is made (R42): what O52 says of its fields. -/
theorem opForecastPublish_makes {n : Nat} {f c : List Nat} {d : List DrumRead}
    (he : v.flag F.FUS_FCST_CFG_EN = true) (hm : v.mode.harvests = true)
    (ht : v.modTime - v.modMs / 100 * psPer100Ms ≤ 30 * psPerMs)
    (hnew : ∀ x ∈ v.crop.frames, x.k ≠ v.modMs / 100 % 2 ^ 32) : ∃ x : FcFrame,
      (let w := (v.setFld F.FUS_FCST_GAIN_GAIN x.gain).setFlag F.FUS_FCST_CFG_STALE false
       opForecastPublish f c n d v = { w with crop := { w.crop with frames := (x :: v.crop.frames).take 8 } }) ∧
      x.k = v.modMs / 100 % 2 ^ 32 ∧ x.t0 = ((v.modMs / 100 : Nat) : Int) * 100 - 2400 ∧ x.at_ = v.modTime ∧
      x.width = v.cutWidth ∧ x.speed = ((v.fus.ego.getD 0 0) / 2).toNat ∧
      x.dly = [0, v.fld (F.FUS_STATION_DLY_DLY_MS 1), v.fld (F.FUS_STATION_DLY_DLY_MS 2),
        v.fld (F.FUS_STATION_DLY_DLY_MS 3)] ∧
      (v.meanFeed d = none → x.gain = v.fld F.FUS_FCST_GAIN_GAIN) ∧
      x.feed = (List.range 96).map (fun i =>
        min 32767 (f.getD (if i < min n 96 then i else min n 96 - 1) 0 * x.gain * 2 / v.fullScale)) ∧
      x.conf = (List.range 96).map (fun i => if i < min n 96 then min 32767 (c.getD i 0) else 0) := by
  generalize hrun : opForecastPublish f c n d v = r
  unfold opForecastPublish at hrun
  extract_lets k late dup oldGain start gain src newest m fed frame at hrun
  have hdup : dup = false := by
    simp only [dup, List.any_eq_false, beq_iff_eq]
    exact hnew
  have hlate : ¬ 30 * psPerMs < late := Nat.not_lt.2 ht
  rw [if_neg (by simp [he, hm, hdup, hlate])] at hrun
  refine ⟨frame, hrun.symm, rfl, rfl, rfl, rfl, rfl, rfl, fun hd => ?_, rfl, rfl⟩
  show gain = v.fld F.FUS_FCST_GAIN_GAIN
  simp only [gain, hd]
  rfl

theorem opForecastStale_noFrame (h : v.crop.frames = []) : opForecastStale v = v := by
  simp only [opForecastStale, h]

theorem opForecastStale_old {f : FcFrame} {l : List FcFrame} (h : v.crop.frames = f :: l)
    (he : v.flag F.FUS_FCST_CFG_EN = true) (hs : v.flag F.FUS_FCST_CFG_STALE = false)
    (ht : (f.t0 + 2400) * psPerMs + 500 * psPerMs < v.modTime) :
    opForecastStale v = (v.setFlag F.FUS_FCST_CFG_STALE true).raise 96 0 := by
  simp only [opForecastStale, h]
  exact if_pos (by simp [he, hs, ht])

theorem opForecastStale_fresh {f : FcFrame} {l : List FcFrame} (h : v.crop.frames = f :: l)
    (ht : v.modTime ≤ (f.t0 + 2400) * psPerMs + 500 * psPerMs) : opForecastStale v = v := by
  simp only [opForecastStale, h]
  exact if_neg (by simp [ht])

theorem opFcstCfgWrite_gainrst (x : Word) : opFcstCfgWrite (x ||| 4#32) v =
    (v.plainWrite R.FUS_FCST_CFG (x ||| 4#32)).setFld F.FUS_FCST_GAIN_GAIN 0x4000 :=
  if_pos (by simp)

end

/-! ### Work and its cells (R47 to R49) -/

section
variable {v : State}

/-- Work that has not ended is cut at the whole second, once that has come. -/
theorem cutWork_running {b second : Nat} (hto : v.crop.workTo = none) (hb : b < second) :
    v.cutWork true b second =
      if v.modNs < second then v else (v.closeCell b second).workSince (some second) := by
  unfold State.cutWork
  simp only [hto, if_true]
  by_cases h : v.modNs < second
  · simp [h]
  · have hmin : min second v.modNs = second := Nat.min_eq_left (Nat.not_lt.1 h)
    simp [h, hmin, hb]

/-- Work whose end, within its second, is known: its cell reaches to that end. -/
theorem cutWork_ended {work : Bool} {b e second : Nat}
    (hend : (if work then v.crop.workTo else some (v.crop.workTo.getD v.modNs)) = some e)
    (hb : b < e) (he : e ≤ second) : v.cutWork work b second =
      (v.closeCell b e).workSince (if work then some v.modNs else none) := by
  unfold State.cutWork
  simp only [hend, Option.getD_some, Nat.min_eq_right he, if_pos hb, if_neg (Nat.not_lt.2 he)]
  rfl

end

section
variable {v : State} {h : Int}

/-- The work condition of R47, at header height h. -/
def works (v : State) (h : Int) : Bool :=
  v.mode.harvests && v.flag F.GOO_STAT_HDRENG && v.flag F.FUS_YIELD_CTL_EN && decide (h < v.fld F.FUS_YIELD_CTL_HWORK)

/-- The whole second, in ns, that ends the second of an instant. -/
def secondEnd (b : Nat) : Nat := (b / 1000000000 + 1) * 1000000000

theorem lt_secondEnd (b : Nat) : b < secondEnd b := by unfold secondEnd; omega

theorem opYieldClose_noWork (hn : v.crop.workFrom = none) :
    opYieldClose h v = if works v h = true then v.workSince (some v.modNs) else v := by
  simp only [opYieldClose, hn]; rfl

theorem opYieldClose_working {b : Nat} (hs : v.crop.workFrom = some b) :
    opYieldClose h v = v.cutWork (works v h) b (secondEnd b) := by
  simp only [opYieldClose, hs]; rfl

theorem opYieldClose_goesOn {b : Nat} (hs : v.crop.workFrom = some b) (hto : v.crop.workTo = none)
    (hw : works v h = true) (ht : v.modNs < secondEnd b) : opYieldClose h v = v := by
  rw [opYieldClose_working hs, hw, cutWork_running hto (lt_secondEnd b), if_pos ht]

theorem opYieldClose_atSecond {b : Nat} (hs : v.crop.workFrom = some b) (hto : v.crop.workTo = none)
    (hw : works v h = true) (ht : secondEnd b ≤ v.modNs) :
    opYieldClose h v = (v.closeCell b (secondEnd b)).workSince (some (secondEnd b)) := by
  rw [opYieldClose_working hs, hw, cutWork_running hto (lt_secondEnd b), if_neg (Nat.not_lt.2 ht)]

theorem opYieldClose_stops {b : Nat} (hs : v.crop.workFrom = some b) (hto : v.crop.workTo = none)
    (hw : works v h = false) (hb : b < v.modNs) (ht : v.modNs ≤ secondEnd b) :
    opYieldClose h v = (v.closeCell b v.modNs).workSince none := by
  rw [opYieldClose_working hs, hw]
  exact cutWork_ended (by simp [hto]) hb ht

theorem opYieldClose_ended {b e : Nat} (hs : v.crop.workFrom = some b) (hto : v.crop.workTo = some e) (hb : b < e)
    (he : e ≤ secondEnd b) :
    opYieldClose h v = (v.closeCell b e).workSince (if works v h = true then some v.modNs else none) := by
  rw [opYieldClose_working hs]
  exact cutWork_ended (by simp [hto]) hb he

end

/-- The cell of a working part (R48, R49): what O52 says of its fields. -/
theorem closeCell_cell (v : State) (b e : Nat) : ∃ c, v.closeCell b e = { v with crop := { v.crop with
      cells := v.crop.cells ++ [c], cellSeq := (v.crop.cellSeq + 1) % 2 ^ 32, workEnd := 1000 * e } } ∧
    c.second = b / 1000000000 ∧ c.fromNs = b ∧ c.toNs = e ∧ c.seq = v.crop.cellSeq ∧ c.dist = v.travelled b e ∧
    c.fix = (v.motionAt ((b + e) / 2)).fix ∧
    c.width = v.atSecondStart 1 (b / 1000000000) (v.fld F.FUS_CUTW_WIDTH_CM) ∧
    (c.isPartial = true ↔ b % 1000000000 ≠ 0 ∨ e ≠ (b / 1000000000 + 1) * 1000000000 ∨ v.travelled b e < 100) ∧
    (c.degraded = true ↔ (v.motionAt ((b + e) / 2)).fix < 2 ∨ 200 < (v.motionAt ((b + e) / 2)).age) ∧
    c.crop = v.atSecondStart 0 (b / 1000000000) (v.reg R.FUS_CROP).toNat % 256 ∧
    c.stdMoist = v.atSecondStart 0 (b / 1000000000) (v.reg R.FUS_CROP).toNat / 65536 := by
  refine ⟨_, rfl, rfl, rfl, rfl, rfl, rfl, rfl, rfl, ?_, ?_, rfl, rfl⟩
  · simp [or_assoc]
  · simp

/-! ### Cells written to the ring (R49 to R53) -/

section
variable (v : State) (c : YieldCell)

/-- The mass samples of a cell, and its wet mass in µg (R49). -/
def cellMass : List MassSample := v.crop.mass.filter (fun m => inShifted c c.dm (m.at10 * 10))
def cellWet : Nat := ((cellMass v c).map (fun m => m.flow)).sum / 100

/-- The moisture readings of a cell, and its moisture (R49, R50; log entry 94). -/
def cellReadings : List (Nat × Nat) := v.crop.moist.filter (fun m => inShifted c c.dw m.1)
def cellMoist : Nat :=
  if (cellReadings v c).isEmpty then v.crop.lastMoist.getD c.stdMoist
  else meanNat ((cellReadings v c).map (fun m => m.2))

/-- The published losses of a cell (R49). -/
def cellLosses : List (Nat × Option Nat × Option Nat) :=
  v.crop.published.filter (fun p => inShifted c (v.fld (F.FUS_STATION_DLY_DLY_MS 3) + 1000) p.1)

/-- K of an enabled channel changed within these samples (R51). -/
def calChanged (ws : List MassSample) : Bool :=
  match ws with
  | [] => false
  | m :: more => (List.range 4).any (fun q => ws.any (fun x => x.ens.getD q false)
      && more.any (fun x => x.ks.getD q 0 != m.ks.getD q 0))

/-- A list of samples has two different values iff a later one differs from the first. -/
theorem exists_ne_head_iff {α β : Type} (f : α → β) (m : α) (l : List α) :
    (∃ x ∈ l, f x ≠ f m) ↔ ∃ a ∈ m :: l, ∃ b ∈ m :: l, f a ≠ f b := by
  constructor
  · rintro ⟨x, hx, hne⟩
    exact ⟨x, List.mem_cons_of_mem _ hx, m, List.mem_cons_self, hne⟩
  · rintro ⟨a, ha, b, hb, hne⟩
    by_contra hall
    have heq : ∀ x ∈ m :: l, f x = f m := by
      intro x hx
      rcases List.mem_cons.1 hx with rfl | hx
      · rfl
      · by_contra h; exact hall ⟨x, hx, h⟩
    exact hne ((heq a ha).trans (heq b hb).symm)

theorem calChanged_iff (ws : List MassSample) : calChanged ws = true ↔
    ∃ q < 4, (∃ x ∈ ws, x.ens.getD q false = true) ∧ ∃ a ∈ ws, ∃ b ∈ ws, a.ks.getD q 0 ≠ b.ks.getD q 0 := by
  cases ws with
  | nil => simp [calChanged]
  | cons m more =>
    simp only [calChanged, ← exists_ne_head_iff (fun x : MassSample => x.ks.getD _ 0), List.any_eq_true,
      List.mem_range, Bool.and_eq_true, bne_iff_ne]

/-- FLAGS of a cell's record (R51). -/
def cellFlags : Nat :=
  boolNat c.isPartial + 2 * boolNat (cellReadings v c).isEmpty + 4 * boolNat ((cellMass v c).any (fun m => m.suspect))
    + 8 * boolNat (calChanged (cellMass v c)) + 16 * boolNat c.degraded + 32 * boolNat c.safeStop
    + 64 * boolNat ((cellLosses v c).isEmpty || (cellLosses v c).any (fun p => p.2.1.isNone || p.2.2.isNone))

/-- A loss field, the index of free values being n (log entry 93), and the values drawn for it. -/
def lossShare (n : Nat) (xs : List (Option Nat)) : Nat :=
  if (xs.filterMap id).isEmpty then (Config.freeValue 16 n).toNat
  else min 65535 (roundDiv (xs.filterMap id).sum (100 * (xs.filterMap id).length))
def lossDraws (xs : List (Option Nat)) : Nat := if (xs.filterMap id).isEmpty then 1 else 0

theorem lossField_atFree (n : Nat) (xs : List (Option Nat)) :
    (atFree v n).lossField xs = (lossShare n xs, atFree v (n + lossDraws xs)) := by
  show (if (xs.filterMap id).isEmpty = true then ((Config.freeValue 16 n).toNat, atFree v (n + 1))
    else (min 65535 (roundDiv (xs.filterMap id).sum (100 * (xs.filterMap id).length)), atFree v n)) = _
  unfold lossShare lossDraws
  cases (xs.filterMap id).isEmpty <;> rfl

theorem lossShare_valid {n : Nat} {xs : List (Option Nat)} {l : List Nat} (hl : xs.filterMap id = l) (h : l ≠ []) :
    lossShare n xs = min 65535 (roundDiv l.sum (100 * l.length)) := by
  subst hl
  exact if_neg (by simpa using h)

theorem lossDraws_valid {xs : List (Option Nat)} {l : List Nat} (hl : xs.filterMap id = l) (h : l ≠ []) :
    lossDraws xs = 0 := by
  subst hl
  exact if_neg (by simpa using h)

/-- A yield field, the index of free values being n, and the values drawn for it. -/
def yieldShare (n : Nat) : Option Nat → Nat
  | some y => y
  | none => (Config.freeValue 16 n).toNat
def yieldDraws : Option Nat → Nat
  | some _ => 0
  | none => 1

end

section
variable {v : State} {c : YieldCell} {l : List YieldCell}

theorem opYieldWrite_noCell (h : v.crop.cells = []) : opYieldWrite v = v := by
  simp only [opYieldWrite, h]

theorem opYieldWrite_early (h : v.crop.cells = c :: l)
    (ht : v.modTime < (c.second + 1) * psPerS + max c.dm c.dw * psPerMs) : opYieldWrite v = v := by
  simp only [opYieldWrite, h, if_pos ht]

theorem opYieldWrite_writes (h : v.crop.cells = c :: l)
    (ht : (c.second + 1) * psPerS + max c.dm c.dw * psPerMs ≤ v.modTime) :
    let sep := (cellLosses v c).map (fun p => p.2.1)
    let cln := (cellLosses v c).map (fun p => p.2.2)
    let k := lossDraws sep + lossDraws cln
    let y := yieldOf c (cellWet v c) (cellMoist v c)
    opYieldWrite v = State.ringPush
      { v with crop := { v.crop with cells := l }, freeCtr := v.freeCtr + (k + yieldDraws y) } yieldRing
      (cellBytes c (cellFlags v c) (roundDiv (cellWet v c) 1000000) (cellMoist v c) (yieldShare (v.freeCtr + k) y)
        (lossShare v.freeCtr sep) (lossShare (v.freeCtr + lossDraws sep) cln)) 0 := by
  intro sep cln k y
  have h0 : v.lossField sep = _ := lossField_atFree v v.freeCtr sep
  have h1 := lossField_atFree v (v.freeCtr + lossDraws sep) cln
  rw [Nat.add_assoc] at h1
  unfold opYieldWrite
  rw [h]
  refine (if_neg (Nat.not_lt.2 ht)).trans ?_
  extract_lets mass wet ms held moist dl ls
  have hsep : ls.map (fun p => p.2.1) = sep := rfl
  have hcln : ls.map (fun p => p.2.2) = cln := rfl
  have hy : yieldOf c wet moist = y := rfl
  simp only [hsep, hcln, h0, h1, hy]
  cases y <;> rfl

end
/-! ### The yield switch (R47, R53 step 2) -/

section
variable {v : State} {x : Word}

theorem opYieldCtlWrite_enables (hv : v.flag F.FUS_YIELD_CTL_EN = false)
    (hw : (v.plainWrite R.FUS_YIELD_CTL x).flag F.FUS_YIELD_CTL_EN = true) : opYieldCtlWrite x v =
      ((v.plainWrite R.FUS_YIELD_CTL x).ringSample R.FUS_YIELD_BASE_LO 6).ringFlush yieldRing :=
  if_pos (by simp [hv, hw])

theorem opYieldCtlWrite_other (h : v.flag F.FUS_YIELD_CTL_EN = true ∨
    (v.plainWrite R.FUS_YIELD_CTL x).flag F.FUS_YIELD_CTL_EN = false) :
    opYieldCtlWrite x v = (v.plainWrite R.FUS_YIELD_CTL x).workCheck :=
  if_neg (by rcases h with h | h <;> simp [h])

/-- The mode, the header's engagement or EN has ended a running working part (R47). -/
def workEnds (v : State) : Prop := v.crop.workFrom ≠ none ∧ v.crop.workTo = none ∧ v.workReady = false

theorem workCheck_guard (v : State) :
    (v.crop.workFrom.isSome && v.crop.workTo.isNone && !v.workReady) = true ↔ workEnds v := by
  simp [workEnds, Option.isSome_iff_ne_none, and_assoc]

theorem workCheck_ends (h : workEnds v) : v.workCheck = { v with crop := { v.crop with workTo := some v.modNs } } :=
  if_pos ((workCheck_guard v).2 h)

theorem workCheck_stands (h : ¬ workEnds v) : v.workCheck = v := if_neg (mt (workCheck_guard v).1 h)

end

theorem boolNat_le_one (b : Bool) : boolNat b ≤ 1 := by cases b <;> decide

theorem boolNat_eq_one_iff (b : Bool) : boolNat b = 1 ↔ b = true := by cases b <;> decide

theorem yieldShare_some {n y : Nat} {o : Option Nat} (h : o = some y) : yieldShare n o = y := by rw [h]; rfl

theorem yieldDraws_some {o : Option Nat} (h : o ≠ none) : yieldDraws o = 0 := by
  cases o with
  | none => exact absurd rfl h
  | some y => rfl

/-- Valid losses of both groups and a yield draw no free value. -/
theorem noDraws {l0 l1 : List (Option Nat)} {a b : List Nat} {o : Option Nat} (e0 : l0.filterMap id = a) (h0 : a ≠ [])
    (e1 : l1.filterMap id = b) (h1 : b ≠ []) (ho : o ≠ none) : lossDraws l0 + lossDraws l1 + yieldDraws o = 0 := by
  rw [lossDraws_valid e0 h0, lossDraws_valid e1 h1, yieldDraws_some ho]

/-- Settles O52: each command by the cases of its operation. -/
theorem cropRecords : Obligations.CropRecords := by
  refine ⟨fun s t n f c d => ?publish, fun s t => ?stale, fun s t x => ?gain, fun s t h => ?close,
    fun v b e => ?cell, fun s t => ?write, fun s t x => ?switch⟩
  case publish =>
    refine ⟨fun h => next_of_eq (opForecastPublish_idle h), fun he hm ht hnew => ?_⟩
    obtain ⟨x, hrun, hx⟩ := opForecastPublish_makes (n := n) (f := f) (c := c) (d := d) he hm ht hnew
    exact ⟨x, next_of_eq hrun, hx⟩
  case stale =>
    exact ⟨fun h => next_of_eq (opForecastStale_noFrame h), fun f l hl =>
      ⟨fun he hs ht => next_of_eq (opForecastStale_old hl he hs ht), fun ht => next_of_eq (opForecastStale_fresh hl ht)⟩⟩
  case gain => exact ⟨next_of_eq (opFcstCfgWrite_gainrst x), rfl⟩
  case close =>
    exact ⟨fun hn => next_of_eq (opYieldClose_noWork hn), fun b hs =>
      ⟨fun hto hw ht => next_of_eq (opYieldClose_goesOn hs hto hw ht),
        fun hto hw ht => next_of_eq (opYieldClose_atSecond hs hto hw ht),
        fun hto hw hb ht => next_of_eq (opYieldClose_stops hs hto hw hb ht),
        fun e hto hb he => next_of_eq (opYieldClose_ended hs hto hb he)⟩⟩
  case cell =>
    obtain ⟨c, hrun, hsec, hfrom, hto, hseq, hdist, hfix, hwidth, hpart, hdeg, hcrop, hstd⟩ := closeCell_cell v b e
    exact ⟨c, hrun, hsec, hfrom, hto, hseq, hdist, hfix, hwidth, hpart, hdeg, fun _ => by rw [hcrop, hstd]⟩
  case write =>
    exact ⟨fun h => next_of_eq (opYieldWrite_noCell h), fun c l h => ⟨fun ht => next_of_eq (opYieldWrite_early h ht),
      fun ht => ⟨boolNat (calChanged (cellMass (s.tick t) c)), _, _, _, _, next_of_eq (opYieldWrite_writes h ht),
        boolNat_le_one _, (boolNat_eq_one_iff _).trans (calChanged_iff _), fun y hy => yieldShare_some hy,
        lossShare_valid List.filterMap_map, lossShare_valid List.filterMap_map,
        fun hsep hcln hy => noDraws List.filterMap_map hsep List.filterMap_map hcln hy⟩⟩⟩
  case switch =>
    exact ⟨fun hv hw => next_of_eq (opYieldCtlWrite_enables hv hw), fun h =>
      ⟨fun he => next_of_eq ((opYieldCtlWrite_other h).trans (workCheck_ends he)),
        fun he => next_of_eq ((opYieldCtlWrite_other h).trans (workCheck_stands he))⟩⟩

end Sys2Proof
end

section
/-!
PROOFS. Tiles and mortar: the statement about digest sweeps, configuration descriptors, and the arm and
activation of a staged set (03_tiles_and_mortar.md).
-/

namespace Sys2Proof

open Machine

/-! ### Digest sweeps (R80 to R82) -/

section
variable {v : State}

theorem opSweepOverrun_idle (h : v.mor.sweepAt = none) : opSweepOverrun v = v := by
  simp only [opSweepOverrun, h]

theorem opSweepOverrun_abandons {a : Nat} (h : v.mor.sweepAt = some a) (ht : (a + 100) * psPerMs ≤ v.modTime) :
    opSweepOverrun v =
      let w : State := { v with mor := { v.mor with sweepAt := none } }
      (w.setFlag F.MOR_SWEEP_STAT_STALE true).raise 51 ((w.fld F.MOR_SWEEP_STAT_SEQ + 1) % 65536) := by
  simp only [opSweepOverrun, h, if_neg (Nat.not_lt.2 ht)]

theorem opSweepStart_begins (hr : v.hubRuns = true) (hw : v.atWhole (100 * psPerMs) = true)
    (h : v.mor.sweepAt = none) :
    opSweepStart v = { v with mor := { v.mor with sweepAt := some v.modMs } } := by
  have hdue : ¬ (!v.hubRuns || !v.atWhole (100 * psPerMs)) = true := by simp [hr, hw]
  rw [opSweepStart, if_neg hdue, opSweepOverrun_idle h]

theorem opSweepPublish_idle (e : List BrickError) (u : List (Nat × Nat × Nat)) (h : v.mor.sweepAt = none) :
    opSweepPublish e u v = v := by
  simp only [opSweepPublish, h]

theorem opSweepPublish_late {a : Nat} (e : List BrickError) (u : List (Nat × Nat × Nat))
    (h : v.mor.sweepAt = some a) (ht : (a + 100) * psPerMs ≤ v.modTime) : opSweepPublish e u v = v := by
  simp only [opSweepPublish, h, if_pos ht]

/-- A sweep in time: the words of the tiles' units that are poisoned meet their errors again, then the errors
met, the digests against their references, the tree and the root. -/
theorem opSweepPublish_publishes {a : Nat} (e : List BrickError) (u : List (Nat × Nat × Nat))
    (h : v.mor.sweepAt = some a) (ht : v.modTime < (a + 100) * psPerMs) :
    opSweepPublish e u v =
      let w := (v.mor.poison.filter (fun p => decide (15 * 8192 ≤ p.1 % 131072) && decide (p.1 % 128 < 16))).foldl
        (fun (w : State) (p : Nat × Nat) => w.rereads (p.1 / 131072) [p.1 % 131072]) v
      let w := w.eccErrors e
      let w : State := { w with mor := { w.mor with sweepAt := none, upsets := u } }
      let ep := w.fld F.MOR_EPOCH_EPOCH
      let ds := (List.range 661).map w.sweepDigest
      let f := fun k => ds.getD k 0
      let bad := (List.range 661).filter (fun k => f k != w.refDigest k)
      let w := (bad.foldl (fun w k => w.mismatch k) w).setFlag F.MOR_SWEEP_STAT_MISMATCH (!bad.isEmpty)
      let w : State := { w with mor := { w.mor with mismatched := bad }, flt := { w.flt with digestDue := true } }
      let w := (w.publishTree f ep).setPair F.MOR_ROOT_LO_DIG F.MOR_ROOT_HI_DIG (rootDigest f ep)
      (w.setFld F.MOR_SWEEP_STAT_SEQ (w.fld F.MOR_SWEEP_STAT_SEQ + 1)).setFlag F.MOR_SWEEP_STAT_STALE false := by
  simp only [opSweepPublish, h, if_neg (Nat.not_le.2 ht)]

end

/-! ### Configuration descriptors (R238) -/

section
variable {v : State} {z : Op}

theorem opCfgWrite_ecc : opCfgWrite true v z = v.finish z codeFaultAccess 2 0 := rfl

theorem opCfgWrite_active (he : z.arg1 32 32 = 0) :
    opCfgWrite false v z = v.writeActive z z.unit (z.arg1 64 32) (z.arg1 96 16)
      (patch (v.unitImage z.unit) (z.arg1 64 32) (v.readBytes z.buf (z.arg1 96 16))) :=
  if_pos he

theorem opCfgWrite_refused (he : z.arg1 32 32 ≠ 0) {d : Nat} (hd : v.stageRefusal (z.arg1 32 32) = some d) :
    opCfgWrite false v z = v.finish z codeRefusedLocked d 0 := by
  simp only [opCfgWrite, if_neg he, hd, Bool.false_eq_true, if_false]

theorem opCfgWrite_staged (he : z.arg1 32 32 ≠ 0) (hd : v.stageRefusal (z.arg1 32 32) = none) :
    opCfgWrite false v z = v.writeStaged z (z.arg1 32 32) z.unit
      (patch (v.stagedImage z.unit) (z.arg1 64 32) (v.readBytes z.buf (z.arg1 96 16))) := by
  simp only [opCfgWrite, if_neg he, hd, Bool.false_eq_true, if_false]

theorem opCfgRead_notStaged (ecc : Bool) (he : z.arg1 32 32 ≠ 0) (hs : v.isStaged (z.arg1 32 32) = false) :
    opCfgRead ecc v z = v.finish z codeRefusedLocked 5 0 :=
  if_pos ⟨he, by simp [hs]⟩

/-- The active configuration, or a staged set that stands, may be read. -/
theorem opCfgRead_readable (ecc : Bool) (h : z.arg1 32 32 = 0 ∨ v.isStaged (z.arg1 32 32) = true) :
    opCfgRead ecc v z = if ecc then v.finish z codeFaultAccess 2 0 else
      let img := if z.arg1 32 32 = 0 then v.unitImage z.unit else v.stagedImage z.unit
      (v.writeBytes z.buf ((img.drop (z.arg1 64 32)).take (z.arg1 96 16))).finish z codeDone 0
        (digestOf z.unit img % 2 ^ 32) := by
  refine if_neg fun ⟨he, hs⟩ => ?_
  simp [h.resolve_left he] at hs

theorem opStageDiscard_notStaged (hs : v.isStaged (z.arg1 0 32) = false) :
    opStageDiscard v z = v.finish z codeRefusedLocked 5 0 :=
  if_pos (by simp [hs])

theorem opStageDiscard_armed (hs : v.isStaged (z.arg1 0 32) = true) (ha : v.flag F.MOR_ACT_STAT_ARMED = true) :
    opStageDiscard v z = v.finish z codeRefusedLocked 1 0 :=
  (if_neg (by simp [hs])).trans (if_pos ha)

theorem opStageDiscard_drops (hs : v.isStaged (z.arg1 0 32) = true) (ha : v.flag F.MOR_ACT_STAT_ARMED = false) :
    opStageDiscard v z = v.dropStage.finish z codeDone 0 0 :=
  (if_neg (by simp [hs])).trans (if_neg (by simp [ha]))

end

/-! ### Arm, disarm and activation (R84 to R86) -/

section
variable {v : State}

theorem opActArm_refused (h : v.armReason ≠ 0) : opActArm v =
    ((v.setFlag F.MOR_ACT_STAT_REFUSED true).setFld F.MOR_ACT_STAT_REASON v.armReason).raise 50 v.armReason :=
  if_pos h

theorem opActArm_arms (h : v.armReason = 0) : opActArm v =
    let w := (v.setFlag F.MOR_ACT_STAT_ARMED true).setFlag F.MOR_ACT_STAT_REFUSED false
    State.recomputeStaged { w with mor := { w.mor with actAt := v.tAct / 1000 } } v.tAct :=
  if_neg (not_not_intro h)

theorem opActDisarm_disarms (ha : v.flag F.MOR_ACT_STAT_ARMED = true) (ht : v.modTime + psPerMs ≤ v.tAct) :
    opActDisarm v = (v.setFlag F.MOR_ACT_STAT_ARMED false).recomputeStaged v.tAct :=
  if_neg (by simp [ha, ht])

theorem opActDisarm_stands (h : v.flag F.MOR_ACT_STAT_ARMED = false ∨ v.tAct < v.modTime + psPerMs) :
    opActDisarm v = v :=
  if_pos (by simpa using h)

theorem opActivation_waits (h : v.flag F.MOR_ACT_STAT_ARMED = false ∨ v.modTime < v.tAct) : opActivation v = v :=
  if_pos (by simpa using h)

theorem opActivation_activates (ha : v.flag F.MOR_ACT_STAT_ARMED = true) (ht : v.tAct ≤ v.modTime) :
    opActivation v =
      let e := v.fld F.MOR_STG_EPOCH_EPOCH
      let a := v.activateRoutes.activateUnits.dropStage
      let b := (({ a with mor := { a.mor with sweepAt := none } } : State).setFlag F.MOR_ACT_STAT_ARMED false).setFld
        F.MOR_EPOCH_EPOCH e
      let d := (b.setFlag F.MOR_SWEEP_STAT_LOCALCHG false).writeStore false
      let u := (List.range 128).foldl (fun u k => if (u.enabledOn k).isEmpty = true then u else u.showUtil k) d
      (u.settleSafe.setFlag F.MOR_ACT_STAT_DONE true).raise 49 e :=
  if_neg (by simp [ha, ht])

end

/-- Settles O44: each command by the cases of its operation. -/
theorem stagedSets : Obligations.StagedSets := by
  refine ⟨fun s t => ?sweep, fun s t c tag o h => ?write, fun s t c tag o h => ?read, fun s t c tag o h => ?discard,
    fun s t => ?arm, fun s t => ?activation⟩
  case sweep =>
    exact ⟨fun hr hw hi => next_of_eq (opSweepStart_begins hr hw hi),
      fun a ha ht => next_of_eq (opSweepOverrun_abandons ha ht),
      fun a e u ha ht => next_of_eq (opSweepPublish_late e u ha ht),
      fun e u hi => next_of_eq (opSweepPublish_idle e u hi),
      fun a e u ha ht => next_of_eq (opSweepPublish_publishes e u ha ht)⟩
  case write =>
    have hrun : ∀ ecc, Machine.exec (.cfgWrite t c tag ecc) s =
        .next (opCfgWrite ecc (begun (s.tick t) o) (running (s.tick t) o)) := fun ecc => next_of_eq (beginOp_startable h _)
    exact ⟨(hrun true).trans (next_of_eq opCfgWrite_ecc),
      fun he => (hrun false).trans (next_of_eq (opCfgWrite_active he)),
      fun he d hd => (hrun false).trans (next_of_eq (opCfgWrite_refused he hd)),
      fun he hd => (hrun false).trans (next_of_eq (opCfgWrite_staged he hd))⟩
  case read =>
    have hrun : ∀ ecc, Machine.exec (.cfgRead t c tag ecc) s =
        .next (opCfgRead ecc (begun (s.tick t) o) (running (s.tick t) o)) := fun ecc => next_of_eq (beginOp_startable h _)
    exact ⟨fun ecc he hs => (hrun ecc).trans (next_of_eq (opCfgRead_notStaged ecc he hs)),
      fun hs => (hrun true).trans (next_of_eq (opCfgRead_readable true hs)),
      fun hs => (hrun false).trans (next_of_eq (opCfgRead_readable false hs))⟩
  case discard =>
    have hrun : Machine.exec (.stageDiscard t c tag) s =
        .next (opStageDiscard (begun (s.tick t) o) (running (s.tick t) o)) := next_of_eq (beginOp_startable h _)
    exact ⟨fun hs => hrun.trans (next_of_eq (opStageDiscard_notStaged hs)),
      fun hs ha => hrun.trans (next_of_eq (opStageDiscard_armed hs ha)),
      fun hs ha => hrun.trans (next_of_eq (opStageDiscard_drops hs ha))⟩
  case arm =>
    exact ⟨fun hr => next_of_eq (opActArm_refused hr), fun hr => next_of_eq (opActArm_arms hr),
      fun ha ht => next_of_eq (opActDisarm_disarms ha ht), fun h => next_of_eq (opActDisarm_stands h)⟩
  case activation =>
    exact ⟨fun h => next_of_eq (opActivation_waits h), fun ha ht => next_of_eq (opActivation_activates ha ht)⟩

end Sys2Proof
end

section
/-!
PROOFS. The control engine: the statements about the banks, the record window and the commands of the
selected slot, about loop-slot descriptors, and about loop samples and speculative frames
(04_control_engine.md).
-/

namespace Sys2Proof

open Machine

/-! ### The banks in their windows (R111, R112) -/

section
variable {v : State}

theorem opBankWrite_pending (i : Nat) (x : Word) (h : v.flag (F.CEN_LSTAT_SWPEND v.selSlot) = true) :
    opBankWrite i x v = v.setFlag F.CEN_CMD_STAT_BANKREJ true := if_pos h

theorem opBankWrite_free (i : Nat) (x : Word) (h : v.flag (F.CEN_LSTAT_SWPEND v.selSlot) = false) :
    opBankWrite i x v = (v.setBankWord v.selSlot (v.inactiveBank v.selSlot) (i / 4)
      (setPart (v.bankWord v.selSlot (v.inactiveBank v.selSlot) (i / 4)) (i % 4) x.toNat)).storeBanks :=
  if_neg (by simp [h])

theorem opCenSwap_pending (h : v.flag (F.CEN_LSTAT_SWPEND v.selSlot) = true) :
    opCenSwap v = v.setFlag F.CEN_CMD_STAT_BANKREJ true := if_pos h

theorem opCenSwap_free (h : v.flag (F.CEN_LSTAT_SWPEND v.selSlot) = false) :
    opCenSwap v = v.requestSwap v.selSlot none := if_neg (by simp [h])

end

/-- The offset of part i of the active bank's window. -/
def bankActOff (i : Fin 256) : Nat := 0x102400 + 4 * i.val

theorem bankActOff_bounds (i : Fin 256) : 0x102400 ≤ bankActOff i ∧ bankActOff i < 0x102800 := by
  unfold bankActOff; omega

theorem bankActOff_aligned (i : Fin 256) : bankActOff i % 4 = 0 := by
  unfold bankActOff; omega

theorem bankActOff_part (i : Fin 256) : (bankActOff i - 0x102400) % 4 = 0 := by
  unfold bankActOff; omega

/-- The block of an offset in the range of R535 that the control engine has. -/
theorem blockOf_cen {off : Nat} (lo : 0x100000 ≤ off) (hi : off < 0x140000) : blockOf off = 10 := by
  unfold blockOf
  split_ifs <;> omega

theorem regMapAt_cen {off : Nat} (lo : 0x100000 ≤ off) (hi : off < 0x140000) : regMapAt off = regMapCEN := by
  unfold regMapAt
  repeat rw [if_neg (by omega)]
  rw [if_pos hi]

/-- An array register of n words covers the offsets of its entries. -/
theorem covers_words {base n off : Nat} (lo : base ≤ off) (hi : off < base + 4 * n) (ha : (off - base) % 4 = 0) :
    covers base [⟨n, 4⟩] off = true := by
  have hrow : (off - base) / 4 < n := by omega
  simp [covers, inDims, lo, hrow, ha]

theorem findReg_bankAct (i : Fin 256) : (findReg (bankActOff i)).isSome = true := by
  obtain ⟨lo, hi⟩ := bankActOff_bounds i
  rw [findReg, regMapAt_cen (by omega) (by omega), List.find?_isSome]
  exact ⟨⟨0x102400, [⟨256, 4⟩], [⟨0, 32, .ro⟩]⟩, by decide, covers_words lo hi (bankActOff_part i)⟩

/-- No ring's SIZE register stands in the block of the control engine. -/
theorem ringSizeAt_cen {off : Nat} (lo : 0x100000 ≤ off) (hi : off < 0x140000) : ringSizeAt off = false := by
  have hne : ∀ c, c < 0x100000 ∨ 0x140000 ≤ c → (off == c) = false := fun c h => beq_eq_false_iff_ne.2 (by omega)
  have hports : (List.range 9).any (fun p => off == R.FLT_ETH_RX_SIZE p || off == R.FLT_ETH_TX_SIZE p) = false :=
    List.any_eq_false.2 fun p _ => by
      rw [hne (R.FLT_ETH_RX_SIZE p) (.inr (by unfold R.FLT_ETH_RX_SIZE; omega)),
        hne (R.FLT_ETH_TX_SIZE p) (.inr (by unfold R.FLT_ETH_TX_SIZE; omega))]
      decide
  rw [ringSizeAt, hports, hne _ (.inl (by decide)), hne _ (.inr (by decide)), hne _ (.inr (by decide)),
    hne _ (.inr (by decide)), hne _ (.inr (by decide)), hne _ (.inr (by decide))]
  rfl

/-- Of the registers of the control engine CEN_CTL alone has command bits (R539). -/
theorem commandBits_cen {off : Nat} (lo : 0x100000 ≤ off) (hi : off < 0x140000) (h : off ≠ R.CEN_CTL) :
    commandBits off = 0 := by
  have hne : ∀ c, c < 0x100000 ∨ 0x140000 ≤ c → off ≠ c := fun c h => by omega
  unfold commandBits
  rw [if_neg (not_or.2 ⟨h, hne _ (.inl (by decide))⟩),
    if_neg (not_or.2 ⟨hne _ (.inl (by decide)), not_or.2 ⟨hne _ (.inl (by decide)), hne _ (.inr (by decide))⟩⟩),
    if_neg (by omega)]

/-- A write to a register of the control engine other than CEN_CTL acts as its block states. -/
theorem opRegisterWrite_cen {off : Nat} (v : State) (ident : Nat) (x : Word) (lo : 0x100000 ≤ off) (hi : off < 0x140000)
    (h : off ≠ R.CEN_CTL) : opRegisterWrite off ident x v = v.writeCen off x := by
  have hone : manyCommands off x = false := by simp [manyCommands, commandBits_cen lo hi h]
  simp only [opRegisterWrite, State.writeBlock, hone, ringSizeAt_cen lo hi, blockOf_cen lo hi, Bool.false_eq_true,
    if_false]

theorem writeCen_bankAct (v : State) (i : Fin 256) (x : Word) :
    v.writeCen (bankActOff i) x = v.setFlag F.CEN_CMD_STAT_BANKREJ true := by
  obtain ⟨lo, hi⟩ := bankActOff_bounds i
  unfold State.writeCen R.CEN_SEL R.CEN_CTL
  repeat rw [if_neg (by omega)]
  rw [if_pos ⟨lo, hi⟩]

theorem opRegisterWrite_bankAct (v : State) (ident : Nat) (i : Fin 256) (x : Word) :
    opRegisterWrite (bankActOff i) ident x v = v.setFlag F.CEN_CMD_STAT_BANKREJ true := by
  obtain ⟨lo, hi⟩ := bankActOff_bounds i
  rw [opRegisterWrite_cen v ident x (by omega) (by omega) (by unfold R.CEN_CTL; omega), writeCen_bankAct]

/-- While the hub runs, an aligned 32-bit write to a register is a register write. -/
theorem opAccess_write {v : State} {off : Nat} (ident : Nat) (x : Word) (hrun : v.hubRuns = true)
    (ha : off % 4 = 0) (hreg : (findReg off).isSome = true) :
    opAccess ⟨ident, .setup, off, 4, false, x⟩ v = opRegisterWrite off ident x v := by
  obtain ⟨r, hr⟩ := Option.isSome_iff_exists.1 hreg
  simp [opAccess, hrun, ha, hr]

/-! ### Lock violations and the descriptors that write a bank (R112, R275) -/

/-- Registers between GLB_EVT_PEND and GLB_EVT_ARG are no reporting registers. -/
theorem quiet_of_between {o : Nat} (lo : 0x220 ≤ o) (hi : o < 0x1400) : reportReg o = false := by
  simp only [reportReg, Bool.or_eq_false_iff, Bool.and_eq_false_iff, decide_eq_false_iff_not, beq_eq_false_iff_ne]
  omega

/-- Starting an operation leaves the registers below the gates of the blocks (R431). -/
theorem reg_begun (s : State) (o : Op) {off : Nat} (h : off < R.CLK_GATE 0) : (begun s o).reg off = s.reg off := by
  have hwake : ∀ u : State, ∀ b, (u.wakeBlock b).reg off = u.reg off := fun u b => by
    unfold State.wakeBlock
    extract_lets w
    split
    · exact reg_setFld_ne _ _ _ (by simp only [F.CLK_GATE_STATE, R.CLK_GATE] at h ⊢; omega)
    · rfl
  have htokens : ∀ u : State, (u.takeTokens o).reg off = u.reg off := fun u => by
    unfold State.takeTokens
    split <;> rfl
  exact (htokens _).trans ((hwake _ _).trans rfl)

/-- Completing an operation leaves the registers below those of the contexts that no report writes, but
GLB_INFLIGHT. -/
theorem reg_finish (s : State) (o : Op) (code detail result : Nat) (hc : o.ctx < 4096) {off : Nat}
    (hr : reportReg off = false) (hn : off ≠ R.GLB_INFLIGHT) (h : off < R.CTX_STAT 0) :
    (s.finish o code detail result).reg off = s.reg off := by
  have hdrop : (s.dropOp o.ctx o.tag).reg off = s.reg off :=
    (reg_setFld_ne _ _ _ hn).trans (reg_setFld_ne _ _ _ (by
      simp only [F.CTX_STAT_INFLIGHT, R.CTX_STAT] at h ⊢; omega))
  exact ((reports_finish s o code detail result hc).reg off hr).trans hdrop

/-- The context of an operation that may start. -/
theorem Startable.ctx_lt {s : State} {c : Fin 4096} {tag opcode : Nat} {o : Op} (h : Startable s c.val tag opcode o) :
    o.ctx < 4096 := by
  have hfound := List.find?_some h.found
  simp only [Bool.and_eq_true, beq_iff_eq] at hfound
  omega

/-- An operation that starts and completes at once leaves the slots. -/
theorem cen_begun_finish (s : State) (o z : Op) (code detail result : Nat) :
    ((begun s o).finish z code detail result).cen = s.cen := by
  rw [(hostOnly_finish _ _ _ _ _).rest, (begun_hostAndTokens s o).rest]

/-- An operation that starts and completes at once leaves the lock violations of the blocks. -/
theorem lockv_begun_finish (s : State) (o : Op) (code detail result : Nat) (hc : o.ctx < 4096) {b : Nat} (hb : b < 21) :
    ((begun s o).finish (running s o) code detail result).flag (F.GLB_LOCK_LOCKV b) = s.flag (F.GLB_LOCK_LOCKV b) := by
  have hlo : 0x300 ≤ (F.GLB_LOCK_LOCKV b).off := Nat.le_add_right _ _
  have hhi : (F.GLB_LOCK_LOCKV b).off < 0x380 := by
    show 0x300 + 4 * b < 0x380
    omega
  have hstart := reg_begun s o (off := (F.GLB_LOCK_LOCKV b).off) (Nat.lt_trans hhi (by decide))
  exact flag_congr ((reg_finish _ (running s o) _ _ _ hc (quiet_of_between (by omega) (by omega))
    (Nat.ne_of_gt (Nat.lt_of_lt_of_le (by decide) hlo)) (Nat.lt_trans hhi (by decide))).trans hstart)

section
variable {v : State} {o : Op}

/-- The context owns the slot that its descriptor names, or is context 0 (R118). -/
def ownsSlot (v : State) (o : Op) : Prop := v.slotOwner o.slot = o.ctx + 1 ∨ o.ctx = 0

theorem ownSlot_owner (f : State → State) (h : ownsSlot v o) : v.ownSlot o f = f v := if_pos h

theorem ownSlot_other (f : State → State) (h : v.slotOwner o.slot ≠ o.ctx + 1) (h0 : o.ctx ≠ 0) :
    v.ownSlot o f = v.finish o codeFaultAccess 1 0 := if_neg (not_or.2 ⟨h, h0⟩)

theorem opLoopSwap_pending (h : ownsSlot v o) (hp : v.flag (F.CEN_LSTAT_SWPEND o.slot) = true) :
    opLoopSwap v o = v.finish o codeRefusedLocked 3 0 := (ownSlot_owner _ h).trans (if_pos hp)

theorem opLoopSwap_free (h : ownsSlot v o) (hp : v.flag (F.CEN_LSTAT_SWPEND o.slot) = false) :
    opLoopSwap v o = v.requestSwap o.slot (some (o.ctx, o.tag)) :=
  (ownSlot_owner _ h).trans (if_neg (by simp [hp]))

theorem opLoopBankWrite_pending (ecc : Bool) (h : ownsSlot v o) (hp : v.flag (F.CEN_LSTAT_SWPEND o.slot) = true) :
    opLoopBankWrite ecc v o = v.finish o codeRefusedLocked 3 0 := by
  rw [opLoopBankWrite, ownSlot_owner _ h, if_pos hp]

theorem opLoopBankWrite_ecc (h : ownsSlot v o) (hp : v.flag (F.CEN_LSTAT_SWPEND o.slot) = false) :
    opLoopBankWrite true v o = v.finish o codeFaultAccess 2 0 := by
  rw [opLoopBankWrite, ownSlot_owner _ h, if_neg (by simp [hp]), if_pos rfl]

theorem opLoopBankWrite_copies (h : ownsSlot v o) (hp : v.flag (F.CEN_LSTAT_SWPEND o.slot) = false) :
    opLoopBankWrite false v o = (putBankWords (v.readBytes o.buf (16 * o.arg1 22 7)) o.slot (v.inactiveBank o.slot)
      (o.arg1 16 6) (o.arg1 22 7) v).storeBanks.finish o codeDone 0 0 := by
  rw [opLoopBankWrite, ownSlot_owner _ h, if_neg (by simp [hp]), if_neg Bool.false_ne_true]

end

/-- Settles O46: BANKREJ stands in CEN_CMD_STAT and the descriptors complete at once, so that nothing writes
GLB_LOCK. -/
theorem bankRefusal : Obligations.BankRefusal := by
  refine ⟨fun s t i x h => ?window, fun s t ident i x hrun => ?active, fun s b _ => ?locks,
    fun s t c tag o h ho hp ecc => ?write, fun s t c tag o h ho hp => ?swap⟩
  case window => exact ⟨next_of_eq (opBankWrite_pending i.val x h), next_of_eq (opCenSwap_pending h)⟩
  case active =>
    exact next_of_eq ((opAccess_write ident x hrun (bankActOff_aligned i) (findReg_bankAct i)).trans
      (opRegisterWrite_bankAct _ ident i x))
  case locks =>
    exact flag_congr (reg_setFld_ne _ _ _ (by
      simp only [F.GLB_LOCK_LOCKV, R.GLB_LOCK, F.CEN_CMD_STAT_BANKREJ, R.CEN_CMD_STAT]; omega))
  case write =>
    exact ⟨_, next_of_eq ((beginOp_startable h _).trans (opLoopBankWrite_pending ecc ho hp)), rfl,
      cen_begun_finish _ _ _ _ _ _, fun b hb => lockv_begun_finish _ o _ _ _ h.ctx_lt hb⟩
  case swap =>
    exact ⟨_, next_of_eq ((beginOp_startable h _).trans (opLoopSwap_pending ho hp)), rfl,
      cen_begun_finish _ _ _ _ _ _, fun b hb => lockv_begun_finish _ o _ _ _ h.ctx_lt hb⟩

/-! ### The record window and the commands of the selected slot (R100, R101, R111, R116, R117, R124, R125) -/

section
variable {v : State}

theorem selSlot_select (x : Word) : (v.setFld F.CEN_SEL_SLOT x.toNat).selSlot = x.toNat % 8192 :=
  fld_setFld_self v F.CEN_SEL_SLOT _ (by unfold Fld.ok; decide)

/-- A read of bits [31:0] latches the whole word, and every read answers from what the shadow then holds. -/
theorem opRecRead_shadow (i : Nat) : opRecRead i v =
    let w := if i % 4 = 0 then v.recImageWord v.selSlot (i / 4) else v.cen.shadow
    { v with cen := { v.cen with shadow := w }, busData := BitVec.ofNat 32 (bitsOf w (32 * (i % 4)) 32) } := by
  unfold opRecRead
  by_cases h : i % 4 = 0
  · simp only [if_pos h]
  · simp only [if_neg h]

theorem opCenAdmit_refused {re : Bool} (h : v.admitReason v.selSlot re ≠ 0) : opCenAdmit re v =
    (((v.setFlag F.CEN_CMD_STAT_REFUSED true).setFld F.CEN_CMD_STAT_REASON (v.admitReason v.selSlot re)).setFlag
      F.CEN_CMD_STAT_DONE false).raise 68 v.selSlot := if_pos h

theorem opCenAdmit_admits {re : Bool} (h : v.admitReason v.selSlot re = 0) : opCenAdmit re v =
    (((v.admitSlot v.selSlot 0 re).setFlag F.CEN_CMD_STAT_DONE true).setFlag F.CEN_CMD_STAT_REFUSED false).reportOver
      v 0 2 := if_neg (not_not_intro h)

theorem opCenDisable_ends (hl : v.lstate v.selSlot ≠ 0) (hd : (v.slot v.selSlot).disabling = false) :
    opCenDisable v = v.disableSlot v.selSlot [] := if_neg (by simp [hl, hd])

theorem opCenDisable_stands (h : v.lstate v.selSlot = 0 ∨ (v.slot v.selSlot).disabling = true) :
    opCenDisable v = v := if_pos (by simpa using h)

/-- ENABLE and REARM written to CEN_CTL. -/
theorem exec_cenAdmit (s : State) (t : Nat) (re : Bool) :
    (if re = true then Machine.exec (.cenRearm t) s else Machine.exec (.cenEnable t) s) =
      .next (opCenAdmit re (s.tick t)) := by
  cases re <;> rfl

end

/-- Settles O48: each command by the cases of its operation. -/
theorem loopCommands : Obligations.LoopCommands := by
  refine ⟨fun s t x => ?select, fun s t i => ?read, fun s t i x => ?write, fun s t i x h => ?bank,
    fun s t re => ?admission, fun s t => ?control⟩
  case select => exact ⟨rfl, selSlot_select x⟩
  case read => exact next_of_eq (opRecRead_shadow i.val)
  case write => rfl
  case bank => exact next_of_eq (opBankWrite_free i.val x h)
  case admission =>
    exact ⟨fun hr => (exec_cenAdmit s t re).trans (next_of_eq (opCenAdmit_refused hr)),
      fun hr => (exec_cenAdmit s t re).trans (next_of_eq (opCenAdmit_admits hr))⟩
  case control =>
    exact ⟨fun hl hd => next_of_eq (opCenDisable_ends hl hd), fun h => next_of_eq (opCenDisable_stands h),
      fun h => next_of_eq (opCenSwap_free h)⟩

/-! ### Loop-slot descriptors (R117, R118, R125, R143, R237, R268) -/

/-- What refuses a LOOP_ENABLE its slot (R118, R262, R268). -/
def enableRefusal (v : State) (o : Op) : Option (Nat × Nat) :=
  if o.ctx = 0 ∧ v.slotOwner o.slot ≠ 0 then none else v.claim (v.slotOwner o.slot) o.ctx 2

/-- The state in which a context holds the slot that its LOOP_ENABLE names (R268). -/
def enableHeld (v : State) (o : Op) : State :=
  if v.slotOwner o.slot = 0 then v.holdSlot o.slot o.ctx else v

section
variable {v : State} {o : Op}

/-- LOOP_ENABLE: the slot is claimed and held, then admission decides. -/
theorem opLoopEnable_cases : opLoopAdmit false v o =
    match enableRefusal v o with
    | some (k, d) => v.finish o k d 0
    | none =>
      let w := enableHeld v o
      let r := w.admitReason o.slot false
      if r ≠ 0 then (w.raise 68 o.slot).finish o (admitCode r).1 (admitCode r).2 0
      else (w.enableSlot o.slot o.ctx).finish o codeDone 0 ((w.enableSlot o.slot o.ctx).firstSample o.slot) := by
  simp only [opLoopAdmit, enableRefusal, enableHeld, Bool.and_eq_true, decide_eq_true_eq, Bool.false_eq_true, if_false,
    Bool.not_false, and_true, State.admitSlot] <;> rfl

theorem opLoopEnable_otherHolder {k d : Nat} (h : enableRefusal v o = some (k, d)) :
    opLoopAdmit false v o = v.finish o k d 0 := by
  rw [opLoopEnable_cases, h]

theorem opLoopEnable_refused (h : enableRefusal v o = none) (hr : (enableHeld v o).admitReason o.slot false ≠ 0) :
    opLoopAdmit false v o = ((enableHeld v o).raise 68 o.slot).finish o
      (admitCode ((enableHeld v o).admitReason o.slot false)).1 (admitCode ((enableHeld v o).admitReason o.slot false)).2 0 := by
  rw [opLoopEnable_cases, h]
  exact if_pos hr

theorem opLoopEnable_admits (h : enableRefusal v o = none) (hr : (enableHeld v o).admitReason o.slot false = 0) :
    opLoopAdmit false v o = ((enableHeld v o).enableSlot o.slot o.ctx).finish o codeDone 0
      (((enableHeld v o).enableSlot o.slot o.ctx).firstSample o.slot) := by
  rw [opLoopEnable_cases, h]
  exact if_neg (not_not_intro hr)

/-- LOOP_REARM acts as other commands for the slot's owner do. -/
theorem opLoopRearm_ownSlot : opLoopAdmit true v o = v.ownSlot o (fun w =>
    let r := w.admitReason o.slot true
    if r ≠ 0 then (w.raise 68 o.slot).finish o (admitCode r).1 (admitCode r).2 0
    else (w.rearmSlot o.slot).finish o codeDone 0 ((w.rearmSlot o.slot).firstSample o.slot)) := by
  unfold opLoopAdmit State.ownSlot
  by_cases h : v.slotOwner o.slot = o.ctx + 1 ∨ o.ctx = 0
  · simp only [if_pos h, if_true, Bool.not_true, Bool.and_false, Bool.false_eq_true, if_false, State.admitSlot]
  · simp only [if_neg h, if_true]

theorem opLoopRearm_refused (h : ownsSlot v o) (hr : v.admitReason o.slot true ≠ 0) : opLoopAdmit true v o =
    (v.raise 68 o.slot).finish o (admitCode (v.admitReason o.slot true)).1 (admitCode (v.admitReason o.slot true)).2 0 :=
  opLoopRearm_ownSlot.trans ((ownSlot_owner _ h).trans (if_pos hr))

theorem opLoopRearm_admits (h : ownsSlot v o) (hr : v.admitReason o.slot true = 0) : opLoopAdmit true v o =
    (v.rearmSlot o.slot).finish o codeDone 0 ((v.rearmSlot o.slot).firstSample o.slot) :=
  opLoopRearm_ownSlot.trans ((ownSlot_owner _ h).trans (if_neg (not_not_intro hr)))

theorem opLoopDisable_owner (h : ownsSlot v o) : opLoopDisable v o =
    if v.lstate o.slot = 0 then v.finish o codeDone 0 0
    else if (v.slot o.slot).disabling = true then
      v.modSlot o.slot (fun x => { x with disableWaiters := x.disableWaiters ++ [(o.ctx, o.tag)] })
    else v.disableSlot o.slot [(o.ctx, o.tag)] := ownSlot_owner _ h

theorem opLoopRead_ecc (h : ownsSlot v o) : opLoopRead true v o = v.finish o codeFaultAccess 2 0 :=
  ownSlot_owner _ h

theorem opLoopRead_copies (h : ownsSlot v o) : opLoopRead false v o =
    let w := v.writeBytes o.buf ((List.range 128).flatMap (fun k => leBytes 16 (v.recImageWord o.slot k)))
    w.finish o codeDone 0 (w.fld (F.CEN_LSTAT_BANK o.slot)) := ownSlot_owner _ h

end

/-- Settles O49: each command by the cases of its operation, on the state in which its descriptor has
started. -/
theorem loopDescriptors : Obligations.LoopDescriptors := by
  refine ⟨fun s t c tag o h => ?enable, fun s t c tag o h => ?rearm, fun s t c tag o h => ?disable,
    fun s t c tag o h => ?swap, fun s t c tag o h => ?bankWrite, fun s t c tag o h => ?read⟩
  case enable =>
    have hrun := next_of_eq (beginOp_startable h (opLoopAdmit false))
    exact ⟨fun k d hno => hrun.trans (next_of_eq (opLoopEnable_otherHolder hno)),
      fun hno hr => hrun.trans (next_of_eq (opLoopEnable_refused hno hr)),
      fun hno hr => hrun.trans (next_of_eq (opLoopEnable_admits hno hr))⟩
  case rearm =>
    have hrun := next_of_eq (beginOp_startable h (opLoopAdmit true))
    exact ⟨fun ho h0 => hrun.trans (next_of_eq (opLoopRearm_ownSlot.trans (ownSlot_other _ ho h0))),
      fun ho hr => hrun.trans (next_of_eq (opLoopRearm_refused ho hr)),
      fun ho hr => hrun.trans (next_of_eq (opLoopRearm_admits ho hr))⟩
  case disable =>
    have hrun := next_of_eq (beginOp_startable h opLoopDisable)
    exact ⟨fun ho h0 => hrun.trans (next_of_eq (ownSlot_other _ ho h0)),
      fun ho => hrun.trans (next_of_eq (opLoopDisable_owner ho))⟩
  case swap =>
    exact fun ho hp => (next_of_eq (beginOp_startable h opLoopSwap)).trans (next_of_eq (opLoopSwap_free ho hp))
  case bankWrite =>
    exact fun ho hp => ⟨(next_of_eq (beginOp_startable h (opLoopBankWrite true))).trans
        (next_of_eq (opLoopBankWrite_ecc ho hp)),
      (next_of_eq (beginOp_startable h (opLoopBankWrite false))).trans (next_of_eq (opLoopBankWrite_copies ho hp))⟩
  case read =>
    have hrun := fun ecc => next_of_eq (beginOp_startable h (opLoopRead ecc))
    exact ⟨fun ho h0 ecc => (hrun ecc).trans (next_of_eq (ownSlot_other _ ho h0)),
      fun ho => (hrun true).trans (next_of_eq (opLoopRead_ecc ho)),
      fun ho => (hrun false).trans (next_of_eq (opLoopRead_copies ho))⟩

/-! ### The instant of a sample (R119 steps 1 to 4) -/

/-- The state after the bank exchange of a sample instant (R111). -/
def sampleBanks (v : State) (g : Nat) : State := v.exchangeBanks g (sampleNumber (v.record g) v.modTime)

/-- The state in which a sample instant finds its slot: the memory errors met, the SAFE causes followed. -/
def sampleSettled (v : State) (g : Nat) (ecc : List BrickError) : State := ((sampleBanks v g).eccErrors ecc).settleSlot g

/-- A slot in RUN takes part in the sample instant: it neither ends nor waits for its first sample (R125). -/
structure TakesSample (w : State) (g m : Nat) : Prop where
  run : w.lstate g = 1
  stays : (w.slot g).disabling = false
  awake : (w.slot g).quietTo ≤ m
  begun : (w.slot g).notBefore ≤ m

theorem opSampleInstant_begins {v : State} {g : Nat} {ecc : List BrickError}
    (hinst : isSampleInstant (v.record g) v.modTime = true)
    (hnew : (v.slot g).samples.any (fun y => y.at_ == v.modTime) = false) (hon : (sampleBanks v g).lstate g ≠ 0)
    (h : TakesSample (sampleSettled v g ecc) g v.modTime) :
    opSampleInstant g ecc v =
      ((sampleSettled v g ecc).beginSample g (sampleNumber (v.record g) v.modTime) (v.record g)).rereads (g / 64)
        (((List.range 8).map (recBrick g)).filter (fun k => (sampleBanks v g).poisoned (g / 64) k)) := by
  obtain ⟨hrun, hstays, hawake, hbegun⟩ := h
  have hdue : ¬ (!isSampleInstant (v.record g) v.modTime || (v.slot g).samples.any (fun y => y.at_ == v.modTime)) = true := by
    simp [hinst, hnew]
  unfold sampleSettled sampleBanks at *
  rw [opSampleInstant, if_neg hdue, if_neg hon]
  simp [hrun, hstays, Nat.not_lt.2 hawake, Nat.not_lt.2 hbegun]

/-! ### Evaluations and frames on an engine (R114, R115, R131) -/

section
variable {v : State} {k g : Nat} {x : Ready}

theorem opEvaluationStart_busy (ecc : List BrickError) (h : v.engineBusy k = true) : opEvaluationStart k ecc v = v :=
  if_pos h

theorem opEvaluationStart_starts (ecc : List BrickError) {m : Sample} {e : Eval} (hfree : v.engineBusy k = false)
    (hnext : v.nextReady k = some x) (hx : x.frame = false)
    (hm : (v.slot x.slot).samples.find? (fun m => m.n == x.sample && !m.guarded) = some m) (he : m.eval = some e) :
    opEvaluationStart k ecc v = ((v.rereads k (m.evalReads v x.slot e)).eccErrors ecc).startEval x.slot m e := by
  simp only [opEvaluationStart, hfree, hnext, hx, hm, he, Bool.false_eq_true, if_false]

theorem opSpecFrameStart_starts (ecc : List BrickError) {n : Nat} {f : Frame} (hfree : v.engineBusy (g / 64) = false)
    (hnext : v.nextReady (g / 64) = some x) (hf : (v.slot g).frames.find? (fun f => f.sample == n) = some f)
    (hx : x.frame = true) (hslot : x.slot = g) (hn : x.sample = n) :
    opSpecFrameStart g n ecc v = v.startFrame g f ecc := by
  have hthis : (x.frame && x.slot == g && x.sample == n) = true := by simp [hx, hslot, hn]
  simp only [opSpecFrameStart, hfree, hnext, hf, hthis, Bool.false_eq_true, if_false, if_true]

/-- A frame that is not computed again goes to its readers when it is complete (R142). -/
theorem opSpecFrameComplete_sends {n a : Nat} {f : Frame}
    (hf : (v.slot g).frames.find? (fun f => f.sample == n) = some f) (ha : f.startedAt = some a)
    (hc : f.complete = false) (hr : f.recompute = false)
    (hend : a + evalCost (v.recordAt g (sampleInstant (v.record g) n)) * tileCycle = v.modTime) :
    opSpecFrameComplete g n v = (v.modSlot g (fun x => { x with frames := x.frames.map (fun q =>
      if q.sample = n then { q with complete := true, recompute := false, sentOut := some q.out } else q) })).sendSpec g n
        (specFlit g n f.out) := by
  simp only [opSpecFrameComplete, hf, ha, hc, hr, hend, Bool.false_or, ne_eq, not_true, decide_false, Bool.false_and,
    Bool.false_eq_true, if_false]

end

/-! ### Confirmation, guard and output phase (R119 steps 7 to 9, R134, R136) -/

section
variable {v : State} {g : Nat} {m : Sample}

/-- A sample whose frame is gone is queued for a correction pass when its confirmation is due (R134, R136). -/
theorem opConfirm_frameGone (hm : (v.slot g).samples.find? (fun m => m.awaits && !m.guarded) = some m)
    (hdue : v.modTime = m.at_ + (8 + v.confirmRank g m.at_) * tileCycle) (hguard : v.modTime < m.guardAt)
    (hgone : (v.slot g).frames.find? (fun f => f.sample == m.n) = none) :
    opConfirm g v = v.setSample g (m.queuePass v.modTime) := by
  have hnow : ¬ (v.modTime ≠ m.at_ + (8 + v.confirmRank g m.at_) * tileCycle ∨ m.guardAt ≤ v.modTime) :=
    not_or.2 ⟨not_not_intro hdue, Nat.not_le.2 hguard⟩
  simp only [opConfirm, hm, if_neg hnow, hgone]

theorem opLoopGuard_idle (hm : (v.slot g).samples.find? (fun m => !m.guarded && m.guardAt == v.modTime) = some m)
    (hi : m.idle = true) : opLoopGuard g v = v.setSample g { m with guarded := true } := by
  simp only [opLoopGuard, hm, hi, if_true]

/-- At the guard of a slot without speculation a result is accepted, and an absent one is an overrun. -/
theorem opLoopGuard_result (hm : (v.slot g).samples.find? (fun m => !m.guarded && m.guardAt == v.modTime) = some m)
    (hi : m.idle = false) (hs : recSpec (wordsRecord m.words) = false) : opLoopGuard g v =
      match v.sampleResult g m with
      | some (o, b) => v.accept g m o b
      | none => v.overrun g m := by
  simp only [opLoopGuard, hm, hi, hs, Bool.false_eq_true, if_false, Bool.not_false, if_true] <;> rfl

theorem opOutputPhase_emits (hm : (v.slot g).samples.find? (fun m => m.guarded && m.outAt == v.modTime) = some m) :
    opOutputPhase g v =
      let b := if (v.slot g).faultDue.isSome = true then (v.modSlot g (fun x => { x with faultDue := none })).raise 64 g
        else v
      let a := b.emitOutput g (wordsRecord m.words) m.loaded
      let w := a.modSlot g (fun x => { x with
        samples := x.samples.filter (fun y => y.at_ != m.at_)
        last := some m.loaded, prevOut := x.last, lastAt := a.modTime, outCount := x.outCount + 1 })
      if (w.slot g).disabling = true then w.slotOff g else w := by
  simp only [opOutputPhase, hm]

end

/-! ### SPEC and DROP packets (R138, R142, R144) -/

/-- A DROP packet has been taken from those sent to tile p.dst (R142). -/
def dropTaken (v : State) (dst h n : Nat) : State :=
  { v with cen := { v.cen with drops := removeFirst (fun d => d.1 == dst && d.2.1 == h && d.2.2.1 == n) v.cen.drops } }

/-- Does the drop of the frame count at its readers (R139)? -/
def dropCounts (v : State) (dst h n : Nat) : Bool :=
  match v.cen.drops.find? (fun d => d.1 == dst && d.2.1 == h && d.2.2.1 == n) with
  | some d => d.2.2.2
  | none => true

/-- The value of the dropped frame has gone from the tile's predicted inputs, and the drop is noted (R138). -/
def valueDropped (u : State) (dst h n : Nat) : State :=
  { u with cen := { u.cen with
    spec := u.cen.spec.filter (fun q => !(q.1 == dst && q.2.1 == h && q.2.2.1 == n))
    dropped := (dst, h, n) :: ((u.cen.dropped.filter (fun d => (d.1 == dst && d.2.1 == h) && d.2.2 != n)).take 7
      ++ u.cen.dropped.filter (fun d => !(d.1 == dst && d.2.1 == h))) } }

/-- The tags of the frame of slot h that the frames of a tile hold (R138). -/
def heldTags (w : State) (dst h n : Nat) : List (Nat × Nat) :=
  ((w.enabledOn dst).flatMap (fun g => (w.slot g).frames.flatMap (fun f =>
    f.tags.filter (fun x => x.1 == h && x.2 % 2 ^ 32 == n)))).eraseDups

/-- The packets noted as sent do not say who reads them. -/
theorem specReader_dropTaken (v : State) (dst h n t r g : Nat) :
    (dropTaken v dst h n).specReader t r g = v.specReader t r g := rfl

section
variable {v : State} {p : Packet} {h n : Nat} {f : Flit}

theorem opSpecPacket_unread (hp : specPacket p = some (false, h, n, f)) (hl : v.lands p = true)
    (hr : (v.arrived p).specReader p.dst p.stream h = false) :
    opSpecPacket p v = (v.arrived p).raiseOnce 69 p.dst p.dst := by
  simp only [opSpecPacket, State.takeSpec, State.specUnread, hp, hl, hr, if_true, Bool.not_false]

/-- A SPEC packet that is read replaces the value held for its sample (R142). -/
theorem opSpecPacket_read (hp : specPacket p = some (false, h, n, f)) (hl : v.lands p = true)
    (hr : (v.arrived p).specReader p.dst p.stream h = true) :
    opSpecPacket p v =
      let u := v.arrived p
      { u with cen := { u.cen with
        spec := (p.dst, h, n, (List.range 4).map (fun j => flitInput f j)) ::
          (u.cen.spec.filter (fun q => q.1 == p.dst && q.2.1 == h && q.2.2.1 != n)).take 3
            ++ u.cen.spec.filter (fun q => !(q.1 == p.dst && q.2.1 == h))
        dropped := u.cen.dropped.filter (fun d => d != (p.dst, h, n)) } } := by
  simp only [opSpecPacket, State.takeSpec, hp, hl, hr, if_true, Bool.not_true, Bool.false_eq_true, if_false]

theorem opDropPacket_unread (hp : specPacket p = some (true, h, n, f)) (hl : v.lands p = true)
    (hr : (v.arrived p).specReader p.dst p.stream h = false) :
    opDropPacket p v = (dropTaken (v.arrived p) p.dst h n).raiseOnce 69 p.dst p.dst := by
  rw [← specReader_dropTaken (v.arrived p) p.dst h n] at hr
  unfold dropTaken at *
  simp only [opDropPacket, State.takeDrop, State.specUnread, hp, hl, hr, if_true, Bool.not_false]

/-- A DROP packet that is read removes the value held and every frame of the tile that holds its tag (R138). -/
theorem opDropPacket_read (hp : specPacket p = some (true, h, n, f)) (hl : v.lands p = true)
    (hr : (dropTaken (v.arrived p) p.dst h n).specReader p.dst p.stream h = true) :
    opDropPacket p v =
      let w := valueDropped (dropTaken (v.arrived p) p.dst h n) p.dst h n
      w.dropAll p.dst (heldTags w p.dst h n) [] [] (dropCounts (v.arrived p) p.dst h n) := by
  unfold dropTaken at *
  simp only [opDropPacket, State.takeDrop, hp, hl, hr, if_true, Bool.not_true, Bool.false_eq_true, if_false]
  rfl

end

/-- Settles O50: each command by the cases of its operation. -/
theorem loopSamples : Obligations.LoopSamples := by
  refine ⟨fun s t g hinst hnew hon ecc hrun hstays hawake hbegun => ?instant,
    fun s t k x m e hfree hnext hx hm he ecc => ?evalStart, fun s t k ecc hbusy => ?busy,
    fun s t n g x f hfree hnext hf hx hslot hn ecc => ?frameStart, fun s t g => ?evalComplete, fun s t g m hm => ?guard,
    fun s t g m hm => ?output, fun s t n a g f hf ha hc hr hend => ?frameComplete,
    fun s t g m hm hdue hguard hgone => ?confirm, fun s t h n p b f hp hl => ?packet⟩
  case instant => exact next_of_eq (opSampleInstant_begins hinst hnew hon ⟨hrun, hstays, hawake, hbegun⟩)
  case evalStart => exact next_of_eq (opEvaluationStart_starts ecc hfree hnext hx hm he)
  case busy => exact next_of_eq (opEvaluationStart_busy ecc hbusy)
  case frameStart => exact next_of_eq (opSpecFrameStart_starts ecc hfree hnext hf hx hslot hn)
  case evalComplete => rfl
  case guard =>
    exact ⟨fun hi => next_of_eq (opLoopGuard_idle hm hi), fun hi hs => next_of_eq (opLoopGuard_result hm hi hs)⟩
  case output => exact next_of_eq (opOutputPhase_emits hm)
  case frameComplete => exact next_of_eq (opSpecFrameComplete_sends hf ha hc hr hend)
  case confirm => exact next_of_eq (opConfirm_frameGone hm hdue hguard hgone)
  case packet =>
    cases b with
    | false =>
      exact ⟨fun hr => next_of_eq (opSpecPacket_unread hp hl hr), fun hr _ => next_of_eq (opSpecPacket_read hp hl hr),
        fun _ hb => absurd hb Bool.false_ne_true⟩
    | true =>
      exact ⟨fun hr => next_of_eq (opDropPacket_unread hp hl hr), fun _ hb => absurd hb.symm Bool.false_ne_true,
        fun hr _ => next_of_eq (opDropPacket_read hp hl hr)⟩

end Sys2Proof
end

section
/-!
PROOFS. Sensor fusion: the statements about the timebase, ego-motion and pose, about fusion networks and
calibration, and about camera triggers and the set-up of camera ports (06_sensor_fusion.md).
-/

namespace Sys2Proof

open Machine

/-! ### Edges of the reference (R150 to R153) -/

/-- An edge of the reference comes now: 802.1AS time is valid, or GNSS time is and the baseband has just made
this edge (R152, R209). -/
def edgeLive (v : State) (as : Bool) (r : Nat) : Bool :=
  if as then v.flag F.FLT_PTP_STAT_VALID else v.flag F.GNS_STAT_TIMEVALID && v.gns.due == some (v.modNs, r / 1000000000)

/-- The state once the edge is taken: a GNSS edge is spent. -/
def edgeTaken (v : State) (as : Bool) : State := if as then v else { v with gns := { v.gns with due := none } }

/-- An edge that marks a whole second of a live reference that SRC lets in. -/
def edgeCounts (v : State) (as : Bool) (r : Nat) : Prop :=
  v.srcAllows as = true ∧ edgeLive v as r = true ∧ r % 1000000000 = 0

section
variable {v : State} {as : Bool} {r : Nat}

theorem edgeTaken_tbState : (edgeTaken v as).tbState = v.tbState := by cases as <;> rfl

theorem edgeTaken_srcused : (edgeTaken v as).fld F.FUS_TB_STAT_SRCUSED = v.fld F.FUS_TB_STAT_SRCUSED := by
  cases as <;> rfl

theorem learnRate_modNs (v : State) (e : Int) : (v.learnRate e).modNs = v.modNs := by
  unfold State.learnRate
  extract_lets ns gained
  split <;> rfl

theorem opEdge_ignored (h : v.srcAllows as = false ∨ edgeLive v as r = false ∨ r % 1000000000 ≠ 0) :
    opEdge as r v = v :=
  if_pos (by simpa [edgeLive, or_assoc] using h)

/-- The guard of `opEdge` lets an edge by that counts. -/
theorem edgeCounts_guard (h : edgeCounts v as r) :
    ¬ (!v.srcAllows as || !edgeLive v as r || r % 1000000000 != 0) = true := by
  obtain ⟨hs, hl, hr⟩ := h
  simp [hs, hl, hr]

theorem heldError_eq (e : Int) : v.heldError as e =
    if as = true ∨ v.flag F.FUS_TB_STAT_SLEW = true then e else clampInt (-50) 50 e := by
  simp only [State.heldError, Bool.or_eq_true]

/-- What an edge of the reference in use makes of the timebase, its error being e (R151 to R153, log entry 97). -/
def edgeHeld (v : State) (as : Bool) (e : Int) : State :=
  let pe := if as = true ∨ v.flag F.FUS_TB_STAT_SLEW = true then e else clampInt (-50) 50 e
  let y := v.learnRate e
  (State.setFld { y with fus := { y.fus with lastEdge := v.modNs, bound := pe.natAbs + 50, captured := false } }
    F.FUS_TB_PHERR_PHERR (ofSigned 32 pe)).showErrest

theorem edgeHeld_eq (v : State) (as : Bool) (e : Int) : edgeHeld v as e =
    let y := v.learnRate e
    (State.setFld { y with fus := { y.fus with
      lastEdge := y.modNs, bound := (v.heldError as e).natAbs + 50, captured := false } }
      F.FUS_TB_PHERR_PHERR (ofSigned 32 (v.heldError as e))).showErrest := by
  simp only [edgeHeld, heldError_eq, learnRate_modNs]

theorem opEdge_locked (h : edgeCounts v as r) (ht : v.tbState = 2)
    (hu : v.fld F.FUS_TB_STAT_SRCUSED = if as then 2 else 1) :
    opEdge as r v = let z := edgeTaken v as
      edgeHeld z as (gpsScale as r - z.modNs - z.tbOfs) := by
  unfold opEdge
  extract_lets live spent z
  have hcounts : ¬ (!v.srcAllows as || !live || r % 1000000000 != 0) = true := edgeCounts_guard h
  have hz : z.tbState = 2 := edgeTaken_tbState.trans ht
  have hsrc : z.fld F.FUS_TB_STAT_SRCUSED = if as then 2 else 1 := edgeTaken_srcused.trans hu
  have huse : ¬ ((z.fld F.FUS_TB_STAT_SRCUSED == 2) != as) = true := by cases as <;> simp [hsrc]
  rw [if_neg hcounts, if_pos hz, if_neg huse]
  exact (edgeHeld_eq _ _ _).symm

/-- The candidate run of GNSS edges stands at `run`; four in a row enter LOCKED (R152). -/
def gnssRunAt (v : State) (run : EdgeRun) (r : Nat) : State :=
  let w := (State.setFld { v with fus := { v.fus with gnssRun := run } } F.FUS_TB_STAT_STATE 1).showErrest
  if run.count < 4 then w else w.enterLocked false r

/-- Out of LOCKED a GNSS edge that fails no run joins its run or begins one. -/
theorem opEdge_gnssRun (h : edgeCounts v false r) (ht : v.tbState ≠ 2)
    (hrun : v.fus.gnssRun.count = 0 ∨ v.fus.gnssRun.continues v.modNs = true) :
    opEdge false r v = gnssRunAt (edgeTaken v false)
      ⟨if v.fus.gnssRun.continues v.modNs then v.fus.gnssRun.count + 1 else 1, v.modNs⟩ r := by
  unfold opEdge
  extract_lets live spent z _ _ _ _ _ _ run good fails next other w _ _ _ first
  have hcounts : ¬ (!v.srcAllows false || !live || r % 1000000000 != 0) = true := edgeCounts_guard h
  have hz : ¬ z.tbState = 2 := ht
  have hfails : fails = false := by
    show (v.fus.gnssRun.count != 0 && !v.fus.gnssRun.continues v.modNs) = false
    rcases hrun with h0 | hc
    · simp [h0]
    · simp [hc]
  have hw : w = z := if_neg (by simp [hfails])
  rw [if_neg hcounts, if_neg hz]
  calc _ = gnssRunAt w next r := if_congr (by simp [first]) rfl rfl
    _ = gnssRunAt z next r := by rw [hw]

theorem opEdge_first (h : edgeCounts v false r) (ht : v.tbState = 0) (hc : v.fus.gnssRun.count = 0) :
    opEdge false r v = let z := edgeTaken v false
      (State.setFld { z with fus := { z.fus with gnssRun := ⟨1, v.modNs⟩ } } F.FUS_TB_STAT_STATE 1).showErrest := by
  have hnew : v.fus.gnssRun.continues v.modNs = false := by simp [EdgeRun.continues, hc]
  rw [opEdge_gnssRun h (by omega) (.inl hc), hnew]
  rfl

theorem opEdge_fourth (h : edgeCounts v false r) (ht : v.tbState = 1) (hc : 3 ≤ v.fus.gnssRun.count)
    (hlo : v.fus.gnssRun.last + 999999000 ≤ v.modNs) (hhi : v.modNs ≤ v.fus.gnssRun.last + 1000001000) :
    opEdge false r v = let z := edgeTaken v false
      ((State.setFld { z with fus := { z.fus with gnssRun := ⟨v.fus.gnssRun.count + 1, v.modNs⟩ } }
        F.FUS_TB_STAT_STATE 1).showErrest).enterLocked false r := by
  have hgoes : v.fus.gnssRun.continues v.modNs = true := by
    simp [EdgeRun.continues, hlo, hhi]; omega
  rw [opEdge_gnssRun h (by omega) (.inr hgoes), hgoes]
  exact if_neg (by simpa using hc)

end

/-! ### The reference lost, and the timebase's registers (R152, R154, R155, R175) -/

section
variable {v : State}

theorem opHoldover_lost (ht : v.tbState = 2) (h : v.fus.lastEdge + 2500000000 ≤ v.modNs) :
    opHoldover v = v.loseReference :=
  (if_pos ht).trans (if_neg (Nat.not_lt.2 h))

theorem opHoldover_held (ht : v.tbState = 2) (h : v.modNs < v.fus.lastEdge + 2500000000) : opHoldover v = v :=
  (if_pos ht).trans (if_pos h)

theorem opHoldover_noCandidate (ht : v.tbState = 1)
    (hg : v.fus.gnssRun.count = 0 ∨ v.fus.gnssRun.last + 1000001000 < v.modNs)
    (ha : v.fus.asRun.count = 0 ∨ v.fus.asRun.last + 1000001000 < v.modNs) : opHoldover v = v.loseReference := by
  have hfree : ¬ v.tbState = 2 := by omega
  exact (if_neg hfree).trans ((if_pos ht).trans (if_pos (by simp [hg, ha])))

theorem opHoldover_noReference (h1 : v.tbState ≠ 1) (h2 : v.tbState ≠ 2) : opHoldover v = v :=
  (if_neg h2).trans (if_neg h1)

theorem opSlewEnd_ends (hs : v.flag F.FUS_TB_STAT_SLEW = true) (h : v.fus.slewEnd ≤ v.modNs) :
    opSlewEnd v = State.setFlag { v with fus := { v.fus with slewErr := 0 } } F.FUS_TB_STAT_SLEW false :=
  if_pos (by simp [hs, h])

theorem opSlewEnd_stands (h : v.modNs < v.fus.slewEnd ∨ v.flag F.FUS_TB_STAT_SLEW = false) : opSlewEnd v = v :=
  if_neg (by rcases h with h | h <;> simp [h])

end

/-! ### Ego-motion (R158, R159) -/

section
variable {v : State} {l : List Int} {f : Byte} {m : Inertial} {i : Bool}

/-- Both encoders that the configuration names report no fault. -/
def encodersOk (v : State) (f : Byte) : Bool :=
  !f.getLsbD (v.fld F.FUS_EGO_CFG_ENC_L) && !f.getLsbD (v.fld F.FUS_EGO_CFG_ENC_R)

/-- The state with what the encoders and the inertial sensor report shown. -/
def egoShown (v : State) (e i : Bool) : State :=
  (v.setFlag F.FUS_EGO_STAT_ENC_OK e).setFlag F.FUS_EGO_STAT_IMU_OK i

/-- The ego-motion flit goes out from its tile on its route, lanes marked valid by `k` (R159). -/
def egoOut (v : State) (k : Nat) : State :=
  v.emit (v.fld F.FUS_EGO_CFG_TILE) (v.fld F.FUS_EGO_CFG_ROUTE) v.modMs 0 true true
    [outFlit v.fus.ego k false false v.modMs 0]

theorem opEgo_idle (h : v.flag F.FUS_EGO_CFG_EN = false ∨ v.atWhole psPerMs = false) : opEgo l f m i v = v :=
  if_pos (by simpa using h)

theorem opEgo_guard (he : v.flag F.FUS_EGO_CFG_EN = true) (hw : v.atWhole psPerMs = true) :
    ¬ (!v.flag F.FUS_EGO_CFG_EN || !v.atWhole psPerMs) = true := by simp [he, hw]

/-- A good sample sets the four lanes: the mean of the two encoders with the wheel scale, the mean of the yaw
rates, and the filtered tilt. -/
theorem opEgo_good (he : v.flag F.FUS_EGO_CFG_EN = true) (hw : v.atWhole psPerMs = true)
    (henc : encodersOk v f = true) (hi : i = true) :
    opEgo l f m i v =
      let z := egoShown v (encodersOk v f) i
      let p := complementary z.fus.pitch m.pitchRate m.pitch
      let q := complementary z.fus.roll m.rollRate m.roll
      egoOut (State.setFlag { z with fus := { z.fus with
        ego := [sat16 (roundDivInt ((l.getD (v.fld F.FUS_EGO_CFG_ENC_L) 0 + l.getD (v.fld F.FUS_EGO_CFG_ENC_R) 0) *
            z.fld F.FUS_EGO_SCALE_NM * (1000000 + z.calUseOf 134)) 1000000000),
          sat16 (roundDivInt ((m.yaw1 + m.yaw2) * 32768) 2000000), tiltLane p, tiltLane q]
        egoBad := 0, pitch := p, roll := q } } F.FUS_EGO_STAT_VALID true) 15 := by
  unfold opEgo
  extract_lets a b e z ok
  have hok : ok = true := (Bool.and_eq_true _ _).mpr ⟨henc, hi⟩
  rw [if_neg (opEgo_guard he hw)]
  exact congrArg₂ egoOut (if_pos hok) (if_pos hok)

/-- A sample that is not good keeps the last lanes and clears VALID, with event 106 when it is the first. -/
theorem opEgo_bad (he : v.flag F.FUS_EGO_CFG_EN = true) (hw : v.atWhole psPerMs = true)
    (h : encodersOk v f = false ∨ i = false) :
    opEgo l f m i v =
      let w := (egoShown v (encodersOk v f) i).setFlag F.FUS_EGO_STAT_VALID false
      egoOut (if v.fus.egoBad = 0 then
          State.raise { w with fus := { w.fus with egoBad := w.modNs + 1 } } 106 0
        else if w.fus.egoBad + 100000000 < w.modNs + 1 then w.allNetsCause 5 else w) 0 := by
  unfold opEgo
  extract_lets a b e z ok
  have hbad : ¬ ok = true := Bool.eq_false_iff.1 ((Bool.and_eq_false_iff).2 h)
  rw [if_neg (opEgo_guard he hw)]
  exact congrArg₂ egoOut (if_neg hbad) (if_neg hbad)

end

/-! ### Slip and pose (R160, R161, R174) -/

section
variable {v : State}

/-- The filtered slip after one more second of wheel speed against GNSS speed (R160, log entry 96). -/
def slipNext (v : State) : Int :=
  v.fus.slip + roundDivInt (roundDivInt ((v.fus.ego.getD 0 0 - 2 * (v.gns.speed : Int)) * 1000000) (2 * v.gns.speed) -
    v.fus.slip) 10

theorem opSlip_filters (hw : v.atWhole psPerS = true) (hf : 2 ≤ v.gns.fix) (hs : 1000 < v.gns.speed)
    (he : v.flag F.FUS_EGO_STAT_VALID = true) :
    opSlip v = State.setFld { v with fus := { v.fus with slip := slipNext v } } F.FUS_EGO_STAT_SLIP
      (ofSigned 16 (sat16 (roundDivInt (slipNext v) 1000))) :=
  if_neg (by simp [hw, he, hs, Nat.lt_of_succ_le hf])

theorem opSlip_idle (h : v.atWhole psPerS = false ∨ v.gns.fix < 2 ∨ v.gns.speed ≤ 1000 ∨
    v.flag F.FUS_EGO_STAT_VALID = false) : opSlip v = v :=
  if_pos (by simpa [or_assoc] using h)

theorem opPose_moves (hw : v.atWhole psPerMs = true) : opPose v =
    let w : State := { v with fus := { v.fus with pose := v.propagated } }
    { w with fus := { w.fus with hist := (w.motion :: v.fus.hist).take 8000 } } :=
  if_neg (by simp [hw])

theorem opPose_between (hw : v.atWhole psPerMs = false) : opPose v = v := if_pos (by simp [hw])

theorem opPoseRecord_idle (h : v.atWhole (10 * psPerMs) = false ∨ v.flag F.FUS_OUT_CTL_POSE = false ∨
    v.flag F.FUS_OUT_CTL_EN = false) : opPoseRecord v = v :=
  if_pos (by simpa [or_assoc] using h)

/-- A POSE record: time, fix and calibration; the pose; the cutter bar's place with slip and yaw rate (R174). -/
theorem opPoseRecord_writes (hw : v.atWhole (10 * psPerMs) = true) (hp : v.flag F.FUS_OUT_CTL_POSE = true)
    (he : v.flag F.FUS_OUT_CTL_EN = true) :
    opPoseRecord v =
      let p := v.fus.pose
      let c := v.cutterBar p
      let deg := fun x => place (ofSigned 32 (roundDivInt x 10000))
      v.fusionRecord
        (place v.modNs 0 64 + place 1 64 8 + place v.gns.fix 72 8 + place v.solAge 80 16 +
          place (v.fld F.FUS_CAL_VER_VERSION) 96 32)
        (deg p.lat 0 32 + deg p.lon 32 32 + place (ofSigned 32 p.height) 64 32 + place (p.heading / 10000000) 96 16 +
          place ((v.fus.ego.getD 0 0) / 2).toNat 112 16)
        (deg c.lat 0 32 + deg c.lon 32 32 + place (v.fld F.FUS_EGO_STAT_SLIP) 64 16 +
          place (ofSigned 16 (roundDivInt (v.fus.ego.getD 1 0 * 1000) 32768)) 80 16) 0 :=
  if_neg (by simp [hw, hp, he])

end

/-- Settles O53: each command by the cases of its operation; an edge's are those of the timebase's state and of the
run of candidate edges (`opEdge_locked`, `opEdge_gnssRun`). -/
theorem fusionTime : Obligations.FusionTime := by
  refine ⟨fun s t r as => ?edge, fun s t => ?holdover, fun s t x => rfl, fun s t => ⟨rfl, rfl⟩,
    fun s t l f m i1 i2 => ?ego, fun s t => ?slip, fun s t => ?record⟩
  case edge =>
    refine ⟨fun h => next_of_eq (opEdge_ignored h), fun hs hl hr => ⟨fun ht hu => ?_, fun ht has hc => ?_,
      fun ht has hc hlo hhi => ?_⟩⟩
    · have hheld := opEdge_locked ⟨hs, hl, hr⟩ ht hu
      cases as <;> exact next_of_eq hheld
    · subst has
      exact next_of_eq (opEdge_first ⟨hs, hl, hr⟩ ht hc)
    · subst has
      exact next_of_eq (opEdge_fourth ⟨hs, hl, hr⟩ ht hc hlo hhi)
  case holdover =>
    exact ⟨fun ht h => next_of_eq (opHoldover_lost ht h), fun ht h => next_of_eq (opHoldover_held ht h),
      fun ht hg ha => next_of_eq (opHoldover_noCandidate ht hg ha),
      fun h1 h2 => next_of_eq (opHoldover_noReference h1 h2),
      fun hs h => next_of_eq (opSlewEnd_ends hs h), fun h => next_of_eq (opSlewEnd_stands h)⟩
  case ego =>
    exact ⟨fun h => next_of_eq (opEgo_idle h), fun he hw => ⟨fun henc hi => next_of_eq (opEgo_good he hw henc hi),
      fun hbad h0 => next_of_eq ((opEgo_bad he hw hbad).trans (congrArg (egoOut · 0) (if_pos h0))),
      fun hbad h0 => next_of_eq ((opEgo_bad he hw hbad).trans (congrArg (egoOut · 0) (if_neg h0)))⟩⟩
  case slip =>
    exact ⟨fun hw hf hs he => next_of_eq (opSlip_filters hw hf hs he), fun h => next_of_eq (opSlip_idle h),
      fun hw => next_of_eq (opPose_moves hw), fun hw => next_of_eq (opPose_between hw)⟩
  case record =>
    exact ⟨fun h => next_of_eq (opPoseRecord_idle h), fun hw hp he => next_of_eq (opPoseRecord_writes hw hp he)⟩

/-! ### Writes of a network's configuration (R162, R167) -/

section
variable {v : State} {k : Nat} {x y : Word}

theorem enWord_en (x : Word) : (x ||| 0x10000#32).getLsbD 16 = true := by simp

theorem enWord_rst (x : Word) : (x ||| 0x10000#32).getLsbD 22 = x.getLsbD 22 := by simp

theorem rstWord_en (x : Word) : (x ||| 0x400000#32).getLsbD 16 = x.getLsbD 16 := by simp

theorem rstWord_rst (x : Word) : (x ||| 0x400000#32).getLsbD 22 = true := by simp

theorem netRejects_noCalibration (mask : Nat) (fcst : Bool) (h : v.fld F.FUS_CAL_VER_VERSION = 0) :
    v.netRejects k mask fcst = true := by simp [State.netRejects, h]

/-- The state with the network's configuration written and a reset that the word asks for noted. -/
def netWritten (v : State) (k : Nat) (y : Word) : State :=
  let w := v.plainWrite (R.FUS_NET_CFG k) y
  if y.getLsbD 22 then w.addCause k 7 else w

theorem netWritten_rst (h : y.getLsbD 22 = true) :
    netWritten v k y = (v.plainWrite (R.FUS_NET_CFG k) y).addCause k 7 := if_pos h

theorem opNetCfgWrite_refused (hy : y.getLsbD 16 = true)
    (hr : v.netRejects k (bitsOf y.toNat 0 16) (y.getLsbD 17) = true) :
    opNetCfgWrite k y v = v.setFlag (F.FUS_NET_CFG_REJ k) true :=
  if_pos (by simp only [hy, hr, Bool.and_self])

theorem opNetCfgWrite_enables (hy : y.getLsbD 16 = true)
    (hr : v.netRejects k (bitsOf y.toNat 0 16) (y.getLsbD 17) = false) :
    opNetCfgWrite k y v = if v.flag (F.FUS_NET_CFG_EN k) = true then netWritten v k y
      else (netWritten v k y).addCause k 1 :=
  (if_neg (by simp only [hr, Bool.and_false, Bool.false_eq_true, not_false_iff])).trans
    (if_neg (by simp only [hy, Bool.not_true, Bool.false_eq_true, not_false_iff]))

theorem opNetCfgWrite_disables (hy : y.getLsbD 16 = false) :
    opNetCfgWrite k y v = (netWritten v k y).modNet k (fun n => { n with steps := [] }) :=
  (if_neg (by simp only [hy, Bool.false_and, Bool.false_eq_true, not_false_iff])).trans
    (if_pos (by simp only [hy, Bool.not_false]))

end

/-! ### The start of a step (R162, R163, R167) -/

section
variable {v : State} {k : Nat} {x : FusionStep} {bad : List (Nat × BrickError)} {ecc : List BrickError}

/-- The oldest step that has not started may start. -/
def stepReady (v : State) (k : Nat) (x : FusionStep) : Bool :=
  v.flag (F.FUS_NET_CFG_EN k) && ((portsOf (v.fld (F.FUS_NET_CFG_CAMMASK k))).all (fun p => bitOf x.arrived p) ||
    decide (x.at_ + v.fld (F.FUS_NET_TIM_ASM k) * 100000 ≤ v.modNs))

theorem readyStep_allStarted (h : (v.netSt k).steps.all (fun x => x.started) = true) : v.readyStep k = none := by
  have hnone : (v.netSt k).steps.find? (fun x => !x.started) = none := by
    simpa [List.find?_eq_none] using h
  simp only [State.readyStep, hnone]

theorem readyStep_oldest (hx : (v.netSt k).steps.find? (fun x => !x.started) = some x) :
    v.readyStep k = if stepReady v k x = true then some x else none := by
  simp only [State.readyStep, hx]
  rfl

theorem readyStep_disabled (h : v.flag (F.FUS_NET_CFG_EN k) = false) : v.readyStep k = none := by
  cases hx : (v.netSt k).steps.find? (fun x => !x.started) with
  | none => simp only [State.readyStep, hx]
  | some x => rw [readyStep_oldest hx, if_neg (by simp [stepReady, h])]

theorem allArrived_iff (mask : Nat) : (portsOf mask).all (fun p => bitOf x.arrived p) = true ↔
    ∀ p < 16, bitOf mask p = true → bitOf x.arrived p = true := by
  simp only [portsOf, List.all_eq_true, List.mem_filter, List.mem_range, and_imp]

theorem stepReady_iff : stepReady v k x = true ↔ v.flag (F.FUS_NET_CFG_EN k) = true ∧
    (x.at_ + v.fld (F.FUS_NET_TIM_ASM k) * 100000 ≤ v.modNs ∨
      ∀ p < 16, bitOf (v.fld (F.FUS_NET_CFG_CAMMASK k)) p = true → bitOf x.arrived p = true) := by
  rw [stepReady, Bool.and_eq_true, Bool.or_eq_true, allArrived_iff, decide_eq_true_eq, or_comm]

theorem opStepStart_notReady (h : v.readyStep k = none) : opStepStart k bad ecc v = v := by
  simp only [opStepStart, h]

theorem opStepStart_waits (hx : (v.netSt k).steps.find? (fun x => !x.started) = some x)
    (hw : v.stepWaits k x = true) : opStepStart k bad ecc v = v := by
  have hready := readyStep_oldest hx
  split at hready
  · simp only [opStepStart, hready, hw, if_true]
  · exact opStepStart_notReady hready

/-- The reset causes in force for a step in whose reads these errors were met. -/
def stepCauses (v : State) (k : Nat) (bad : List (Nat × BrickError)) (ecc : List BrickError) : List Nat :=
  (v.eccErrors (bad.map (fun p => p.2) ++ ecc)).resetCauses k (!ecc.isEmpty)

/-- The step started on the frames present that are free of poison; one missing is a gap. -/
def stepBegun (v : State) (k : Nat) (x : FusionStep) (bad : List (Nat × BrickError)) (ecc : List BrickError) : State :=
  let mask := v.fld (F.FUS_NET_CFG_CAMMASK k)
  let a := v.eccErrors (bad.map (fun p => p.2) ++ ecc)
  let ports := (portsOf mask).filter (fun p => bitOf x.arrived p && !bad.any (fun q => q.1 == p))
  let present := (ports.map (fun p => 2 ^ p)).sum
  let cs := stepCauses v k bad ecc
  let y := { x with
    started := true, present := present, gap := decide (present ≠ mask), wasReset := !cs.isEmpty
    views := a.stepViews x ports }
  let b := a.modNet k (fun n => { n with
    causes := if cs.contains 6 || a.mode.harvests then [] else n.causes.filter (fun c => c == 6)
    steps := updateFirst (fun y => !y.started) (fun _ => y) n.steps })
  if present ≠ mask then b.bump (F.FUS_NET_STAT_GAPS k) else b

theorem opStepStart_starts (hx : (v.netSt k).steps.find? (fun x => !x.started) = some x)
    (hr : stepReady v k x = true) (hw : v.stepWaits k x = false) :
    opStepStart k bad ecc v = match stepCauses v k bad ecc with
      | [] => stepBegun v k x bad ecc
      | c :: _ => ((((stepBegun v k x bad ecc).modNet k NetSt.zeroed).setFld (F.FUS_NET_STAT_LASTRST k) c).bump
          (F.FUS_NET_STAT_RESETS k)).raise 103 (k + 16 * c) := by
  have hready : v.readyStep k = some x := (readyStep_oldest hx).trans (if_pos hr)
  simp only [opStepStart, hready, hw, Bool.false_eq_true, if_false, stepBegun, decide_eq_true_eq] <;> rfl

end

/-! ### The end of a step (R163 to R168, R174) -/

section
variable {v : State} {k : Nat} {x : FusionStep} {l : List FusionStep} {o : StepOut}

theorem opStepComplete_idle (hs : (v.netSt k).steps = x :: l)
    (h : x.started = false ∨ v.stepDeadline k x ≤ v.modNs) :
    opStepComplete k o v = v := by
  simp only [opStepComplete, hs]
  exact if_pos (by simpa using h)

theorem not_or_not_iff (a b : Bool) : (!a || !b) = true ↔ ¬ (a = true ∧ b = true) := by
  cases a <;> simp

/-- The step committed: its state, the tank's outputs, its lanes if the network publishes, and its tracks. -/
def stepSettled (v : State) (k : Nat) (x : FusionStep) (l : List FusionStep) (o : StepOut) : State :=
  let a := (v.modNet k (fun n => { n with
    steps := l, missed := 0, lastDone := some v.modNs, abandonEp := false, buffer := !n.buffer
    state0 := if n.buffer then o.state else n.state0, state1 := if n.buffer then n.state1 else o.state
    done := ((v.modNs, x.k, x.gap, x.calver, n.resets) :: n.done).take 16 })).tankTaken k o.tank
  let y := a.stepLanes k o
  let b := if a.flag (F.FUS_NET_TILES_GEN k) = true then a.emit (a.fld (F.FUS_NET_TILES_FIRST k))
    (a.fld (F.FUS_NET_TILES_GROUTE k)) x.k 0 true true [outFlit y.1 y.2 false false x.k 0] else a
  o.tracks.foldl (fun z q => z.trackNote k q) b

theorem opStepComplete_completes (hs : (v.netSt k).steps = x :: l) (hst : x.started = true)
    (ht : v.modNs < v.stepDeadline k x) :
    opStepComplete k o v =
      let d := stepSettled v k x l o
      if d.flag F.FUS_OUT_CTL_TRK = true ∧ d.flag F.FUS_OUT_CTL_EN = true
        then (d.netSt k).ids.foldl (fun z p => z.trackRecord k x (v.netSt k).ids p.1 p.2) d else d := by
  have hrun : ¬ (!x.started || decide (v.stepDeadline k x ≤ v.modNs)) = true := by
    simp [hst, ht]
  simp only [opStepComplete, hs, if_neg hrun]
  exact (if_congr (not_or_not_iff _ _) rfl rfl).trans (ite_not _ _ _)

theorem opStepAbandon_early (hs : (v.netSt k).steps = x :: l)
    (ht : v.modNs < v.stepDeadline k x) : opStepAbandon k v = v := by
  simp only [opStepAbandon, hs]
  exact if_pos ht

theorem opStepAbandon_abandons (hs : (v.netSt k).steps = x :: l)
    (ht : v.stepDeadline k x ≤ v.modNs) :
    opStepAbandon k v =
      let w := (v.modNet k (fun n => { n with steps := l, missed := n.missed + 1, abandonEp := true })).bump
        (F.FUS_NET_STAT_ABANDONED k)
      if (v.netSt k).abandonEp = true then w else w.raise 102 k := by
  simp only [opStepAbandon, hs]
  exact if_neg (Nat.not_lt.2 ht)

end

/-! ### Calibration (R170 to R172) -/

section
variable {v : State} {p b : Nat} {e : Int}

theorem opCalRefine_idle {l : List (Nat × Int)} (h : v.flag F.FUS_CAL_CTL_REFINE = false ∨
    v.atWhole (10 * psPerS) = false ∨ (v.fus.ego.getD 0 0).natAbs ≤ 2000 ∨ v.gns.fix < 2) : opCalRefine l v = v :=
  if_pos (by simpa [State.rolling, or_assoc] using h)

/-- One estimate: the parameter is refined, and published once some in-use value has drifted far enough. -/
theorem opCalRefine_one (hr : v.flag F.FUS_CAL_CTL_REFINE = true) (hw : v.atWhole (10 * psPerS) = true)
    (hg : 2000 < (v.fus.ego.getD 0 0).natAbs) (hf : 2 ≤ v.gns.fix) :
    opCalRefine [(p, e)] v =
      if (v.refineOne p e).calDrifted then (v.refineOne p e).publishCal true else v.refineOne p e := by
  have hrolls : v.rolling = true := decide_eq_true hg
  exact if_neg (by simp [hr, hw, hrolls, Nat.lt_of_succ_le hf])

theorem refineOne_inside (hb : calBound p = some b)
    (he : (e - toSigned 32 (spGet v.fus.calHost p)).natAbs < b) :
    v.refineOne p e = { v with fus := { v.fus with calUse := spSet v.fus.calUse p (ofSigned 32 e) } } := by
  have hclamp : clampInt (v.calHostOf p - b) (v.calHostOf p + b) e = e := by
    unfold clampInt State.calHostOf
    split_ifs <;> omega
  simp only [State.refineOne, hb, hclamp]
  exact if_neg he.ne

/-- An estimate past the bound is taken as the bound; a parameter known to be at its bound raises nothing. -/
theorem refineOne_atBound (hb : calBound p = some b) (he : toSigned 32 (spGet v.fus.calHost p) + b ≤ e)
    (hat : v.fus.atBound.contains p = true) :
    v.refineOne p e = State.setFlag { v with fus := { v.fus with
      calUse := spSet v.fus.calUse p (ofSigned 32 (toSigned 32 (spGet v.fus.calHost p) + b)) } }
      F.FUS_CAL_CTL_ATBOUND true := by
  have hclamp : clampInt (v.calHostOf p - b) (v.calHostOf p + b) e = v.calHostOf p + b := by
    unfold clampInt State.calHostOf
    split_ifs <;> omega
  simp only [State.refineOne, hb, hclamp]
  refine (if_pos ?_).trans (if_pos hat)
  show (v.calHostOf p + b - v.calHostOf p).natAbs = b
  omega

theorem opCalPublish_publishes (x : Word) :
    opCalPublish (x ||| 1#32) v =
      let w := v.plainWrite R.FUS_CAL_CTL (x ||| 1#32)
      (State.publishCal { w with fus := { w.fus with
        calUse := w.fus.calBase, calHost := w.fus.calBase, atBound := [] } } false).allNetsCause 3 :=
  if_neg (by simp)

end

/-- Settles O54: each command by the cases of its operation; a step's start turns on whether the oldest waiting
step is ready (`stepReady_iff`) and on the reset causes in force (`opStepStart_starts`). -/
theorem fusionNets : Obligations.FusionNets := by
  refine ⟨fun s t k x => ?enable, fun s t k x => ?reset, fun s t k bad ecc => ?start, fun s t k x l hs => ?finish,
    fun s t l => ?refine, fun s t x => next_of_eq (opCalPublish_publishes x)⟩
  case enable =>
    refine ⟨fun hr => next_of_eq (opNetCfgWrite_refused (enWord_en x) hr),
      fun h0 => next_of_eq (opNetCfgWrite_refused (enWord_en x) (netRejects_noCalibration _ _ h0)), fun hr => ?_⟩
    refine next_of_eq ((opNetCfgWrite_enables (enWord_en x) hr).trans ?_)
    simp only [netWritten, enWord_rst]
  case reset =>
    have hwritten := netWritten_rst (v := s.tick t) (k := k.val) (rstWord_rst x)
    refine ⟨fun hx => ?_, fun hx hr => next_of_eq (opNetCfgWrite_refused ((rstWord_en x).trans hx) hr), fun hx hr => ?_⟩
    · exact next_of_eq ((opNetCfgWrite_disables ((rstWord_en x).trans hx)).trans (by rw [hwritten]))
    · exact next_of_eq ((opNetCfgWrite_enables ((rstWord_en x).trans hx) hr).trans (by rw [hwritten]))
  case start =>
    refine ⟨fun h => next_of_eq (opStepStart_notReady (h.elim readyStep_allStarted readyStep_disabled)),
      fun x hx => ⟨fun ht ⟨p, hp, hm, ha⟩ => ?_, fun hw => next_of_eq (opStepStart_waits hx hw),
        fun he h hw => ?_⟩⟩
    · have hnot : ¬ stepReady (s.tick t) k.val x = true := fun hr => by
        rcases (stepReady_iff.1 hr).2 with hlate | hall
        · exact absurd ht (Nat.not_lt.2 hlate)
        · exact absurd (hall p hp hm) (by simp [ha])
      exact next_of_eq (opStepStart_notReady ((readyStep_oldest hx).trans (if_neg hnot)))
    · have hstart := opStepStart_starts (bad := bad) (ecc := ecc) hx (stepReady_iff.2 ⟨he, h⟩) hw
      refine ⟨fun hc => next_of_eq (hstart.trans ?_), fun c cl hc => next_of_eq (hstart.trans ?_)⟩
      · rw [show stepCauses (s.tick t) k.val bad ecc = [] from hc]; rfl
      · rw [show stepCauses (s.tick t) k.val bad ecc = c :: cl from hc]; rfl
  case finish =>
    exact ⟨fun h o => next_of_eq (opStepComplete_idle hs h),
      fun hst ht o => next_of_eq (opStepComplete_completes hs hst ht),
      fun ht => next_of_eq (opStepAbandon_early hs ht), fun ht => next_of_eq (opStepAbandon_abandons hs ht)⟩
  case refine =>
    refine ⟨fun h => next_of_eq (opCalRefine_idle h), fun hr hw hg hf p b e hl hb => ?_⟩
    subst hl
    have hone := opCalRefine_one (p := p) (e := e) hr hw hg hf
    exact ⟨fun he => next_of_eq (by rw [hone, refineOne_inside hb he]),
      fun he hat => next_of_eq (by rw [hone, refineOne_atBound hb he hat])⟩

/-! ### Trigger generators (R157, R179) -/

section
variable {v : State} {n : Nat} {x : Word}

theorem trgFires_iff : v.trgFires n = true ↔ v.flag (F.FUS_TRG_CFG_EN n) = true ∧ v.atWhole 1000 = true ∧
    v.trgPhase n ≤ v.modNs ∧ (v.modNs - v.trgPhase n) % v.trgPeriod n = 0 ∧ spGet v.fus.trgFrom n ≤ v.modNs := by
  simp only [State.trgFires, Bool.and_eq_true, decide_eq_true_eq, beq_iff_eq, and_assoc]

theorem opTrigger_silent (h : ¬ v.trgFires n = true) : opTrigger n v = v := if_pos (by simpa using h)

theorem opTrigger_fires (h : v.trgFires n = true) :
    opTrigger n v =
      let k := (v.modNs - v.trgPhase n) / v.trgPeriod n
      let w := v.camDamage n 7
      State.beginSteps (if w.flag (F.CAM_PORT_STAT_LINK n) = true then w.modPort n (fun x => { x with
          trigs := (w.modNs, k) :: x.trigs.filter (fun q => decide (w.modNs < q.1 + 26000000))
          pulse := some (w.modNs, w.modNs + max 1 (w.fld (F.CAM_PORT_TIM_TPW n)) * 1000) })
        else w) n k :=
  if_neg (by simp [h])

theorem opTrgWrite_enabled (b : Bool) (h : v.flag (F.FUS_TRG_CFG_EN n) = true) :
    opTrgWrite n b x v = v.setFlag ⟨R.FUS_TRG_STAT, n, 1⟩ true := if_pos h

theorem opTrgWrite_phase (h : v.flag (F.FUS_TRG_CFG_EN n) = false) :
    opTrgWrite n true x v = v.plainWrite (R.FUS_TRG_PH n) x := if_neg (Bool.eq_false_iff.1 h)

theorem opTrgWrite_config (h : v.flag (F.FUS_TRG_CFG_EN n) = false) :
    opTrgWrite n false x v =
      let w := v.plainWrite (R.FUS_TRG_CFG n) x
      let z := w.setFld (F.FUS_TRG_CFG_PERIOD_US n) (clampNat 1000 1000000 (w.fld (F.FUS_TRG_CFG_PERIOD_US n)))
      if x.getLsbD 31 = true then { z with fus := { z.fus with
        trgFrom := spSet z.fus.trgFrom n (z.modNs + 1000000) } } else z := if_neg (Bool.eq_false_iff.1 h)

end

/-! ### Wide use and the enable of a port (R182, R183, R193) -/

section
variable {v : State} {n : Nat} {x y : Word}

theorem somePortEnabled_iff : (List.range 16).any (fun n => v.flag (F.CAM_PORT_CFG_EN n)) = true ↔
    ∃ n, n < 16 ∧ v.flag (F.CAM_PORT_CFG_EN n) = true := by
  simp only [List.any_eq_true, List.mem_range]

theorem opWideWrite_refused (h : ∃ n, n < 16 ∧ v.flag (F.CAM_PORT_CFG_EN n) = true) :
    opWideWrite x v = v.setFlag F.CAM_GLB_STAT_WIDEREJ true := if_pos (somePortEnabled_iff.2 h)

theorem opWideWrite_writes (h : ∀ n, n < 16 → v.flag (F.CAM_PORT_CFG_EN n) = false) :
    opWideWrite x v =
      let w := v.plainWrite R.CAM_GLB_CFG x
      if v.flag F.CAM_GLB_CFG_WIDE = false ∧ x.getLsbD 0 = true ∧ w.flag F.CAM_ST_CTL_EN = true
        then w.ringSample R.CAM_ST_BASE_LO 6 else w := by
  have hnone : ¬ (List.range 16).any (fun n => v.flag (F.CAM_PORT_CFG_EN n)) = true := fun ha => by
    obtain ⟨n, hn, he⟩ := somePortEnabled_iff.1 ha
    exact Bool.eq_false_iff.1 (h n hn) he
  refine (if_neg hnone).trans (if_congr ?_ rfl rfl)
  simp only [Bool.and_eq_true, Bool.not_eq_true', and_assoc]

/-- What refuses an enable whatever the configuration word: the mode, the port number and the size (R183). -/
theorem enableRefused_of_port (h : v.mode.images = false ∨ (v.flag F.CAM_GLB_CFG_WIDE = false ∧ 4 ≤ n) ∨
    v.camWidth n < 64 ∨ 8192 < v.camWidth n ∨ v.camHeight n < 16 ∨ 8192 < v.camHeight n) :
    v.enableRefused n y = true := by
  simp only [State.enableRefused, Bool.or_eq_true, Bool.and_eq_true, Bool.not_eq_true', decide_eq_true_eq]
  tauto

theorem opPortCfgWrite_enabled (hy : y.getLsbD 0 = true) (he : v.flag (F.CAM_PORT_CFG_EN n) = true) :
    opPortCfgWrite n y v = if bitsOf y.toNat 1 19 ≠ bitsOf (v.reg (R.CAM_PORT_CFG n)).toNat 1 19
      then v.setFlag (F.CAM_PORT_STAT_CFGREJ n) true else v :=
  (if_pos he).trans ((if_pos hy).trans (if_congr bne_iff_ne rfl rfl))

theorem opPortCfgWrite_refused (hy : y.getLsbD 0 = true) (he : v.flag (F.CAM_PORT_CFG_EN n) = false)
    (hr : v.enableRefused n y = true) :
    opPortCfgWrite n y v = ((v.plainWrite (R.CAM_PORT_CFG n) (y &&& 0xFFFFFFFE#32)).setFlag
      (F.CAM_PORT_STAT_REFUSED n) true).raise 119 n :=
  (if_neg (Bool.eq_false_iff.1 he)).trans (if_pos (by simp [hy, hr]))

theorem opPortCfgWrite_enables (he : v.flag (F.CAM_PORT_CFG_EN n) = false) (hr : v.enableRefused n y = false) :
    opPortCfgWrite n y v = (v.plainWrite (R.CAM_PORT_CFG n) y).showActive :=
  (if_neg (Bool.eq_false_iff.1 he)).trans (if_neg (by simp [hr]))

theorem portWord_en (x : Word) : (x ||| 1#32).getLsbD 0 = true := by simp

end

/-! ### The camera's I2C bus and its link (R180, R181) -/

section
variable {v : State} {n : Nat} {d : Byte}

theorem opI2cDone_idle (a : Bool) (h : (v.port n).i2c = none) : opI2cDone n a d v = v := by
  simp only [opI2cDone, h]

/-- The state with the transfer over. -/
def i2cOver (v : State) (n : Nat) : State :=
  (v.setFlag (F.CAM_PORT_STAT_I2CBUSY n) false).modPort n (fun p => { p with i2c := none })

theorem opI2cDone_nack {x : Nat} (h : (v.port n).i2c = some x) :
    opI2cDone n false d v = (i2cOver v n).setFlag (F.CAM_PORT_STAT_I2CNACK n) true := by
  simp only [opI2cDone, h]
  rfl

theorem opI2cDone_ack {x : Nat} (h : (v.port n).i2c = some x) :
    opI2cDone n true d v = if bitOf x 7 = true then (i2cOver v n).setFld (F.CAM_PORT_STAT_RDATA n) d.toNat
      else i2cOver v n := by
  simp only [opI2cDone, h]
  rfl

theorem opLinkLost_again (h : (v.port n).linkEp = true) : opLinkLost n v = v := if_pos h

theorem opLinkLost_first (h : (v.port n).linkEp = false) :
    opLinkLost n v = ((((v.setFlag (F.CAM_PORT_STAT_LINK n) false).modPort n (fun p =>
      { p with linkEp := true, trigs := [] })).raise 112 n).camDamage n 8) := if_neg (Bool.eq_false_iff.1 h)

theorem opLinkRestored_up (h : v.flag (F.CAM_PORT_STAT_LINK n) = true) : opLinkRestored n v = v := if_pos h

theorem opLinkRestored_returns (h : v.flag (F.CAM_PORT_STAT_LINK n) = false) :
    opLinkRestored n v = ((v.setFlag (F.CAM_PORT_STAT_LINK n) true).modPort n (fun p =>
      { p with linkEp := false })).raise 113 n := if_neg (Bool.eq_false_iff.1 h)

end

/-- Settles O55: each command by the cases of its operation. -/
theorem cameraPorts : Obligations.CameraPorts := by
  refine ⟨fun s t n => ?trigger, fun s t n x => ?setUp, fun s t x => ?wide, fun s t n x => ?enable,
    fun s t n i x => ⟨rfl, rfl⟩, fun s t n d => ?i2c, fun s t n => ?link⟩
  case trigger =>
    refine ⟨fun h => next_of_eq (opTrigger_silent (mt trgFires_iff.1 h)), fun h => ?_⟩
    have hfires := opTrigger_fires (trgFires_iff.2 h)
    exact ⟨fun hl => next_of_eq (hfires.trans (congrArg (State.beginSteps · n.val _) (if_neg (Bool.eq_false_iff.1 hl)))),
      fun hl => next_of_eq (hfires.trans (congrArg (State.beginSteps · n.val _) (if_pos hl)))⟩
  case setUp =>
    exact ⟨fun h b => next_of_eq (opTrgWrite_enabled b h), fun h => next_of_eq (opTrgWrite_phase h),
      fun h => next_of_eq (opTrgWrite_config h)⟩
  case wide =>
    exact ⟨fun h => next_of_eq (opWideWrite_refused h), fun h => next_of_eq (opWideWrite_writes h)⟩
  case enable =>
    have hy := portWord_en x
    exact ⟨fun he => next_of_eq (opPortCfgWrite_enabled hy he),
      fun he hr => next_of_eq (opPortCfgWrite_refused hy he hr),
      fun he h => next_of_eq (opPortCfgWrite_refused hy he (enableRefused_of_port h)),
      fun he hr => next_of_eq (opPortCfgWrite_enables he hr)⟩
  case i2c =>
    exact ⟨fun a h => next_of_eq (opI2cDone_idle a h),
      fun x h => ⟨next_of_eq (opI2cDone_nack h), next_of_eq (opI2cDone_ack h)⟩⟩
  case link =>
    exact ⟨fun h => next_of_eq (opLinkLost_again h), fun h => next_of_eq (opLinkLost_first h),
      fun h => next_of_eq (opLinkRestored_up h), fun h => next_of_eq (opLinkRestored_returns h)⟩

end Sys2Proof
end

section
/-!
PROOFS. The camera pipeline: the frames of a port, their lines, taps and statistics (07_camera_pipeline.md).
-/

namespace Sys2Proof

open Machine

/-! ### A Frame Start (R185, R193) -/

section
variable {v : State} {n : Nat}

/-- The port is enabled and its link is up. -/
def portLive (v : State) (n : Nat) : Prop :=
  v.flag (F.CAM_PORT_CFG_EN n) = true ∧ v.flag (F.CAM_PORT_STAT_LINK n) = true

/-- The newest awaited trigger whose window holds a Frame Start at the present instant (log entry 105). -/
def startTrigger (v : State) (n : Nat) : Option (Nat × Nat) :=
  (v.port n).trigs.find? (fun q => decide (v.modNs ≤ q.1 + (v.fld (F.CAM_PORT_TIM_FSWIN n) * 100000 + 9)))

/-- The frame that opens for trigger k at instant T, with the port's settings as they stand. -/
def openedFrame (v : State) (n T k : Nat) : CamFrame :=
  let set := v.latchSettings n
  { at_ := T, f := k % 2 ^ 32, cfg := (v.reg (R.CAM_PORT_CFG n)).toNat, fmt := (v.reg (R.CAM_PORT_FMT n)).toNat
    tim := (v.reg (R.CAM_PORT_TIM n)).toNat, settings := set, lines := [], closed := false, damage := 0
    begunA := false, begunB := false, linesA := 0, linesB := 0, sentA := 0, sentB := 0
    doneA := !bitOf (set.getD 3 0) 3, doneB := !bitOf (set.getD 4 0) 3, causeA := 0, causeB := 0
    counted := false, statsDone := false }

theorem portDead_iff :
    (!v.flag (F.CAM_PORT_CFG_EN n) || !v.flag (F.CAM_PORT_STAT_LINK n)) = true ↔ ¬ portLive v n := by
  simp only [portLive, Bool.or_eq_true, Bool.not_eq_true', not_and_or, Bool.not_eq_true]

theorem opFrameStart_dead (h : ¬ portLive v n) : opFrameStart n v = v := if_pos (portDead_iff.2 h)

theorem opFrameStart_opens {T k : Nat} (hl : portLive v n) (hopen : (v.port n).open_ = none)
    (horph : (v.port n).orphan = false) (htrig : startTrigger v n = some (T, k)) :
    opFrameStart n v = v.setPort n { v.port n with
      trigs := (v.port n).trigs.filter (fun q => q.1 != T)
      frames := (v.port n).frames ++ [openedFrame v n T k] } := by
  have hfind : (if (v.port n).open_.isNone && !(v.port n).orphan then startTrigger v n else none) = some (T, k) := by
    rw [hopen, horph]
    exact htrig
  rw [startTrigger] at hfind
  refine (if_neg (mt portDead_iff.1 (not_not_intro hl))).trans ?_
  simp only [hfind]
  rfl

/-- A Frame Start that no trigger awaits, or that meets an open frame or an orphan, is an orphan. -/
theorem opFrameStart_orphan (hl : portLive v n) (h : (v.port n).open_ ≠ none ∨ (v.port n).orphan = true ∨
    startTrigger v n = none) :
    opFrameStart n v =
      ((v.setPort n { v.port n with orphan := true }).bump (F.CAM_PORT_CNT_ORPHAN n)).raiseOnce 118 n n := by
  have hfind : (if (v.port n).open_.isNone && !(v.port n).orphan then startTrigger v n else none) = none := by
    rcases h with hopen | horph | htrig
    · exact if_neg (by simp [hopen])
    · exact if_neg (by simp [horph])
    · rw [htrig, ite_self]
  rw [startTrigger] at hfind
  refine (if_neg (mt portDead_iff.1 (not_not_intro hl))).trans ?_
  simp only [hfind]

end

/-! ### A long packet (R178, R184, R186, R187, R192) -/

section
variable {v : State} {n vc dt : Nat} {bh bc : Bool} {l : List Nat} {f : CamFrame}

/-- Virtual channel and data type are those of the port's image stream. -/
def ofStream (v : State) (n vc dt : Nat) : Prop :=
  vc = v.fld (F.CAM_PORT_CFG_VC n) ∧ dt = v.fld (F.CAM_PORT_CFG_DT n)

/-- Tap A has dropped the frame's remainder if its buffer has no room for the line. -/
def roomInA (a : State) (n : Nat) (f : CamFrame) : State :=
  if (a.port n).tapFull false = true then a.tapDrop n f false 1 else a

/-- Each tap has dropped the frame's remainder if its buffer has no room for the line. -/
def roomInTaps (a : State) (n : Nat) (f : CamFrame) : State :=
  if (a.port n).tapFull true = true then (roomInA a n f).tapDrop n ((roomInA a n f).frameAt n f) true 1
  else roomInA a n f

/-- The open frame f as it stands after the taps' buffers were judged. -/
def frameInTaps (a : State) (n : Nat) (f : CamFrame) : CamFrame :=
  (roomInTaps a n f).frameAt n ((roomInA a n f).frameAt n f)

/-- A line whose header is sound comes in to the open frame f, the input buffers served up to now in a. -/
def lineReceived (n dt : Nat) (bc : Bool) (l : List Nat) (f : CamFrame) (a : State) : State :=
  let w := roomInTaps a n f
  let g := frameInTaps a n f
  if 2 ^ 20 < (a.port n).fill then w.dropBoth n g
  else if bc = true then w.camDamage n 5
  else if l.length ≠ g.width ∨ g.height ≤ g.lines.length then w.camDamage n 6
  else w.setFrame n { g with lines := g.lines ++ [l.map (fun x => (x % 2 ^ dtBits dt) * 2 ^ (16 - dtBits dt))] }

theorem opLongPacket_disabled (h : v.flag (F.CAM_PORT_CFG_EN n) = false) : opLongPacket n vc dt bh bc l v = v :=
  if_pos (by simp [h])

theorem foreign_iff : (!bh && (vc != v.fld (F.CAM_PORT_CFG_VC n) || dt != v.fld (F.CAM_PORT_CFG_DT n))) = true ↔
    ¬ (bh = true ∨ ofStream v n vc dt) := by
  simp only [ofStream, Bool.and_eq_true, Bool.or_eq_true, Bool.not_eq_true', bne_iff_ne, not_or, not_and_or,
    Bool.not_eq_true]

theorem opLongPacket_foreign (he : v.flag (F.CAM_PORT_CFG_EN n) = true) (hm : ¬ (bh = true ∨ ofStream v n vc dt)) :
    opLongPacket n vc dt bh bc l v = v.bump (F.CAM_PORT_CNT_FOREIGN n) :=
  (if_neg (by simp [he])).trans (if_pos (foreign_iff.2 hm))

theorem opLongPacket_noFrame (he : v.flag (F.CAM_PORT_CFG_EN n) = true) (hm : bh = true ∨ ofStream v n vc dt)
    (h : (v.port n).orphan = true ∨ (v.port n).open_ = none) : opLongPacket n vc dt bh bc l v = v := by
  refine (if_neg (by simp [he])).trans ((if_neg (mt foreign_iff.1 (not_not_intro hm))).trans ?_)
  rcases h with horph | hopen
  · exact if_pos horph
  · simp only [hopen, ite_self]

theorem opLongPacket_open (he : v.flag (F.CAM_PORT_CFG_EN n) = true) (hm : bh = true ∨ ofStream v n vc dt)
    (horph : (v.port n).orphan = false) (hopen : (v.port n).open_ = some f) :
    opLongPacket n vc dt bh bc l v =
      if f.statsDone = true then v else if bh = true then v.camDamage n 4
      else lineReceived n dt bc l f (v.serveCams n l.length) := by
  refine (if_neg (by simp [he])).trans ((if_neg (mt foreign_iff.1 (not_not_intro hm))).trans
    ((if_neg (Bool.eq_false_iff.1 horph)).trans ?_))
  simp only [hopen]
  rfl

variable {a : State}

theorem lineReceived_overflow (h : 2 ^ 20 < (a.port n).fill) :
    lineReceived n dt bc l f a = (roomInTaps a n f).dropBoth n (frameInTaps a n f) := if_pos h

theorem lineReceived_badCrc (h : (a.port n).fill ≤ 2 ^ 20) :
    lineReceived n dt true l f a = (roomInTaps a n f).camDamage n 5 :=
  (if_neg (Nat.not_lt.2 h)).trans (if_pos rfl)

theorem lineReceived_badLength (h : (a.port n).fill ≤ 2 ^ 20) (hl : l.length ≠ (frameInTaps a n f).width ∨
    (frameInTaps a n f).height ≤ (frameInTaps a n f).lines.length) :
    lineReceived n dt false l f a = (roomInTaps a n f).camDamage n 6 :=
  (if_neg (Nat.not_lt.2 h)).trans ((if_neg Bool.false_ne_true).trans (if_pos hl))

theorem lineReceived_good (h : (a.port n).fill ≤ 2 ^ 20) (hl : l.length = (frameInTaps a n f).width)
    (hh : (frameInTaps a n f).lines.length < (frameInTaps a n f).height) :
    lineReceived n dt false l f a = (roomInTaps a n f).setFrame n { frameInTaps a n f with
      lines := (frameInTaps a n f).lines ++ [l.map (fun x => (x % 2 ^ dtBits dt) * 2 ^ (16 - dtBits dt))] } :=
  (if_neg (Nat.not_lt.2 h)).trans ((if_neg Bool.false_ne_true).trans
    (if_neg (not_or_intro (not_not_intro hl) (Nat.not_le.2 hh))))

end

/-! ### The next line of a tap (R184, R190, R192) -/

section
variable {s v : State} {n y : Nat} {b : Bool} {f : CamFrame}

/-- The oldest frame of the port that the tap has not done with. -/
def tapFrame (v : State) (n : Nat) (b : Bool) : Option CamFrame :=
  (v.port n).frames.find? (fun f => !f.done b)

/-- The state in which the tap's next line meets its route. -/
def lineAtRoute (v : State) (n : Nat) (b : Bool) (f : CamFrame) : State :=
  v.atEmission (130 + n) (f.tapRoute b) f.f (!f.begun b)

/-- The tap has passed the frame's next line. -/
def linePassed (f : CamFrame) (b : Bool) : CamFrame := f.setTap b (f.sent b + 1) false (f.cause b)

/-- The flits leave the tap in packets of 16 as line y of the frame; and whether the mortar carries them. -/
def lineEmitted (w : State) (n : Nat) (b : Bool) (f : CamFrame) (flits : List Flit) : State × Bool :=
  ((pieces 16 (flits.length + 1) flits).zipIdx).foldl (fun (a : State × Bool) p =>
    a.1.emitOn (130 + n) (f.tapRoute b) f.f (f.sent b * lineBytes f.width (f.lanes b) + 256 * p.2)
      (!f.begun b && p.2 == 0) false p.1) (w, false)

theorem lineFlits_arrived (h : f.needs b y ≤ f.lines.length) :
    v.lineFlits f b y = (flitsOf (lineBytes f.width (f.lanes b) / 16) (tapLine f.image f b y), v) :=
  if_pos (decide_eq_true h)

theorem opTapLine_idle (hv : s.serveCams n 0 = v) (hq : tapFrame v n b = none) : opTapLine n b s = v := by
  subst hv
  rw [tapFrame] at hq
  simp only [opTapLine, hq]

/-- The tap's next line, once it has been through the pipeline, goes late, unusably or in packets. -/
theorem opTapLine_frame (hv : s.serveCams n 0 = v) (hq : tapFrame v n b = some f) :
    opTapLine n b s =
      if (v.port n).ready f ≤ f.sent b then v
      else if f.overdue v.modTime = true then (v.tapDrop n f b 2).dropFinished n
      else if (!(lineAtRoute v n b f).tapUsable n (f.tapRoute b) (!f.begun b)) = true then
        ((((lineAtRoute v n b f).setFrame n (linePassed f b)).tapError n b).tapMayClose n
          (linePassed f b) b).dropFinished n
      else
        let c := (lineAtRoute v n b f).lineFlits f b (f.sent b)
        let z := lineEmitted c.2 n b f c.1
        ((z.1.setFrame n ((linePassed f b).note b z.2)).tapMayClose n
          ((linePassed f b).note b z.2) b).dropFinished n := by
  subst hv
  rw [tapFrame] at hq
  simp only [opTapLine, hq]
  rfl

theorem opTapLine_waits (hv : s.serveCams n 0 = v) (hq : tapFrame v n b = some f)
    (h : (v.port n).ready f ≤ f.sent b) : opTapLine n b s = v :=
  (opTapLine_frame hv hq).trans (if_pos h)

theorem opTapLine_late (hv : s.serveCams n 0 = v) (hq : tapFrame v n b = some f)
    (h : f.sent b < (v.port n).ready f) (ho : f.overdue v.modTime = true) :
    opTapLine n b s = (v.tapDrop n f b 2).dropFinished n :=
  (opTapLine_frame hv hq).trans ((if_neg (Nat.not_le.2 h)).trans (if_pos ho))

theorem opTapLine_unusable (hv : s.serveCams n 0 = v) (hq : tapFrame v n b = some f)
    (h : f.sent b < (v.port n).ready f) (ho : f.overdue v.modTime = false)
    (hu : (lineAtRoute v n b f).tapUsable n (f.tapRoute b) (!f.begun b) = false) :
    opTapLine n b s = ((((lineAtRoute v n b f).setFrame n (linePassed f b)).tapError n b).tapMayClose n
      (linePassed f b) b).dropFinished n :=
  (opTapLine_frame hv hq).trans ((if_neg (Nat.not_le.2 h)).trans ((if_neg (Bool.eq_false_iff.1 ho)).trans
    (if_pos (by simp [hu]))))

theorem opTapLine_sends (hv : s.serveCams n 0 = v) (hq : tapFrame v n b = some f)
    (h : f.sent b < (v.port n).ready f) (ho : f.overdue v.modTime = false)
    (hu : (lineAtRoute v n b f).tapUsable n (f.tapRoute b) (!f.begun b) = true)
    (hn : f.needs b (f.sent b) ≤ f.lines.length) :
    opTapLine n b s =
      let z := lineEmitted (lineAtRoute v n b f) n b f
        (flitsOf (lineBytes f.width (f.lanes b) / 16) (tapLine f.image f b (f.sent b)))
      ((z.1.setFrame n ((linePassed f b).note b z.2)).tapMayClose n
        ((linePassed f b).note b z.2) b).dropFinished n := by
  refine (opTapLine_frame hv hq).trans ((if_neg (Nat.not_le.2 h)).trans ((if_neg (Bool.eq_false_iff.1 ho)).trans
    ((if_neg (by simp [hu])).trans ?_)))
  rw [lineFlits_arrived hn]

end

/-! ### Frame End and the deadline (R185, R186, R192) -/

section
variable {v : State} {n : Nat} {f : CamFrame}

/-- The next trigger instant has come with the frame still open. -/
def trigOverrun (v : State) (n : Nat) (f : CamFrame) : Prop := v.trgFires n = true ∧ f.at_ < v.modNs

/-- The frame closed, its number shown and no damage episode left. -/
def frameClosed (v : State) (n : Nat) (f : CamFrame) : State :=
  ((v.setFrame n { f with closed := true }).setFld (F.CAM_PORT_LAST_F n) f.f).modPort n
    (fun p => { p with damageEp := false })

/-- The state in which tap A has sent its status packet if it has no line of the closed frame left. -/
def closedTapA (v : State) (n : Nat) (f : CamFrame) : State :=
  (frameClosed v n f).tapMayClose n { f with closed := true } false

theorem opFrameEnd_orphan (h : (v.port n).orphan = true) :
    opFrameEnd n v = v.setPort n { v.port n with orphan := false } := if_pos h

theorem opFrameEnd_noFrame (horph : (v.port n).orphan = false) (hopen : (v.port n).open_ = none) :
    opFrameEnd n v = v := by
  refine (if_neg (Bool.eq_false_iff.1 horph)).trans ?_
  simp only [hopen]

theorem opFrameEnd_open (horph : (v.port n).orphan = false) (hopen : (v.port n).open_ = some f) :
    opFrameEnd n v =
      if (f.lines.length ≠ f.height && !f.statsDone) = true then v.camDamage n 6
      else if (v.trgFires n && decide (f.at_ < v.modNs)) = true then v.camDamage n 7
      else ((closedTapA v n f).tapMayClose n ((closedTapA v n f).frameAt n { f with closed := true })
        true).dropFinished n := by
  refine (if_neg (Bool.eq_false_iff.1 horph)).trans ?_
  simp only [hopen]
  rfl

theorem linesMissing_iff : (f.lines.length ≠ f.height && !f.statsDone) = true ↔
    ¬ (f.lines.length = f.height ∨ f.statsDone = true) := by
  simp only [Bool.and_eq_true, decide_eq_true_eq, Bool.not_eq_true', not_or, Bool.not_eq_true, ne_eq]

theorem trigOverrun_iff : (v.trgFires n && decide (f.at_ < v.modNs)) = true ↔ trigOverrun v n f := by
  simp only [trigOverrun, Bool.and_eq_true, decide_eq_true_eq]

theorem opFrameEnd_linesMissing (horph : (v.port n).orphan = false) (hopen : (v.port n).open_ = some f)
    (hl : f.lines.length ≠ f.height) (hs : f.statsDone = false) : opFrameEnd n v = v.camDamage n 6 :=
  (opFrameEnd_open horph hopen).trans (if_pos (linesMissing_iff.2 (not_or_intro hl (Bool.eq_false_iff.1 hs))))

theorem opFrameEnd_overrun (horph : (v.port n).orphan = false) (hopen : (v.port n).open_ = some f)
    (hl : f.lines.length = f.height ∨ f.statsDone = true) (ht : trigOverrun v n f) :
    opFrameEnd n v = v.camDamage n 7 :=
  (opFrameEnd_open horph hopen).trans ((if_neg (mt linesMissing_iff.1 (not_not_intro hl))).trans
    (if_pos (trigOverrun_iff.2 ht)))

theorem opFrameEnd_closes (horph : (v.port n).orphan = false) (hopen : (v.port n).open_ = some f)
    (hl : f.lines.length = f.height ∨ f.statsDone = true) (ht : ¬ trigOverrun v n f) :
    opFrameEnd n v = ((closedTapA v n f).tapMayClose n ((closedTapA v n f).frameAt n { f with closed := true })
      true).dropFinished n :=
  (opFrameEnd_open horph hopen).trans ((if_neg (mt linesMissing_iff.1 (not_not_intro hl))).trans
    (if_neg (mt trigOverrun_iff.1 ht)))

/-- The frames of the port whose deadline has come. -/
def framesDue (v : State) (n : Nat) : List CamFrame := (v.port n).frames.filter (fun f => f.overdue v.modTime)

theorem opFrameDeadline_noneDue (h : framesDue v n = []) : opFrameDeadline n v = v.dropFinished n :=
  congrArg (fun l : List CamFrame => (l.foldl (fun (s : State) f => s.frameLate n f) v).dropFinished n) h

theorem opFrameDeadline_oneDue (h : framesDue v n = [f]) :
    opFrameDeadline n v = (v.frameLate n f).dropFinished n :=
  congrArg (fun l : List CamFrame => (l.foldl (fun (s : State) f => s.frameLate n f) v).dropFinished n) h

end

/-! ### Statistics (R194 to R196) -/

section
variable {v : State} {n : Nat} {f : CamFrame}

/-- The oldest whole frame whose statistics are still to come. -/
def statsFrame (v : State) (n : Nat) : Option CamFrame :=
  (v.port n).frames.find? (fun f => f.closed && f.damage == 0 && !f.statsDone)

/-- The statistics of the frame are done with. -/
def statsTaken (v : State) (n : Nat) (f : CamFrame) : State :=
  (v.setFrame n { f with statsDone := true }).dropFinished n

/-- HOLD stands and was set in an earlier mortar cycle (R197, log entry 106). -/
def banksHeld (w : State) : Bool :=
  w.flag F.CAM_ST_CTL_HOLD && w.cam.holdAt / mortarCycle != w.modTime / mortarCycle

theorem opStatsReady_none (hq : statsFrame v n = none) : opStatsReady n v = v := by
  rw [statsFrame] at hq
  simp only [opStatsReady, hq]

theorem opStatsReady_frame (hq : statsFrame v n = some f) :
    opStatsReady n v =
      if (statsTaken v n f).flag F.CAM_GLB_CFG_WIDE = true then
        if (statsTaken v n f).flag F.CAM_ST_CTL_EN = true then
          (statsTaken v n f).ringPush camRing (statsBytes f.image f n) 0
        else statsTaken v n f
      else if banksHeld (statsTaken v n f) = true then (statsTaken v n f).bump F.CAM_ST_STAT_DROP
      else if n < 4 then ((statsTaken v n f).writeBank n f.image).raise 115 n else statsTaken v n f := by
  rw [statsFrame] at hq
  simp only [opStatsReady, hq]
  rfl

theorem opStatsReady_wide (hq : statsFrame v n = some f)
    (hw : (statsTaken v n f).flag F.CAM_GLB_CFG_WIDE = true) :
    opStatsReady n v = if (statsTaken v n f).flag F.CAM_ST_CTL_EN = true then
      (statsTaken v n f).ringPush camRing (statsBytes f.image f n) 0 else statsTaken v n f :=
  (opStatsReady_frame hq).trans (if_pos hw)

theorem opStatsReady_held (hq : statsFrame v n = some f)
    (hw : (statsTaken v n f).flag F.CAM_GLB_CFG_WIDE = false) (hh : banksHeld (statsTaken v n f) = true) :
    opStatsReady n v = (statsTaken v n f).bump F.CAM_ST_STAT_DROP :=
  (opStatsReady_frame hq).trans ((if_neg (Bool.eq_false_iff.1 hw)).trans (if_pos hh))

theorem opStatsReady_bank (hq : statsFrame v n = some f)
    (hw : (statsTaken v n f).flag F.CAM_GLB_CFG_WIDE = false) (hh : banksHeld (statsTaken v n f) = false) :
    opStatsReady n v = if n < 4 then ((statsTaken v n f).writeBank n f.image).raise 115 n else statsTaken v n f :=
  (opStatsReady_frame hq).trans ((if_neg (Bool.eq_false_iff.1 hw)).trans (if_neg (Bool.eq_false_iff.1 hh)))

end

/-- Settles O56: each command by the cases of its operation. -/
theorem cameraFrames : Obligations.CameraFrames := by
  refine ⟨fun s t n => ?start, fun s t vc dt n bh bc b1 l => ?packet, fun s t n b => ?tap, fun s t n => ?frameEnd,
    fun s t n => ?deadline, fun s t n => ?stats⟩
  case start =>
    exact ⟨fun h => next_of_eq (opFrameStart_dead h),
      fun T k hl ho hr hw => next_of_eq (opFrameStart_opens hl ho hr hw),
      fun hl h => next_of_eq (opFrameStart_orphan hl h)⟩
  case packet =>
    refine ⟨fun he => next_of_eq (opLongPacket_disabled he),
      fun he hb hm => next_of_eq (opLongPacket_foreign he (not_or_intro (Bool.eq_false_iff.1 hb) hm)),
      fun he hm h => next_of_eq (opLongPacket_noFrame he hm h), fun f he horph hopen => ⟨fun hs hm => ?_,
        fun hs hb => ?_, fun hs hb hm => ?_⟩⟩
    · exact next_of_eq ((opLongPacket_open he hm horph hopen).trans (if_pos hs))
    · exact next_of_eq ((opLongPacket_open he (.inl hb) horph hopen).trans
        ((if_neg (Bool.eq_false_iff.1 hs)).trans (if_pos hb)))
    · have hline := (opLongPacket_open (bc := bc) (l := l) he (.inr hm) horph hopen).trans
        ((if_neg (Bool.eq_false_iff.1 hs)).trans (if_neg (Bool.eq_false_iff.1 hb)))
      refine ⟨fun hf => next_of_eq (hline.trans (lineReceived_overflow hf)), fun hf hc => ?_, fun hf hc hl => ?_,
        fun hf hc hl hh => ?_⟩ <;> subst hc
      · exact next_of_eq (hline.trans (lineReceived_badCrc hf))
      · exact next_of_eq (hline.trans (lineReceived_badLength hf hl))
      · exact next_of_eq (hline.trans (lineReceived_good hf hl hh))
  case tap =>
    exact ⟨fun hq => next_of_eq (opTapLine_idle rfl hq),
      fun f hq => ⟨fun h => next_of_eq (opTapLine_waits rfl hq h),
        fun h ho => next_of_eq (opTapLine_late rfl hq h ho),
        fun h ho => ⟨fun hu => next_of_eq (opTapLine_unusable rfl hq h ho hu),
          fun hu hn => next_of_eq (opTapLine_sends rfl hq h ho hu hn)⟩⟩⟩
  case frameEnd =>
    exact ⟨fun h => next_of_eq (opFrameEnd_orphan h), fun horph hopen => next_of_eq (opFrameEnd_noFrame horph hopen),
      fun f horph hopen => ⟨fun hl hs => next_of_eq (opFrameEnd_linesMissing horph hopen hl hs),
        fun hl ht => next_of_eq (opFrameEnd_overrun horph hopen hl ht),
        fun hl ht => next_of_eq (opFrameEnd_closes horph hopen hl ht)⟩⟩
  case deadline =>
    exact ⟨fun h => next_of_eq (opFrameDeadline_noneDue h), fun f h => next_of_eq (opFrameDeadline_oneDue h)⟩
  case stats =>
    exact ⟨fun hq => next_of_eq (opStatsReady_none hq), fun f hq => ⟨fun hw => next_of_eq (opStatsReady_wide hq hw),
      fun hw hh => next_of_eq (opStatsReady_held hq hw hh), fun hw hh => next_of_eq (opStatsReady_bank hq hw hh)⟩⟩

end Sys2Proof
end

section
/-!
PROOFS. The GNSS baseband: the statements about GNSS time, its pulse per second and the antenna, and about epochs,
message units, injected solutions and settings (08_gnss_baseband.md).
-/

namespace Sys2Proof

open Machine

/-! ### GNSS time and the pulse per second (R206, R209 to R211) -/

section
variable {v : State} {second ns : Nat} {est q : Int}

theorem opTimeInvalid_lapses (hv : v.flag F.GNS_STAT_TIMEVALID = true)
    (h : v.gns.lastFix + 2 * psPerS ≤ v.modTime) :
    opTimeInvalid v =
      let w := v.setFlag F.GNS_STAT_TIMEVALID false
      let u := ({ w with gns := { w.gns with firstSeen := false } } : State).raise 129 0
      if u.flag F.GNS_PPS_CFG_FREERUN = true then u else u.setPps false 0 :=
  if_neg (by simp [hv, h])

/-- QERR of an edge whose second the solution places `est` after it: the antenna delay is taken off (R210,
log entry 112). -/
def edgeQerr (v : State) (est : Int) : Int := est - 1000 * v.fld F.GNS_ANTDLY_NS

/-- The internal edge of a GPS second is kept: time has been valid for 100 ms, the second has had no edge yet, and
the edge is the grid point nearest to it, the earlier one at a tie (R209, R210, log entry 112). -/
def edgeKept (v : State) (second : Nat) (est : Int) : Prop :=
  v.flag F.GNS_STAT_TIMEVALID = true ∧ v.gns.validFrom + 100 * psPerMs ≤ v.modTime ∧
    v.gns.lastSec ≠ some second ∧ -2500 < edgeQerr v est ∧ edgeQerr v est ≤ 2500

theorem edgeDropped_iff :
    (!(v.flag F.GNS_STAT_TIMEVALID && decide (v.gns.validFrom + 100 * psPerMs ≤ v.modTime)) ||
      v.gns.lastSec == some second || decide (edgeQerr v est ≤ -2500) || decide (2500 < edgeQerr v est)) = true ↔
      ¬ edgeKept v second est := by
  simp only [edgeKept, Bool.or_eq_true, Bool.not_eq_true', Bool.and_eq_false_iff, decide_eq_true_eq,
    decide_eq_false_iff_not, beq_iff_eq, not_and_or, not_not, not_lt, not_le, Bool.not_eq_true, or_assoc]

theorem opPpsEdge_dropped (h : ¬ edgeKept v second est) : opPpsEdge second est v = v :=
  if_pos (edgeDropped_iff.2 h)

theorem opPpsEdge_kept (h : edgeKept v second est) :
    opPpsEdge second est v =
      let w : State := { v with gns := { v.gns with
        edge := some (v.modNs, edgeQerr v est), due := some (v.modNs, second), lastSec := some second } }
      if v.flag F.GNS_PPS_CFG_EN = true then w.ppsPulse 0 else w :=
  if_neg (mt edgeDropped_iff.1 (not_not_intro h))

theorem opQerr_inTime (he : v.gns.edge = some (ns, q)) (h : v.modNs ≤ ns + 100000000) :
    opQerr v =
      let w : State := { v with gns := { v.gns with edge := none } }
      ((w.gnssRecord (ppsWords ns 0 q)).setFld F.GNS_PPS_QERR_QERR (ofSigned 32 q)).correctEdge ns q := by
  simp only [opQerr, he]
  exact if_neg (Nat.not_lt.2 h)

theorem opQerr_late (he : v.gns.edge = some (ns, q)) (h : ns + 100000000 < v.modNs) : opQerr v = v := by
  simp only [opQerr, he]
  exact if_pos h

theorem opFreerun_pulses (hv : v.flag F.GNS_STAT_TIMEVALID = false) (hf : v.flag F.GNS_PPS_CFG_FREERUN = true)
    (he : v.flag F.GNS_PPS_CFG_EN = true) (hw : v.atWhole 1000 = true)
    (hs : (v.modNs + v.tbOfs) % 1000000000 = 0) (hm : v.mode.gnss = true) :
    opFreerun v = (v.ppsPulse 1).gnssRecord (ppsWords v.modNs 1 0) :=
  if_neg (by simp [hv, hf, he, hw, hs, hm])

end

/-! ### The antenna's bias current (R216) -/

section
variable {v : State} {ua : Nat} {short : Bool}

theorem judgeBias_inRange (h : biasFault ua short = false) : v.judgeBias ua short = v.setFlag (antFlag short) false :=
  if_pos (by rw [h]; rfl)

theorem judgeBias_lasts (h : biasFault ua short = true) (hf : v.flag (antFlag short) = true) :
    v.judgeBias ua short = v :=
  (if_neg (by simp [h])).trans (if_pos hf)

theorem judgeBias_begins (h : biasFault ua short = true) (hf : v.flag (antFlag short) = false) :
    v.judgeBias ua short = (v.setFlag (antFlag short) true).raise 134 (boolNat short) :=
  (if_neg (by simp [h])).trans (if_neg (Bool.eq_false_iff.1 hf))

theorem biasFault_open : biasFault ua false = true ↔ ua < 2000 := decide_eq_true_iff

theorem biasFault_short : biasFault ua true = true ↔ 150000 ≤ ua := decide_eq_true_iff

theorem biasFault_open_false : biasFault ua false = false ↔ 2000 ≤ ua := by simp [biasFault]

theorem biasFault_short_false : biasFault ua true = false ↔ ua < 150000 := by simp [biasFault]

theorem opAntenna_unpowered (hm : v.mode.gnss = false) : opAntenna ua v = v := if_pos (by rw [hm]; rfl)

theorem opAntenna_powered (hm : v.mode.gnss = true) : opAntenna ua v = (v.judgeBias ua false).judgeBias ua true :=
  if_neg (by simp [hm])

/-- Clearing ANTOPEN leaves ANTSHORT, a bit of the same register. -/
theorem antShort_clearOpen : (v.setFlag F.GNS_STAT_ANTOPEN false).flag F.GNS_STAT_ANTSHORT =
    v.flag F.GNS_STAT_ANTSHORT :=
  flag_setFlag_ne _ _ _ _ (by unfold Fld.ok; decide) (.inr (.inl (by decide)))

/-- A bias current below 2 mA is far from the limit of a short. -/
theorem opAntenna_open (hm : v.mode.gnss = true) (h : ua < 2000) :
    opAntenna ua v = (v.judgeBias ua false).setFlag F.GNS_STAT_ANTSHORT false :=
  (opAntenna_powered hm).trans (judgeBias_inRange (biasFault_short_false.2 (by omega)))

theorem opAntenna_openBegins (hm : v.mode.gnss = true) (h : ua < 2000) (hf : v.flag F.GNS_STAT_ANTOPEN = false) :
    opAntenna ua v = ((v.setFlag F.GNS_STAT_ANTOPEN true).raise 134 0).setFlag F.GNS_STAT_ANTSHORT false := by
  rw [opAntenna_open hm h, judgeBias_begins (biasFault_open.2 h) hf]
  rfl

theorem opAntenna_openLasts (hm : v.mode.gnss = true) (h : ua < 2000) (hf : v.flag F.GNS_STAT_ANTOPEN = true) :
    opAntenna ua v = v.setFlag F.GNS_STAT_ANTSHORT false := by
  rw [opAntenna_open hm h, judgeBias_lasts (biasFault_open.2 h) hf]

theorem opAntenna_notOpen (hm : v.mode.gnss = true) (h : 2000 ≤ ua) :
    opAntenna ua v = (v.setFlag F.GNS_STAT_ANTOPEN false).judgeBias ua true :=
  (opAntenna_powered hm).trans (congrArg (State.judgeBias · ua true) (judgeBias_inRange (biasFault_open_false.2 h)))

theorem opAntenna_shortBegins (hm : v.mode.gnss = true) (h : 150000 ≤ ua) (hf : v.flag F.GNS_STAT_ANTSHORT = false) :
    opAntenna ua v = ((v.setFlag F.GNS_STAT_ANTOPEN false).setFlag F.GNS_STAT_ANTSHORT true).raise 134 1 :=
  (opAntenna_notOpen hm (by omega)).trans (judgeBias_begins (biasFault_short.2 h) (antShort_clearOpen.trans hf))

theorem opAntennaEnd_clears (hm : v.mode.gnss = true) (hlo : 2000 ≤ ua) (hhi : ua < 150000) :
    opAntennaEnd ua v = (v.setFlag F.GNS_STAT_ANTOPEN false).setFlag F.GNS_STAT_ANTSHORT false := by
  have hopen := biasFault_open_false.2 hlo
  have hshort := biasFault_short_false.2 hhi
  exact (if_neg (by simp [hopen, hshort])).trans ((opAntenna_notOpen hm hlo).trans (judgeBias_inRange hshort))

end

/-- Settles O29: each command by the cases of its operation. -/
theorem gnssTime : Obligations.GnssTime := by
  refine ⟨fun s t hv h => next_of_eq (opTimeInvalid_lapses hv h), fun s t second est => ?edge,
    fun s t ns q he => ?qerr, fun s t hv hf he hw hs hm => next_of_eq (opFreerun_pulses hv hf he hw hs hm),
    fun s t ua hm => ?antenna, fun s t ua hm => next_of_eq (opAntenna_unpowered hm)⟩
  case edge =>
    exact ⟨fun h => next_of_eq (opPpsEdge_dropped h), fun h => next_of_eq (opPpsEdge_kept h)⟩
  case qerr =>
    exact ⟨fun h => next_of_eq (opQerr_inTime he h), fun h => next_of_eq (opQerr_late he h)⟩
  case antenna =>
    exact ⟨fun h hf => next_of_eq (opAntenna_openBegins hm h hf),
      fun h hf => next_of_eq (opAntenna_openLasts hm h hf),
      fun h hf => next_of_eq (opAntenna_shortBegins hm h hf),
      fun hlo hhi => next_of_eq (opAntennaEnd_clears hm hlo hhi)⟩

/-! ### Epochs (R203, R205) -/

section
variable {v : State}

theorem epochDue_iff : v.epochDue = true ↔ v.flag F.GNS_CFG_EN = true ∧ v.mode.gnss = true ∧
    v.atWhole v.epochPeriod = true ∧ v.gns.epochAt ≠ some v.modNs := by
  simp only [State.epochDue, Bool.and_eq_true, bne_iff_ne, and_assoc]

theorem opGnssEpoch_idle (meas : List GnsMeas) (search : List (Nat × Nat × Nat × Nat)) (sol : GnsSol)
    (h : ¬ v.epochDue = true) : opGnssEpoch meas search sol v = v :=
  if_pos (by simpa using h)

/-- With no slot the solver yields no position (R205). -/
theorem solveFix_nil : solveFix [] = (0, []) := rfl

/-- Every channel is idle. -/
def channelsIdle (v : State) : State := (List.range 96).foldl (fun w c => w.setReg (R.GNS_CH_STAT c) 0) v

/-- An epoch has come in which no channel measures. -/
def epochBegun (v : State) : State := { v with gns := { v.gns with
  epoch := (v.gns.epoch + 1) % 2 ^ 32, epochAt := some v.modNs, fresh := true, elev := [] } }

/-- The epoch has no position: its record says so, and FIX is 0 (R205). -/
def withoutFix (v : State) (sol : GnsSol) : State :=
  let u := v.gnssRecord (solWords v sol 0 0 0 false)
  (((u.setFld F.GNS_STAT_FIX 0).setFld F.GNS_STAT_SVUSED 0).setFld F.GNS_STAT_SVDUAL 0).takeSolution default 0

theorem opGnssEpoch_noChannel (sol : GnsSol) (h : v.epochDue = true) :
    opGnssEpoch [] [] sol v = withoutFix (channelsIdle (epochBegun v)) sol := by
  refine (if_neg (by simp [h])).trans ?_
  extract_lets ms _ begun idle us
  have hms : ms = [] := rfl
  have hbegun : begun = epochBegun v := rfl
  have hidle : idle = channelsIdle begun := rfl
  have hus : us = [] := rfl
  clear_value us idle begun ms
  rw [hus, hms, solveFix_nil, ← hbegun, ← hidle]
  calc _ = withoutFix (if idle.flag F.GNS_RING_CTL_MEAS = true then idle else idle) sol := rfl
    _ = withoutFix idle sol := by rw [ite_self]

end

/-! ### Message units (R207) -/

section
variable {v : State} {ch ns : Nat} {bits : List Flit} {inv : Bool}

/-- The unit of a channel passes the check of its signal. -/
def unitPasses (v : State) (ch : Nat) (bits : List Flit) (inv : Bool) : Bool :=
  let sig := sigOf ch (v.flag (F.GNS_CH_STAT_SYS ch))
  navCheck sig (navValue (navBits sig) bits inv) == if sig = 0 then 1023 else 1

/-- The state in which a channel's unit is counted: a passed one marks its satellite as heard, a failed one is
reported. -/
def unitCounted (v : State) (ch : Nat) (pass : Bool) : State :=
  let sat := (v.flag (F.GNS_CH_STAT_SYS ch), v.fld (F.GNS_CH_STAT_PRN ch))
  if pass then { v.bump F.GNS_NAV_CNT_PASSED with
      gns := { v.gns with heard := if v.gns.heard.contains sat = true then v.gns.heard else sat :: v.gns.heard } }
  else (v.bump F.GNS_NAV_CNT_FAILED).raiseOnce 133 0 ch

theorem unitCounted_nav (pass : Bool) :
    (unitCounted v ch pass).flag F.GNS_RING_CTL_NAV = v.flag F.GNS_RING_CTL_NAV := by
  unfold unitCounted
  split
  · exact flag_congr (reg_congr rfl _)
  · exact ((reports_bump _ _).trans (reports_raiseOnce _ _ _ (by decide))).flag _ (by decide)

theorem opNavUnit_counts (he : v.flag F.GNS_CFG_EN = true) (hs : v.fld (F.GNS_CH_STAT_STATE ch) = 3)
    (hn : v.flag F.GNS_RING_CTL_NAV = false) :
    opNavUnit ch bits inv ns v = unitCounted v ch (unitPasses v ch bits inv) := by
  have hnav := (unitCounted_nav (ch := ch) (unitPasses v ch bits inv)).trans hn
  refine (if_neg (by simp [he, hs])).trans (if_pos ?_)
  exact Bool.or_eq_true_iff.2 (.inl (by rw [Bool.not_eq_true']; exact hnav))

end

/-! ### Injected solutions (R212) -/

section
variable {v : State} {x : Word}

theorem injWord_commit (x : Word) : (x ||| 8#32).getLsbD 3 = true := by simp

/-- The written solution is of FIX 3 or 4 and names the newest epoch, for which none was taken yet and which no other
replaces at this instant (R212, R215). -/
def injTaken (v : State) : Prop :=
  (v.fld F.GNS_INJ_CTL_FIX = 3 ∨ v.fld F.GNS_INJ_CTL_FIX = 4) ∧ v.gns.fresh = true ∧ v.epochDue = false ∧
    v.fld F.GNS_INJ_CTL_EPOCH = v.gns.epoch % 65536

theorem injRefused_iff : (!(v.fld F.GNS_INJ_CTL_FIX == 3 || v.fld F.GNS_INJ_CTL_FIX == 4) || !v.gns.fresh ||
    v.epochDue || v.fld F.GNS_INJ_CTL_EPOCH != v.gns.epoch % 65536) = true ↔ ¬ injTaken v := by
  simp only [injTaken, Bool.or_eq_true, Bool.not_eq_true', Bool.or_eq_false_iff, beq_eq_false_iff_ne, bne_iff_ne,
    not_and_or, not_or, Bool.not_eq_true, Bool.not_eq_false, or_assoc, ne_eq]

/-- The position that the host injects: the solver's solution with the written place and the machine's heading. -/
def injSolution (v : State) : GnsSol :=
  { v.gns.sol with lat := toSigned 32 (v.fld F.GNS_INJ_LAT_VALUE), lon := toSigned 32 (v.fld F.GNS_INJ_LON_VALUE)
                   height := toSigned 32 (v.fld F.GNS_INJ_HGT_VALUE), heading := v.fus.pose.heading / 10000000 }

theorem opInjCommit_refused (h : ¬ injTaken (v.plainWrite R.GNS_INJ_CTL (x ||| 8#32))) :
    opInjCommit (x ||| 8#32) v = (v.plainWrite R.GNS_INJ_CTL (x ||| 8#32)).setFlag F.GNS_STAT_INJREJ true :=
  (if_neg (by rw [injWord_commit]; decide)).trans (if_pos (injRefused_iff.2 h))

/-- The injected solution has become the epoch's position and FIX, and its record is written. -/
def injApplied (v : State) : State :=
  let f := v.fld F.GNS_INJ_CTL_FIX
  let w := (v.takeSolution (injSolution v) f).setFld F.GNS_STAT_FIX f
  let u : State := { w with gns := { w.gns with fresh := false } }
  u.gnssRecord (solWords u (injSolution v) f (u.fld F.GNS_STAT_SVUSED) (u.fld F.GNS_STAT_SVDUAL) true)

theorem opInjCommit_taken (h : injTaken (v.plainWrite R.GNS_INJ_CTL (x ||| 8#32))) :
    opInjCommit (x ||| 8#32) v = injApplied (v.plainWrite R.GNS_INJ_CTL (x ||| 8#32)) :=
  (if_neg (by rw [injWord_commit]; decide)).trans (if_neg (mt injRefused_iff.1 (not_not_intro h)))

end

/-! ### Settings (R215) -/

theorem opGnsCfgWrite_rejects {v : State} {x : Word} (he : v.flag F.GNS_CFG_EN = true)
    (h : bitsOf x.toNat 1 4 ≠ bitsOf (v.reg R.GNS_CFG).toNat 1 4) :
    opGnsCfgWrite 0 x v =
      let kept := bitsOf (v.reg R.GNS_CFG).toNat 1 4
      let w := (v.setFlag F.GNS_STAT_CFGREJ true).plainWrite R.GNS_CFG (setBits x 1 4 kept)
      let u := w.setFld F.GNS_CFG_ELMASK (min 90 (w.fld F.GNS_CFG_ELMASK))
      if u.flag F.GNS_CFG_EN = true then u.releaseSlots else channelsIdle u := by
  have hrej := bne_iff_ne.2 h
  simp only [opGnsCfgWrite, if_pos he, if_pos hrej]
  rfl

/-- Settles O30: each command by the cases of its operation; that a unit's record follows turns on NAV, which
counting the unit leaves (`unitCounted_nav`). -/
theorem gnssChannels : Obligations.GnssChannels := by
  refine ⟨fun s t x h => next_of_eq (opGnssEpoch_noChannel x h), fun s t m y x h => ?idle,
    fun s t ch bits inv ns he hs hn => ?unit, fun s t x => ?inject,
    fun s t x he h => next_of_eq (opGnsCfgWrite_rejects he h)⟩
  case idle =>
    refine next_of_eq (opGnssEpoch_idle m y x fun hdue => ?_)
    obtain ⟨hen, hmode, hwhole, hnew⟩ := epochDue_iff.1 hdue
    rcases h with h | h | h | h
    · exact Bool.eq_false_iff.1 h hen
    · exact Bool.eq_false_iff.1 h hmode
    · exact Bool.eq_false_iff.1 h hwhole
    · exact hnew h
  case unit =>
    have hcount := opNavUnit_counts (bits := bits) (inv := inv) (ns := ns) he hs hn
    exact ⟨fun hp => next_of_eq (hcount.trans (if_pos (beq_iff_eq.2 hp))),
      fun hp => next_of_eq (hcount.trans (if_neg (mt beq_iff_eq.1 hp)))⟩
  case inject =>
    refine ⟨fun h => next_of_eq (opInjCommit_refused fun ⟨hfix, hfresh, hdue, hepoch⟩ => ?_),
      fun hfix hfresh hdue hepoch => next_of_eq (opInjCommit_taken ⟨hfix, hfresh, hdue, hepoch⟩)⟩
    rcases h with ⟨h3, h4⟩ | h | h | h
    · exact hfix.elim h3 h4
    · exact Bool.eq_false_iff.1 h hfresh
    · exact Bool.eq_false_iff.1 hdue h
    · exact h hepoch

end Sys2Proof
end

section
/-!
PROOFS. Host rings and contexts: the statements about events, and about the start and the completion of operations
(09_host_rings_and_contexts.md).
-/

namespace Sys2Proof

open Machine

/-! ### Events (R243 to R245) -/

/-- Settles O9: raising sets the registers of its own event (`raised_raise`) and of no other but 34
(`sameEvent_raise`). -/
theorem eventRaised : Obligations.EventRaised := fun s _ arg he hne =>
  ⟨raised_raise s arg he hne, fun _ hd hd34 hde => sameEvent_raise s arg he hd hde.symm hd34⟩

/-- Settles O10: every part of a raise is a report. -/
theorem eventFrame : Obligations.EventFrame := fun s _ arg he => reports_raise s arg he

/-! ### The completion of an operation (R226, R233, R239, R253) -/

section
variable {s : State} {o : Op} {code : Nat}

/-- A record advances CQ_TAIL of its context by one (R226). -/
theorem cqTail_writeRecord (s : State) (c body : Nat) (irq : Bool) :
    ((s.writeRecord c body irq).ctxSt c).cqTail = ((s.ctxSt c).cqTail + 1) % 65536 := by
  simp only [State.writeRecord, State.updateLine, ctxSt_setCtx_self]
  exact congrArg CtxSt.cqTail (ctxSt_setCtx_self _ _ _)

theorem ops_writeRecord (s : State) (c body : Nat) (irq : Bool) : (s.writeRecord c body irq).host.ops = s.host.ops := rfl

theorem ctxSt_bumpIf (p : Prop) [Decidable p] (s : State) (f : Fld) (c : Nat) :
    (if p then s.bump f else s).ctxSt c = s.ctxSt c := by
  split <;> rfl

theorem ctxSt_tallyCode (s : State) (c cls code c' : Nat) : (s.tallyCode c cls code).ctxSt c' = s.ctxSt c' := by
  simp only [State.tallyCode, ctxSt_bumpIf]

theorem ops_tallyCode (s : State) (c cls code : Nat) : (s.tallyCode c cls code).host.ops = s.host.ops :=
  (reports_tallyCode s c cls code).ops

/-- The code that a completion reports: DONE after the deadline is DONE_LATE (R253). -/
def reportedCode (s : State) (o : Op) (code : Nat) : Nat :=
  if code = codeDone ∧ o.deadline < s.now then codeDoneLate else code

/-- DETAIL of a completion: that of DONE_LATE is the excess in µs (R253). -/
def reportedDetail (s : State) (o : Op) (code detail : Nat) : Nat :=
  if code = codeDone ∧ o.deadline < s.now then satBits 32 ((s.now - o.deadline) / psPerUs) else detail

/-- The state in which a completed operation has left those in flight and its outcome is tallied. -/
def completed (s : State) (o : Op) (code : Nat) : State :=
  (s.dropOp o.ctx o.tag).tallyCode o.ctx o.cls (reportedCode s o code)

theorem ops_completed (s : State) (o : Op) (code : Nat) :
    (completed s o code).host.ops = removeFirst (fun x => x.ctx == o.ctx && x.tag == o.tag) s.host.ops :=
  ops_tallyCode _ _ _ _

theorem ctxSt_completed (s : State) (o : Op) (code c : Nat) : (completed s o code).ctxSt c = s.ctxSt c :=
  ctxSt_tallyCode _ _ _ _ _

/-- Only DONE in time is reported as DONE. -/
theorem reportedCode_done_iff : reportedCode s o code = codeDone ↔ code = codeDone ∧ s.now ≤ o.deadline := by
  unfold reportedCode codeDoneLate codeDone
  split <;> omega

/-- A completion in cases: QUIET with DONE in time writes no record, every other one does. -/
theorem finish_eq (s : State) (o : Op) (code detail result : Nat) : s.finish o code detail result =
    if o.quiet = true ∧ code = codeDone ∧ s.now ≤ o.deadline then completed s o code
    else (completed s o code).writeRecord o.ctx (recordBody o.tag (reportedCode s o code) o.opcode
      (reportedDetail s o code detail) result (completed s o code).modUs 0) o.irq := by
  have hlate : (code == codeDone && decide (o.deadline < s.now)) = true ↔ code = codeDone ∧ o.deadline < s.now := by simp
  simp only [State.finish, hlate]
  refine if_congr ?_ rfl rfl
  rw [Bool.and_eq_true, beq_iff_eq]
  exact and_congr_right fun _ => reportedCode_done_iff

/-- QUIET with DONE in time: the slot is released without a record (R239). -/
theorem finish_silent (detail result : Nat) (h : o.quiet = true ∧ code = codeDone ∧ s.now ≤ o.deadline) :
    s.finish o code detail result = completed s o code := (finish_eq s o code detail result).trans (if_pos h)

/-- Every other completion writes its record (R226, R239, R253). -/
theorem finish_recorded (detail result : Nat) (h : ¬ (o.quiet = true ∧ code = codeDone ∧ s.now ≤ o.deadline)) :
    s.finish o code detail result = (completed s o code).writeRecord o.ctx (recordBody o.tag (reportedCode s o code)
      o.opcode (reportedDetail s o code detail) result (completed s o code).modUs 0) o.irq :=
  (finish_eq s o code detail result).trans (if_neg h)

end

/-- Settles O13: by whether the completion writes a record. -/
theorem operationCompletes : Obligations.OperationCompletes := by
  intro s o code detail result
  dsimp only
  by_cases h : o.quiet = true ∧ code = codeDone ∧ s.now ≤ o.deadline
  · rw [finish_silent detail result h, if_pos h, ctxSt_completed]
    exact ⟨ops_completed s o code, rfl⟩
  · rw [finish_recorded detail result h, if_neg h, cqTail_writeRecord, ops_writeRecord, ctxSt_completed]
    exact ⟨ops_completed s o code, rfl⟩

/-! ### The start of an operation (R231, R232, R240, R253) -/

section
variable {s : State} {c tag opcode : Nat} {o : Op} {f : State → Op → State}

theorem inTime_of_mayStart (h : s.mayStart o = true) : s.inTime o = true := by
  simp only [State.mayStart, Bool.and_eq_true] at h
  exact h.1.2

theorem inTime_iff : s.inTime o = true ↔ o.cls < 3 ∨ s.now ≤ o.deadline := by
  simp only [State.inTime, Bool.or_eq_true, decide_eq_true_eq]

theorem inTime_eq_false (hc : 3 ≤ o.cls) (hd : o.deadline < s.now) : s.inTime o = false :=
  Bool.eq_false_iff.2 fun h => by rcases inTime_iff.1 h with h | h <;> omega

/-- What a descriptor's command does to the operation that it names. -/
theorem beginOp_found (hf : s.findOp c tag = some o) : s.beginOp c tag opcode f =
    if o.opcode ≠ opcode ∨ s.servesRings = false then s
    else if o.phase = .queued ∧ s.inTime o = false then s.finish o codeRefusedCapacity 19 0
    else if s.mayStart o = false then s
    else match s.formFault o with
      | some d => ((s.startOp o).wakeBlock (opcodeBlock opcode)).finish o codeFaultDescriptor d 0
      | none =>
        let w := (s.startOp o).wakeBlock (opcodeBlock opcode)
        if w.crowded o = true then (w.finish o codeRefusedCapacity 18 0).raiseOnce 42 o.cls o.cls
        else f (w.takeTokens o) { o with phase := .started, startAt := w.now } := by
  simp only [State.beginOp, hf, formFault_hostAndTokens (started_hostAndTokens s o _), Bool.or_eq_true, bne_iff_ne,
    Bool.and_eq_true, beq_iff_eq, Bool.not_eq_true'] <;> rfl

/-- A malformed descriptor completes with its first offending field when it starts (R240). -/
theorem beginOp_malformed {d : Nat} (hf : s.findOp c tag = some o) (hop : o.opcode = opcode)
    (hmay : s.mayStart o = true) (hserve : s.servesRings = true) (hd : s.formFault o = some d) :
    s.beginOp c tag opcode f = ((s.startOp o).wakeBlock (opcodeBlock opcode)).finish o codeFaultDescriptor d 0 := by
  have hin := inTime_of_mayStart hmay
  rw [beginOp_found hf, if_neg (by simp [hop, hserve]), if_neg (by simp [hin]), if_neg (by simp [hmay]), hd]

/-- One that has not started by its deadline is refused (R253). -/
theorem beginOp_overdue (hf : s.findOp c tag = some o) (hop : o.opcode = opcode) (hq : o.phase = .queued)
    (hserve : s.servesRings = true) (hc : 3 ≤ o.cls) (hd : o.deadline < s.now) :
    s.beginOp c tag opcode f = s.finish o codeRefusedCapacity 19 0 := by
  rw [beginOp_found hf, if_neg (by simp [hop, hserve]), if_pos ⟨hq, inTime_eq_false hc hd⟩]

theorem beginOp_notFound (hf : s.findOp c tag = none) : s.beginOp c tag opcode f = s := by
  simp only [State.beginOp, hf]

/-- No operation of this opcode may start now. -/
theorem beginOp_stands (h : ∀ o, s.findOp c tag = some o → o.opcode ≠ opcode ∨ s.servesRings = false ∨
      (s.mayStart o = false ∧ (o.phase = .queued → o.cls < 3 ∨ s.now ≤ o.deadline))) :
    s.beginOp c tag opcode f = s := by
  cases hf : s.findOp c tag with
  | none => exact beginOp_notFound hf
  | some o =>
    rw [beginOp_found hf]
    rcases h o hf with hop | hserve | ⟨hmay, hdue⟩
    · exact if_pos (.inl hop)
    · exact if_pos (.inr hserve)
    · have hin : ¬ (o.phase = .queued ∧ s.inTime o = false) := fun ⟨hq, hlate⟩ =>
        Bool.eq_false_iff.1 hlate (inTime_iff.2 (hdue hq))
      rw [if_neg hin, if_pos hmay, ite_self]

end

/-- Each of the descriptor commands begins its operation by its opcode (R236, R237). -/
theorem exec_opCommand {t : Nat} {c : Fin 4096} {tag : Nat} {b b' : Bool} {j : Int} {es : List BrickError} :
    ∀ x, OpCommand t c tag b b' j es x → ∃ f, ∀ s : State,
      Machine.exec x.2 s = .next ((s.tick t).beginOp c.val tag x.1 f) := by
  unfold OpCommand
  simp only [List.forall_mem_cons]
  exact ⟨⟨opNop, fun _ => rfl⟩, ⟨opCfgWrite b, fun _ => rfl⟩, ⟨opCfgRead b, fun _ => rfl⟩, ⟨opRouteCommit, fun _ => rfl⟩,
    ⟨opStageDiscard, fun _ => rfl⟩, ⟨opLoopAdmit false, fun _ => rfl⟩, ⟨opLoopDisable, fun _ => rfl⟩,
    ⟨opLoopAdmit true, fun _ => rfl⟩, ⟨opLoopSwap, fun _ => rfl⟩, ⟨opLoopBankWrite b, fun _ => rfl⟩,
    ⟨opLoopRead b, fun _ => rfl⟩, ⟨opQuotaSet, fun _ => rfl⟩, ⟨opReclaim, fun _ => rfl⟩, ⟨opAcquire b, fun _ => rfl⟩,
    ⟨opRelease, fun _ => rfl⟩, ⟨opDmaCopy b es, fun _ => rfl⟩, ⟨opOxFaultClear b j, fun _ => rfl⟩,
    ⟨opOxStatusRead, fun _ => rfl⟩, ⟨opMulFaultClear j, fun _ => rfl⟩, ⟨opMulStatusRead, fun _ => rfl⟩,
    ⟨opCanTx b, fun _ => rfl⟩, ⟨opFifoDrain, fun _ => rfl⟩, ⟨opIdSign b, fun _ => rfl⟩,
    ⟨opSessionOpen b b', fun _ => rfl⟩, ⟨opSessionClose, fun _ => rfl⟩, ⟨opRebind b, fun _ => rfl⟩,
    ⟨opHenWrite, fun _ => rfl⟩, ⟨opHenRead b, fun _ => rfl⟩, ⟨opHenClear, fun _ => rfl⟩, List.forall_mem_nil _⟩

/-! ### Arguments out of their range (R231, R240) -/

section
variable {o : Op}

/-- A range fault of a defined opcode is one of the descriptor's faults, in word 1 and of kind 3. -/
theorem mem_faults_of_rangeBits {k bit : Nat} (h : o.opcode = k) (hd : (opcodeBits k).isSome = true)
    (hb : bit ∈ o.rangeBits) : (1, bit, 3) ∈ o.faults := by
  obtain ⟨d, hd⟩ := Option.isSome_iff_exists.1 hd
  simp only [Op.faults, h, hd]
  exact List.mem_append_right _ (List.mem_map_of_mem hb)

theorem canController_faults (h : o.opcode = 0x50 ∨ o.opcode = 0x51) (hc : 12 ≤ o.arg1 0 4) : (1, 0, 3) ∈ o.faults := by
  rcases h with h | h <;> exact mem_faults_of_rangeBits h rfl (by simp [Op.rangeBits, h, hc])

theorem drainCount_faults (h : o.opcode = 0x51) (hn : o.arg1 4 4 = 0 ∨ 8 < o.arg1 4 4) : (1, 4, 3) ∈ o.faults :=
  mem_faults_of_rangeBits h rfl (by simp [Op.rangeBits, h, hn])

theorem bankRows_faults (h : o.opcode = 0x24) (hn : o.arg1 22 7 = 0 ∨ 64 < o.arg1 16 6 + o.arg1 22 7) :
    (1, 22, 3) ∈ o.faults :=
  mem_faults_of_rangeBits h rfl (by simp [Op.rangeBits, h, hn])

theorem quotaKind_faults (h : o.opcode = 0x30) (hk : 6 ≤ o.arg1 16 4) : (1, 16, 3) ∈ o.faults :=
  mem_faults_of_rangeBits h rfl (by simp [Op.rangeBits, h, hk])

theorem configUnit_faults (h : o.opcode = 0x10 ∨ o.opcode = 0x11)
    (hu : (if o.arg1 7 1 = 1 then 20 else 4) < o.arg1 8 5) : (1, 8, 3) ∈ o.faults := by
  rcases h with h | h <;> exact mem_faults_of_rangeBits h rfl (by simp [Op.rangeBits, h, hu])

theorem configOffset_faults (h : o.opcode = 0x10 ∨ o.opcode = 0x11) (ha : o.arg1 64 32 % 16 ≠ 0) :
    (1, 64, 3) ∈ o.faults := by
  rcases h with h | h <;> exact mem_faults_of_rangeBits h rfl (by simp [Op.rangeBits, h, ha])

theorem configLength_faults (h : o.opcode = 0x10 ∨ o.opcode = 0x11)
    (hn : o.arg1 96 16 % 16 ≠ 0 ∨ o.arg1 96 16 < 16 ∨ 4096 < o.arg1 96 16) : (1, 96, 3) ∈ o.faults := by
  rcases h with h | h <;>
    exact mem_faults_of_rangeBits h rfl (by simp [Op.rangeBits, h, or_assoc, hn])

theorem reclaimKind_faults (h : o.opcode = 0x31) (hk : o.arg1 0 8 = 0 ∨ 5 < o.arg1 0 8) : (1, 0, 3) ∈ o.faults :=
  mem_faults_of_rangeBits h rfl (by simp [Op.rangeBits, h, hk])

theorem reclaimCount_faults (h : o.opcode = 0x31) (hn : 256 < o.arg1 16 9) : (1, 16, 3) ∈ o.faults :=
  mem_faults_of_rangeBits h rfl (by simp [Op.rangeBits, h, hn])

theorem copyRow_faults (h : o.opcode = 0x34) (hr : 448 ≤ o.arg1 32 9) : (1, 32, 3) ∈ o.faults :=
  mem_faults_of_rangeBits h rfl (by simp [Op.rangeBits, h, hr])

theorem copyLength_faults (h : o.opcode = 0x34)
    (hn : o.arg1 48 16 % 16 ≠ 0 ∨ o.arg1 48 16 < 16 ∨ 4096 < o.arg1 48 16) : (1, 48, 3) ∈ o.faults :=
  mem_faults_of_rangeBits h rfl (by simp [Op.rangeBits, h, or_assoc, hn])

theorem oxChannel_faults (h : o.opcode = 0x40) (hc : 48 ≤ o.arg1 0 6) : (1, 0, 3) ∈ o.faults :=
  mem_faults_of_rangeBits h rfl (by simp [Op.rangeBits, h, hc])

theorem henCount_faults (h : o.opcode = 0x71) (hn : o.arg1 32 16 = 0 ∨ 4096 < o.arg1 32 16) : (1, 32, 3) ∈ o.faults :=
  mem_faults_of_rangeBits h rfl (by simp [Op.rangeBits, h, hn])

/-- ACQUIRE and RELEASE share their ranges (R269). -/
theorem request_faults {bit : Nat} (h : o.opcode = 0x32 ∨ o.opcode = 0x33) (hb : bit ∈ o.requestRange) :
    (1, bit, 3) ∈ o.faults := by
  rcases h with h | h <;> exact mem_faults_of_rangeBits h rfl (by simpa [Op.rangeBits, h] using hb)

theorem requestKind_faults (h : o.opcode = 0x32 ∨ o.opcode = 0x33) (hk : o.arg1 0 8 = 0 ∨ 4 < o.arg1 0 8) :
    (1, 0, 3) ∈ o.faults :=
  request_faults h (by simp [Op.requestRange, hk])

theorem acquireCount_faults (h : o.opcode = 0x32) (hk : o.arg1 0 8 = 1) (hn : o.arg1 32 9 = 0 ∨ 448 < o.arg1 32 9) :
    (1, 32, 3) ∈ o.faults :=
  request_faults (.inl h) (by simp [Op.requestRange, h, hk, hn])

theorem requestIndex_faults (h : o.opcode = 0x32 ∨ o.opcode = 0x33) (hlo : 2 ≤ o.arg1 0 8) (hhi : o.arg1 0 8 ≤ 4)
    (hi : quotaCap (o.arg1 0 8) ≤ o.arg1 48 16) : (1, 48, 3) ∈ o.faults := by
  have hkind : ¬ (o.arg1 0 8 < 1 ∨ 4 < o.arg1 0 8) := by omega
  have hone : o.arg1 0 8 ≠ 1 := by omega
  exact request_faults h (by
    simp only [Op.requestRange, if_neg hkind, hone, and_false, if_false, if_pos hi, List.mem_singleton])

theorem releaseSegment_faults (h : o.opcode = 0x33) (hk : o.arg1 0 8 = 1) (hi : 448 ≤ o.arg1 48 16) :
    (1, 48, 3) ∈ o.faults :=
  request_faults (.inr h) (by simp [Op.requestRange, h, hk, hi])

end

/-- Settles O14: a command is the start of its operation (`exec_opCommand`), which goes by what stands against it;
each range by its field. -/
theorem operationStarts : Obligations.OperationStarts := by
  refine ⟨fun s t c tag o h => next_of_eq (beginOp_startable h opNop), fun s t c tag b b' j es x hx => ?_, fun o => ?_⟩
  · obtain ⟨f, hexec⟩ := exec_opCommand x hx
    rw [hexec s]
    exact ⟨fun d o hf hop hmay hserve hd => next_of_eq (beginOp_malformed hf hop hmay hserve hd),
      fun o hf hop hq hserve hc hd => next_of_eq (beginOp_overdue hf hop hq hserve hc hd),
      fun h => next_of_eq (beginOp_stands h)⟩
  · exact ⟨canController_faults, drainCount_faults, bankRows_faults, quotaKind_faults, requestKind_faults,
      acquireCount_faults, requestIndex_faults, releaseSegment_faults, configUnit_faults, configOffset_faults,
      configLength_faults, reclaimKind_faults, reclaimCount_faults, copyRow_faults, copyLength_faults, oxChannel_faults,
      henCount_faults⟩

end Sys2Proof
end

section
/-!
PROOFS. Host rings and contexts: the statements about tally boundaries and RESYNC summaries, about contexts and
doorbells, and about the operations in flight (09_host_rings_and_contexts.md).
-/

namespace Sys2Proof

open Machine

/-! ### Tally boundaries (R245, R246) -/

section
variable {v : State} {x : Word}

/-- The counters latched and the number of self-tests shown, at the boundary b (R245). -/
def talliesLatched (a : State) (b : Nat) : State :=
  a.henClose.latchTallies.setFld F.GOO_DIAG_STESTN (satBits 16 (b / 1000 - a.host.tallyLast / 1000))

/-- SEQ of the tally that a boundary closes (R245). -/
def tallySeq (c : State) : Nat := (c.fld F.GLB_TALLY_SEQ_SEQ + 1) % 2 ^ 31

/-- The period after the boundary b begun, with event 39 (R245, R246); `last` and `period` are those of the one
before. -/
def periodBegun (c : State) (b last period : Nat) : State :=
  let d := (c.setFld F.GLB_TALLY_SEQ_SEQ (tallySeq c)).setFlag F.GLB_TALLY_SEQ_SHORT (decide (b - last < period))
  let p := max 1 (d.fld F.GLB_TALLY_CFG_PERIOD_MS)
  ({ d with host := { d.host with tallyLast := b, tallyNext := (b / p + 1) * p, tallyPeriod := p } } : State).raise 39
    (tallySeq c)

theorem opTallyBoundary_due (hrun : v.hubRuns = true) (h0 : v.nextBoundary ≠ 0)
    (ht : v.nextBoundary * psPerMs ≤ v.modTime) : opTallyBoundary v =
      let a := v.host.ops.foldl (fun w o => opReclaimRelease o.ctx o.tag w) v
      periodBegun (talliesLatched a v.nextBoundary) v.nextBoundary a.host.tallyLast a.host.tallyPeriod :=
  if_neg (by simp [hrun, h0, ht])

theorem opTallyBoundary_early (h : v.modTime < v.nextBoundary * psPerMs) : opTallyBoundary v = v := if_pos (by simp [h])

/-! ### RESYNC summaries (R247, R248) -/

theorem opResync_refused (h : (v.plainWrite R.GLB_RESYNC_CTL x).flag F.GLB_RESYNC_STAT_BUSY = true) :
    opResync x v = (v.plainWrite R.GLB_RESYNC_CTL x).setFlag F.GLB_RESYNC_STAT_REJ true :=
  if_pos (by simp [h])

/-- The summary of the context that GLB_RESYNC_CTL names is taken for the address a (R247, R248). -/
def summaryTaken (w : State) (a : Nat) : State :=
  let n := (w.host.summarySeq + 1) % 2 ^ 32
  { w with host := { w.host with
    summary := w.summaryBytes (w.fld F.GLB_RESYNC_CTL_CTX) n, summaryAddr := a, summarySeq := n } }

theorem opResync_taken (hb : (v.plainWrite R.GLB_RESYNC_CTL x).flag F.GLB_RESYNC_STAT_BUSY = false)
    (ha : (v.plainWrite R.GLB_RESYNC_CTL x).pair F.GLB_RESYNC_ADDR_LO_ADDR F.GLB_RESYNC_ADDR_HI_ADDR + 4096 ≤ dramSize) :
    opResync x v =
      let w := v.plainWrite R.GLB_RESYNC_CTL x
      (summaryTaken w (w.pair F.GLB_RESYNC_ADDR_LO_ADDR F.GLB_RESYNC_ADDR_HI_ADDR)).setFlag
        F.GLB_RESYNC_STAT_BUSY true :=
  if_neg (by simp [hb, inDram, ha])

theorem opResyncWritten_busy (h : v.flag F.GLB_RESYNC_STAT_BUSY = true) : opResyncWritten v =
    let w := v.writeBytes v.host.summaryAddr v.host.summary
    let w' : State := { w with host := { w.host with summary := [] } }
    (((w'.raise 36 v.host.summarySeq).setFlag F.GLB_RESYNC_STAT_BUSY false).setFlag F.GLB_RESYNC_STAT_DONE
      true).setFld F.GLB_RESYNC_STAT_SEQ v.host.summarySeq :=
  if_neg (by simp [h])

end

/-- Settles O25: each command by the cases of its operation. -/
theorem tallyAndResync : Obligations.TallyAndResync :=
  ⟨fun _ _ hrun h0 ht => next_of_eq (opTallyBoundary_due hrun h0 ht),
    fun _ _ h => next_of_eq (opTallyBoundary_early h),
    fun _ _ _ h => next_of_eq (opResync_refused h),
    fun _ _ _ hb ha => next_of_eq (opResync_taken hb ha),
    fun _ _ h => next_of_eq (opResyncWritten_busy h)⟩

/-! ### Enable, disable, draining and configuration of a context (R221 to R223) -/

section
variable {v : State} {c : Nat}

theorem opCtxEnable_refused (h : v.enableReason c ≠ 0) : opCtxEnable c v =
    (v.setFlag (F.CTX_STAT_REFUSED c) true).setFld (F.CTX_STAT_REASON c) (v.enableReason c) := if_pos h

/-- The context as ENABLE sets it up: nothing in its rings, CTX_COAL sampled (R221, R223). -/
def ctxFresh (v : State) (c : Nat) : State :=
  v.setCtx c { (default : CtxSt) with cnt := v.fld (F.CTX_COAL_CNT c), timeUs := v.fld (F.CTX_COAL_TIME_US c) }

theorem opCtxEnable_enables (h : v.enableReason c = 0) : opCtxEnable c v =
    ((((ctxFresh v c).setFld (F.CTX_STAT_STATE c) 1).setFld (F.CTX_STAT_INFLIGHT c) 0).setFlag
      (F.CTX_STAT_REFUSED c) false).setFld (F.CTX_STAT_REASON c) 0 := if_neg (not_not_intro h)

/-- An accepted ENABLE finds the context OFF, in a mode that serves rings (R221). -/
theorem off_of_enableReason (h : v.enableReason c = 0) : v.ctxState c = 0 ∧ v.mode.rings = true := by
  unfold State.enableReason at h
  extract_lets a b na nb sq cq at h
  split_ifs at h with hdram hlog hover hoff hmode
  exact ⟨not_not.1 hoff, by simpa using hmode⟩

/-- What DISABLE leaves of a context: DRAINING, its operations that have not started cancelled (R222). -/
def draining (v : State) (c : Nat) : State :=
  (v.host.ops.filter (fun o => o.ctx == c && o.phase != .started)).foldl
    (fun w o => w.withdraw o codeCancelledReset 0) (v.setFld (F.CTX_STAT_STATE c) 3)

theorem opCtxDisable_drains (h : v.ctxState c = 1 ∨ v.ctxState c = 2) : opCtxDisable c v = draining v c :=
  if_neg (by tauto)

theorem opCtxDisable_ignored (h : v.ctxState c = 0 ∨ v.ctxState c = 3) : opCtxDisable c v = v :=
  if_pos (by omega)

theorem opCtxDrained_off (hs : v.ctxState c = 3) (hn : v.inflight c = 0) :
    opCtxDrained c v = ((v.setFld (F.CTX_STAT_STATE c) 0).updateLine c).raise 38 c := if_neg (by simp [hs, hn])

theorem opCtxDrained_stands (h : v.ctxState c ≠ 3 ∨ v.inflight c ≠ 0) : opCtxDrained c v = v := if_pos h

theorem opCtxConfig_writes {r : CtxReg} (x : Word) (h : r = .coal ∨ v.ctxState c = 0) :
    opCtxConfig c r x v = v.plainWrite (ctxRegOff r c) x := if_pos h

theorem opCtxConfig_rejects {r : CtxReg} (x : Word) (hr : r ≠ .coal) (hs : v.ctxState c ≠ 0) :
    opCtxConfig c r x v = v.setFlag (F.CTX_STAT_CFGREJ c) true := if_neg (not_or.2 ⟨hr, hs⟩)

end

/-! ### Doorbells (R229, R242) -/

section
variable {v : State} {c : Nat} {x : Word}

/-- A context that takes doorbells: ACTIVE or HALTED (R229). -/
def takesDoorbells (v : State) (c : Nat) : Prop := v.ctxState c = 1 ∨ v.ctxState c = 2

theorem takesDoorbells_not_iff : ¬ takesDoorbells v c ↔ v.ctxState c ≠ 1 ∧ v.ctxState c ≠ 2 := not_or

theorem opSqTail_ignored (h : ¬ takesDoorbells v c) : opSqTail c x v = v := if_pos (takesDoorbells_not_iff.1 h)

theorem opSqTail_taking (h : takesDoorbells v c) : opSqTail c x v =
    if v.sqSize c < sub16 x.toNat (v.ctxSt c).sqHead then v.doorbellError c
    else v.setCtx c { v.ctxSt c with sqTail := x.toNat % 65536 } :=
  if_neg (mt takesDoorbells_not_iff.2 (not_not_intro h))

theorem opSqTail_outside (h : takesDoorbells v c) (hx : v.sqSize c < sub16 x.toNat (v.ctxSt c).sqHead) :
    opSqTail c x v = v.doorbellError c := (opSqTail_taking h).trans (if_pos hx)

theorem opSqTail_moves (h : takesDoorbells v c) (hx : sub16 x.toNat (v.ctxSt c).sqHead ≤ v.sqSize c) :
    opSqTail c x v = v.setCtx c { v.ctxSt c with sqTail := x.toNat % 65536 } :=
  (opSqTail_taking h).trans (if_neg (Nat.not_lt.2 hx))

/-- Unconsumed records of a context whose CQ_HEAD stands at p (R224). -/
def unconsumed (v : State) (c p : Nat) : Nat := sub16 (v.ctxSt c).cqTail p

theorem opCqHead_ignored (h : ¬ takesDoorbells v c) : opCqHead c x v = v := if_pos (takesDoorbells_not_iff.1 h)

theorem opCqHead_taking (h : takesDoorbells v c) : opCqHead c x v =
    if unconsumed v c (v.ctxSt c).cqHead < unconsumed v c x.toNat then v.doorbellError c
    else (v.setCtx c { v.ctxSt c with
      cqHead := x.toNat % 65536
      recs := (v.ctxSt c).recs.drop (unconsumed v c (v.ctxSt c).cqHead - unconsumed v c x.toNat) }).updateLine c :=
  if_neg (mt takesDoorbells_not_iff.2 (not_not_intro h))

theorem opCqHead_outside (h : takesDoorbells v c) (hx : unconsumed v c (v.ctxSt c).cqHead < unconsumed v c x.toNat) :
    opCqHead c x v = v.doorbellError c := (opCqHead_taking h).trans (if_pos hx)

theorem opCqHead_returns (h : takesDoorbells v c) (hx : unconsumed v c x.toNat ≤ unconsumed v c (v.ctxSt c).cqHead) :
    opCqHead c x v = (v.setCtx c { v.ctxSt c with
      cqHead := x.toNat % 65536
      recs := (v.ctxSt c).recs.drop (unconsumed v c (v.ctxSt c).cqHead - unconsumed v c x.toNat) }).updateLine c :=
  (opCqHead_taking h).trans (if_neg (Nat.not_lt.2 hx))

end

/-- Settles O39: each command by the cases of its operation. -/
theorem contexts : Obligations.Contexts := by
  refine ⟨fun s t c => ?enable, fun d hd => ?fresh, fun s t c => ?disable, fun s t c r x => ?config,
    fun s t c x stores => ?tail, fun s t c x => ?head, fun s t c => rfl⟩
  case enable =>
    exact ⟨fun h => next_of_eq (opCtxEnable_refused h), fun hs h => hs (off_of_enableReason h).1,
      fun hm h => Bool.eq_false_iff.1 hm (off_of_enableReason h).2, fun h => next_of_eq (opCtxEnable_enables h)⟩
  case fresh =>
    subst hd
    exact ⟨rfl, rfl, rfl, rfl, rfl⟩
  case disable =>
    exact ⟨fun h => next_of_eq (opCtxDisable_drains h), fun h => next_of_eq (opCtxDisable_ignored h),
      fun hs hn => next_of_eq (opCtxDrained_off hs hn), fun h => next_of_eq (opCtxDrained_stands h)⟩
  case config =>
    exact ⟨fun h => next_of_eq (opCtxConfig_writes x h), fun hr hs => next_of_eq (opCtxConfig_rejects x hr hs)⟩
  case tail =>
    exact ⟨fun h1 h2 => next_of_eq (opSqTail_ignored (takesDoorbells_not_iff.2 ⟨h1, h2⟩)),
      fun h => ⟨fun hx => next_of_eq (opSqTail_outside h hx), fun hx => next_of_eq (opSqTail_moves h hx)⟩⟩
  case head =>
    exact ⟨fun h1 h2 => next_of_eq (opCqHead_ignored (takesDoorbells_not_iff.2 ⟨h1, h2⟩)),
      fun h => ⟨fun hx => next_of_eq (opCqHead_outside h hx), fun hx => next_of_eq (opCqHead_returns h hx)⟩⟩

/-! ### The reading of descriptors (R225, R230, R241) -/

section
variable {v : State} {c : Nat}

/-- SQ_HEAD advanced past the descriptor, and the round robin of its class at this context (R225, R230). -/
def descriptorTaken (v : State) (c : Nat) : State :=
  let w := v.setCtx c { v.ctxSt c with sqHead := ((v.ctxSt c).sqHead + 1) % 65536 }
  { w with host := { w.host with lastRead := spSet w.host.lastRead (v.ctxClass c) (c + 1) } }

theorem opDescriptorRead_next (ecc : Bool) (hserve : v.servesRings = true) (hnext : v.nextRead = some c) :
    opDescriptorRead c ecc v =
      let w := descriptorTaken v c
      if ecc = true then w.haltCtx c
      else w.enterOp (w.opAt c (v.sqBase c + 64 * ((v.ctxSt c).sqHead % v.sqSize c))) :=
  if_neg (by simp [hserve, hnext])

theorem opDescriptorRead_idle (ecc : Bool) (h : v.servesRings = false ∨ v.nextRead ≠ some c) :
    opDescriptorRead c ecc v = v := if_pos (by simpa using h)

end

/-! ### CANCEL (R235) -/

section
variable {v w : State} {c tag : Nat} {o x : Op}

theorem opCancel_acts (hf : v.findOp c tag = some o) (hop : o.opcode = 1) (hfence : o.fence = false)
    (hq : o.phase = .queued) (hserve : v.servesRings = true) (hform : v.formFault o = none) :
    opCancel c tag v = opCancelTarget (v.startOp o) o := by
  simp [opCancel, hf, hop, hfence, hq, hserve, hform]

theorem opCancelTarget_notFound (hx : w.findOp o.ctx (o.arg1 0 16) = none) :
    opCancelTarget w o = w.finish o codeDone 0 0 := by
  simp only [opCancelTarget, hx]

theorem opCancelTarget_tooLate (hx : w.findOp o.ctx (o.arg1 0 16) = some x) (h : x.phase = .started ∨ x.tag = o.tag) :
    opCancelTarget w o = w.finish o codeDone 0 0 := by
  simp only [opCancelTarget, hx, if_pos h]

theorem opCancelTarget_cancels (hx : w.findOp o.ctx (o.arg1 0 16) = some x) (hp : x.phase ≠ .started)
    (htag : x.tag ≠ o.tag) :
    opCancelTarget w o = (w.withdraw x codeCancelledHost o.tag).finish o codeDone 0 1 := by
  simp only [opCancelTarget, hx, if_neg (not_or.2 ⟨hp, htag⟩)]

end

/-! ### OPERATION_COMPLETE and OPERATION_DEADLINE (R239, R253, R259, R267, R277) -/

section
variable {v : State} {c tag : Nat} {o : Op} {w : Wait}

theorem opComplete_stands (hf : v.findOp c tag = some o)
    (h : o.phase ≠ .started ∨ o.ready = false ∨ v.now < o.tokensAt) : opComplete c tag v = v := by
  simp only [opComplete, hf]
  exact if_pos (by simpa [or_assoc] using h)

theorem opComplete_completes (hf : v.findOp c tag = some o) (hp : o.phase = .started) (hr : o.ready = true)
    (ht : o.tokensAt ≤ v.now) : opComplete c tag v =
      let w := v.finish o o.code o.detail o.result
      if o.opcode = 0x34 ∧ w.qos.ending.contains (o.arg1 0 6) = true ∧ w.transferOn (o.arg1 0 6) = false
        then w.freeHolding 4 0 (o.arg1 0 6) else w := by
  simp only [opComplete, hf]
  refine (if_neg (by simp [hp, hr, ht])).trans (if_congr ?_ rfl rfl)
  simp only [Bool.and_eq_true, beq_iff_eq, Bool.not_eq_true', and_assoc]

theorem opDeadline_stands (hf : v.findOp c tag = some o)
    (h : o.phase = .started ∨ o.cls < 3 ∨ v.now < o.deadline) : opDeadline c tag v = v := by
  simp only [opDeadline, hf, if_pos h]

/-- The deadline of an operation of class 3 to 7 that has not started has come. -/
theorem opDeadline_due (hp : o.phase ≠ .started) (hc : 3 ≤ o.cls) (hd : o.deadline ≤ v.now) :
    ¬ (o.phase = .started ∨ o.cls < 3 ∨ v.now < o.deadline) :=
  not_or.2 ⟨hp, not_or.2 ⟨Nat.not_lt.2 hc, Nat.not_lt.2 hd⟩⟩

theorem opDeadline_queued (hf : v.findOp c tag = some o) (hp : o.phase = .queued) (hc : 3 ≤ o.cls)
    (hd : o.deadline ≤ v.now) : opDeadline c tag v = v.withdraw o codeRefusedCapacity 19 := by
  simp only [opDeadline, hf, if_neg (opDeadline_due (by simp [hp]) hc hd)]
  exact if_pos (by simp [hp])

theorem opDeadline_waiting (hf : v.findOp c tag = some o) (hp : o.phase = .waiting) (hc : 3 ≤ o.cls)
    (hd : o.deadline ≤ v.now) (hw : v.qos.waits.find? (fun w => w.ctx == c && w.tag == tag) = some w) :
    opDeadline c tag v =
      if v.waitOver o = false ∧ v.isFree w = true ∧ v.firstWaiter w = some w then v.grantWait o w
      else v.withdraw o codeRefusedCapacity w.kind := by
  simp only [opDeadline, hf, if_neg (opDeadline_due (by simp [hp]) hc hd), if_neg (not_not_intro hp), hw]
  refine if_congr ?_ rfl rfl
  simp only [Bool.and_eq_true, beq_iff_eq, Bool.not_eq_true', and_assoc]

end

/-- Settles O40: each command by the cases of its operation. -/
theorem operationsInFlight : Obligations.OperationsInFlight := by
  refine ⟨fun s t c ecc => ?read, fun s t c tag o hf hop hfence hq hserve hform => ?cancel, fun s t c tag o hf => ?finish⟩
  case read =>
    exact ⟨fun hserve hnext => next_of_eq (opDescriptorRead_next ecc hserve hnext),
      fun h => next_of_eq (opDescriptorRead_idle ecc h)⟩
  case cancel =>
    have hrun : Machine.exec (.cancel t c tag) s = .next (opCancelTarget ((s.tick t).startOp o) o) :=
      next_of_eq (opCancel_acts hf hop hfence hq hserve hform)
    exact ⟨fun hx => hrun.trans (next_of_eq (opCancelTarget_notFound hx)),
      fun x hx h => hrun.trans (next_of_eq (opCancelTarget_tooLate hx h)),
      fun x hx hp htag => hrun.trans (next_of_eq (opCancelTarget_cancels hx hp htag))⟩
  case finish =>
    exact ⟨fun h => next_of_eq (opComplete_stands hf h), fun hp hr ht => next_of_eq (opComplete_completes hf hp hr ht),
      fun h => next_of_eq (opDeadline_stands hf h), fun hp hc hd => next_of_eq (opDeadline_queued hf hp hc hd),
      fun w hp hc hd hw => next_of_eq (opDeadline_waiting hf hp hc hd hw)⟩

end Sys2Proof
end

section
/-!
PROOFS. Priority, quotas and overload: the statements about quotas and RECLAIM, about holdings and waits, and about
writes to command registers (10_overload_quotas_and_waits.md).
-/

namespace Sys2Proof

open Machine

/-! ### Quotas and DRAM reservations (R257, R259, R263, R264) -/

section
variable {v : State} {o : Op}

theorem opQuotaSet_otherContext (h : o.ctx ≠ 0) : opQuotaSet v o = v.finish o codeFaultAccess 1 0 := if_pos h

theorem opQuotaSet_breaksKept (h : o.ctx = 0) (hk : o.arg1 16 4 = 0)
    (hb : v.breaksKept (o.arg1 0 12) (o.arg1 32 32) = true) :
    opQuotaSet v o = v.finish o codeRefusedCapacity 16 0 :=
  (if_neg (not_not_intro h)).trans (if_pos (by simp [hk, hb]))

theorem opQuotaSet_applies (h : o.ctx = 0)
    (hb : o.arg1 16 4 = 0 → v.breaksKept (o.arg1 0 12) (o.arg1 32 32) = false) :
    opQuotaSet v o = (v.writeQuota (o.arg1 0 12) (o.arg1 16 4) (o.arg1 32 32)).finish o codeDone 0
      (v.use (o.arg1 0 12) (o.arg1 16 4)) :=
  (if_neg (not_not_intro h)).trans (if_neg (by simpa using hb))

/-- A write to QOS_Q_VAL refuses what breaks the kept entries as QUOTA_SET does (R257, R261, R263). -/
theorem opQuotaWrite_cases (v : State) (x : Word) : opQuotaWrite x v =
    if 6 ≤ v.fld F.QOS_Q_SEL_KIND then v.setFlag F.QOS_Q_STAT_REJ true
    else if v.fld F.QOS_Q_SEL_KIND = 0 ∧ v.breaksKept (v.fld F.QOS_Q_SEL_CTX) x.toNat = true
      then v.setFlag F.QOS_Q_STAT_REFUSED true
    else v.writeQuota (v.fld F.QOS_Q_SEL_CTX) (v.fld F.QOS_Q_SEL_KIND) x.toNat := by
  simp only [opQuotaWrite, Bool.and_eq_true, decide_eq_true_eq]

/-- The sum of the three DRAM reservations with that of class k written as x (R259). -/
def reservedSum (v : State) (k : Nat) (x : Word) : Nat :=
  (((List.range 3).filter (fun j => j != k)).map (fun j => v.fld (F.QOS_DRAM_CFG_RSV j))).sum + bitsOf x.toNat 0 8

theorem opDramWrite_weight {k : Nat} (x : Word) (h : 3 ≤ k) :
    opDramWrite k x v = v.setFld (F.QOS_DRAM_CFG_WEIGHT k) (bitsOf x.toNat 16 8) := if_pos h

theorem opDramWrite_refused {k : Nat} {x : Word} (h : k < 3) (hs : 136 < reservedSum v k x) :
    opDramWrite k x v = (v.setFlag F.QOS_DRAM_STAT_REFUSED true).raise 43 (reservedSum v k x) :=
  (if_neg (Nat.not_le.2 h)).trans (if_pos hs)

theorem opDramWrite_applies {k : Nat} {x : Word} (h : k < 3) (hs : reservedSum v k x ≤ 136) :
    opDramWrite k x v = (v.setFld (F.QOS_DRAM_CFG_RSV k) (bitsOf x.toNat 0 8)).setFld F.QOS_DRAM_STAT_RSVSUM
      (reservedSum v k x) :=
  (if_neg (Nat.not_le.2 h)).trans (if_neg (Nat.not_lt.2 hs))

end

/-! ### RECLAIM (R266, R267) -/

section
variable {v : State} {c tag : Nat} {o : Op}

theorem opReclaimRelease_early (hf : v.findOp c tag = some o) (ht : v.now < o.startAt + 100 * psPerUs) :
    opReclaimRelease c tag v = v := by
  simp only [opReclaimRelease, hf]
  exact if_pos (by simp [ht])

/-- At a boundary at least 100 µs after its start a RECLAIM takes the holdings back, writes their entries where it
has a buffer, and completes with their number (R266). -/
theorem opReclaimRelease_due (hf : v.findOp c tag = some o) (hop : o.opcode = 0x31) (hp : o.phase = .started)
    (hb : v.atBoundary = true) (ht : o.startAt + 100 * psPerUs ≤ v.now) : opReclaimRelease c tag v =
      let l := v.reclaimed c (o.arg1 0 8) (o.arg1 16 9)
      let w := l.foldl (fun w p => w.takeBack (o.arg1 0 8) p.1) v
      (if o.buf = 0 then w else w.writeBytes o.buf (l.flatMap (reclaimEntry (o.arg1 0 8)))).finish o codeDone 0
        l.length := by
  simp only [opReclaimRelease, hf]
  exact if_neg (by simp [hop, hp, hb, ht])

end

/-- Settles O41: each command by the cases of its operation. -/
theorem quotas : Obligations.Quotas := by
  refine ⟨fun s t c tag o h => ?set, fun s t x => ?register, fun s t k x => ?dram,
    fun s t c tag o h => next_of_eq (beginOp_startable h opReclaim), fun s t c tag o hf hop hp hb => ?release⟩
  case set =>
    have hrun := next_of_eq (beginOp_startable h opQuotaSet)
    exact ⟨fun h0 => hrun.trans (next_of_eq (opQuotaSet_otherContext h0)),
      fun h0 hk hb => hrun.trans (next_of_eq (opQuotaSet_breaksKept h0 hk hb)),
      fun h0 hb => hrun.trans (next_of_eq (opQuotaSet_applies h0 hb))⟩
  case register => exact next_of_eq (opQuotaWrite_cases _ x)
  case dram =>
    exact ⟨fun h => next_of_eq (opDramWrite_weight x h), fun h hs => next_of_eq (opDramWrite_refused h hs),
      fun h hs => next_of_eq (opDramWrite_applies h hs)⟩
  case release =>
    exact ⟨fun ht => next_of_eq (opReclaimRelease_early hf ht),
      fun ht => next_of_eq (opReclaimRelease_due hf hop hp hb ht)⟩

/-! ### ACQUIRE (R262, R268 to R272) -/

section
variable {v : State} {o : Op} {ecc : Bool}

/-- The context does not hold the index that its ACQUIRE names; segments are named by no index (R269). -/
def asksNew (v : State) (o : Op) : Prop :=
  o.request.kind = 1 ∨ v.indexOwner o.request.kind o.request.index ≠ o.ctx + 1

/-- The amount of its kind that an ACQUIRE asks for (R269). -/
def amountAsked (o : Op) : Nat := if o.request.kind = 1 then o.request.count else 1

/-- An ACQUIRE that only the state of the resource decides: it asks for something new, its quotas allow it, and BUF
can be written (R262, R269). -/
structure AcquireAllowed (v : State) (o : Op) (ecc : Bool) : Prop where
  new : asksNew v o
  quota : v.quotaAllows o.ctx o.request.kind (amountAsked o) = true
  bandwidth : o.request.kind = 3 → v.quotaAllows o.ctx 5 (v.bwOf o.request.index) = true
  buffer : o.request.kind = 1 → ecc = false

theorem asksNew_iff : asksNew v o ↔
    ¬ (o.request.kind ≠ 1 ∧ v.indexOwner o.request.kind o.request.index = o.ctx + 1) := by
  unfold asksNew; tauto

theorem opAcquire_held (hk : o.request.kind ≠ 1) (ho : v.indexOwner o.request.kind o.request.index = o.ctx + 1) :
    opAcquire ecc v o = v.finish o codeDone 0 0 := if_pos ⟨hk, ho⟩

theorem opAcquire_overQuota (hn : asksNew v o) (hq : v.quotaAllows o.ctx o.request.kind (amountAsked o) = false) :
    opAcquire ecc v o = v.finish o codeRefusedQuota o.request.kind 0 := by
  unfold amountAsked at hq
  exact (if_neg (asksNew_iff.1 hn)).trans (if_pos (by simp [hq]))

theorem opAcquire_overBandwidth (hn : asksNew v o) (hq : v.quotaAllows o.ctx o.request.kind (amountAsked o) = true)
    (hk : o.request.kind = 3) (hb : v.quotaAllows o.ctx 5 (v.bwOf o.request.index) = false) :
    opAcquire ecc v o = v.finish o codeRefusedQuota 5 0 := by
  unfold amountAsked at hq
  exact (if_neg (asksNew_iff.1 hn)).trans ((if_neg (by simp [hq])).trans (if_pos (by simp [hk, hb])))

theorem opAcquire_memoryError (hk : o.request.kind = 1) (hq : v.quotaAllows o.ctx 1 o.request.count = true) :
    opAcquire true v o = v.finish o codeFaultAccess 2 0 := by
  have hq' : v.quotaAllows o.ctx o.request.kind (if o.request.kind = 1 then o.request.count else 1) = true := by
    rwa [if_pos hk, hk]
  exact (if_neg (asksNew_iff.1 (.inl hk))).trans
    ((if_neg (by simp [hq'])).trans ((if_neg (by simp [hk])).trans (if_pos (by simp [hk]))))

/-- Past the tests of R262 the state of the resource decides. -/
theorem opAcquire_allowed (h : AcquireAllowed v o ecc) : opAcquire ecc v o =
    if v.isFree o.request = true ∧ v.firstWaiter o.request = none then v.grant o o.request
    else if o.arg1 8 1 = 0 then v.finish o codeRefusedCapacity o.request.kind 0
    else match v.cycleOf o.request with
      | some (d, n) => (v.raise 37 o.ctx).finish o codeCancelledCycle
          (place o.request.kind 0 8 + place d 8 12 + place (min n 15) 20 4) 0
      | none =>
        let u := v.modifyOp o.ctx o.tag (fun x => { x with phase := .waiting })
        ({ u with qos := { u.qos with waits := u.qos.waits ++ [o.request] } } : State).showWaits := by
  obtain ⟨hn, hq, hb, he⟩ := h
  unfold amountAsked at hq
  have hband : ¬ (decide (o.request.kind = 3) && !v.quotaAllows o.ctx 5 (v.bwOf o.request.index)) = true := by
    simpa using hb
  have hbuf : ¬ (ecc && o.request.kind == 1) = true := by
    simp only [Bool.and_eq_true, beq_iff_eq, not_and]
    exact fun h1 h2 => Bool.eq_false_iff.1 (he h2) h1
  refine (if_neg (asksNew_iff.1 hn)).trans ((if_neg (by simp [hq])).trans
    ((if_neg hband).trans ((if_neg hbuf).trans ?_)))
  exact if_congr (by simp) rfl rfl

theorem opAcquire_granted (h : AcquireAllowed v o ecc) (hf : v.isFree o.request = true)
    (hw : v.firstWaiter o.request = none) : opAcquire ecc v o = v.grant o o.request :=
  (opAcquire_allowed h).trans (if_pos ⟨hf, hw⟩)

theorem opAcquire_notFree (h : AcquireAllowed v o ecc) (hf : v.isFree o.request = false) (hw : o.arg1 8 1 = 0) :
    opAcquire ecc v o = v.finish o codeRefusedCapacity o.request.kind 0 :=
  (opAcquire_allowed h).trans ((if_neg (by simp [hf])).trans (if_pos hw))

theorem opAcquire_closesCycle (h : AcquireAllowed v o ecc) (hf : v.isFree o.request = false) (hw : o.arg1 8 1 = 1)
    {d n : Nat} (hc : v.cycleOf o.request = some (d, n)) :
    opAcquire ecc v o = (v.raise 37 o.ctx).finish o codeCancelledCycle
      (place o.request.kind 0 8 + place d 8 12 + place (min n 15) 20 4) 0 := by
  rw [opAcquire_allowed h, if_neg (by simp [hf]), if_neg (by simp [hw]), hc]

theorem opAcquire_waits (h : AcquireAllowed v o ecc) (hf : v.isFree o.request = false) (hw : o.arg1 8 1 = 1)
    (hc : v.cycleOf o.request = none) : opAcquire ecc v o =
      let u := v.modifyOp o.ctx o.tag (fun x => { x with phase := .waiting })
      ({ u with qos := { u.qos with waits := u.qos.waits ++ [o.request] } } : State).showWaits := by
  rw [opAcquire_allowed h, if_neg (by simp [hf]), if_neg (by simp [hw]), hc]

end

/-! ### Waits that end (R270, R273, R277) -/

section
variable {v : State} {c tag : Nat} {o : Op} {w : Wait}

theorem grantWait_grants (hf : v.isFree w = true) (hw : v.firstWaiter w = some w) :
    v.grantWait o w = (((v.dropWait o.ctx o.tag).startOp o).takeTokens o).grant o w := if_neg (by simp [hf, hw])

theorem grantWait_stands (h : v.isFree w = false ∨ v.firstWaiter w ≠ some w) : v.grantWait o w = v :=
  if_pos (by simpa using h)

/-- A wait in the table ends by its deadline or by the grant of its resource. -/
theorem opWaitGrant_cases (hf : v.findOp c tag = some o)
    (hw : v.qos.waits.find? (fun w => w.ctx == c && w.tag == tag) = some w) : opWaitGrant c tag v =
      if v.waitOver o = true then v.withdraw o codeRefusedCapacity w.kind else v.grantWait o w := by
  simp only [opWaitGrant, hf, hw]

end

/-! ### RELEASE and DMA_COPY (R268, R269) -/

section
variable {v : State} {o : Op}

/-- The owner (context plus 1) of what a RELEASE names: a segment of a tile, or an index (R269). -/
def releaseOwner (v : State) (o : Op) : Nat :=
  if o.arg1 0 8 = 1 then v.segOwner (o.arg1 16 7) (o.arg1 48 16) else v.indexOwner (o.arg1 0 8) (o.arg1 48 16)

theorem opRelease_nothing (h : releaseOwner v o ≠ o.ctx + 1 ∨ (o.arg1 0 8 = 2 ∧ v.lstate (o.arg1 48 16) ≠ 0)) :
    opRelease v o = v.finish o codeDone 0 0 := if_pos h

theorem opRelease_frees (h : releaseOwner v o = o.ctx + 1) (hl : o.arg1 0 8 = 2 → v.lstate (o.arg1 48 16) = 0) :
    opRelease v o = (v.freeHolding (o.arg1 0 8) (o.arg1 16 7) (o.arg1 48 16)).finish o codeDone 0 1 :=
  if_neg (not_or.2 ⟨not_not_intro h, fun ⟨hk, hs⟩ => hs (hl hk)⟩)

/-- The context holds the channel and the segment of its DMA_COPY (R269). -/
def copyHeld (v : State) (o : Op) : Prop :=
  v.chanOwner (o.arg1 0 6) = o.ctx + 1 ∧ v.segOwner (o.arg1 16 7) (o.arg1 32 9) = o.ctx + 1

/-- The outcome DONE of a DMA_COPY, which OPERATION_COMPLETE reports. -/
def copyReady (w : State) (o : Op) : State :=
  w.modifyOp o.ctx o.tag (fun x => { x with ready := true, code := codeDone, detail := 0, result := 0 })

theorem opDmaCopy_notHeld (ecc : Bool) (es : List BrickError) (h : ¬ copyHeld v o) :
    opDmaCopy ecc es v o = v.finish o codeFaultAccess 1 0 := if_pos (not_and_or.1 h)

/-- What a DMA_COPY does whose channel and segment its context holds. -/
theorem opDmaCopy_held (ecc : Bool) (es : List BrickError) (h : copyHeld v o) : opDmaCopy ecc es v o =
    if ecc = true then v.finish o codeFaultAccess 2 0
    else copyReady (if o.arg1 6 1 = 0
      then v.brickWrite (o.arg1 16 7) (4096 * o.arg1 32 9) (v.readBytes o.buf (o.arg1 48 16))
      else
        let w := v.brickReport (o.arg1 16 7) (256 * o.arg1 32 9) (o.arg1 48 16 / 16) es
        w.writeBytes o.buf (w.brickRead (o.arg1 16 7) (4096 * o.arg1 32 9) (o.arg1 48 16))) o :=
  if_neg (mt not_and_or.2 (not_not_intro h))

theorem opDmaCopy_memoryError (es : List BrickError) (h : copyHeld v o) :
    opDmaCopy true es v o = v.finish o codeFaultAccess 2 0 := opDmaCopy_held true es h

theorem opDmaCopy_toBricks (es : List BrickError) (h : copyHeld v o) (hd : o.arg1 6 1 = 0) :
    opDmaCopy false es v o =
      copyReady (v.brickWrite (o.arg1 16 7) (4096 * o.arg1 32 9) (v.readBytes o.buf (o.arg1 48 16))) o := by
  rw [opDmaCopy_held false es h, if_neg Bool.false_ne_true, if_pos hd]

theorem opDmaCopy_fromBricks (es : List BrickError) (h : copyHeld v o) (hd : o.arg1 6 1 = 1) :
    opDmaCopy false es v o =
      let w := v.brickReport (o.arg1 16 7) (256 * o.arg1 32 9) (o.arg1 48 16 / 16) es
      copyReady (w.writeBytes o.buf (w.brickRead (o.arg1 16 7) (4096 * o.arg1 32 9) (o.arg1 48 16))) o := by
  rw [opDmaCopy_held false es h, if_neg Bool.false_ne_true, if_neg (by simp [hd])]

end

/-- Settles O42: each command by the cases of its operation. -/
theorem holdings : Obligations.Holdings := by
  refine ⟨fun s t c tag o ecc h => ?acquire, fun s t c tag o w hf hw => ?grant, fun s t c tag o h => ?release,
    fun s t c tag o h es => ?copy⟩
  case acquire =>
    have hrun := next_of_eq (beginOp_startable h (opAcquire ecc))
    refine ⟨fun hk ho => hrun.trans (next_of_eq (opAcquire_held hk ho)), fun hn =>
      ⟨fun hq => hrun.trans (next_of_eq (opAcquire_overQuota hn hq)),
        fun hq hk hb => hrun.trans (next_of_eq (opAcquire_overBandwidth hn hq hk hb)),
        fun hq hk he => ?_, fun hq hb he => ?_⟩⟩
    · subst he
      exact hrun.trans (next_of_eq (opAcquire_memoryError hk hq))
    · have hall : AcquireAllowed (begun (s.tick t) o) (running (s.tick t) o) ecc := ⟨hn, hq, hb, he⟩
      exact ⟨fun hf hw => hrun.trans (next_of_eq (opAcquire_granted hall hf hw)),
        fun hf hw => hrun.trans (next_of_eq (opAcquire_notFree hall hf hw)),
        fun hf hw d n hc => hrun.trans (next_of_eq (opAcquire_closesCycle hall hf hw hc)),
        fun hf hw hc => hrun.trans (next_of_eq (opAcquire_waits hall hf hw hc))⟩
  case grant =>
    have hrun := next_of_eq (opWaitGrant_cases hf hw)
    exact ⟨fun hd => hrun.trans (next_of_eq (if_pos hd)),
      fun hd hfree hfirst => hrun.trans (next_of_eq ((if_neg (by simp [hd])).trans (grantWait_grants hfree hfirst))),
      fun hd h => hrun.trans (next_of_eq ((if_neg (by simp [hd])).trans (grantWait_stands h)))⟩
  case release =>
    have hrun := next_of_eq (beginOp_startable h opRelease)
    exact ⟨fun hn => hrun.trans (next_of_eq (opRelease_nothing hn)),
      fun ho hl => hrun.trans (next_of_eq (opRelease_frees ho hl))⟩
  case copy =>
    have hrun := fun ecc => next_of_eq (beginOp_startable h (opDmaCopy ecc es))
    exact ⟨fun hn ecc => (hrun ecc).trans (next_of_eq (opDmaCopy_notHeld ecc es hn)),
      fun hh => (hrun true).trans (next_of_eq (opDmaCopy_memoryError es hh)),
      fun hh hd => (hrun false).trans (next_of_eq (opDmaCopy_toBricks es hh hd)),
      fun hh hd => (hrun false).trans (next_of_eq (opDmaCopy_fromBricks es hh hd))⟩

/-! ### Command registers (R339, R539) -/

section
variable {v : State} {off : Nat} {x : Word}

theorem opRegisterWrite_manyCommands (ident : Nat) (h : manyCommands off x = true) :
    opRegisterWrite off ident x v = (v.writeBlock off ident (withoutCommands off x)).badAccess := if_pos h

theorem opRegisterWrite_byBlock (ident : Nat) (h : manyCommands off x = false) :
    opRegisterWrite off ident x v = v.writeBlock off ident x := if_neg (by simp [h])

/-- A register without command bits takes every write as its block states. -/
theorem manyCommands_of_commandBits (h : commandBits off = 0) : manyCommands off x = false := by
  simp [manyCommands, h]

theorem writeBlock_gooCtl (v : State) (ident : Nat) (x : Word) :
    v.writeBlock R.GOO_CTL ident x = v.writeGoo R.GOO_CTL x := if_neg (by decide)

/-- STOP acts with or without RELEASE (R339). -/
theorem writeGoo_stop (h : x.getLsbD 0 = true) : v.writeGoo R.GOO_CTL x = opGooStop v :=
  (if_pos rfl).trans (if_pos h)

theorem opRegisterWrite_gooStop (ident : Nat) (h : x.getLsbD 0 = true) :
    opRegisterWrite R.GOO_CTL ident x v = opGooStop v :=
  (opRegisterWrite_byBlock ident (manyCommands_of_commandBits (by decide))).trans
    ((writeBlock_gooCtl v ident x).trans (writeGoo_stop h))

end

/-- Settles O47: a write by how many commands it gives (R539); one to GOO_CTL has no command bit of R539 and acts by
STOP first (R339); a lock's command sets its bit. -/
theorem commandRegisters : Obligations.CommandRegisters := by
  refine ⟨fun s t ident off x r hrun ha hr => ?write, fun s t ident x hrun hx => ?stop, fun s t b => rfl⟩
  case write =>
    have hacc := next_of_eq (opAccess_write ident x hrun ha (Option.isSome_iff_exists.2 ⟨r, hr⟩))
    exact ⟨fun h => hacc.trans (next_of_eq (opRegisterWrite_manyCommands ident h)),
      fun h => hacc.trans (next_of_eq (opRegisterWrite_byBlock ident h))⟩
  case stop =>
    exact next_of_eq ((opAccess_write ident x hrun (by decide) (by decide)).trans (opRegisterWrite_gooStop ident hx))

end Sys2Proof
end

section
/-!
PROOFS. Ox valve drive: the statement about the stage's rail, supply, faults and descriptors
(11_ox_valve_drive.md).
-/

namespace Sys2Proof

open Machine

/-! ### The boost rail (R290, R295) -/

section
variable {v : State} {vb : Nat}

theorem opRailLow_reports (h : vb < 400) (hlow : (v.setBoost vb).flag F.OX_GLB_STAT_LOW = false) :
    opRailLow vb v = ((v.setBoost vb).setFlag F.OX_GLB_STAT_LOW true).raise 142 vb :=
  (if_neg (Nat.not_le.2 h)).trans (if_neg (by simp [hlow]))

theorem opRailRecover_ends (h : 440 ≤ vb) :
    opRailRecover vb v = (v.setBoost vb).setFlag F.OX_GLB_STAT_LOW false := if_neg (Nat.not_lt.2 h)

theorem opRailRecover_stands (h : vb < 440) : opRailRecover vb v = v := if_pos h

theorem opRailClamp_reports (h : 580 < vb) (hclamp : (v.setBoost vb).flag F.OX_GLB_STAT_CLAMP = false) :
    opRailClamp vb v = ((v.setBoost vb).setFlag F.OX_GLB_STAT_CLAMP true).raise 143 (min vb 1023) :=
  (if_neg (Nat.not_le.2 h)).trans (if_neg (by simp [hclamp]))

theorem opRailClampEnd_ends (h : vb ≤ 580) :
    opRailClampEnd vb v = (v.setBoost vb).setFlag F.OX_GLB_STAT_CLAMP false := if_neg (Nat.not_lt.2 h)

end

/-! ### The supply (R296) -/

section
variable {v : State} {mv ok : Nat}

/-- The first finding below 9 V notes its instant and switches every channel off, to restart (R296). -/
theorem opOxSupplyLow_switchesOff (h : mv < 9000) (hlow : v.flag F.OX_GLB_STAT_SUPLOW = false) :
    opOxSupplyLow mv v =
      let w := ({ v with ox := { v.ox with lowAt := v.modTime } } : State).setFlag F.OX_GLB_STAT_SUPLOW true
      (w.oxBases.foldl (fun w n => w.oxForceOff n true) w).raise 146 0 :=
  (if_neg (Nat.not_le.2 h)).trans (if_neg (ne_true_of_eq_false hlow))

theorem opOxSupplyLow_stands (h : 9000 ≤ mv) : opOxSupplyLow mv v = v := if_pos h

theorem opOxSupplyRestored_ends (h : 10000 ≤ mv) (hlow : v.ox.lowAt < ok) (ht : ok + 2 * psPerMs ≤ v.modTime)
    (hs : v.flag F.OX_GLB_STAT_SUPLOW = true) : opOxSupplyRestored mv ok v =
      let w := v.setFlag F.OX_GLB_STAT_SUPLOW false
      w.oxBases.foldl (fun w n => w.showOx n) w := by
  refine if_neg ?_
  simp only [not_or, Nat.not_lt, Nat.not_le]
  exact ⟨h, ht, hlow, by simp [hs]⟩

/-- A supply below 10 V, a span that began no later than the last low, or one shorter than 2 ms restores nothing. -/
theorem opOxSupplyRestored_stands (h : mv < 10000 ∨ ok ≤ v.ox.lowAt ∨ v.modTime < ok + 2 * psPerMs) :
    opOxSupplyRestored mv ok v = v := by
  refine if_pos ?_
  rcases h with hmv | hlow | ht
  · exact .inl hmv
  · exact .inr (.inr (.inl hlow))
  · exact .inr (.inl ht)

end

/-! ### Faults of a channel and their clearing (R299, R300) -/

section
variable {v : State} {n ma : Nat} {deg : Int}

theorem opOxShort_faults (hn : v.oxBase n = n) (h : (if v.oxPaired n = true then 10000 else 5000) < ma) :
    opOxShort n ma v = (v.oxFault n (F.OX_CH_STAT_SHORT n) 136 sevError).oxForceOff n true :=
  if_neg (not_or.2 ⟨not_not_intro hn, Nat.not_le.2 h⟩)

theorem opOxOpen_reports (hn : v.oxBase n = n) (h : 400 ≤ (v.oxCh n).openCnt) :
    opOxOpen n v = (v.oxFault n (F.OX_CH_STAT_OPEN n) 137 sevWarning).showOx n :=
  if_neg (not_or.2 ⟨not_not_intro hn, Nat.not_lt.2 h⟩)

theorem opOxOvertemp_faults (hn : v.oxBase n = n) (h : 165 < deg) :
    opOxOvertemp n deg v = (v.oxFault n (F.OX_CH_STAT_OVERTEMP n) 138 sevError).oxForceOff n true :=
  if_neg (not_or.2 ⟨not_not_intro hn, not_le.2 h⟩)

theorem opOxOvertemp_stands (h : deg ≤ 165) : opOxOvertemp n deg v = v := if_pos (.inr h)

end

section
variable (s : State) (t : Nat) (n : Fin 48) (x : Word) (a : Bool) (j : Int)

theorem execOxChStatClear_clears (h : s.oxLegacy n.val = false) :
    execOxChStatClear t n x a () j s = .next ((s.tick t).oxClear n.val x.toNat a j) :=
  next_of_eq (if_neg (ne_true_of_eq_false h))

/-- A channel of the legacy core takes no clearing. -/
theorem execOxChStatClear_legacy (h : s.oxLegacy n.val = true) :
    execOxChStatClear t n x a () j s = .next (s.tick t) := next_of_eq (if_pos h)

end

/-! ### Descriptors (R302) -/

section
variable {v : State} {o : Op} {a : Bool} {j : Int}

theorem opOxFaultClear_otherContext (h : o.ctx ≠ 0) :
    opOxFaultClear a j v o = v.finish o codeFaultAccess 1 0 := if_pos h

theorem opOxFaultClear_clears (h : o.ctx = 0) : opOxFaultClear a j v o =
    let w := v.oxClear (o.arg1 0 6) 0x70 a j
    w.finish o codeDone 0 (w.reg (R.OX_CH_STAT (o.arg1 0 6))).toNat := if_neg (not_not_intro h)

end

/-- Settles O34: each command by the cases of its operation. -/
theorem oxStage : Obligations.OxStage := by
  refine ⟨fun s t vb => ?rail, fun s t mv => ?supply, fun s t ma deg n hn => ?faults, fun s t n x a j => ?clear,
    fun s t c tag a j o h => ?faultClear, fun s t c tag o h => next_of_eq (beginOp_startable h opOxStatusRead)⟩
  case rail =>
    exact ⟨fun h hlow => next_of_eq (opRailLow_reports h hlow), fun h => next_of_eq (opRailRecover_ends h),
      fun h => next_of_eq (opRailRecover_stands h), fun h hclamp => next_of_eq (opRailClamp_reports h hclamp),
      fun h => next_of_eq (opRailClampEnd_ends h)⟩
  case supply =>
    exact ⟨fun h hlow => next_of_eq (opOxSupplyLow_switchesOff h hlow), fun h => next_of_eq (opOxSupplyLow_stands h),
      fun ok h hlow ht hs => next_of_eq (opOxSupplyRestored_ends h hlow ht hs),
      fun ok h => next_of_eq (opOxSupplyRestored_stands h)⟩
  case faults =>
    exact ⟨fun h => next_of_eq (opOxShort_faults hn h), fun h => next_of_eq (opOxOpen_reports hn h),
      fun h => next_of_eq (opOxOvertemp_faults hn h), fun h => next_of_eq (opOxOvertemp_stands h)⟩
  case clear => exact ⟨execOxChStatClear_clears s t n x a j, execOxChStatClear_legacy s t n x a j⟩
  case faultClear =>
    have hrun := next_of_eq (beginOp_startable h (opOxFaultClear a j))
    exact ⟨fun hc => hrun.trans (next_of_eq (opOxFaultClear_otherContext hc)),
      fun hc => hrun.trans (next_of_eq (opOxFaultClear_clears hc))⟩

end Sys2Proof
end

section
/-!
PROOFS. The queue of commands and the course of time (24_register_and_event_summary.md).
-/

namespace Sys2Proof

/-- Settles O1: the step looks at the front of the queue alone. -/
theorem stepFront : Obligations.StepFront := by
  intro s c rest h
  unfold Machine.step
  rw [h]

/-- Settles O2: with nothing at the front the step answers its state. -/
theorem stepIdle : Obligations.StepIdle := by
  intro s h
  unfold Machine.step
  rw [h]

/-- Settles O7: what every command keeps (`Keeps`), after the front command has been taken from the queue. -/
theorem stepOrder : Obligations.StepOrder := by
  intro s u hstep
  obtain ⟨hqueue, htime, hfree, -, -⟩ := keeps_of_step hstep
  exact ⟨hqueue, htime, hfree⟩

end Sys2Proof
end

section
/-!
PROOFS. The Mule's load switches: the statements about switching and about clearing faults
(12_mule_load_switches.md).
-/

namespace Sys2Proof

open Machine

/-! ### Commands (R306) -/

section
variable {v : State} {n ma mv : Nat}

theorem takeMulFlit_toStage {p : Packet} {f : Flit} (hf : p.payload = [f]) (hd : p.dst = 148) (ht : p.typ = 3) :
    v.takeMulFlit p = if p.spec = true then v else v.mulFlit p.stream f := by
  cases hs : p.spec <;> simp [State.takeMulFlit, hf, hd, ht, hs]

/-- A command flit that arrives at the stage reaches its channels; a speculative one only counts as arrived. -/
theorem opMulCommandFlit_toStage {p : Packet} {f : Flit} (hf : p.payload = [f]) (hd : p.dst = 148) (ht : p.typ = 3)
    (hl : v.lands p = true) :
    opMulCommandFlit p v = if p.spec = true then v.arrived p else (v.arrived p).mulFlit p.stream f :=
  (if_pos (by simp [hd, ht, hl])).trans (takeMulFlit_toStage hf hd ht)

theorem opMulCmdWrite_commands (x : Word) (h : v.mulLegacy n = false) :
    opMulCmdWrite n x v =
      let w := v.setFlag (F.MUL_CH_CMD_ON n) (bitOf x.toNat 0)
      if w.flag (F.MUL_CH_CFG_SRC n) = true ∧ v.mode ≠ .compat then w.mulCommand n (bitOf x.toNat 0) else w := by
  unfold opMulCmdWrite
  rw [if_neg (by simp [h])]
  simp only [State.setFlag_mode, Bool.and_eq_true, bne_iff_ne]

/-! ### Supply (R310) -/

theorem opMulUvlo_switchesOff (h : mv < 4500) (hu : v.flag F.MUL_GLB_STAT_UVLO = false)
    (ht : v.mul.uvloAt + 100 * psPerUs ≤ v.modTime) :
    opMulUvlo mv v =
      let u : State := { v with mul := { v.mul with uvloAt := v.modTime } }
      ((List.range 64).foldl (fun w n => w.mulOff n) ((u.setFlag F.MUL_GLB_STAT_UVLO true).setFld F.MUL_GLB_STAT_VSUP
        (mv / 100))).raise 165 (mv / 100) :=
  if_neg (by simp [Nat.not_le.2 h, hu, Nat.not_lt.2 ht])

theorem opMulUvlo_stands (h : 4500 ≤ mv) : opMulUvlo mv v = v := if_pos (.inl h)

theorem opMulUvloRelease_follows (h : 6000 ≤ mv) (hu : v.flag F.MUL_GLB_STAT_UVLO = true)
    (ht : v.mul.uvloAt + 2 * psPerMs ≤ v.modTime) :
    opMulUvloRelease mv v =
      let u : State := { v with mul := { v.mul with uvloAt := v.modTime } }
      ((List.range 64).foldl (fun w n => w.mulFollow n) ((u.setFlag F.MUL_GLB_STAT_UVLO false).setFld F.MUL_GLB_STAT_VSUP
        (min 1023 (mv / 100)))).raise 166 (min 1023 (mv / 100)) :=
  if_neg (by simp [Nat.not_lt.2 h, hu, Nat.not_lt.2 ht])

/-! ### Limiting (R311) -/

theorem opLimitStart_begins (hon : (v.mulCh n).on = true) (hma : mulLimit n ≤ ma) (hl : (v.mulCh n).limitAt = none) :
    opLimitStart n ma v =
      let w := v.setMulCh n { v.mulCh n with limitAt := some v.modTime, limitLong := false, lastLimit := v.modTime }
      (((w.bump (F.MUL_CH_TALLY_ILIMCNT n)).bump F.MUL_GLB_TALLY_ILIM).setFld (F.MUL_CH_STAT_CURR n)
        (mulLimit n)).showMul n :=
  if_neg (by simp [hon, Nat.not_lt.2 hma, hl])

theorem opLimitLong_reports {a : Nat} (ha : (v.mulCh n).limitAt = some a) (hl : (v.mulCh n).limitLong = false)
    (ht : a + 10 * psPerMs ≤ v.modTime) :
    opLimitLong n v = (v.setMulCh n { v.mulCh n with limitLong := true }).raise 161 n := by
  have hdue : ¬ ((v.mulCh n).limitLong = true ∨ v.modTime < a + 10 * psPerMs) := by simp [hl, Nat.not_lt.2 ht]
  simp only [opLimitLong, ha, if_neg hdue]

theorem opLimitEnd_ends (hl : (v.mulCh n).limitAt ≠ none) (hma : ma < mulLimit n) :
    opLimitEnd n ma v =
      let w := v.setMulCh n { v.mulCh n with limitAt := none, limitLong := false, lastLimit := v.modTime }
      (w.setFld (F.MUL_CH_STAT_CURR n) (satBits 16 ma)).showMul n :=
  if_neg (by simpa [Nat.not_le.2 hma] using hl)

/-! ### Thermal shutdown and retries (R312) -/

theorem opThermal_shutsDown {deg : Int} (hon : (v.mulCh n).on = true) (h : 175 ≤ deg) :
    opThermal n deg v =
      let last := decide ((if v.mulLegacy n = true then 0 else v.fld (F.MUL_CH_CFG_RETRY n)) ≤
        v.fld (F.MUL_CH_STAT_RETRIES n))
      let a := (((v.setFlag (F.MUL_CH_STAT_TSD n) true).bump (F.MUL_CH_TALLY_TSDCNT n)).bump
        F.MUL_GLB_TALLY_TSD).mulOff n
      let b := (a.modMulCh n (fun y => { y with
        shutAt := if last = true then none else some a.modTime, fault := last, tsdAt := a.modTime })).showMul n
      let u := (b.raise 160 n).henMake sevError 160 n
      if last = true then u.raise 164 n else u :=
  if_neg (by simp [hon, not_lt.2 h])

theorem opMulRetry_restarts {a : Nat} {deg : Int} (hs : (v.mulCh n).shutAt = some a) (h : deg < 150)
    (ht : a + 100 * psPerMs ≤ v.modTime) (hc : (v.mulCh n).cmd = true) :
    opMulRetry n deg v =
      let w := v.setMulCh n { v.mulCh n with shutAt := none }
      if w.mulDrives n = true then (w.setFld (F.MUL_CH_STAT_RETRIES n)
        (min 7 (w.fld (F.MUL_CH_STAT_RETRIES n) + 1))).mulOn n
      else w.showMul n := by
  have hdue : ¬ (150 ≤ deg ∨ v.modTime < a + 100 * psPerMs ∨ (!(v.mulCh n).cmd) = true) := by
    simp [hc, not_le.2 h, Nat.not_lt.2 ht]
  simp only [opMulRetry, hs, if_neg hdue]

theorem opMulRetryClear_cases (v : State) (n : Nat) : opMulRetryClear n v =
    if (v.mulCh n).on = true ∧ (v.mulCh n).limitAt = none ∧
        max (v.mulCh n).onSince (v.mulCh n).lastLimit + psPerS ≤ v.modTime
      then v.setFld (F.MUL_CH_STAT_RETRIES n) 0 else v := by
  simp only [opMulRetryClear, Bool.and_eq_true, decide_eq_true_eq, Option.isNone_iff_eq_none, and_assoc]

/-! ### Off-state diagnosis (R313) -/

/-- A check above 3.5 V and at most 6 V counts for OPEN alone; the third in a row reports it. -/
theorem opOffState_open (hw : v.atWhole (10 * psPerMs) = true) (hoff : (v.mulCh n).on = false)
    (he : v.mulEnabled n = true) (hleg : v.mulLegacy n = false) (hd : v.flag (F.MUL_CH_CFG_OLDET n) = true)
    (ht : (v.mulCh n).offSince + psPerMs ≤ v.modTime) (hlo : 3500 < mv) (hhi : mv ≤ 6000) :
    opOffState n mv v =
      let w := v.setMulCh n { v.mulCh n with openCnt := (v.mulCh n).openCnt + 1, batCnt := 0 }
      if 2 ≤ (v.mulCh n).openCnt then w.mulReport n (F.MUL_CH_STAT_OPEN n) 162 else w := by
  have hbat : ¬ 6000 < mv := Nat.not_lt.2 hhi
  have hlate : ¬ v.modTime < (v.mulCh n).offSince + psPerMs := Nat.not_lt.2 ht
  simp [opOffState, hw, hoff, he, hleg, hd, hlate, hlo, hbat]

end

/-- Settles O35: each command by the cases of its operation. -/
theorem muleSwitching : Obligations.MuleSwitching := by
  refine ⟨fun s t p f hf hd ht hl => next_of_eq (opMulCommandFlit_toStage hf hd ht hl),
    fun s t n x h => next_of_eq (opMulCmdWrite_commands x h), fun s t mv => ?supply, fun s t ma n => ?limit,
    fun s t deg n hon h => next_of_eq (opThermal_shutsDown hon h),
    fun s t a deg n hs h ht hc => next_of_eq (opMulRetry_restarts hs h ht hc),
    fun s t n => next_of_eq (opMulRetryClear_cases _ n.val),
    fun s t mv n hw hoff he hleg hd ht hlo hhi => next_of_eq (opOffState_open hw hoff he hleg hd ht hlo hhi)⟩
  case supply =>
    exact ⟨fun h hu ht => next_of_eq (opMulUvlo_switchesOff h hu ht), fun h => next_of_eq (opMulUvlo_stands h),
      fun h hu ht => next_of_eq (opMulUvloRelease_follows h hu ht)⟩
  case limit =>
    exact ⟨fun hon hma hl => next_of_eq (opLimitStart_begins hon hma hl),
      fun a ha hl ht => next_of_eq (opLimitLong_reports ha hl ht),
      fun hl hma => next_of_eq (opLimitEnd_ends hl hma)⟩

/-! ### Clearing (R315, R317) -/

/-- A bit of a field is a bit of the word. -/
theorem bitOf_of_bitsOf {m lo width k : Nat} (h : bitsOf m lo width = k) {i : Nat} (hi : i < width) :
    bitOf m (lo + i) = k.testBit i := by
  rw [← h, testBit_bitsOf]
  simp [bitOf, hi]

section
variable {v : State} {n m : Nat} {j : Int}

/-- What a write clears, where it names neither OPEN nor SHORTBAT (R315, R316). -/
theorem mulClear_noDiagnosis (hopen : bitOf m 4 = false) (hbat : bitOf m 5 = false) :
    v.mulClear n m j =
      if bitOf m 3 = false ∨ (v.flag (F.MUL_CH_STAT_TSD n) = true ∧ (v.mulCh n).tsdAt = v.modTime) then v
      else if 150 ≤ j ∧ v.flag (F.MUL_CH_STAT_TSD n) = true then
        ((v.setFlag (F.MUL_CH_STAT_TSD n) true).setFld (F.MUL_CH_STAT_RETRIES n) 0).showMul n
      else (((v.setFlag (F.MUL_CH_STAT_TSD n) false).setFld (F.MUL_CH_STAT_RETRIES n) 0).modMulCh n (fun y =>
        { y with fault := false, shutAt := none })).mulFollow n := by
  have hkeep : (!bitOf m 3 || (v.flag (F.MUL_CH_STAT_TSD n) && (v.mulCh n).tsdAt == v.modTime)) = true ↔
      bitOf m 3 = false ∨ (v.flag (F.MUL_CH_STAT_TSD n) = true ∧ (v.mulCh n).tsdAt = v.modTime) := by simp
  simp only [State.mulClear, hopen, hbat, hkeep, Bool.false_eq_true, if_false]
  by_cases hhot : 150 ≤ j ∧ v.flag (F.MUL_CH_STAT_TSD n) = true
  · have hset : (decide (150 ≤ j) && v.flag (F.MUL_CH_STAT_TSD n)) = true := by simpa using hhot
    simp only [hset, if_pos hhot, if_true]
  · have hset : (decide (150 ≤ j) && v.flag (F.MUL_CH_STAT_TSD n)) = false := by simpa using hhot
    simp only [hset, if_neg hhot, Bool.false_eq_true, if_false]

theorem mulClear_nothing (h : bitsOf m 3 3 = 0) : v.mulClear n m j = v :=
  (mulClear_noDiagnosis (bitOf_of_bitsOf h (by decide : 1 < 3)) (bitOf_of_bitsOf h (by decide : 2 < 3))).trans
    (if_pos (.inl (bitOf_of_bitsOf h (by decide : 0 < 3))))

/-- What a write clears that names TSD alone. -/
theorem mulClear_tsdAlone (h : bitsOf m 3 3 = 1) :
    v.mulClear n m j =
      if v.flag (F.MUL_CH_STAT_TSD n) = true ∧ (v.mulCh n).tsdAt = v.modTime then v
      else if 150 ≤ j ∧ v.flag (F.MUL_CH_STAT_TSD n) = true then
        ((v.setFlag (F.MUL_CH_STAT_TSD n) true).setFld (F.MUL_CH_STAT_RETRIES n) 0).showMul n
      else (((v.setFlag (F.MUL_CH_STAT_TSD n) false).setFld (F.MUL_CH_STAT_RETRIES n) 0).modMulCh n (fun y =>
        { y with fault := false, shutAt := none })).mulFollow n := by
  have htsd : bitOf m 3 = true := bitOf_of_bitsOf h (by decide : 0 < 3)
  rw [mulClear_noDiagnosis (bitOf_of_bitsOf h (by decide : 1 < 3)) (bitOf_of_bitsOf h (by decide : 2 < 3))]
  simp only [htsd, Bool.true_eq_false, false_or]

theorem execMulChStatClear_clears (t : Nat) {s : State} {n : Fin 64} {x : Word} (h : s.mulLegacy n.val = false) :
    execMulChStatClear t n x j s = .next ((s.tick t).mulClear n.val x.toNat j) :=
  next_of_eq (if_neg (ne_true_of_eq_false h))

/-- A channel of the legacy core takes no clearing. -/
theorem execMulChStatClear_legacy (t : Nat) {s : State} {n : Fin 64} {x : Word} (h : s.mulLegacy n.val = true) :
    execMulChStatClear t n x j s = .next (s.tick t) := next_of_eq (if_pos h)

theorem opMulFaultClear_otherContext {o : Op} (h : o.ctx ≠ 0) :
    opMulFaultClear j v o = v.finish o codeFaultAccess 1 0 := if_pos h

theorem opMulFaultClear_clears {o : Op} (h : o.ctx = 0) :
    opMulFaultClear j v o =
      let m := (v.mulClear (o.arg1 0 6) 0x38 j).readMulStat (o.arg1 0 6)
      m.2.finish o codeDone 0 m.1.toNat := if_neg (not_not_intro h)

/-- The bytes of one channel in the answer of MUL_STATUS_READ, after those of the channels before it (R317). -/
def mulStatusStep (p : List Byte × State) (n : Nat) : List Byte × State :=
  let m := p.2.readMulStat n
  (p.1 ++ (([m.2.reg (R.MUL_CH_CFG n), m.2.reg (R.MUL_CH_CMD n), m.1, m.2.reg (R.MUL_CH_TALLY n)] : List Word).flatMap
    (fun x => leBytes 4 x.toNat)), m.2)

theorem opMulStatusRead_copies (v : State) (o : Op) : opMulStatusRead v o =
    let m := (List.range 64).foldl mulStatusStep ([], v)
    let g := m.2.readMeasured 0x3FF (m.2.reg R.MUL_GLB_STAT)
    (g.2.writeBytes o.buf m.1).finish o codeDone 0 g.1.toNat := by
  unfold opMulStatusRead mulStatusStep
  generalize List.range 64 = channels
  rfl

end

/-- Settles O36: a write by what `mulClear` does with the bits written, the descriptors by their operations. -/
theorem muleClearing : Obligations.MuleClearing := by
  refine ⟨fun s t n x j => ?write, fun s t c tag j o h => ?faultClear,
    fun s t c tag o h => (next_of_eq (beginOp_startable h opMulStatusRead)).trans
      (next_of_eq (opMulStatusRead_copies _ _))⟩
  case write =>
    refine ⟨execMulChStatClear_legacy t, execMulChStatClear_clears t, fun h hx => ?_, fun h hx hj hn => ?_,
      fun h hx hj hset hold => ?_, fun h hx hset hnow => ?_⟩ <;>
      refine (execMulChStatClear_clears t h).trans (next_of_eq ?_)
    · exact mulClear_nothing hx
    · exact (mulClear_tsdAlone hx).trans ((if_neg hn).trans (if_neg fun hhot => not_le.2 hj hhot.1))
    · exact (mulClear_tsdAlone hx).trans ((if_neg fun hn => hold hn.2).trans (if_pos ⟨hj, hset⟩))
    · exact (mulClear_tsdAlone hx).trans (if_pos ⟨hset, hnow⟩)
  case faultClear =>
    have hrun := next_of_eq (beginOp_startable h (opMulFaultClear j))
    exact ⟨fun h0 => hrun.trans (next_of_eq (opMulFaultClear_otherContext h0)),
      fun h0 => hrun.trans (next_of_eq (opMulFaultClear_clears h0))⟩

end Sys2Proof
end

section
/-!
PROOFS. The Goose: the statements about safe stop, and about its outputs, speeds and status flit
(13_goose_safety.md).
-/

namespace Sys2Proof

open Machine

/-! ### Contacts (R323, R324, R326) -/

/-- The flag that shows the level of a contact of input i. -/
def contactFlag (i : Nat) (b : Bool) : Fld := if b then F.GOO_IN_STAT_B i else F.GOO_IN_STAT_A i

/-- A contact's shown level leaves the input's enable. -/
theorem flag_inEn_setContact (v : State) (i : Nat) (b l : Bool) :
    (v.setFlag (contactFlag i b) l).flag (F.GOO_IN_CFG_EN i) = v.flag (F.GOO_IN_CFG_EN i) := by
  refine flag_setFlag_ne _ _ _ _ (by simp [Fld.ok, F.GOO_IN_CFG_EN]) (.inl ?_)
  cases b <;> simp [contactFlag, F.GOO_IN_STAT_A, F.GOO_IN_STAT_B, F.GOO_IN_CFG_EN, R.GOO_IN_STAT, R.GOO_IN_CFG]

theorem flag_setContact_self (v : State) (i : Nat) (b l : Bool) :
    (v.setFlag (contactFlag i b) l).flag (contactFlag i b) = l := by
  cases b <;> exact flag_setFlag_self _ _ _ (by simp [Fld.ok, contactFlag, F.GOO_IN_STAT_A, F.GOO_IN_STAT_B]) rfl

theorem flag_setContact_other (v : State) (i : Nat) (b l : Bool) :
    (v.setFlag (contactFlag i b) l).flag (contactFlag i !b) = v.flag (contactFlag i !b) := by
  cases b <;>
    exact flag_setFlag_ne _ _ _ _ (by simp [Fld.ok, contactFlag, F.GOO_IN_STAT_A, F.GOO_IN_STAT_B])
      (.inr (by simp [contactFlag, F.GOO_IN_STAT_A, F.GOO_IN_STAT_B]))

section
variable {v : State} {i : Nat} {b closed : Bool}

/-- The level that a contact shows: 1 while it is closed, contact B of an antivalent input while it is open. -/
def contactLevel (v : State) (i : Nat) (b closed : Bool) : Bool := closed != (b && v.flag (F.GOO_IN_CFG_ANTIV i))

theorem opContactChange_notSampled (h : v.gooRuns = false ∨ v.atWhole psPerMs = false) :
    opContactChange i b closed v = v := if_pos (by simpa using h)

theorem opContactChange_same (hrun : v.gooRuns = true) (hms : v.atWhole psPerMs = true)
    (h : v.flag (contactFlag i b) = contactLevel v i b closed) : opContactChange i b closed v = v :=
  (if_neg (by simp [hrun, hms])).trans (if_pos (beq_iff_eq.2 h))

theorem opContactChange_notEnabled (hrun : v.gooRuns = true) (hms : v.atWhole psPerMs = true)
    (h : v.flag (contactFlag i b) = !contactLevel v i b closed) (hen : v.flag (F.GOO_IN_CFG_EN i) = false) :
    opContactChange i b closed v = (v.setFlag (contactFlag i b) (contactLevel v i b closed)).gooShow := by
  have hchange : ¬ (v.flag (contactFlag i b) == contactLevel v i b closed) = true := by simp [h]
  have hoff : (!(v.setFlag (contactFlag i b) (contactLevel v i b closed)).flag (F.GOO_IN_CFG_EN i)) = true := by
    simp [flag_inEn_setContact, hen]
  exact (if_neg (by simp [hrun, hms])).trans ((if_neg hchange).trans (if_pos hoff))

/-- Of an enabled input with both contacts closed, a contact that opens trips the input (R326) and starts the
discrepancy time (R324). -/
theorem opContactChange_opens (hrun : v.gooRuns = true) (hms : v.atWhole psPerMs = true)
    (hl : contactLevel v i b closed = false) (hen : v.flag (F.GOO_IN_CFG_EN i) = true)
    (ha : v.flag (F.GOO_IN_STAT_A i) = true) (hb : v.flag (F.GOO_IN_STAT_B i) = true) :
    opContactChange i b closed v =
      let w := (v.setFlag (contactFlag i b) false).tripInput i
      (w.modGooIn i (fun x => { x with discAt := if x.discAt.isSome then x.discAt else some w.modTime })).gooShow := by
  have hen' := (flag_inEn_setContact v i b false).trans hen
  have hself := flag_setContact_self v i b false
  have hother := flag_setContact_other v i b false
  unfold contactLevel at hl
  cases b <;>
    simp only [contactFlag, Bool.not_false, Bool.not_true, if_true, Bool.false_eq_true, if_false] at hen' hself hother ⊢ <;>
    simp only [opContactChange, hrun, hms, hl, ha, hb, hen', hself, hother, Bool.false_eq_true, if_false, if_true] <;>
    simp

end

/-! ### Causes of safe stop and its end (R324, R325, R332, R334, R336, R337) -/

section
variable {v : State} {i k d : Nat}

theorem opDiscrepancy_expires (hd : (v.gooIn i).discAt = some d) (hrun : v.gooRuns = true)
    (hen : v.flag (F.GOO_IN_CFG_EN i) = true) (ht : d + v.fld (F.GOO_IN_CFG_DISC_MS i) * psPerMs ≤ v.modTime) :
    opDiscrepancy i v =
      let w := (v.setFlag (F.GOO_IN_STAT_DISCF i) true).modGooIn i (fun x =>
        { x with discAt := none, cause2 := true, tripped := true, sawLow := false })
      ((w.raise 3 i).henMake sevError 3 i).impose 2 := by
  simp only [opDiscrepancy, hd]
  exact if_neg (by simp [hrun, hen, ht])

theorem opCrossCircuit_trips (hrun : v.gooRuns = true) (hen : v.flag (F.GOO_IN_CFG_EN i) = true)
    (hx : v.flag (F.GOO_IN_STAT_XF i) = false) :
    opCrossCircuit i v =
      (((v.setFlag (F.GOO_IN_STAT_XF i) true).modGooIn i (fun x => { x with cause3 := true })).raise 4 i).impose 3 :=
  if_neg (by simp [hrun, hen, hx])

theorem opGooStop_stops (hrun : v.gooRuns = true) : opGooStop v = (v.addGooCause 7).impose 7 :=
  if_neg (by simp [hrun])

theorem opGooStop_stands (hrun : v.gooRuns = false) : opGooStop v = v := if_pos (by simp [hrun])

theorem opGooRelease_ends (hs : v.endLocalTrips.flag F.GOO_STAT_SAFESTOP = true)
    (hr : v.endLocalTrips.releasable = true) : opGooRelease v = v.endLocalTrips.endSafeStop := by
  simp only [opGooRelease, hs, hr, Bool.and_self, if_true]

theorem opGooRelease_stands (hr : v.endLocalTrips.releasable = false) : opGooRelease v = v.endLocalTrips.gooShow := by
  simp only [opGooRelease, hr, Bool.and_false, Bool.false_eq_true, if_false]

theorem opDiagFailure_stops (hrun : v.gooRuns = true) (hk : v.flag (diagFld k) = false) :
    opDiagFailure k v =
      let w := (v.setFlag (diagFld k) true).setFlag F.GOO_STAT_FAILSAFE true
      ((((w.openDisconnect).addGooCause 8).impose 8).raise (8 + k) 0).henMake sevError (8 + k) 0 :=
  if_neg (by simp [hrun, hk])

/-- The state in which a 10 ms sample of the sealed switches shows their positions (R332). -/
def switchesShown (v : State) (sw : Byte) : State :=
  ({ v with pwr := { v.pwr with switches := sw } } : State).setFld F.GOO_SW_SWNOW sw.toNat

theorem opSealedSwitch_persists {sw : Byte} (hrun : v.gooRuns = true) (hw : v.atWhole (10 * psPerMs) = true)
    (hne : sw.toNat ≠ (switchesShown v sw).fld F.GOO_SW_SWBOOT) (hd : v.goo.swDiff = some d)
    (ht : d + 30 * psPerMs ≤ v.modTime) (hc : v.gooCause 6 = false) :
    opSealedSwitch sw v =
      ((((switchesShown v sw).addGooCause 6).impose 6).raise 7 sw.toNat).henMake sevError 7 sw.toNat := by
  have hstart : { switchesShown v sw with goo := { (switchesShown v sw).goo with
      swDiff := some ((switchesShown v sw).goo.swDiff.getD (switchesShown v sw).modTime) } } = switchesShown v sw := by
    have hgoo : (switchesShown v sw).goo = v.goo := rfl
    rw [hgoo, hd, Option.getD_some, ← hd]; rfl
  have hsample : ¬ (!v.gooRuns || !v.atWhole (10 * psPerMs)) = true := by simp [hrun, hw]
  have hdue : ¬ (v.modTime < (switchesShown v sw).goo.swDiff.getD (switchesShown v sw).modTime + 30 * psPerMs ∨
      (switchesShown v sw).gooCause 6 = true) := by
    rw [show (switchesShown v sw).goo.swDiff = some d from hd, Option.getD_some]
    exact not_or.2 ⟨Nat.not_lt.2 ht, ne_true_of_eq_false hc⟩
  unfold switchesShown at *
  simp only [opSealedSwitch]
  refine (if_neg hsample).trans ((if_neg hne).trans ?_)
  rw [hstart]
  exact if_neg hdue

end

/-- Settles O31: each command by the cases of its operation. -/
theorem gooseStop : Obligations.GooseStop := by
  refine ⟨fun s t i b closed => ?contact,
    fun s t d i hd hrun hen ht => next_of_eq (opDiscrepancy_expires hd hrun hen ht),
    fun s t i hrun hen hx => next_of_eq (opCrossCircuit_trips hrun hen hx), fun s t => ?stop,
    fun s t k hrun hk => next_of_eq (opDiagFailure_stops hrun hk),
    fun s t d sw hrun hw hne hd ht hc => next_of_eq (opSealedSwitch_persists hrun hw hne hd ht hc)⟩
  case contact =>
    exact ⟨fun hrun hms h => next_of_eq (opContactChange_same hrun hms h),
      fun hrun hms h hen => next_of_eq (opContactChange_notEnabled hrun hms h hen),
      fun hrun hms hl hen ha hb => next_of_eq (opContactChange_opens hrun hms hl hen ha hb),
      fun h => next_of_eq (opContactChange_notSampled h)⟩
  case stop =>
    exact ⟨fun hrun => next_of_eq (opGooStop_stops hrun), fun hrun => next_of_eq (opGooStop_stands hrun),
      fun hs hr => next_of_eq (opGooRelease_ends hs hr), fun hr => next_of_eq (opGooRelease_stands hr)⟩

/-! ### Outputs and contactors (R328 to R331) -/

section
variable {v : State} {o mv : Nat}

theorem opOutputTest_pulse (hon : v.outOn o = true) {k : Nat}
    (ht : v.modTime = o * 12500 * psPerUs + k * (100 * psPerMs)) :
    opOutputTest o mv v = if mv < 5000 then v else v.stuckOn o := by
  refine if_neg ?_
  have hphase : v.modTime - o * 12500 * psPerUs = k * (100 * psPerMs) := by omega
  have hlate : ¬ v.modTime < o * 12500 * psPerUs := by omega
  simp [hon, hlate, hphase]

theorem opOutputReadback_runs (sup : Nat) (hrun : v.gooRuns = true) :
    opOutputReadback o mv sup v =
      let w := v.setFlag (F.GOO_OUT_STAT_RB o) (decide (5000 ≤ mv))
      if w.outOn o = false then (if mv < 5000 then w else w.stuckOn o)
        else if mv + 3000 < sup then ((w.testFault o).outputOff o).gooShow
        else if sup + 3000 < mv then w.testFault o else w := by
  simp only [opOutputReadback, hrun, Bool.not_true, Bool.false_eq_true, if_false, Bool.not_eq_true']

theorem opFeedback_checks {fb : Nat} {level : Bool} (hrun : v.gooRuns = true) :
    opFeedback fb level v =
      let w : State := { v with goo := { v.goo with feedback :=
        if level then v.goo.feedback ||| 1#4 <<< fb else v.goo.feedback &&& ~~~ (1#4 <<< fb) } }
      (((List.range 8).filter (fun o => w.fld (F.GOO_OUT_CFG_FB o) == fb)).filter
        (fun o => w.flag (F.GOO_OUT_CFG_FBEN o))).foldl (fun w o => w.checkFeedback o) w |>.gooShow :=
  if_neg (ne_true_of_eq_false (show (!v.gooRuns) = false by simp [hrun]))

end

/-! ### Ground speed and the status flit (R335, R338) -/

section
variable {v : State}

theorem opSpeedUpdate_window {pulses : List Nat} (hrun : v.gooRuns = true) (hw : v.atWhole (10 * psPerMs) = true) :
    opSpeedUpdate pulses v =
      let as := (pulses.getD (v.fld F.GOO_SPD_CFG_FIN_A) 0 :: v.goo.pulsesA).take 10
      let bs := (pulses.getD (v.fld F.GOO_SPD_CFG_FIN_B) 0 :: v.goo.pulsesB).take 10
      let a := v.speedOf as
      let b := v.speedOf bs
      let low := decide (a < 139 ∧ b < 139)
      let differ := decide (556 < a ∧ 556 < b ∧ max a b < 5 * (max a b - min a b))
      let w : State := { v with goo := { v.goo with
        pulsesA := as, pulsesB := bs, speedA := a, speedB := b
        stillAt := spanOf low v.goo.stillAt v.modTime
        discAt := spanOf differ v.goo.discAt v.modTime
        agreeAt := spanOf (!differ) v.goo.agreeAt v.modTime } }
      let w := w.setFld F.GOO_SPD_SPEED (satBits 16 (min a b))
      let w := if spanLasts w.goo.agreeAt w.modTime psPerS = true then w.setFlag F.GOO_SPD_SPDDISC false else w
      if low = true ∧ w.flag F.GOO_SPD_SPDDISC = false then w else w.setFlag F.GOO_STAT_STILL false := by
  have hsample : ¬ (!v.gooRuns || !v.atWhole (10 * psPerMs)) = true := by simp [hrun, hw]
  simp only [opSpeedUpdate, if_neg hsample, ← Bool.decide_and, and_assoc, Bool.and_eq_true, Bool.not_eq_true']

theorem opSpeedDiscrepancy_reports (hrun : v.gooRuns = true) (hs : spanLasts v.goo.discAt v.modTime psPerS = true)
    (hd : v.flag F.GOO_SPD_SPDDISC = false) :
    opSpeedDiscrepancy v = ((v.setFlag F.GOO_SPD_SPDDISC true).setFlag F.GOO_STAT_STILL false).raise 12 0 :=
  if_neg (by simp [hrun, hs, hd])

theorem opStill_agreeing (hrun : v.gooRuns = true) (hd : v.flag F.GOO_SPD_SPDDISC = false) :
    opStill v =
      if spanLasts v.goo.stillAt v.modTime (500 * psPerMs) = true then v.setFlag F.GOO_STAT_STILL true else v := by
  simp only [opStill, hrun, hd, Bool.true_and, Bool.not_false, Bool.and_true]

theorem opGooseFlit_emits (hen : v.flag F.GOO_STAT_RT_EN = true) (hw : v.atWhole psPerMs = true) :
    opGooseFlit v =
      let q := fun f => if v.flag f = true then (32767 : Int) else 0
      v.emit 149 (v.fld F.GOO_STAT_RT_ROUTE) v.modMs 0 true true [outFlit
        [((min 32767 (2 * v.fld F.GOO_SPD_SPEED) : Nat) : Int),
        q F.GOO_STAT_STILL, q F.GOO_STAT_HDRENG, q F.GOO_STAT_SAFESTOP]
        (if v.flag F.GOO_SPD_SPDDISC = true then 14 else 15) false false v.modMs 0] :=
  if_neg (by simp [hen, hw])

end

/-- Settles O32: each command by its operation. -/
theorem gooseOutputs : Obligations.GooseOutputs :=
  ⟨fun _ _ _ => rfl, fun _ _ _ _ _ hon ht => next_of_eq (opOutputTest_pulse hon ht),
    fun _ _ _ sup _ hrun => next_of_eq (opOutputReadback_runs sup hrun),
    fun _ _ _ _ hrun => next_of_eq (opFeedback_checks hrun),
    fun _ _ _ _ hrun hw => next_of_eq (opSpeedUpdate_window hrun hw),
    fun _ _ hrun hs hd => next_of_eq (opSpeedDiscrepancy_reports hrun hs hd),
    fun _ _ hrun hd => next_of_eq (opStill_agreeing hrun hd),
    fun _ _ hen hw => next_of_eq (opGooseFlit_emits hen hw)⟩

end Sys2Proof
end

section
/-!
PROOFS. The CAN controllers: the statements about the bus and reception, and about transmission
(14_can_and_isobus.md).
-/

namespace Sys2Proof

open Machine

/-! ### On and off the bus, detection (R345, R359) -/

/-- What a write to CAN_CFG[c] carries: a controller above 1 has no bit 8 (R345). -/
def canCfgValue (c : Nat) (x : Word) : Nat := if c < 2 then x.toNat else x.toNat - place (bitsOf x.toNat 8 1) 8 1

/-- One bit of CAN_CFG[c] written from y. -/
def canCfgPut (c y : Nat) (w : State) (i : Nat) : State := w.setFld ⟨R.CAN_CFG c, i, 1⟩ (bitsOf y i 1)

section
variable {v : State} {c : Nat} {x : Word}

theorem opCanCfgWrite_legacy (h : v.canLegacy c = true) : opCanCfgWrite c x v = v.canReject c := if_pos h

/-- OFFBUS written 1 on the bus, the INIT bits unchanged: bits 4 and 7 are taken, and the controller leaves the bus. -/
theorem opCanCfgWrite_goesOff (hleg : v.canLegacy c = false) (hon : v.flag (F.CAN_CFG_OFFBUS c) = false)
    (h0 : bitOf (canCfgValue c x) 0 = true)
    (hinit : ∀ i ∈ canInitBits, bitOf (canCfgValue c x) i = bitOf (v.reg (R.CAN_CFG c)).toNat i) :
    opCanCfgWrite c x v =
      let w := canCfgPut c (canCfgValue c x) (canCfgPut c (canCfgValue c x) v 4) 7
      (if bitOf (canCfgValue c x) 7 = true then w else w.modCanCh c (fun z => { z with abd := none })).canOffbus c := by
  have hsame : canInitBits.any (fun i => bitOf (canCfgValue c x) i != bitOf (v.reg (R.CAN_CFG c)).toNat i) = false := by
    simpa [List.any_eq_false] using hinit
  unfold canCfgValue at *
  simp only [opCanCfgWrite, hleg, hon, hsame, h0, Bool.false_eq_true, if_false, if_true, canCfgPut]
  cases bitOf (if c < 2 then x.toNat else x.toNat - place (bitsOf x.toNat 8 1) 8 1) 7 <;>
    simp only [Bool.not_true, Bool.not_false, Bool.false_eq_true, if_false, if_true]

/-- OFFBUS cleared with LISTEN and ABD: the INIT bits are taken too, and detection starts (R359). -/
theorem opCanCfgWrite_detects (hleg : v.canLegacy c = false) (hoff : v.flag (F.CAN_CFG_OFFBUS c) = true)
    (h0 : bitOf (canCfgValue c x) 0 = false) (h3 : bitOf (canCfgValue c x) 3 = true)
    (h7 : bitOf (canCfgValue c x) 7 = true) :
    opCanCfgWrite c x v =
      let put := canCfgPut c (canCfgValue c x)
      (put (put (canInitBits.foldl put v) 4) 7).canOnbus c true := by
  unfold canCfgValue at *
  simp only [opCanCfgWrite, hleg, hoff, h0, h3, h7, Bool.false_eq_true, if_false, if_true, Bool.not_true, Bool.and_true]
  rfl

theorem opCanJoin_cases (v : State) (c : Nat) : opCanJoin c v =
    if v.canRuns c = true ∧ v.flag (F.CAN_CFG_OFFBUS c) = false ∧ v.fld (F.CAN_STAT_BSTATE c) ≠ 2 ∧
        (v.canCh c).waitFrom + 11 * v.canBit c ≤ v.modTime
      then v.setFlag (F.CAN_STAT_SYNC c) true else v := by
  simp only [opCanJoin, State.canWaited, Bool.and_eq_true, Bool.not_eq_true', bne_iff_ne, decide_eq_true_eq, and_assoc]

/-- The next candidate of a detection, or its failure after two passes (R359). -/
theorem opAbdTimeout_candidate {a : CanAbd} (e : Bool) (ha : (v.canCh c).abd = some a) (hw : a.wonAt = none) :
    opAbdTimeout c e v =
      if e = false ∧ v.modTime < a.since + 200 * psPerMs then v
      else if a.idx < 7 then v.modCanCh c (fun x => { x with abd := some ⟨a.idx + 1, a.pass, v.modTime, 0, none, 0⟩ })
      else if a.pass = 0 then v.modCanCh c (fun x => { x with abd := some ⟨0, 1, v.modTime, 0, none, 0⟩ })
      else (((v.setFlag (F.CAN_STAT_ABDFAIL c) true).setFlag (F.CAN_CFG_ABD c) false).modCanCh c
        (fun x => { x with abd := none })).canEvent2 c 5 0 := by
  simp only [opAbdTimeout, ha, hw, Bool.and_eq_true, Bool.not_eq_true', decide_eq_true_eq]

/-! ### Reception and errors (R349, R351, R357) -/

theorem canAbdFrame_idle {h rate : Nat} (ha : (v.canCh c).abd = none) : v.canAbdFrame c h rate = v := by
  simp only [State.canAbdFrame, ha]

/-- A classical frame on a joined controller, no reference message, counts and goes to the filters. -/
theorem opCanReceived_filters {h : Flit} {data : List Byte} {us rate rec : Nat} (hrun : v.canRuns c = true)
    (hon : v.flag (F.CAN_CFG_OFFBUS c) = false) (hfd : headFd h.toNat = false)
    (hsync : v.flag (F.CAN_STAT_SYNC c) = true) (hz : v.canFrozen c = false) (ha : (v.canCh c).abd = none)
    (href : ((v.setFld (F.CAN_STAT_REC c) (min 127 rec)).setFlag (F.CAN_STAT_RP c) (decide (128 ≤ rec))).isReference c
      h.toNat = false) :
    opCanReceived c h data us rate rec v =
      ((v.setFld (F.CAN_STAT_REC c) (min 127 rec)).setFlag (F.CAN_STAT_RP c) (decide (128 ≤ rec))).canFilter c h.toNat us
        (data.take (canLength false (headDlc h.toNat))) := by
  have habd : (((v.setFld (F.CAN_STAT_REC c) (min 127 rec)).setFlag (F.CAN_STAT_RP c) (decide (128 ≤ rec))).canCh c).abd
      = none := ha
  simp only [opCanReceived, hrun, hon, hfd, hsync, hz, canAbdFrame_idle habd, href, Bool.not_true, Bool.false_and,
    Bool.true_or, Bool.or_self, Bool.false_eq_true, if_false]

theorem opFifoAck_cases (v : State) (c : Nat) (x : Word) : opFifoAck c x v =
    if v.canLegacy c = true ∨ v.canFill c < (v.fld (F.CAN_FIFO_WP c) + 16 - bitsOf x.toNat 0 4) % 16 then v.canReject c
    else (v.setFld (F.CAN_FIFO_ACK_RP c) (bitsOf x.toNat 0 4)).showFifo c := by
  simp only [opFifoAck, Bool.or_eq_true, decide_eq_true_eq]

/-- Short of bus-off, a new bus state is reported and nothing else follows (R357). -/
theorem opErrorState_notBusoff {b tec rec : Nat} (hrun : v.canRuns c = true)
    (hon : v.flag (F.CAN_CFG_OFFBUS c) = false) (hz : v.canFrozen c = false) (hb : b ≠ 2) :
    opErrorState c b tec rec v =
      let w := ((v.setFld (F.CAN_STAT_TEC c) (satBits 8 tec)).setFld (F.CAN_STAT_REC c) (min 127 rec)).setFlag
        (F.CAN_STAT_RP c) (decide (128 ≤ rec))
      if w.fld (F.CAN_STAT_BSTATE c) = b then w else (w.setFld (F.CAN_STAT_BSTATE c) b).canEvent1 c b := by
  simp only [opErrorState, hrun, hon, hz, if_pos hb, Bool.not_true, Bool.or_self, Bool.false_eq_true, if_false]

theorem opBusoffRecovered_joins (hrun : v.canRuns c = true) (hon : v.flag (F.CAN_CFG_OFFBUS c) = false)
    (hb : v.fld (F.CAN_STAT_BSTATE c) = 2)
    (ht : (v.canCh c).waitFrom + 128 * 11 * v.canBit c ≤ v.modTime) :
    opBusoffRecovered c v =
      (((((v.setFld (F.CAN_STAT_TEC c) 0).setFld (F.CAN_STAT_REC c) 0).setFlag (F.CAN_STAT_RP c) false).setFld
        (F.CAN_STAT_BSTATE c) 0).setFlag (F.CAN_STAT_SYNC c) true).canEvent1 c 0 := by
  have hwait : v.canWaited c (128 * 11) = true := decide_eq_true ht
  simp only [opBusoffRecovered, hrun, hon, hb, hwait, bne_self_eq_false, Bool.not_true, Bool.or_self, Bool.false_eq_true,
    if_false]

end

/-! ### Time-triggered operation (R361, R363) -/

section
variable {v : State} {c i : Nat}

/-- At the cycle time of an arbitrating trigger its window opens. -/
theorem opTtTrigger_arbitrating (busy : Bool) (htt : v.ttOn c = true) (hj : v.canJoined c = true)
    (href : (v.canCh c).refAt ≠ 0) (hi : i < (v.ttList c).length) (hk : ttKind (v.ttElement c i) = 2)
    (ha : ttActs (v.ttElement c i) (v.fld (F.CAN_TT_STAT_CYCCNT c)) = true)
    (ht : v.modUs = (v.canCh c).refAt - 1 + bitsOf (v.ttElement c i) 16 16) :
    opTtTrigger c i busy v = (v.modCanCh c (fun y => { y with open_ := false })).modCanCh c
      (fun y => { y with open_ := true }) := by
  simp only [opTtTrigger, htt, hj, href, ha, hk, ht, decide_eq_false (Nat.not_le.2 hi), bne_self_eq_false, Bool.not_true,
    decide_false, Bool.or_self, Bool.false_eq_true, if_false]

/-- What a potential master needs to start a reference message (R363). -/
structure StartsReference (v : State) (c : Nat) : Prop where
  on : v.ttOn c = true
  master : v.flag (F.CAN_TT_CFG_POTM c) = true
  sends : v.canSends c = true
  idle : (v.canCh c).onBus = none
  due : v.referenceDue c = true

theorem opTtReference_lost (h : StartsReference v c) :
    opTtReference c false v = v.setFlag (F.CAN_TT_STAT_MASTER c) false := by
  obtain ⟨hon, hmaster, hsends, hidle, hdue⟩ := h
  simp [opTtReference, hon, hmaster, hsends, hidle, hdue]

theorem opTtReference_won (h : StartsReference v c) :
    opTtReference c true v =
      let m := if (v.canCh c).refAt = 0 then 0 else (v.fld (F.CAN_TT_STAT_CYCCNT c) + 1) % v.ttCycles c
      let id := v.fld (F.CAN_TT_REF_ID c) / 8 * 8 + v.fld (F.CAN_TT_CFG_PRIO c)
      let h := place id 32 29 + place (v.fld (F.CAN_TT_REF_XTD c)) 61 1 + place 1 72 4
      ((v.ttCycle c v.modUs m true).bump (F.CAN_TALLY_TX c)).modCanCh c
        (fun x => { x with wire := some (h, [BitVec.ofNat 8 m]) }) := by
  obtain ⟨hon, hmaster, hsends, hidle, hdue⟩ := h
  exact (if_neg (by simp [hon, hmaster, hsends, hidle, hdue])).trans (if_neg (by decide))

end

/-! ### Descriptors (R364) -/

section
variable {v : State} {o : Op} {ecc : Bool}

theorem opFifoDrain_otherContext (h : o.ctx ≠ 0) : opFifoDrain v o = v.finish o codeFaultAccess 1 0 := if_pos h

theorem opFifoDrain_legacy (h : o.ctx = 0) (hleg : v.canLegacy (o.arg1 0 4) = true) :
    opFifoDrain v o = v.finish o codeRefusedMode v.mode.code 0 :=
  (if_neg (not_not_intro h)).trans (if_pos hleg)

theorem opFifoDrain_copies (h : o.ctx = 0) (hleg : v.canLegacy (o.arg1 0 4) = false) :
    opFifoDrain v o =
      let c := o.arg1 0 4
      let k := min (o.arg1 4 4) (v.canFill c); let rp := v.fld (F.CAN_FIFO_ACK_RP c)
      (((v.writeBytes o.buf ((List.range k).flatMap (fun i => leBytes 16 (v.canWord c (canFifoSlot (rp + i))) ++
        v.canData c (canFifoSlot (rp + i))))).setFld (F.CAN_FIFO_ACK_RP c) (rp + k)).showFifo c).finish o codeDone 0 k :=
  (if_neg (not_not_intro h)).trans (if_neg (ne_true_of_eq_false hleg))

/-- A frame of CAN_TX, as its descriptor gives its word 0 and the length of its data (R364). -/
def txHead (o : Op) : Nat := headClean o.w2.toNat
def txLength (o : Op) : Nat := canLength (headFd (txHead o)) (headDlc (txHead o))

theorem opCanTx_refusedMode (h : v.canRuns (o.arg1 0 4) = false ∨ v.canLegacy (o.arg1 0 4) = true) :
    opCanTx ecc v o = v.finish o codeRefusedMode v.mode.code 0 := if_pos (by simpa using h)

/-- A controller of host software with room in its queue. -/
structure TakesFrame (v : State) (o : Op) : Prop where
  runs : v.canRuns (o.arg1 0 4) = true
  host : v.canLegacy (o.arg1 0 4) = false
  room : (v.canCh (o.arg1 0 4)).queue.length < 32

theorem opCanTx_full (hrun : v.canRuns (o.arg1 0 4) = true) (hleg : v.canLegacy (o.arg1 0 4) = false)
    (hq : 32 ≤ (v.canCh (o.arg1 0 4)).queue.length) : opCanTx ecc v o = v.finish o codeRefusedCapacity 18 0 :=
  (if_neg (by simp [hrun, hleg])).trans (if_pos hq)

theorem opCanTx_takes (h : TakesFrame v o) : opCanTx ecc v o =
    if ecc = true ∧ 16 < txLength o then v.finish o codeFaultAccess 2 0
    else if v.flag (F.CAN_CFG_OFFBUS (o.arg1 0 4)) = true ∨ v.fld (F.CAN_STAT_BSTATE (o.arg1 0 4)) = 2 then
      v.finish o codeDone 0 (v.canResult (o.arg1 0 4) 3)
    else v.modCanCh (o.arg1 0 4) (fun x => { x with queue := x.queue ++ [⟨o.ctx, o.tag, bitOf o.w1.toNat 4, txHead o,
      if txLength o ≤ 16 then (leBytes 16 o.w3.toNat).take (txLength o) else v.readBytes o.buf (txLength o)⟩] }) := by
  obtain ⟨hrun, hleg, hq⟩ := h
  simp only [opCanTx, hrun, hleg, if_neg (Nat.not_le.2 hq), Bool.not_true, Bool.or_self, Bool.false_eq_true, if_false,
    Bool.and_eq_true, Bool.or_eq_true, decide_eq_true_eq, beq_iff_eq, txLength, txHead]
  rfl

/-- Data in DRAM that meets no uncorrectable error, or none in DRAM (R364). -/
theorem not_txFault (h : ecc = true → txLength o ≤ 16) : ¬ (ecc = true ∧ 16 < txLength o) :=
  fun ⟨he, hl⟩ => absurd (h he) (Nat.not_le.2 hl)

end

/-- Settles O37: each command by the cases of its operation. -/
theorem canBus : Obligations.CanBus := by
  refine ⟨fun s t c x => ⟨fun h => next_of_eq (opCanCfgWrite_legacy h),
      fun hleg hon h0 hinit => next_of_eq (opCanCfgWrite_goesOff hleg hon h0 hinit)⟩,
    fun s t c => next_of_eq (opCanJoin_cases _ c.val),
    fun s t c x hleg hoff h0 h3 h7 => next_of_eq (opCanCfgWrite_detects hleg hoff h0 h3 h7),
    fun s t c e a ha hw => ?candidate,
    fun s t us rec c h data rate hrun hon hfd hsync hz ha href =>
      next_of_eq (opCanReceived_filters hrun hon hfd hsync hz ha href),
    fun s t c x => next_of_eq (opFifoAck_cases _ c.val x),
    fun s t tec rec c b hrun hon hz hb => next_of_eq (opErrorState_notBusoff hrun hon hz hb),
    fun s t c hrun hon hb ht => next_of_eq (opBusoffRecovered_joins hrun hon hb ht),
    fun s t c i busy htt hj href hi hk ha ht => next_of_eq (opTtTrigger_arbitrating busy htt hj href hi hk ha ht),
    fun s t c hon hmaster hsends hidle hdue => ?reference, fun s t ctx tag o h => ?drain⟩
  case candidate =>
    have hcases := opAbdTimeout_candidate e ha hw
    exact ⟨fun he ht => next_of_eq (hcases.trans (if_pos ⟨he, ht⟩)), fun h => next_of_eq (hcases.trans (if_neg
      fun ⟨he, ht⟩ => h.elim (fun h => by simp [h] at he) (Nat.not_le.2 ht)))⟩
  case reference =>
    have h : StartsReference (s.tick t) c.val := ⟨hon, hmaster, hsends, hidle, hdue⟩
    exact ⟨next_of_eq (opTtReference_lost h), next_of_eq (opTtReference_won h)⟩
  case drain =>
    have hrun := next_of_eq (beginOp_startable h opFifoDrain)
    exact ⟨fun h0 => hrun.trans (next_of_eq (opFifoDrain_otherContext h0)),
      fun h0 hleg => hrun.trans (next_of_eq (opFifoDrain_legacy h0 hleg)),
      fun h0 hleg => hrun.trans (next_of_eq (opFifoDrain_copies h0 hleg))⟩

/-! ### Frames that leave (R353, R354, R355) -/

section
variable {v : State} {c : Nat}

/-- Withdrawing the requests of buffers (R354). -/
theorem opTxCanWrite_cases (v : State) (c : Nat) (x : Word) : opTxCanWrite c x v =
    if v.canLegacy c = true then v.canReject c else
      (List.range 8).foldl (fun w b => if bitOf x.toNat b = false then w
        else if w.canBufferOn c = some b then w.setFld ⟨R.CAN_TXCAN c, b, 1⟩ 1
        else w.setFld ⟨R.CAN_TXREQ c, b, 1⟩ 0) v := by
  simp only [opTxCanWrite, Bool.not_eq_true']

/-- On an idle bus without time triggers the frame that goes next starts. -/
theorem opTxStart_idle (fits : Bool) (hs : v.canSends c = true) (hidle : (v.canCh c).onBus = none)
    (htt : v.ttOn c = false) : opTxStart c fits v =
      match v.canNext c with
      | none => v
      | some (_, .buffer b _) => v.canStartBuffer c b false
      | some (_, .queued q) =>
        v.setCanCh c { v.canCh c with onBus := some (.queued q), wire := some (v.canWire c q.head q.data) } :=
  if_neg (by simp [hs, hidle, htt])

theorem opFrameSent_idle {tec : Nat} (h : (v.canCh c).onBus = none) : opFrameSent c tec v = v := by
  simp only [opFrameSent, h]

/-- A frame sent ends the controller's frame, after what its source makes of it. -/
theorem opFrameSent_sent {tec : Nat} {o : CanOnBus} (h : (v.canCh c).onBus = some o) :
    opFrameSent c tec v =
      let w := (v.setFld (F.CAN_STAT_TEC c) (satBits 8 tec)).bump (F.CAN_TALLY_TX c)
      (match o with
        | .buffer b _ => (w.setFld ⟨R.CAN_TXDONE c, b, 1⟩ 1).canBufferDone c b
        | .queued q => (w.canUnqueue c q).finishWaiter (some (q.ctx, q.tag)) codeDone 0 (w.canResult c 0)).canFrameEnd c := by
  simp only [opFrameSent, h] <;> rfl

theorem opTxFailure_buffer {tec b : Nat} (arb : Bool) (h : (v.canCh c).onBus = some (.buffer b true)) :
    opTxFailure c arb tec v =
      (((((v.setFld (F.CAN_STAT_TEC c) (satBits 8 tec)).setFld ⟨R.CAN_TXFAIL c, b, 1⟩ 1).canBufferDone c b).canEvent2 c 1
        b).canFrameEnd c) := by
  simp only [opTxFailure, h, Bool.true_or, if_true]

theorem opTxFailure_queued {tec : Nat} {q : CanQueued} (arb : Bool) (h : (v.canCh c).onBus = some (.queued q)) :
    opTxFailure c arb tec v =
      let w := v.setFld (F.CAN_STAT_TEC c) (satBits 8 tec)
      (if q.oneShot = true then (w.canUnqueue c q).finishWaiter (some (q.ctx, q.tag)) codeDone 0
        (w.canResult c (if arb = true then 1 else 2)) else w).canFrameEnd c := by
  simp only [opTxFailure, h]

theorem takeCanFlit_toStage {p : Packet} {f : Flit} (hf : p.payload = [f]) (hd : p.dst = 150) (ht : p.typ = 3) :
    v.takeCanFlit p = if p.spec = true then v else v.canFlit p.stream f := by
  cases hs : p.spec <;> simp [State.takeCanFlit, hf, hd, ht, hs]

/-- A flit that arrives at the controllers reaches the bound buffers; a speculative one only counts as arrived. -/
theorem opTxrtFlit_toStage {p : Packet} {f : Flit} (hf : p.payload = [f]) (hd : p.dst = 150) (ht : p.typ = 3)
    (hl : v.lands p = true) :
    opTxrtFlit p v = if p.spec = true then v.arrived p else (v.arrived p).canFlit p.stream f :=
  (if_pos (by simp [hd, ht, hl])).trans (takeCanFlit_toStage hf hd ht)

end

/-- Settles O38: each command by the cases of its operation. -/
theorem canTransmit : Obligations.CanTransmit := by
  refine ⟨fun s t c x => ⟨rfl, next_of_eq (opTxCanWrite_cases _ c.val x)⟩,
    fun s t k c fits hs hidle htt => ?start, fun s t tec c => ?sent, fun s t tec c arb => ?failure,
    fun s t p f hf hd ht hl => next_of_eq (opTxrtFlit_toStage hf hd ht hl), fun s t ctx tag o h => ?canTx⟩
  case start =>
    have hcases := opTxStart_idle fits hs hidle htt
    exact ⟨fun h => next_of_eq (hcases.trans (by rw [h])), fun b e h => next_of_eq (hcases.trans (by rw [h])),
      fun q h => next_of_eq (hcases.trans (by rw [h]))⟩
  case sent =>
    exact ⟨fun b e h => next_of_eq (opFrameSent_sent h), fun q h => next_of_eq (opFrameSent_sent h),
      fun h => next_of_eq (opFrameSent_idle h)⟩
  case failure =>
    exact ⟨fun b h => next_of_eq (opTxFailure_buffer arb h),
      fun q h hone => next_of_eq ((opTxFailure_queued arb h).trans (by rw [hone]; rfl)),
      fun q h hone => next_of_eq ((opTxFailure_queued arb h).trans (by rw [hone]; rfl))⟩
  case canTx =>
    have hrun := fun ecc => next_of_eq (beginOp_startable h (opCanTx ecc))
    exact ⟨fun hm ecc => (hrun ecc).trans (next_of_eq (opCanTx_refusedMode hm)),
      fun hr hleg hq ecc => (hrun ecc).trans (next_of_eq (opCanTx_full hr hleg hq)),
      fun hr hleg hq hlen => (hrun true).trans (next_of_eq ((opCanTx_takes ⟨hr, hleg, hq⟩).trans (if_pos ⟨rfl, hlen⟩))),
      fun ecc hr hleg hq hecc hoff => (hrun ecc).trans (next_of_eq ((opCanTx_takes ⟨hr, hleg, hq⟩).trans
        ((if_neg (not_txFault hecc)).trans (if_pos hoff)))),
      fun ecc hr hleg hq hecc hon hb => (hrun ecc).trans (next_of_eq ((opCanTx_takes ⟨hr, hleg, hq⟩).trans
        ((if_neg (not_txFault hecc)).trans (if_neg (not_or.2 ⟨ne_true_of_eq_false hon, hb⟩)))))⟩

end Sys2Proof
end

section
/-!
PROOFS. The mailboxes: the statement about sending, acknowledging and mutual pending (15_mailboxes.md).
-/

namespace Sys2Proof

open Machine

section
variable {v : State} {ch ident : Nat} {b : Bool}

/-! ### Sending (R370 to R372, R379) -/

theorem opMbxSend_excluded (x : Word) (h : v.mbxAllowed ch b ident = false) :
    opMbxSend ch b ident x v = v.mbxExclude ch b ident := if_pos (by simp [h])

/-- A slot is free, or an acknowledge of this very instant frees one. -/
def hasSlot (v : State) (ch : Nat) (b : Bool) : Prop :=
  ((v.mbxCh ch).dir b).queue.length < 4 ∨ (((v.mbxCh ch).dir b).queue.length = 4 ∧ v.ackNow ch (!b) = true)

theorem not_hasSlot_iff : ¬ hasSlot v ch b ↔
    (decide (4 ≤ ((v.mbxCh ch).dir b).queue.length) &&
      !(((v.mbxCh ch).dir b).queue.length == 4 && v.ackNow ch (!b))) = true := by
  unfold hasSlot
  simp only [Bool.and_eq_true, decide_eq_true_eq, Bool.not_eq_true', Bool.and_eq_false_iff, beq_eq_false_iff_ne]
  cases v.ackNow ch (!b) <;> simp

theorem opMbxSend_appends (x : Word) (hal : v.mbxAllowed ch b ident = true) (h : hasSlot v ch b) :
    opMbxSend ch b ident x v =
      let d := (v.mbxCh ch).dir b
      ((v.setMbxCh ch ((v.mbxCh ch).setDir b { d with
        queue := d.queue ++ [(d.next, BitVec.ofNat 128
          (d.w0.toNat + d.w1.toNat * 2 ^ 32 + d.w2.toNat * 2 ^ 64 + x.toNat * 2 ^ 96))]
        next := (d.next + 1) % 256 })).showMbx ch).mbxSignal ch (!b) 0 :=
  (if_neg (by simp [hal])).trans (if_neg fun hfull => not_hasSlot_iff.2 hfull h)

theorem opMbxSend_full (x : Word) (hal : v.mbxAllowed ch b ident = true) (h : ¬ hasSlot v ch b) :
    opMbxSend ch b ident x v =
      (v.setFlag (F.MBX_STAT_FULLERR ch (boolNat b)) true).raise 203 (ch + 64 * boolNat b) :=
  (if_neg (by simp [hal])).trans (if_pos (not_hasSlot_iff.1 h))

/-! ### Acknowledging (R370, R373, R374) -/

theorem opMbxAck_excluded (x : Word) (h : v.mbxAllowed ch b ident = false) :
    opMbxAck ch b ident x v = v.mbxExclude ch b ident := if_pos (by simp [h])

theorem opMbxAck_empty (x : Word) (hal : v.mbxAllowed ch b ident = true)
    (hq : ((v.mbxCh ch).dir (!b)).queue = []) :
    opMbxAck ch b ident x v =
      (v.setFlag (F.MBX_STAT_EMPTYERR ch (boolNat b)) true).raise 204 (ch + 64 * boolNat b) := by
  simp only [opMbxAck, hal, hq, Bool.not_true, Bool.false_eq_true, if_false]

/-- An acknowledge drops the oldest message and writes its record, where the record before has been read. -/
theorem opMbxAck_drops {q : Nat} {m : Flit} {rest : List (Nat × Flit)} (x : Word)
    (hal : v.mbxAllowed ch b ident = true) (hq : ((v.mbxCh ch).dir (!b)).queue = (q, m) :: rest)
    (hnew : v.flag (F.MBX_ACKREC_NEW ch (boolNat (!b)) (q % 4)) = false) :
    opMbxAck ch b ident x v =
      let d := (v.mbxCh ch).dir (!b)
      let w := v.setMbxCh ch ((v.mbxCh ch).setDir (!b) { d with queue := rest, acked := some (v.now, q % 4) })
      ((w.setReg (R.MBX_ACKREC ch (boolNat (!b)) (q % 4))
        (BitVec.ofNat 32 (bitsOf x.toNat 0 16 + place q 16 8 + 2 ^ 31))).showMbx ch).mbxSignal ch (!b) 1 := by
  have hread : ∀ y, (v.setMbxCh ch y).flag (F.MBX_ACKREC_NEW ch (boolNat (!b)) (q % 4)) = false := fun _ => hnew
  simp only [opMbxAck, hal, hq, hread, Bool.not_true, Bool.false_eq_true, if_false]

/-! ### Mutual pending (R377, R379) -/

/-- An episode begins after the observation time in force, where no acknowledge of the instant empties a direction. -/
theorem opBothPend_reports {a ms : Nat} (hs : (v.mbxCh ch).since = some (a, ms)) (he : (v.mbxCh ch).episode = false)
    (hms : ms ≠ 0) (ht : a + ms * psPerMs ≤ v.modTime)
    (hack : ∀ side, ((v.mbxCh ch).dir side).queue.length ≠ 1 ∨ v.ackNow ch (!side) = false) :
    opBothPend ch v =
      (((v.setMbxCh ch { v.mbxCh ch with episode := true }).showMbx ch).bump F.MBX_GLB_STAT_EPISODES).raise 201 ch := by
  have hstays : [false, true].any
      (fun side => ((v.mbxCh ch).dir side).queue.length == 1 && v.ackNow ch (!side)) = false := by
    refine List.any_eq_false.2 fun side _ => ?_
    rcases hack side with h | h <;> simp [h]
  simp only [opBothPend, hs, he, hstays, hms, decide_eq_false (Nat.not_lt.2 ht), decide_false, Bool.or_self,
    Bool.false_eq_true, if_false]

end

/-- Settles O24: each command by the cases of its operation. -/
theorem mailboxes : Obligations.Mailboxes := by
  refine ⟨fun s t ch b i x hal h => next_of_eq (opMbxSend_appends x hal h),
    fun s t ch b i x hal hq hack => next_of_eq (opMbxSend_full x hal ?full),
    fun s t ch b i x h => ⟨next_of_eq (opMbxSend_excluded x h), next_of_eq (opMbxAck_excluded x h)⟩,
    fun s t ch b i x hal hq => next_of_eq (opMbxAck_empty x hal hq),
    fun s t ch b i x q m rest hal hq hnew => next_of_eq (opMbxAck_drops x hal hq hnew),
    fun s t a ms ch hs he hms ht hack => next_of_eq (opBothPend_reports hs he hms ht hack)⟩
  case full =>
    rintro (hlt | ⟨-, hnow⟩)
    · exact Nat.not_le.2 hlt hq
    · simp [hack] at hnow

end Sys2Proof
end

section
/-!
PROOFS. The Hen: the statements about making a record, about its store, and about its window and descriptors
(16_hen_event_recorder.md).
-/

namespace Sys2Proof

open Machine

/-- Settles O11: making a record is a report (`reports_henMakeSeq`) that raises five events alone. -/
theorem henRecordFrame : Obligations.HenRecordFrame := by
  refine fun s sev event arg host => ⟨reports_henMakeSeq s sev event arg host, fun e he hne => ?_⟩
  exact sameEvent_henMakeSeq s sev event arg host he (by simpa [henEvent, and_assoc] using hne)

section
variable {v : State}

/-! ### The write port (R385, R386, R388) -/

theorem opHenRecordWrite_writes {w : HenWrite} {rest : List HenWrite} (hrun : (opHenTokenReturn v).hubRuns = true)
    (hscan : (opHenTokenReturn v).flag F.HEN_STAT_SCANNED = true) (htok : (opHenTokenReturn v).hen.tokens.length < 64)
    (hq : (opHenTokenReturn v).hen.queue = w :: rest) :
    opHenRecordWrite v =
      let u := opHenTokenReturn v
      (({ u with hen := { u.hen with queue := rest, tokens := u.hen.tokens ++ [u.now] } } : State).henStore w).henWake := by
  simp only [opHenRecordWrite, hrun, hscan, decide_eq_false (Nat.not_le.2 htok), hq, Bool.not_true, Bool.or_self,
    Bool.false_eq_true, if_false]

/-- Before the start scan has ended, or while 64 tokens are out, only tokens return. -/
theorem opHenRecordWrite_waits
    (h : (opHenTokenReturn v).flag F.HEN_STAT_SCANNED = false ∨ 64 ≤ (opHenTokenReturn v).hen.tokens.length) :
    opHenRecordWrite v = opHenTokenReturn v :=
  if_pos (by rcases h with h | h <;> simp [h])

theorem opHenOpenRefresh_due {q k : Nat} {x : HenSlot} (hq : v.hen.openSeq = some q) (hx : v.henFind q = some (k, x))
    (h0 : v.now - v.hen.openAt ≠ 0) (hs : (v.now - v.hen.openAt) % psPerS = 0) :
    opHenOpenRefresh v =
      if v.henEntry x.cls = true then v.henEnqueue ⟨q, x.cls, none⟩ else v.henLost x.record.event := by
  have hdue : ¬ (v.now - v.hen.openAt = 0 ∨ (v.now - v.hen.openAt) % psPerS ≠ 0) :=
    not_or.2 ⟨h0, not_not_intro hs⟩
  simp only [opHenOpenRefresh, hq, if_neg hdue, hx]

/-- A token is out until 10 ms after it was taken. -/
theorem mem_tokens_opHenTokenReturn (a : Nat) : a ∈ (opHenTokenReturn v).hen.tokens ↔
    a ∈ v.hen.tokens ∧ v.now < a + 10 * psPerMs := by
  simp only [opHenTokenReturn, List.mem_filter, decide_eq_true_eq]

theorem opHenHoursWrite_counts (hrun : v.hubRuns = true) (h0 : v.modTime ≠ 0) (hw : v.atWhole (36 * psPerS) = true) :
    opHenHoursWrite v = { v with hen := { v.hen with hours := (v.hen.hours + 1) % 2 ^ 32 } } :=
  if_pos (by simp [hrun, h0, hw])

/-- A start scan without bad slots changes no slot. -/
theorem opHenScanComplete_noBad (hrun : v.hubRuns = true) (hscan : v.flag F.HEN_STAT_SCANNED = false) :
    opHenScanComplete [] v =
      ((({ v with hen := { v.hen with badSlots := [] } } : State).setFlag F.HEN_STAT_SCANNED true).setFld
        F.HEN_STAT_BADREC 0).henUsed := by
  simp only [opHenScanComplete, hrun, hscan, Bool.not_true, Bool.or_self, Bool.false_eq_true, if_false]
  rfl

/-! ### The window (R389) -/

theorem opHenNext_shown {q : Nat} (crc : Bool) (h : v.hen.shown = some q) :
    opHenNext crc v = v.henLoad (q + 1) crc := by
  simp only [opHenNext, h]

theorem opHenNext_none (crc : Bool) (h : v.hen.shown = none) : opHenNext crc v = v := by
  simp only [opHenNext, h]

end

/-- Settles O27: each command by the cases of its operation. -/
theorem henStore : Obligations.HenStore := by
  refine ⟨fun s t w rest hrun hscan htok hq => next_of_eq (opHenRecordWrite_writes hrun hscan htok hq),
    fun s t h => next_of_eq (opHenRecordWrite_waits h),
    fun s t q k x hq hx h0 hs => next_of_eq (opHenOpenRefresh_due hq hx h0 hs),
    fun s t => ⟨_, rfl, rfl, fun a => mem_tokens_opHenTokenReturn a⟩,
    fun s t hrun h0 hw => next_of_eq (opHenHoursWrite_counts hrun h0 hw),
    fun s t hrun hscan => next_of_eq (opHenScanComplete_noBad hrun hscan)⟩

/-! ### Descriptors (R390, R393) -/

section
variable {v : State} {o : Op}

theorem opHenWrite_otherContext (hs : o.arg1 0 2 = 3) (hc : o.ctx ≠ 0) :
    opHenWrite v o = v.finish o codeFaultAccess 1 0 := if_pos ⟨hs, hc⟩

theorem opHenWrite_makes (h : ¬ (o.arg1 0 2 = 3 ∧ o.ctx ≠ 0)) :
    opHenWrite v o =
      let m := v.henMakeSeq (o.arg1 0 2) (o.arg1 8 8) (o.arg1 32 32) (some o.cls)
      if m.2.2 = .lost ∨ m.1.henSettled m.2.1 = true then m.1.finish o codeDone 0 m.2.1
      else m.1.modifyOp o.ctx o.tag (fun y => { y with aux := m.2.1 }) := if_neg h

theorem opHenRead_copies (v : State) (o : Op) :
    opHenRead false v o =
      let xs := (v.henInOrder.filter (fun x => decide (o.arg1 0 32 ≤ x.record.seq))).take (o.arg1 32 16)
      (v.writeBytes o.buf (xs.flatMap (fun x => henBytes (v.henShows x)))).finish o codeDone 0 xs.length :=
  rfl

theorem opHenClear_otherContext (h : o.ctx ≠ 0) : opHenClear v o = v.finish o codeFaultAccess 1 0 := if_pos h

theorem opHenClear_outsideService (h : o.ctx = 0) (hs : o.arg1 32 2 = 3) (hm : v.mode ≠ .service) :
    opHenClear v o = v.finish o codeRefusedMode v.mode.code 0 :=
  (if_neg (not_not_intro h)).trans (if_pos ⟨hs, hm⟩)

theorem opHenClear_removes (h : o.ctx = 0) (hs : o.arg1 32 2 < 3) :
    opHenClear v o =
      let m := v.henRemove (o.arg1 0 32) (o.arg1 32 2)
      (((m.1.raise 218 m.2).henMake sevNotice 218 m.2).finish o codeDone 0 m.2).henWake :=
  (if_neg (not_not_intro h)).trans (if_neg fun hno => Nat.ne_of_lt hs hno.1)

/-- A range fault of word 1 is one of the descriptor's range bits: every other fault has another kind or word. -/
theorem rangeBits_of_mem_faults {bit : Nat} (h : (1, bit, 3) ∈ o.faults) : bit ∈ o.rangeBits := by
  unfold Op.faults at h
  split at h
  · simp at h
  · simpa [List.mem_append] using h

theorem henCount_faults_iff (h : o.opcode = 0x71) :
    (o.arg1 32 16 = 0 ∨ 4096 < o.arg1 32 16) ↔ (1, 32, 3) ∈ o.faults := by
  refine ⟨henCount_faults h, fun hf => ?_⟩
  have hbits := rangeBits_of_mem_faults hf
  simpa [Op.rangeBits, h] using hbits

end

/-- Settles O28: the window by its operations, each descriptor by its cases. -/
theorem henWindow : Obligations.HenWindow := by
  refine ⟨fun s t x crc => rfl, fun s t q crc h => next_of_eq (opHenNext_shown crc h),
    fun s t crc h => next_of_eq (opHenNext_none crc h), fun s t c tag o h => ?write, fun s t c tag o h => ?read,
    fun o h => henCount_faults_iff h, fun s t c tag o h => ?clear⟩
  case write =>
    have hrun := next_of_eq (beginOp_startable h opHenWrite)
    exact ⟨fun hs hc => hrun.trans (next_of_eq (opHenWrite_otherContext hs hc)),
      fun hno => hrun.trans (next_of_eq (opHenWrite_makes hno))⟩
  case read =>
    have hrun := fun ecc => next_of_eq (beginOp_startable h (opHenRead ecc))
    exact ⟨hrun true, (hrun false).trans (next_of_eq (opHenRead_copies _ _))⟩
  case clear =>
    have hrun := next_of_eq (beginOp_startable h opHenClear)
    exact ⟨fun h0 => hrun.trans (next_of_eq (opHenClear_otherContext h0)),
      fun h0 hs hm => hrun.trans (next_of_eq (opHenClear_outsideService h0 hs hm)),
      fun h0 hs => hrun.trans (next_of_eq (opHenClear_removes h0 hs))⟩

end Sys2Proof
end

section
/-!
PROOFS. The Rooster: the statements about its tick count and about the calendar (17_power_backup_and_rooster.md,
20_hm330_compatibility.md).
-/

namespace Sys2Proof

open Machine

section
variable {v : State} {i : Nat}

/-! ### The crystal and the tick shadows (R410, R412) -/

theorem opXo32Stop_stops (hxo : v.pwr.xoRuns = true) (hrun : v.hubRuns = true) :
    opXo32Stop v =
      let w : State := { v with pwr := { v.pwr with
        rawBase := max v.pwr.rawBase ({ v with now := v.now - 4 * psPerMs } : State).rawTicks, xoRuns := false } }
      (((w.setFlag F.ROO_STAT_OSCSTOP true).setFlag F.ROO_STAT_UNTRUST true).setOsf).raise 226 0 :=
  (if_neg (by simp [hxo])).trans (if_pos hrun)

/-- A part of a count in a word: 16 bits fit. -/
theorem toNat_ofNat_bitsOf (n lo : Nat) : (BitVec.ofNat 32 (bitsOf n lo 16)).toNat = bitsOf n lo 16 := by
  rw [BitVec.toNat_ofNat]
  exact Nat.mod_eq_of_lt (Nat.lt_of_lt_of_le (Nat.mod_lt _ (by decide)) (by decide))

/-- A read of ROO_TICK0 freezes the reader's shadow at the count. -/
theorem tickPart_opTick0Read_self (p : Nat) :
    (opTick0Read i v).tickPart i p = bitsOf v.tickCount (16 * p) 16 := by
  simp [State.tickPart, opTick0Read]

theorem tickPart_opTick0Read_ne {j : Nat} (p : Nat) (h : j ≠ i) : (opTick0Read i v).tickPart j p = v.tickPart j p := by
  simp only [State.tickPart, opTick0Read, spGet_spSet_ne _ _ _ _ h]
  rfl

/-- A read of ROO_TICK2 ends the freeze: the reader's shadow is live again. -/
theorem tickPart_opTick2Read_self (p : Nat) :
    (opTick2Read i v).tickPart i p = bitsOf v.tickCount (16 * p) 16 := by
  simp only [State.tickPart, opTick2Read, spGet_spSet_self, if_true]
  rfl

theorem tickPart_opTick2Read_ne {j : Nat} (p : Nat) (h : j ≠ i) : (opTick2Read i v).tickPart j p = v.tickPart j p := by
  simp only [State.tickPart, opTick2Read, spGet_spSet_ne _ _ _ _ h]
  rfl

/-! ### Load and alarm (R413, R415) -/

theorem opRooLoadApply_idle (h : v.flag F.ROO_STAT_LOADPEND = false) : opRooLoadApply v = v := if_pos (by simp [h])

theorem opRooLoadApply_loads (hp : v.flag F.ROO_STAT_LOADPEND = true) (ht : v.pwr.loadRaw < v.rawTicks)
    (hrun : v.hubRuns = true) :
    opRooLoadApply v =
      let w : State := { v with pwr := { v.pwr with
        loadOfs := (v.triple F.ROO_SET0_VALUE F.ROO_SET1_VALUE F.ROO_SET2_VALUE + 2 ^ 48 -
          v.trimmedAt (v.pwr.loadRaw + 1) % 2 ^ 48) % 2 ^ 48 } }
      ((w.setFlag F.ROO_STAT_LOADPEND false).setFlag F.ROO_STAT_UNTRUST false).raise 228 0 :=
  (if_neg (by simp [hp, Nat.not_le.2 ht])).trans (if_pos hrun)

/-- The alarm, where no load waits for the edge. -/
theorem opRooAlarm_noLoad (hp : v.flag F.ROO_STAT_LOADPEND = false) :
    opRooAlarm v =
      if v.flag F.ROO_CTL_ALMEN = false ∨ v.rawTicks ≤ v.pwr.almRaw ∨
          v.tickCount < v.triple F.ROO_ALM0_VALUE F.ROO_ALM1_VALUE F.ROO_ALM2_VALUE then v else
      let w := (v.setFlag F.ROO_STAT_ALMF true).setFlag F.ROO_CTL_ALMEN false
      if w.hubRuns = true then w.raise 225 0 else { w with pwr := { w.pwr with alarmPending := true } } := by
  simp only [opRooAlarm, opRooLoadApply_idle hp, Bool.or_eq_true, Bool.not_eq_true', decide_eq_true_eq, or_assoc]

theorem opRooAlarm_fires (hp : v.flag F.ROO_STAT_LOADPEND = false) (hen : v.flag F.ROO_CTL_ALMEN = true)
    (ht : v.pwr.almRaw < v.rawTicks)
    (hc : v.triple F.ROO_ALM0_VALUE F.ROO_ALM1_VALUE F.ROO_ALM2_VALUE ≤ v.tickCount) (hrun : v.hubRuns = true) :
    opRooAlarm v = ((v.setFlag F.ROO_STAT_ALMF true).setFlag F.ROO_CTL_ALMEN false).raise 225 0 :=
  (opRooAlarm_noLoad hp).trans ((if_neg (by simp [hen, Nat.not_le.2 ht, Nat.not_lt.2 hc])).trans (if_pos hrun))

end

/-- Settles O17: each command by the cases of its operation. -/
theorem roosterCount : Obligations.RoosterCount := by
  refine ⟨fun s t hxo hrun => next_of_eq (opXo32Stop_stops hxo hrun),
    fun s t i => ⟨_, rfl, ?tick0, tickPart_opTick0Read_self, fun j p h => tickPart_opTick0Read_ne p h, rfl, rfl⟩,
    fun s t i => ⟨_, rfl, toNat_ofNat_bitsOf _ _, tickPart_opTick2Read_self, fun j p h => tickPart_opTick2Read_ne p h,
      rfl, rfl⟩,
    fun s t => rfl, fun s t hp ht hrun => next_of_eq (opRooLoadApply_loads hp ht hrun),
    fun s t hp hen ht hc hrun => next_of_eq (opRooAlarm_fires hp hen ht hc hrun),
    fun s t hp h => next_of_eq ((opRooAlarm_noLoad hp).trans (if_pos h))⟩
  case tick0 => exact toNat_ofNat_bitsOf _ 0

/-! ### The second's advance (R473, R474, R478) -/

/-- Seconds and minutes advance by one in BCD, short of their last value. -/
theorem calAdvanceField_next {f : CalField} (mon year : Nat) {x : Nat} (hf : f = .sec ∨ f = .min)
    (hx : bcdOk x = true) (h : x < 0x59) :
    calAdvanceField f mon year x = ((if x % 16 = 9 then x + 7 else x + 1), false) := by
  have hle : x ≤ 0x59 := Nat.le_of_lt h
  have hne : x ≠ 0x59 := Nat.ne_of_lt h
  rcases hf with rfl | rfl <;> simp [calAdvanceField, calValid, calLeast, calLast, hx, hle, hne]

/-- At 59 seconds SEC becomes 0 and carries. -/
theorem calAdvanceField_sec_last (mon year : Nat) : calAdvanceField .sec mon year 0x59 = (0, true) := by
  simp [calAdvanceField, calValid, calLeast, calLast, bcdOk]

section
variable {v : State}

theorem calAdvance_noCarry (f : CalField) (mon year : Nat) : v.calAdvance f mon year false = (v, false) := rfl

/-- A carry advances a field that no write of the cycle has touched. -/
theorem calAdvance_carry (f : CalField) (mon year : Nat) (h : v.calWritten = []) :
    v.calAdvance f mon year true =
      (v.setFld (calFld f) (calAdvanceField f mon year (v.fld (calFld f))).1,
        (calAdvanceField f mon year (v.fld (calFld f))).2) := by
  simp [State.calAdvance, State.calBefore, h]

/-- A second that SEC takes without a carry changes SEC alone. -/
theorem calSecond_sec (hw : v.calWritten = []) (hx : bcdOk (v.fld F.ROO_CAL_SEC_SEC) = true)
    (h : v.fld F.ROO_CAL_SEC_SEC < 0x59) :
    v.calSecond = v.setFld F.ROO_CAL_SEC_SEC
      (if v.fld F.ROO_CAL_SEC_SEC % 16 = 9 then v.fld F.ROO_CAL_SEC_SEC + 7 else v.fld F.ROO_CAL_SEC_SEC + 1) := by
  simp only [State.calSecond, calAdvance_carry .sec _ _ hw, calFld, calAdvanceField_next _ _ (.inl rfl) hx h,
    calAdvance_noCarry]

/-- At 59 seconds MIN takes the carry, and these two alone change. -/
theorem calSecond_min (hw : v.calWritten = []) (hsec : v.fld F.ROO_CAL_SEC_SEC = 0x59)
    (hx : bcdOk (v.fld F.ROO_CAL_MIN_MIN) = true) (h : v.fld F.ROO_CAL_MIN_MIN < 0x59) :
    v.calSecond = (v.setFld F.ROO_CAL_SEC_SEC 0).setFld F.ROO_CAL_MIN_MIN
      (if v.fld F.ROO_CAL_MIN_MIN % 16 = 9 then v.fld F.ROO_CAL_MIN_MIN + 7 else v.fld F.ROO_CAL_MIN_MIN + 1) := by
  have hw' : (v.setFld F.ROO_CAL_SEC_SEC 0).calWritten = [] := hw
  have hmin : (v.setFld F.ROO_CAL_SEC_SEC 0).fld F.ROO_CAL_MIN_MIN = v.fld F.ROO_CAL_MIN_MIN :=
    fld_setFld_ne _ _ _ _ (by unfold Fld.ok; decide) (.inl (by decide))
  simp only [State.calSecond, calAdvance_carry .sec _ _ hw, calFld, hsec, calAdvanceField_sec_last,
    calAdvance_carry .min _ _ hw', hmin, calAdvanceField_next _ _ (.inr rfl) hx h, calAdvance_noCarry]

theorem opCalendarSecond_due (ht : v.pwr.calBase + 32768 ≤ v.trimmed) (hs : v.secWaits = false) :
    opCalendarSecond v = ({ v with pwr := { v.pwr with calBase := v.pwr.calBase + 32768 } } : State).calSecond :=
  if_neg (by simp [Nat.not_lt.2 ht, hs])

theorem opCalendarSecond_waits (hs : v.secWaits = true) : opCalendarSecond v = v := if_pos (by simp [hs])

/-! ### Writes (R476, R478) -/

theorem opCalendarWrite_legacyStands {f : CalField} (x : Word)
    (h : v.calWritten.any (fun w => w.field == f && w.legacy) = true) : opCalendarWrite f false x v = v :=
  if_pos (by simp [h])

/-- A host write stores the field's bits; of SEC it clears the divider. -/
theorem opCalendarWrite_stores {f : CalField} (x : Word)
    (h : v.calWritten.any (fun w => w.field == f && w.legacy) = false) :
    opCalendarWrite f false x v =
      let n := bitsOf x.toNat 0 (calFld f).width
      let w := (v.noteCalWrite f false).setFld (calFld f) n
      let u := if f = .sec then { w with pwr := { w.pwr with calBase := w.trimmed } } else w
      if calValid f (u.fld F.ROO_CAL_MON_MON) (u.fld F.ROO_CAL_YEAR_YEAR) n = true then u
      else u.raise 247 (calIndex f + n * 256) :=
  if_neg (by simp [h])

theorem calValid_sec {x : Nat} (mon year : Nat) (hx : bcdOk x = true) (h : x ≤ 0x59) :
    calValid .sec mon year x = true := by
  simp [calValid, calLeast, calLast, hx, h]

theorem calValid_min_above {x : Nat} (mon year : Nat) (h : 0x59 < x) : calValid .min mon year x = false := by
  simp [calValid, calLast, Nat.not_le.2 h]

end

/-- Settles O18: a second by how far it carries, a write by the field and its value. -/
theorem roosterCalendar : Obligations.RoosterCalendar := by
  refine ⟨fun s t ht hs hw hx h => next_of_eq ((opCalendarSecond_due ht hs).trans (calSecond_sec hw hx h)),
    fun s t ht hs hw hsec hx h => next_of_eq ((opCalendarSecond_due ht hs).trans (calSecond_min hw hsec hx h)),
    fun s t hs => next_of_eq (opCalendarSecond_waits hs), fun s t x h hx hle => ?sec, fun s t x h hgt => ?min,
    fun s t f x h => next_of_eq (opCalendarWrite_legacyStands x h)⟩
  case sec => exact next_of_eq ((opCalendarWrite_stores x h).trans (if_pos (calValid_sec _ _ hx hle)))
  case min =>
    exact next_of_eq ((opCalendarWrite_stores x h).trans
      (if_neg (ne_true_of_eq_false (calValid_min_above _ _ hgt))))

end Sys2Proof
end

section
/-!
PROOFS. Power: the statements about supply bands and the power-fail sequence, and about starts and the always-on
domain's sources (17_power_backup_and_rooster.md).
-/

namespace Sys2Proof

open Machine

/-! ### Supply bands (R396, R397) -/

theorem nextBand_low {mv : Nat} (held : Bool) (hlo : 9000 ≤ mv) (hhi : mv < 16000) : nextBand 0 mv held = 1 := by
  simp [nextBand, Nat.not_lt.2 hlo, hhi]

theorem nextBand_crank {b mv : Nat} (held : Bool) (h : mv < 9000) : nextBand b mv held = 2 := if_pos h

theorem nextBand_recovers {mv : Nat} (h : 10000 ≤ mv) : nextBand 2 mv true = 1 := by
  have hcrank : ¬ mv < 9000 := by omega
  simp [nextBand, hcrank, Nat.not_lt.2 h]

section
variable {v : State} {mv : Nat}

/-- The band that a supply leads to, given how long it has been at 10.0 V or above (R397). -/
def bandAfter (v : State) (mv heldUs : Nat) : Nat :=
  nextBand ((v.showSupply mv).fld F.PWR_STAT_BAND) mv
    (decide (2000 ≤ heldUs) && decide (v.pwr.crankAt + heldUs * psPerUs ≤ v.now))

theorem showSupply_now (v : State) (mv : Nat) : (v.showSupply mv).now = v.now := rfl

theorem showSupply_crankAt (v : State) (mv : Nat) : (v.showSupply mv).pwr.crankAt = v.pwr.crankAt := rfl

/-- Outside CRANK no episode uses up its 200 ms. -/
theorem crankOver_eq_false {w : State} (h : w.fld F.PWR_STAT_BAND ≠ 2) : w.crankOver = false := by
  simp [State.crankOver, h]

/-- Into LOW: event 16 with the shown supply; out of CRANK the length of the episode counts. -/
theorem opSupplyBand_low {h : Nat} (hrun : v.hubRuns = true) (hb : bandAfter v mv h = 1)
    (hold : (v.showSupply mv).fld F.PWR_STAT_BAND ≠ 1) (hc : (v.showSupply mv).crankOver = false) :
    opSupplyBand mv h v =
      let w := (v.showSupply mv).setFld F.PWR_STAT_BAND 1
      let u := if (v.showSupply mv).fld F.PWR_STAT_BAND = 2
        then w.bumpMax F.PWR_TALLY_CRANKMAX ((v.now - v.pwr.crankAt) / psPerUs) else w
      (u.bump F.PWR_TALLY_LOWEP).raise 16 (w.fld F.PWR_STAT_VSUP) := by
  have hnew : nextBand ((v.showSupply mv).fld F.PWR_STAT_BAND) mv
    (decide (2000 ≤ h) && decide ((v.showSupply mv).pwr.crankAt + h * psPerUs ≤ (v.showSupply mv).now)) = 1 := hb
  have hon : ∀ w : State, w.mode = v.mode → w.hubRuns = true := fun w hw => by
    rw [State.hubRuns, hw]; exact hrun
  simp only [opSupplyBand, hnew, if_neg hold.symm, hc, Bool.false_eq_true, if_false, (by decide : (1 : Nat) ≠ 2), if_true]
  rw [hon _ (by split <;> rfl)]
  simp only [State.setFld_now, State.setFld_pwr, showSupply_now, showSupply_crankAt, Bool.not_true, Bool.false_eq_true,
    if_false]

/-- Into CRANK from NORMAL: event 17, and the start of the episode is noted. -/
theorem opSupplyBand_crank {h : Nat} (hrun : v.hubRuns = true) (hmv : mv < 9000)
    (hold : (v.showSupply mv).fld F.PWR_STAT_BAND = 0) :
    opSupplyBand mv h v =
      let w := (v.showSupply mv).setFld F.PWR_STAT_BAND 2
      let w' := { w with pwr := { w.pwr with crankAt := w.now } }
      (w'.bump F.PWR_TALLY_CRANKEP).raise 17 (w.fld F.PWR_STAT_VSUP) := by
  have hc : (v.showSupply mv).crankOver = false := crankOver_eq_false (by rw [hold]; decide)
  have hon : ∀ w : State, w.mode = v.mode → w.hubRuns = true := fun w hw => by
    rw [State.hubRuns, hw]; exact hrun
  simp only [opSupplyBand, hold, nextBand_crank _ hmv, hc, Bool.false_eq_true, if_false, if_true,
    (by decide : (2 : Nat) ≠ 0), (by decide : (0 : Nat) ≠ 2), (by decide : (2 : Nat) ≠ 1)]
  rw [hon _ (by rfl)]
  simp only [Bool.not_true, Bool.false_eq_true, if_false]

theorem opCrankTimeout_fails (hrun : v.hubRuns = true) (hb : v.fld F.PWR_STAT_BAND = 2)
    (ht : v.pwr.crankAt + 200 * psPerMs ≤ v.now) : opCrankTimeout v = v.powerFail 3 0 :=
  if_pos (by simp [hrun, hb, ht])

theorem opSupplyCollapse_fails (hrun : v.hubRuns = true) (h : mv < 6000) :
    opSupplyCollapse mv v = (v.showSupply mv).powerFail 2 0 :=
  (if_neg (Nat.not_le.2 h)).trans (if_pos hrun)

theorem opRailFault_fails {d : Nat} (hrun : v.hubRuns = true) (h0 : d ≠ 0) (hon : v.domOn d = true) :
    opRailFault d v = ((v.setFld ⟨R.PWR_DOM_STAT, 16 + d, 1⟩ 1).raise 22 d).powerFail 4 d :=
  if_neg (by simp [hrun, h0, hon])

theorem opJunctionLimit_fails {d : Nat} (hrun : v.hubRuns = true) (hd : d = 1 ∨ (4 ≤ d ∧ d ≤ 8))
    (hon : v.domOn d = true) : opJunctionLimit d v = (v.raise 24 d).powerFail 5 d := by
  have hdie : (d == 1 || (decide (4 ≤ d) && decide (d ≤ 8))) = true := by simpa using hd
  exact if_neg (by rw [hrun, hdie, hon]; decide)

end

/-- Settles O15: the band that the supply leads to, and each cause of the power-fail sequence by its operation. -/
theorem powerSupply : Obligations.PowerSupply := by
  refine ⟨fun s t mv h hrun hb hlo hhi => ?low, fun s t mv h hrun hb hmv => next_of_eq (opSupplyBand_crank hrun hmv hb),
    fun s t mv h hrun hb hlo hhi hh hheld hc => ?recovers,
    fun s t hrun hb ht => next_of_eq (opCrankTimeout_fails hrun hb ht),
    fun s t mv hrun h => next_of_eq (opSupplyCollapse_fails hrun h),
    fun s t d hrun h0 hon => next_of_eq (opRailFault_fails hrun h0 hon),
    fun s t d hrun hd hon => next_of_eq (opJunctionLimit_fails hrun hd hon)⟩
  case low =>
    have hband : bandAfter (s.tick t) mv h = 1 := by rw [bandAfter, hb]; exact nextBand_low _ hlo hhi
    have hne : ((s.tick t).showSupply mv).fld F.PWR_STAT_BAND ≠ 1 := by rw [hb]; decide
    have hcrank : ¬ ((s.tick t).showSupply mv).fld F.PWR_STAT_BAND = 2 := by rw [hb]; decide
    exact next_of_eq ((opSupplyBand_low hrun hband hne (crankOver_eq_false hcrank)).trans (by simp only [if_neg hcrank]))
  case recovers =>
    have hband : bandAfter (s.tick t) mv h = 1 := by
      rw [bandAfter, hb, decide_eq_true hh, decide_eq_true hheld]; exact nextBand_recovers hlo
    have hne : ((s.tick t).showSupply mv).fld F.PWR_STAT_BAND ≠ 1 := by rw [hb]; decide
    exact next_of_eq ((opSupplyBand_low hrun hband hne hc).trans (by simp only [if_pos hb]))

/-! ### Starts and the always-on domain's sources (R400 to R409) -/

section
variable {v : State}

theorem opIgnChange_keeps (level : Bool) (v : State) :
    opIgnChange level v = { v with pwr := { v.pwr with
      ign := level, ignLowAt := if v.pwr.ign = true ∧ level = false then v.now else v.pwr.ignLowAt } } := by
  simp only [opIgnChange, Bool.and_eq_true, Bool.not_eq_true']

theorem opCanWake_holds {c : Nat} (h : v.mode = .standby) :
    opCanWake c v = { v with pwr := { v.pwr with canWake := v.pwr.canWake ||| 2 ^ c } } := if_pos h

/-- An enabled active source and a supply good for 10 ms start the module. -/
theorem opPowerUp_starts {ms : Nat} (hm : v.mode = .standby) (hao : v.flag F.PWR_STAT_AOSRC = false) (hms : 10 ≤ ms)
    (hsrc : v.wakeSources &&& bitsOf (v.reg R.PWR_WAKE_CFG).toNat 0 4 ≠ 0) :
    opPowerUp ms v = { v.setFld F.PWR_WAKE_STAT_SRC v.wakeSources with
      now := v.now + 3 * psPerMs, bootAt := v.now + 3 * psPerMs, mode := .boot, prevMode := .standby
      pwr := { v.pwr with canWake := 0 }, nv := { v.nv with wakeOwed := false } } := by
  refine if_neg ?_
  simp only [not_or]
  exact ⟨not_not_intro hm, ne_true_of_eq_false hao, Nat.not_lt.2 hms, fun h => hsrc h.1⟩

theorem opAoToBackup_switches {vao vbat : Nat} (hao : (v.showVao vao).flag F.PWR_STAT_AOSRC = false)
    (h : vao < vbat ∨ vao < 2700) :
    opAoToBackup vao vbat v =
      let w := ((v.showVao vao).setFlag F.PWR_STAT_AOSRC true).setFlag F.PWR_STAT_BKPUSED true
      if v.mode = .standby then { w with mode := .backup, prevMode := .standby, dsp := w.dsp.unpowered } else w := by
  have hlow : (decide (vbat ≤ vao) && decide (2700 ≤ vao)) = false := by
    simp only [Bool.and_eq_false_iff, decide_eq_false_iff_not]; omega
  exact if_neg (by rw [hao, hlow]; decide)

theorem opAoToMain_returns {vao vbat held : Nat} (hao : (v.showVao vao).flag F.PWR_STAT_AOSRC = true)
    (h : max vbat 2700 + 100 < vao) (hheld : 2000 ≤ held) :
    opAoToMain vao vbat held v =
      let w := (v.showVao vao).setFlag F.PWR_STAT_AOSRC false
      let w := { w with pwr := { w.pwr with holdup := none } }
      if v.mode = .backup then { w with mode := .standby, prevMode := .backup } else w :=
  if_neg (by rw [hao, decide_eq_false (Nat.not_le.2 h), decide_eq_false (Nat.not_lt.2 hheld)]; decide)

theorem opCellOut_holds (hao : v.flag F.PWR_STAT_AOSRC = true) :
    opCellOut v = { v with pwr := { v.pwr with holdup := some v.now } } := if_pos hao

theorem opCanaryFlip_flips {mv : Nat} (hrun : v.hubRuns = false) (hh : v.heldUp = false) (hlo : 1200 ≤ mv)
    (hhi : mv < 1600) :
    opCanaryFlip mv v =
      let w := (v.drawFree 48).2
      { w with pwr := { w.pwr with canary := true, loadOfs := (v.drawFree 48).1.toNat } }.loseBackup :=
  (if_neg (by rw [hrun, hh, decide_eq_false (Nat.not_le.2 hhi)]; decide)).trans (if_pos hlo)

/-- The measurement 10 ms after BOOT entry finds the cell below 2.5 V. -/
theorem opVbat_low {mv : Nat} (hrun : v.hubRuns = true) (ht : v.modTime = 10 * psPerMs) (h : mv < 2500) :
    opVbat mv v =
      ((v.setFld F.PWR_VOLT_VBAT (min 4095 mv)).setFlag F.ROO_STAT_LOWBAT true).raise 227 mv :=
  (if_neg (by simp [hrun, ht])).trans (if_pos h)

end

/-- Settles O16: each command by its operation. -/
theorem powerStarts : Obligations.PowerStarts :=
  ⟨fun _ _ level => next_of_eq (opIgnChange_keeps level _), fun _ _ _ h => next_of_eq (opCanWake_holds h),
    fun _ _ _ hm hao hms hsrc => next_of_eq (opPowerUp_starts hm hao hms hsrc),
    fun _ _ _ _ hao h => next_of_eq (opAoToBackup_switches hao h),
    fun _ _ _ _ _ hao h hheld => next_of_eq (opAoToMain_returns hao h hheld),
    fun _ _ hao => next_of_eq (opCellOut_holds hao),
    fun _ _ _ hrun hh hlo hhi => next_of_eq (opCanaryFlip_flips hrun hh hlo hhi),
    fun _ _ _ hrun ht h => next_of_eq (opVbat_low hrun ht h)⟩

end Sys2Proof
end

section
/-!
PROOFS. Clocks: the statements about FREQ writes and relocks, and about oscillator judgement, sleep and CLKOBS
(18_clocks.md).
-/

namespace Sys2Proof

open Machine

/-! ### Relocks (R427 to R429) -/

theorem startRelock_eq {d : Nat} (hd : d < 16) (v : State) :
    v.startRelock d = ((v.setFlag (F.CLK_DOM_STAT_BUSY d) true).setFlag (F.CLK_DOM_STAT_SRC d) true).setRelock d
      (some { (default : Relock) with startAt := v.now }) := by
  rw [State.startRelock, if_neg (Nat.not_le.2 hd)]
  rfl

section
variable {v : State} {d : Nat} {r : Relock}

theorem opFreqWrite_eq (x : Word) :
    opFreqWrite d x v =
      if v.freqRefused d (x.toNat % 2 ^ 14) then (v.setFlag (F.CLK_DOM_STAT_REFUSED d) true).raise 31 d
      else (v.setFld (F.CLK_DOM_CFG_FREQ d) (x.toNat % 2 ^ 14)).startRelock d := by
  have hlow : bitsOf x.toNat 0 14 = x.toNat % 2 ^ 14 := by simp [bitsOf]
  simp only [opFreqWrite, hlow]

/-- Lock counts up to 500 us after the attempt's start. -/
theorem opPllLock_unlocked (hr : v.relockOf d = some r) (hl : r.locked = false) (hf : r.failed = false) :
    opPllLock d v =
      if v.now ≤ r.startAt + 500 * psPerUs then
        v.setRelock d (some { r with locked := true, windowAt := v.now, passes := 0, fails := 0 })
      else v := by
  simp only [opPllLock, hr, hl, hf, Bool.false_or, decide_eq_true_eq]
  by_cases ht : v.now ≤ r.startAt + 500 * psPerUs
  · rw [if_neg (Nat.not_lt.2 ht), if_pos ht]
  · rw [if_pos (Nat.not_le.1 ht), if_neg ht]

/-- A window of step 5 is judged when its 8 us are over. -/
theorem opRelockWindow_judged (ok : Bool) (hr : v.relockOf d = some r) (hl : r.locked = true)
    (ht : r.windowAt + 8 * psPerUs ≤ v.now) :
    opRelockWindow d ok v =
      if ok && r.passes == 1 then
        (((v.setFlag (F.CLK_DOM_STAT_SRC d) false).setFlag (F.CLK_DOM_STAT_BUSY d) false).setRelock d none).raise 29 d
      else if ok then v.setRelock d (some { r with passes := 1, windowAt := v.now })
      else if 7 ≤ r.fails then v.lockFailed d r
      else v.setRelock d (some { r with passes := 0, fails := r.fails + 1, windowAt := v.now }) := by
  simp only [opRelockWindow, hr, hl, decide_eq_false (Nat.not_lt.2 ht), Bool.not_true, Bool.or_false, Bool.false_eq_true,
    if_false]

theorem opRelockWindow_second_good (hr : v.relockOf d = some r) (hl : r.locked = true)
    (ht : r.windowAt + 8 * psPerUs ≤ v.now) (hp : r.passes = 1) :
    opRelockWindow d true v =
      (((v.setFlag (F.CLK_DOM_STAT_SRC d) false).setFlag (F.CLK_DOM_STAT_BUSY d) false).setRelock d none).raise 29 d :=
  (opRelockWindow_judged true hr hl ht).trans (if_pos (by rw [hp]; decide))

theorem opRelockWindow_eighth_bad (hr : v.relockOf d = some r) (hl : r.locked = true)
    (ht : r.windowAt + 8 * psPerUs ≤ v.now) (hf : 7 ≤ r.fails) : opRelockWindow d false v = v.lockFailed d r := by
  rw [opRelockWindow_judged false hr hl ht]
  simp only [Bool.false_and, Bool.false_eq_true, if_false, if_pos hf]

theorem lockFailed_eq (v : State) (d : Nat) (r : Relock) :
    v.lockFailed d r = (((v.setFlag (F.CLK_DOM_STAT_LOCKFAIL d) true).setRelock d
      (some { r with failed := true, locked := false, startAt := v.now })).raise 30 d).henMake sevError 30 d :=
  rfl

theorem opRelockTimeout_fails (hr : v.relockOf d = some r) (hl : r.locked = false) (hf : r.failed = false)
    (ht : r.startAt + 500 * psPerUs ≤ v.now) : opRelockTimeout d v = v.lockFailed d r := by
  simp only [opRelockTimeout, hr, hl, hf, decide_eq_false (Nat.not_lt.2 ht), Bool.or_false, Bool.false_eq_true, if_false]

theorem opRelockRetry_restarts (hr : v.relockOf d = some r) (hf : r.failed = true)
    (ht : r.startAt + 100 * psPerMs ≤ v.now) :
    opRelockRetry d v = v.setRelock d (some { (default : Relock) with startAt := v.now }) := by
  simp only [opRelockRetry, hr, hf, decide_eq_false (Nat.not_lt.2 ht), Bool.not_true, Bool.or_false, Bool.false_eq_true,
    if_false]

theorem opLockLoss_running (hr : v.relockOf d = none) (hs : v.flag (F.CLK_DOM_STAT_SRC d) = false) :
    opLockLoss d v = v.startRelock d := by
  simp only [opLockLoss, hr, hs, Bool.false_eq_true, if_false]

end

/-- Settles O19: each step of a relock by its operation. -/
theorem clockRelocks : Obligations.ClockRelocks :=
  ⟨fun _ _ _ x => next_of_eq (opFreqWrite_eq x),
    fun _ _ _ _ hr hl hf => next_of_eq (opPllLock_unlocked hr hl hf),
    fun _ _ _ _ hr hl ht hp => next_of_eq (opRelockWindow_second_good hr hl ht hp),
    fun _ _ _ r hr hl ht hf => next_of_eq ((opRelockWindow_eighth_bad hr hl ht hf).trans (lockFailed_eq _ _ r)),
    fun _ _ _ r hr hl hf ht => next_of_eq ((opRelockTimeout_fails hr hl hf ht).trans (lockFailed_eq _ _ r)),
    fun _ _ _ _ hr hf ht => next_of_eq (opRelockRetry_restarts hr hf ht),
    fun _ _ _ hd hr hs => next_of_eq ((opLockLoss_running hr hs).trans (startRelock_eq hd _))⟩

/-! ### Judgement, sleep and CLKOBS (R422, R431, R434) -/

section
variable {v : State}

/-- A good window of XO before the eighth in a row only counts. -/
theorem opJudge_xo_good {count : Nat} (hrun : v.hubRuns = true) (hg : countGood 0 count = true)
    (hn : spGet v.clk.good 0 + 1 < 8) :
    opJudge 0 count v = { v with clk := { v.clk with
      good := spSet v.clk.good 0 (spGet v.clk.good 0 + 1), bad := spSet v.clk.bad 0 0 } } := by
  have h8 : ∀ b : Prop, ¬ (8 ≤ spGet v.clk.good 0 + 1 ∧ b) := fun _ h => Nat.not_le.2 hn h.1
  simp only [opJudge, hrun, hg, Nat.min_eq_left hn.le, if_neg (h8 _), (by decide : (0 : Nat) ≠ 1), if_false, if_true,
    Bool.not_true, (by decide : ((0 : Nat) == 1 || (0 : Nat) == 2) = false), Bool.false_and, Bool.or_false,
    Bool.false_eq_true]

/-- A second bad window in a row fails a stable RC oscillator. -/
theorem opJudge_rc_bad {count : Nat} (hrun : v.hubRuns = true) (hxo : v.oscStable 0 = true) (hrc : v.oscStable 2 = true)
    (hg : countGood 2 count = false) (hn : 1 ≤ spGet v.clk.bad 2) :
    opJudge 2 count v = ({ v with clk := { v.clk with
      good := spSet v.clk.good 2 0, bad := spSet v.clk.bad 2 (spGet v.clk.bad 2 + 1) } } : State).oscFail 2 := by
  have hstable : ∀ c, State.oscStable { v with clk := c } 2 = true := fun _ => hrc
  simp only [opJudge, hrun, hxo, hg, hstable, decide_eq_true (Nat.succ_le_succ hn : 2 ≤ spGet v.clk.bad 2 + 1),
    (by decide : (2 : Nat) ≠ 1), if_false, if_true, Bool.not_true, Bool.and_false, Bool.or_false, Bool.false_eq_true,
    Bool.true_or, Bool.and_self]

/-- The failure of an oscillator that bears on no reference. -/
theorem oscFail_rc (v : State) :
    v.oscFail 2 =
      let w : State := { v with clk := { v.clk with
        good := spSet v.clk.good 2 0, bad := spSet v.clk.bad 2 0, hasFailed := v.clk.hasFailed ||| 2 ^ 2 } }
      (((w.setStable 2 false).setFld ⟨R.CLK_OSC_STAT, 6, 1⟩ 1).raise 26 2).henMake sevError 26 2 := by
  simp only [State.oscFail, (by decide : (2 : Nat) ≠ 0), (by decide : ((2 : Nat) == 3) = false), Bool.false_and,
    Bool.false_eq_true, if_false]

theorem opBlockSleep_running {b : Nat} (hb : b ∉ [0, 1, 2, 3, 5, 10, 14, 15]) (hrun : v.hubRuns = true)
    (hst : v.fld (F.CLK_GATE_STATE b) = 0) :
    opBlockSleep b v =
      if v.now < max v.bootAt (spGet v.clk.workAt b) + v.idlePs b then v else v.setFld (F.CLK_GATE_STATE b) 1 := by
  have hgate : neverGated b = false := by simpa [neverGated] using hb
  simp only [opBlockSleep, hgate, hrun, hst, Bool.not_true, bne_self_eq_false, Bool.or_self, Bool.false_or,
    decide_eq_true_eq]

theorem opObsWrite_refused {x : Word}
    (h : 100000000 * (bitsOf x.toNat 16 16 + 1) < max (obsDefaultHz (bitsOf x.toNat 0 5)) (v.obsHz (bitsOf x.toNat 0 5))) :
    opObsWrite x v = v.setFlag F.CLK_OBS_CFG_REJ true := if_pos h

theorem opObsWrite_written {x : Word}
    (h : max (obsDefaultHz (bitsOf x.toNat 0 5)) (v.obsHz (bitsOf x.toNat 0 5)) ≤ 100000000 * (bitsOf x.toNat 16 16 + 1)) :
    opObsWrite x v = v.plainWrite R.CLK_OBS_CFG x := if_neg (Nat.not_lt.2 h)

end

/-- Settles O20: windows, sleep and CLKOBS, each by its operation. -/
theorem clockJudgement : Obligations.ClockJudgement :=
  ⟨fun _ _ _ hrun hg hn => next_of_eq (opJudge_xo_good hrun hg hn),
    fun _ _ _ hrun hxo hrc hg hn => next_of_eq ((opJudge_rc_bad hrun hxo hrc hg hn).trans (oscFail_rc _)),
    fun _ _ _ hb hrun hst => next_of_eq (opBlockSleep_running hb hrun hst),
    fun _ _ _ h => next_of_eq (opObsWrite_refused (lt_max_iff.2 h)),
    fun _ _ _ hd hn => next_of_eq (opObsWrite_written (max_le hd hn))⟩

end Sys2Proof
end

section
/-!
PROOFS. Modes: the statements about mode requests and changes, the start-up sequence and GOOD, and about BOOT entry
(19_modes_startup_and_update.md).
-/

namespace Sys2Proof

open Machine

/-! ### Mode requests and changes (R438 to R441) -/

section
variable {v : State}

theorem pendMode_of_none (m : Mode) (h : v.boot.pend = none) :
    v.pendMode m = { v with boot := { v.boot with pend := some (m, v.nextMs, false) } } := by
  rw [State.pendMode, h]

theorem opModeRequest_refused {x : Word} (hrun : v.hubRuns = true) (h0 : v.modeReason (modeOf (bitsOf x.toNat 0 3)) ≠ 0)
    (h6 : v.modeReason (modeOf (bitsOf x.toNat 0 3)) ≠ 6) :
    opModeRequest x v = (v.setFlag F.GLB_MODE_STAT_REFUSED true).setFld F.GLB_MODE_STAT_REASON
      (v.modeReason (modeOf (bitsOf x.toNat 0 3))) := by
  simp only [opModeRequest, hrun, Bool.not_true, Bool.false_eq_true, if_false, if_pos h0, decide_eq_false h6,
    Bool.false_and]

theorem opModeRequest_accepted {x : Word} (hrun : v.hubRuns = true)
    (h0 : v.modeReason (modeOf (bitsOf x.toNat 0 3)) = 0) (hp : v.boot.pend = none) :
    opModeRequest x v = { v.setFlag F.GLB_MODE_STAT_PEND true with
      boot := { v.boot with pend := some (modeOf (bitsOf x.toNat 0 3), (v.modMs + 1) * psPerMs, true) } } := by
  have hpend : (v.setFlag F.GLB_MODE_STAT_PEND true).boot.pend = none := hp
  simp only [opModeRequest, hrun, h0, hpend, Bool.not_true, Bool.false_eq_true, if_false, ne_eq, not_true]
  rfl

/-- A requested change that is due takes PEND back, and then turns on safe stop. -/
theorem opModeChange_requested {at_ : Nat} {m : Mode} (hp : v.boot.pend = some (m, at_, true)) (ht : at_ ≤ v.modTime)
    (hm : m ≠ .compat) (hpend : v.flag F.GLB_MODE_STAT_PEND = true) :
    opModeChange v =
      let w := ({ v with boot := { v.boot with pend := none } } : State).setFlag F.GLB_MODE_STAT_PEND false
      if v.safeStop && m != .standby then
        (w.setFlag F.GLB_MODE_STAT_REFUSED true).setFld F.GLB_MODE_STAT_REASON 2
      else (w.setFlag F.GLB_MODE_STAT_DONE true).enterMode m := by
  have hflag : ∀ b, State.flag { v with boot := b } F.GLB_MODE_STAT_PEND = true := fun _ => hpend
  have hstop : ∀ b, (({ v with boot := b } : State).setFlag F.GLB_MODE_STAT_PEND false).safeStop = v.safeStop :=
    fun b => flag_setFlag_ne { v with boot := b } _ _ _ (by unfold Fld.ok; decide) (.inl (by decide))
  have hdue : ¬ (v.modTime < at_ ∨ (m = .compat ∧ (!v.oscStable 0) = true)) :=
    fun h => h.elim (Nat.not_lt.2 ht) (fun hc => hm hc.1)
  simp only [opModeChange, hp, if_neg hdue, hflag, hstop, Bool.true_and, if_true]

theorem opIgnitionOff_due (hrun : v.hubRuns = true) (hs : v.fld F.GLB_BOOT_CFG_IGNOFF_S ≠ 0) (hi : v.pwr.ign = false)
    (ht : v.pwr.ignLowAt + v.fld F.GLB_BOOT_CFG_IGNOFF_S * psPerS ≤ v.now) : opIgnitionOff v = v.pendMode .standby :=
  if_pos (by simp only [hrun, bne_iff_ne.2 hs, hi, decide_eq_true ht, Bool.not_false, Bool.and_self])

end

/-! ### Start-up steps, GOOD and the boot watchdog (R443 to R445) -/

section
variable {v : State}

/-- No step ends unless the boot is entered, not left, and at the step before. -/
theorem opBootStep_runs {k : Nat} (ok : Bool) (hm : v.mode = .boot) (he : v.boot.entered = true)
    (hp : v.boot.pend = none) (hk : k = v.boot.step + 1) (h3 : k ≠ 3) :
    opBootStep k ok v =
      if v.stepOk k ok then (v.stepDone k).stepEffect k
      else if k = 2 then { v with boot := { v.boot with recKind := 3 } }.pendMode .recovery
      else if k = 6 then
        (({ v with boot := { v.boot with step := 6 }, goo := { v.goo with badApp := true } } : State).gooShow).raise 14 0
      else v.stepFail k := by
  refine if_neg ?_
  rintro (h | h | h | h | h)
  · exact h hm
  · rw [he] at h; cases h
  · rw [hp] at h; cases h
  · exact h hk
  · exact h3 h.1

theorem opBootStep_ok {k : Nat} (hm : v.mode = .boot) (he : v.boot.entered = true) (hp : v.boot.pend = none)
    (hk : k = v.boot.step + 1) (h3 : k ≠ 3) (hok : v.stepOk k true = true) :
    opBootStep k true v = (v.stepDone k).stepEffect k :=
  (opBootStep_runs true hm he hp hk h3).trans (if_pos hok)

theorem stepFail_4 (v : State) : v.stepFail 4 = v.bootFail 2 := if_pos (by decide)

theorem opBootStep_4_fails (hm : v.mode = .boot) (he : v.boot.entered = true) (hp : v.boot.pend = none)
    (hs : v.boot.step = 3) : opBootStep 4 false v = v.bootFail 2 := by
  have hok : v.stepOk 4 false = false := by rw [State.stepOk, if_pos rfl, Bool.false_and]
  rw [opBootStep_runs false hm he hp (by rw [hs]) (by decide), hok, ← stepFail_4 v]
  simp only [Bool.false_eq_true, if_false, (by decide : (4 : Nat) ≠ 2), (by decide : (4 : Nat) ≠ 6)]

theorem settleFirstStart_of_not_settling (h : v.boot.settling = false) : v.settleFirstStart = v :=
  if_pos (by rw [h]; rfl)

theorem opBootGood_counts {x : Word} (hg : bitOf x.toNat 0 = true) (hr : v.flag F.GLB_BOOT_STAT_READY = true)
    (hw : v.boot.wdRuns = true) (ht : v.modTime < v.watchdogEnd) (hs : v.boot.settling = false) :
    opBootGood x v = ({ v with nv := { v.nv with bootCnt := 0 } } : State).setFlag F.GLB_BOOT_STAT_GOODSEEN true :=
  (if_neg (by rw [hg, hr, hw, decide_eq_false (Nat.not_le.2 ht)]; decide)).trans (settleFirstStart_of_not_settling hs)

theorem opBootGood_late (x : Word) (ht : v.watchdogEnd ≤ v.modTime) : opBootGood x v = v :=
  if_pos (by rw [decide_eq_true ht, Bool.or_true])

theorem opBootWatchdog_fails (hw : v.boot.wdRuns = true) (ht : v.watchdogEnd ≤ v.modTime)
    (hg : v.flag F.GLB_BOOT_STAT_GOODSEEN = false) :
    opBootWatchdog v = ({ v with boot := { v.boot with wdRuns := false } } : State).bootFail 1 :=
  (if_neg (by rw [hw, decide_eq_false (Nat.not_lt.2 ht)]; decide)).trans (if_neg (ne_true_of_eq_false hg))

end

/-- Settles O21: each command by its operation. -/
theorem modeChanges : Obligations.ModeChanges := by
  refine ⟨fun s t x hrun h0 h6 => next_of_eq (opModeRequest_refused hrun h0 h6),
    fun s t x hrun h0 hp => next_of_eq (opModeRequest_accepted hrun h0 hp),
    fun s t at_ m hp ht hm hstop hpend => ?enters, fun s t at_ hp ht hstop hpend => ?stopped,
    fun s t hrun hs hi ht hp => next_of_eq ((opIgnitionOff_due hrun hs hi ht).trans (pendMode_of_none _ hp)),
    fun s t k hm he hp hk h3 hok => next_of_eq (opBootStep_ok hm he hp hk h3 hok),
    fun s t hm he hp hs => next_of_eq (opBootStep_4_fails hm he hp hs),
    fun s t x hg hr hw ht hs => next_of_eq (opBootGood_counts hg hr hw ht hs),
    fun s t x ht => next_of_eq (opBootGood_late x ht),
    fun s t hw ht hg => next_of_eq (opBootWatchdog_fails hw ht hg)⟩
  case enters =>
    refine next_of_eq ((opModeChange_requested hp ht hm hpend).trans (if_neg ?_))
    rw [hstop, Bool.false_and]; decide
  case stopped =>
    refine next_of_eq ((opModeChange_requested hp ht (by decide) hpend).trans (if_pos ?_))
    rw [hstop]; decide

/-! ### BOOT entry (R418, R440, R442, R443) -/

/-- Settles O22: BOOT entry acts in BOOT and once per start. -/
theorem bootEntered : Obligations.BootEntered := by
  intro s t rcv svc hm he
  have hfirst : ¬ ((s.tick t).mode ≠ .boot ∨ (s.tick t).boot.entered = true) := fun h =>
    h.elim (fun hb => hb hm) (ne_true_of_eq_false he)
  exact next_of_eq (if_neg hfirst)

end Sys2Proof
end

section
/-!
PROOFS. Updates: the statements about staging, arming and activating a software set, and about RECOVERY downloads
(19_modes_startup_and_update.md).
-/

namespace Sys2Proof

open Machine

/-! ### The command word (R539) -/

theorem bitOf_of_bitsOf_zero {x lo width i : Nat} (h : bitsOf x lo width = 0) (hlo : lo ≤ i) (hi : i < lo + width) :
    bitOf x i = false := by
  have hbit := bitOf_of_bitsOf h (Nat.sub_lt_left_of_lt_add hlo hi)
  rwa [Nat.add_sub_cancel' hlo, Nat.zero_testBit] at hbit

/-- GROUP lies above the bits that a command adds to its word. -/
theorem bitsOf_or_low {k : Nat} (x : Nat) (hk : k < 2 ^ 16) : bitsOf (x ||| k) 16 16 = bitsOf x 16 16 := by
  rw [bitsOf, bitsOf, Nat.shiftRight_or_distrib, Nat.shiftRight_eq_zero k 16 hk, Nat.or_zero]

/-- What the command of bit `k` of GLB_UPD_CTL does. -/
def updCommand (k : Nat) (ok : Bool) (w : State) : State :=
  match k with
  | 0 => w.stageStart ok
  | 1 => w.arm
  | 2 => w.disarm
  | _ => w.discard

section
variable {v : State}

theorem opUpdCtl_several {k : Nat} (x : Nat) (ok : Bool) (hk : k < 2 ^ 16)
    (h : 1 < ((List.range 4).filter (bitOf (x ||| k))).length) :
    opUpdCtl (x ||| k) ok v = (v.setFld F.GLB_UPD_CTL_GROUP (bitsOf x 16 16)).badAccess := by
  simp only [opUpdCtl, if_pos h, bitsOf_or_low x hk]

/-- With no other command bit set, the command of the bit that is added acts. -/
theorem opUpdCtl_single {x k : Nat} (ok : Bool) (hk : k < 4) (h : ∀ i < 4, i ≠ k → bitOf x i = false) :
    opUpdCtl (x ||| 2 ^ k) ok v = updCommand k ok (v.setFld F.GLB_UPD_CTL_GROUP (bitsOf x 16 16)) := by
  have hbit : ∀ i < 4, bitOf (x ||| 2 ^ k) i = decide (k = i) := fun i hi => by
    rw [bitOf, Nat.testBit_or, Nat.testBit_two_pow]
    by_cases hik : i = k
    · simp [hik]
    · rw [show x.testBit i = false from h i hi hik, Bool.false_or]
  have hone : ((List.range 4).filter (bitOf (x ||| 2 ^ k))).length ≤ 1 := by
    rw [List.filter_congr (fun i hi => hbit i (List.mem_range.1 hi))]
    interval_cases k <;> decide
  have hgroup : bitsOf (x ||| 2 ^ k) 16 16 = bitsOf x 16 16 :=
    bitsOf_or_low x (Nat.pow_lt_pow_right (by decide) (by omega))
  simp only [opUpdCtl, if_neg (Nat.not_lt.2 hone), hgroup, hbit 0 (by decide), hbit 1 (by decide), hbit 2 (by decide),
    hbit 3 (by decide)]
  interval_cases k <;> simp [updCommand]

/-! ### Staging (R452, R453) -/

theorem stageStart_refused (ok : Bool) (h : v.flag F.GLB_UPD_STAT_ARMED = true ∨ v.flag F.GLB_UPD_STAT_STAGING = true) :
    v.stageStart ok = v.updRefuse (if v.stageReason ok = 0 then 6 else v.stageReason ok) :=
  if_pos (by rwa [Bool.or_eq_true])

theorem stageStart_starts (ok : Bool) (ha : v.flag F.GLB_UPD_STAT_ARMED = false)
    (hs : v.flag F.GLB_UPD_STAT_STAGING = false) :
    v.stageStart ok = v.dropStaged.setFlag F.GLB_UPD_STAT_STAGING true :=
  if_neg (by rw [ha, hs]; decide)

theorem opStageDone_idle (ok : Bool) (h : v.flag F.GLB_UPD_STAT_STAGING = false) : opStageDone ok v = v :=
  if_pos (by rw [h]; rfl)

theorem opStageDone_refused {ok : Bool} (h : v.flag F.GLB_UPD_STAT_STAGING = true) (hr : v.stageReason ok ≠ 0) :
    opStageDone ok v = (v.setFlag F.GLB_UPD_STAT_STAGING false).updRefuse (v.stageReason ok) :=
  (if_neg (by rw [h]; decide)).trans (if_pos hr)

theorem opStageDone_staged {ok : Bool} (h : v.flag F.GLB_UPD_STAT_STAGING = true) (hr : v.stageReason ok = 0) :
    opStageDone ok v =
      let w := v.setFlag F.GLB_UPD_STAT_STAGING false
      let img := imageOf (v.readBytes v.updSrc v.updLen)
      ((State.setFlag { w with nv := { w.nv.putOther (some img) with staged := true, failedSet := false } }
        F.GLB_UPD_STAT_STAGED true).setFld F.GLB_UPD_ID_STG_IMAGE_ID img.id).raise 236 img.id :=
  (if_neg (by rw [h]; decide)).trans (if_neg (not_not_intro hr))

/-! ### Arming, disarming and discarding (R454) -/

theorem arm_busy (h : (v.flag F.GLB_UPD_STAT_ARMED || v.flag F.GLB_UPD_STAT_STAGING) = true) :
    v.arm = v.updRefuse 6 := if_pos h

theorem arm_unstaged (h : (v.flag F.GLB_UPD_STAT_ARMED || v.flag F.GLB_UPD_STAT_STAGING) = false)
    (hs : v.flag F.GLB_UPD_STAT_STAGED = false) : v.arm = v.updRefuse 7 :=
  (if_neg (ne_true_of_eq_false h)).trans (if_pos (by rw [hs]; rfl))

/-- With a set staged and no other one on its way the armed time decides. -/
theorem arm_staged (h : (v.flag F.GLB_UPD_STAT_ARMED || v.flag F.GLB_UPD_STAT_STAGING) = false)
    (hs : v.flag F.GLB_UPD_STAT_STAGED = true) :
    v.arm =
      if v.updTime < v.modNs + 2000000000 ∨ v.modNs + 604800000000000 < v.updTime then v.updRefuse 8
      else State.setFlag { v with boot := { v.boot with
        armRef := if v.tbState = 2 ∨ v.tbState = 3 then some ((v.updTime : Int) + v.tbOfs) else none
        toConvert := none, updAt := v.updTime } } F.GLB_UPD_STAT_ARMED true :=
  (if_neg (ne_true_of_eq_false h)).trans (if_neg (by rw [hs]; decide))

/-- When DISARM acts. -/
def canDisarm (v : State) : Prop :=
  v.flag F.GLB_UPD_STAT_ARMED = true ∧ v.nv.defer = false ∧
    (v.boot.toConvert ≠ none ∨ v.modNs + 1000000000 ≤ v.boot.updAt)

theorem canDisarm_iff (v : State) :
    canDisarm v ↔ (v.flag F.GLB_UPD_STAT_ARMED && !v.nv.defer &&
      (v.boot.toConvert.isSome || decide (v.modNs + 1000000000 ≤ v.boot.updAt))) = true := by
  rw [canDisarm, Bool.and_eq_true, Bool.and_eq_true, Bool.or_eq_true, Bool.not_eq_true', decide_eq_true_iff,
    ← Option.isSome_iff_ne_none, and_assoc]

theorem disarm_acts (h : canDisarm v) :
    v.disarm = State.setFlag { v with boot := { v.boot with armRef := none, toConvert := none } }
      F.GLB_UPD_STAT_ARMED false := if_pos ((canDisarm_iff v).1 h)

theorem disarm_late (h : ¬ canDisarm v) : v.disarm = v := if_neg (mt (canDisarm_iff v).2 h)

theorem discard_nothing (h : v.flag F.GLB_UPD_STAT_ARMED = true ∨ v.flag F.GLB_UPD_STAT_STAGED = false) :
    v.discard = v := if_pos (by rwa [Bool.or_eq_true, Bool.not_eq_true'])

theorem discard_drops (ha : v.flag F.GLB_UPD_STAT_ARMED = false) (hs : v.flag F.GLB_UPD_STAT_STAGED = true) :
    v.discard = v.dropStaged := if_neg (by rw [ha, hs]; decide)

/-! ### Activation (R455) -/

/-- The armed time is reached. -/
def activationDue (v : State) : Prop :=
  v.flag F.GLB_UPD_STAT_ARMED = true ∧ v.nv.defer = false ∧ v.boot.toConvert = none ∧ v.boot.updAt ≤ v.modNs

/-- The mode and the machine let the set be activated. -/
def activationStill (v : State) : Prop :=
  (v.mode = .compat ∨ v.mode = .road ∨ v.mode = .service ∨ v.mode = .boot) ∧ v.flag F.GOO_STAT_STILL = true ∧
    v.flag F.GOO_STAT_HDRENG = false

theorem activationDue_iff (v : State) :
    ¬ activationDue v ↔ (!v.flag F.GLB_UPD_STAT_ARMED || v.nv.defer || v.boot.toConvert.isSome ||
      decide (v.modNs < v.boot.updAt)) = true := by
  simp only [activationDue, Bool.or_eq_true, Bool.not_eq_true', decide_eq_true_iff, Option.isSome_iff_ne_none, not_and_or,
    Bool.not_eq_true, Bool.not_eq_false, Nat.not_le, ne_eq, or_assoc]

theorem activationStill_iff (v : State) :
    activationStill v ↔ ((v.mode == .compat || v.mode == .road || v.mode == .service || v.mode == .boot) &&
      v.flag F.GOO_STAT_STILL && !v.flag F.GOO_STAT_HDRENG) = true := by
  simp only [activationStill, Bool.and_eq_true, Bool.or_eq_true, Bool.not_eq_true', beq_iff_eq, or_assoc, and_assoc]

theorem opActivationDue_waits (h : ¬ activationDue v) : opActivationDue v = v := if_pos ((activationDue_iff v).1 h)

theorem opActivationDue_activates (h : activationDue v) (hs : activationStill v) :
    opActivationDue v = (State.setFlag { v with nv := { v.nv.activate with wakeOwed := true } }
      F.GLB_UPD_STAT_ARMED false).pendMode .standby :=
  (if_neg (fun hd => (activationDue_iff v).2 hd h)).trans (if_pos ((activationStill_iff v).1 hs))

theorem opActivationDue_defers (h : activationDue v) (hs : ¬ activationStill v) :
    opActivationDue v = (State.setFlag { v with nv := { v.nv with defer := true } }
      F.GLB_UPD_STAT_DEFER true).raise 237 (v.fld F.GLB_UPD_CTL_GROUP) := by
  refine (if_neg (fun hd => (activationDue_iff v).2 hd h)).trans ((if_neg (mt (activationStill_iff v).2 hs)).trans ?_)
  rfl

end

/-- Settles O59: the commands, the end of a stage, and the armed time, each by its operation. -/
theorem updateStaging : Obligations.UpdateStaging := by
  refine ⟨fun s t x => ⟨fun h ok => next_of_eq (opUpdCtl_several _ ok (by decide) h),
      fun h => next_of_eq (opUpdCtl_several _ true (by decide) h),
      fun h => next_of_eq (opUpdCtl_several _ true (by decide) h),
      fun h => next_of_eq (opUpdCtl_several _ true (by decide) h)⟩,
    fun s t x ok hbits => ?stage,
    fun s t ok => ⟨fun h => next_of_eq (opStageDone_idle ok h), fun h hr => next_of_eq (opStageDone_refused h hr),
      fun h hr => next_of_eq (opStageDone_staged h hr)⟩,
    fun s t x hbits h0 => ?arm, fun s t x hbits h3 => ?disarm, fun s t x hbits => ?discard,
    fun s t => ⟨fun h => next_of_eq (opActivationDue_waits h), fun h hs => next_of_eq (opActivationDue_activates h hs),
      fun h hs => next_of_eq (opActivationDue_defers h hs)⟩⟩
  case stage =>
    have hcmd := opUpdCtl_single (v := s.tick t) ok (by decide : 0 < 4)
      (fun i hi hne => bitOf_of_bitsOf_zero hbits (Nat.pos_of_ne_zero hne) hi)
    exact ⟨fun h => next_of_eq (hcmd.trans (stageStart_refused ok h)),
      fun ha hs => next_of_eq (hcmd.trans (stageStart_starts ok ha hs))⟩
  case arm =>
    have hcmd := opUpdCtl_single (v := s.tick t) (x := x.toNat) true (by decide : 1 < 4) (fun i hi hne => by
      obtain rfl | hlo : i = 0 ∨ 2 ≤ i := by omega
      · exact h0
      · exact bitOf_of_bitsOf_zero hbits hlo hi)
    exact ⟨fun h => next_of_eq (hcmd.trans (arm_busy h)),
      fun h hs => next_of_eq (hcmd.trans (arm_unstaged h hs)),
      fun h hs hsoon => next_of_eq (hcmd.trans ((arm_staged h hs).trans (if_pos hsoon))),
      fun h hs hsoon => next_of_eq (hcmd.trans ((arm_staged h hs).trans (if_neg hsoon)))⟩
  case disarm =>
    have hcmd := opUpdCtl_single (v := s.tick t) (x := x.toNat) true (by decide : 2 < 4) (fun i hi hne => by
      obtain hlo | rfl : i < 2 ∨ i = 3 := by omega
      · exact bitOf_of_bitsOf_zero hbits (Nat.zero_le i) hlo
      · exact h3)
    exact ⟨fun h => next_of_eq (hcmd.trans (disarm_acts h)), fun h => next_of_eq (hcmd.trans (disarm_late h))⟩
  case discard =>
    have hcmd := opUpdCtl_single (v := s.tick t) (x := x.toNat) true (by decide : 3 < 4)
      (fun i hi hne => bitOf_of_bitsOf_zero hbits (Nat.zero_le i) (by omega))
    exact ⟨fun h => next_of_eq (hcmd.trans (discard_nothing h)),
      fun ha hs => next_of_eq (hcmd.trans (discard_drops ha hs))⟩

/-! ### RECOVERY downloads over TFTP (R447) -/

section
variable {v : State} {wr oct : Bool} {f : List Byte} {b n : Option Nat}

theorem opTftpRequest_notRecovery (h : v.mode ≠ .recovery) : opTftpRequest wr f oct b n v = v := if_pos h

theorem opTftpRequest_otherFile (h : v.mode = .recovery) (hf : wr = false ∨ f ≠ pletuName) :
    opTftpRequest wr f oct b n v = v.answerWith [0, 5, 0, 2, 0] :=
  (if_neg (not_not_intro h)).trans (if_pos (by rwa [Bool.or_eq_true, Bool.not_eq_true', bne_iff_ne]))

/-- A write request for the one file goes by its transfer mode and by an open download. -/
theorem opTftpRequest_file (h : v.mode = .recovery) :
    opTftpRequest true pletuName oct b n v =
      if oct = false then v.answerWith [0, 5, 0, 0, 0]
      else if v.boot.rxOpen = true then v
      else
        let blk := b.bind (fun k => if 512 ≤ k then some (min k 1468) else none)
        let w := { v with boot := { v.boot with
          rxOpen := true, rxDone := false, rxNext := 1, rxBytes := [], rxLen := n.getD 0, tftpBlk := blk.getD 512 } }
        if blk = none ∧ n = none then w.answerWith [0, 4, 0, 0] else w.answerWith ([0, 6] ++ oackOptions blk n) := by
  refine (if_neg (not_not_intro h)).trans ((if_neg (by simp)).trans ?_)
  simp only [Bool.not_eq_true', Bool.and_eq_true, Option.isNone_iff_eq_none]
  cases b <;> rfl

end

section
variable {v : State} {k : Nat} {d : List Byte}

/-- A data packet of an open TFTP download. -/
theorem opTftpData_open (h : v.mode = .recovery) (ho : v.boot.rxOpen = true) (hd : v.boot.rxDone = false)
    (hb : v.boot.tftpBlk ≠ 0) :
    opTftpData k d v =
      let b := v.boot
      let e := d.take b.tftpBlk
      if k = b.rxNext % 65536 then
        let w := { v with boot := { b with rxNext := b.rxNext + 1, rxBytes := b.rxBytes ++ e } }
        if e.length < b.tftpBlk then
          { w with boot := { w.boot with
            rxDone := true, rxLen := if b.rxLen = 0 then (b.rxBytes ++ e).length else b.rxLen } }
        else w.answerWith [0, 4, k / 256, k % 256]
      else if k = (b.rxNext - 1) % 65536 then v.answerWith [0, 4, k / 256, k % 256]
      else v :=
  if_neg (by rw [ho, hd]; simp [h, hb])

end

/-! ### RECOVERY downloads over CAN (R448) -/

section
variable {v : State} {d : List Byte}

theorem opCanStart_opens (h : v.mode = .recovery) (hd : d.length = 8) (hc : natAt d 0 1 = 1) :
    opCanStart d v = State.answerWith { v with boot := { v.boot with
      rxOpen := true, rxDone := false, rxNext := 0, rxBytes := [], rxLen := natAt d 1 4, tftpBlk := 0 } }
      [0x81, 0, 0, 0, 0, 0, 0, 0] :=
  if_neg (by simp [h, hd, hc])

/-- A DATA frame while no TFTP download is open. -/
theorem opCanData_frame (h : v.mode = .recovery) (hd : d.length = 8) (hc : natAt d 0 1 = 2) (hb : v.boot.tftpBlk = 0) :
    opCanData d v =
      let b := v.boot
      let q := natAt d 1 1
      if !b.rxOpen || b.rxDone then v.canAnswer 2 q 1
      else if b.rxNext ≠ 0 ∧ q = (b.rxNext - 1) % 256 then v.canAnswer 2 q 0
      else if q ≠ b.rxNext % 256 then v.canAnswer 2 q 1
      else if b.rxLen ≤ b.rxBytes.length then v.canAnswer 2 q 2
      else State.canAnswer { v with boot := { b with
        rxNext := b.rxNext + 1, rxBytes := b.rxBytes ++ (bytesAt d 2 6).take (b.rxLen - b.rxBytes.length) } } 2 q 0 :=
  if_neg (by simp [h, hd, hc, hb])

theorem opCanEnd_frame (h : v.mode = .recovery) (hd : d.length = 8) (hc : natAt d 0 1 = 3) (hb : v.boot.tftpBlk = 0) :
    opCanEnd d v = if v.boot.rxOpen = true then { v with boot := { v.boot with rxDone := true } }
      else v.answerWith [0x83, 0, 1, 0, 0, 0, 0, 0] := by
  refine (if_neg (by simp [h, hd, hc, hb])).trans ?_
  by_cases ho : v.boot.rxOpen = true
  · rw [if_pos ho]
    exact if_neg (by rw [ho]; decide)
  · rw [if_neg ho]
    exact if_pos (by rw [eq_false_of_ne_true ho]; rfl)

end

/-! ### The end of a download (R449) -/

section
variable {v : State} {ok wr : Bool}

/-- Why a whole download is refused; 0 when it is not. -/
def downloadReason (v : State) (ok : Bool) : Nat :=
  if v.boot.rxBytes.length ≠ v.boot.rxLen then 1
  else containerReason v.boot.rxBytes v.boot.rxLen ok v.nv.minSvn

/-- The download is over, whatever comes of it. -/
def downloadClosed (v : State) : State :=
  { v with boot := { v.boot with rxOpen := false, rxDone := false, rxBytes := [] } }

theorem opDownloadDone_refused (h : v.mode = .recovery) (ho : v.boot.rxOpen = true) (hd : v.boot.rxDone = true)
    (hr : downloadReason v ok ≠ 0) :
    opDownloadDone ok wr v = ((downloadClosed v).rxAnswer 3).raise 239 (downloadReason v ok) :=
  (if_neg (by simp [h, ho, hd])).trans (if_pos hr)

theorem opDownloadDone_unwritten (h : v.mode = .recovery) (ho : v.boot.rxOpen = true) (hd : v.boot.rxDone = true)
    (hr : downloadReason v ok = 0) : opDownloadDone ok false v = (downloadClosed v).rxAnswer 4 :=
  (if_neg (by simp [h, ho, hd])).trans ((if_neg (not_not_intro hr)).trans (if_pos rfl))

theorem opDownloadDone_written (h : v.mode = .recovery) (ho : v.boot.rxOpen = true) (hd : v.boot.rxDone = true)
    (hr : downloadReason v ok = 0) :
    opDownloadDone ok true v =
      let z := (downloadClosed v).setFlag F.GLB_UPD_STAT_ARMED false
      let img := imageOf v.boot.rxBytes
      State.rxAnswer { z with
        boot := { z.boot with rxDone := true, armRef := none, toConvert := none }
        nv := { v.nv with
          imageA := some img, imageB := none, slotB := false, nor := img, loader := img.loader, bootCnt := 0, staged := false
          failedSet := false, firstStart := false, newSlot := false, defer := false, armDropped := false } } 0 :=
  (if_neg (by simp [h, ho, hd])).trans ((if_neg (not_not_intro hr)).trans (if_neg (by decide)))

theorem opRecoveryExit_stays {high : Bool}
    (h : v.mode ≠ .recovery ∨ v.boot.rxOpen = true ∨ v.boot.rxDone = false ∨ high = false) :
    opRecoveryExit high v = v :=
  if_pos (by simpa only [Bool.not_eq_true'] using h)

theorem opRecoveryExit_boots (h : v.mode = .recovery) (ho : v.boot.rxOpen = false) (hd : v.boot.rxDone = true) :
    opRecoveryExit true v = { v.henFlush.hubReset .boot with bootAt := v.now } :=
  if_neg (by simp [h, ho, hd])

end

/-- Settles O60: each request and frame by its operation, then the end of the download. -/
theorem recoveryDownloads : Obligations.RecoveryDownloads := by
  refine ⟨fun s t wr oct f b n => ?request, fun s t k d h ho hd hb => ?data, fun s t d => ⟨fun h hd hc =>
      next_of_eq (opCanStart_opens h hd hc), fun h => next_of_eq (if_pos h)⟩, fun s t d h hd hc hb => ?frame,
    fun s t d h hd hc hb => next_of_eq (opCanEnd_frame h hd hc hb), fun s t ok wr h ho hd => ?done,
    fun s t high => ⟨fun h => next_of_eq (opRecoveryExit_stays h), fun h ho hd hh => ?exit⟩⟩
  case request =>
    refine ⟨fun h => next_of_eq (opTftpRequest_notRecovery h), fun h hf => next_of_eq (opTftpRequest_otherFile h hf),
      fun h hw hf ho => ?_, fun h hw hf ho hx => ?_, fun h hw hf ho hx => ?_⟩
    · subst hw hf
      exact next_of_eq ((opTftpRequest_file h).trans (if_pos ho))
    · subst hw hf
      exact next_of_eq ((opTftpRequest_file h).trans ((if_neg (by rw [ho]; decide)).trans (if_pos hx)))
    · subst hw hf
      exact next_of_eq ((opTftpRequest_file h).trans
        ((if_neg (by rw [ho]; decide)).trans (if_neg (ne_true_of_eq_false hx))))
  case data =>
    have hopen := opTftpData_open (k := k) (d := d) h ho hd hb
    refine ⟨fun hk he => ?_, fun hk he => ?_, fun hk hr => ?_, fun hk hr => ?_⟩
    · exact next_of_eq (hopen.trans ((if_pos hk).trans (if_neg (Nat.not_lt.2 he.ge))))
    · refine next_of_eq (hopen.trans ((if_pos hk).trans ((if_pos he).trans ?_)))
      rw [List.length_append]
    · exact next_of_eq (hopen.trans ((if_neg hk).trans (if_pos hr)))
    · exact next_of_eq (hopen.trans ((if_neg hk).trans (if_neg hr)))
  case frame =>
    have hframe := opCanData_frame h hd hc hb
    refine ⟨fun hx => ?_, fun ho hx h0 hq => ?_, fun ho hx hq hr => ?_, fun ho hx hq hl => ?_, fun ho hx hq hl => ?_⟩
    · exact next_of_eq (hframe.trans (if_pos (by rwa [Bool.or_eq_true, Bool.not_eq_true'])))
    all_goals
      have hon : ¬ (!(s.tick t).boot.rxOpen || (s.tick t).boot.rxDone) = true := by rw [ho, hx]; decide
    · exact next_of_eq (hframe.trans ((if_neg hon).trans (if_pos ⟨h0, hq⟩)))
    · have hrep : ¬ ((s.tick t).boot.rxNext ≠ 0 ∧ natAt d 1 1 = ((s.tick t).boot.rxNext - 1) % 256) :=
        fun hc => hr.elim hc.1 (fun hne => hne hc.2)
      exact next_of_eq (hframe.trans ((if_neg hon).trans ((if_neg hrep).trans (if_pos hq))))
    all_goals
      have hrep : ¬ ((s.tick t).boot.rxNext ≠ 0 ∧ natAt d 1 1 = ((s.tick t).boot.rxNext - 1) % 256) := by omega
    · exact next_of_eq (hframe.trans ((if_neg hon).trans ((if_neg hrep).trans ((if_neg (not_not_intro hq)).trans
        (if_pos hl)))))
    · exact next_of_eq (hframe.trans ((if_neg hon).trans ((if_neg hrep).trans ((if_neg (not_not_intro hq)).trans
        (if_neg (Nat.not_le.2 hl))))))
  case done =>
    refine ⟨fun hr => next_of_eq (opDownloadDone_refused h ho hd hr), fun hr hw => ?_, fun hr hw => ?_⟩
    · subst hw
      exact next_of_eq (opDownloadDone_unwritten h ho hd hr)
    · subst hw
      exact next_of_eq (opDownloadDone_written h ho hd hr)
  case exit =>
    subst hh
    exact next_of_eq (opRecoveryExit_boots h ho hd)

end Sys2Proof
end

section
/-!
PROOFS. Compatibility: the statement about the legacy core's accesses (20_hm330_compatibility.md).
-/

namespace Sys2Proof

open Machine

section
variable {v : State}

/-- While the legacy core runs a store to its RAM writes that byte. -/
theorem opLegacy_ramWrite (a : Fin 131072) (b : Byte) (h : v.legacyRuns = true) :
    opLegacy (.ramWrite a b) v = { v with cmp := { v.cmp with ram := spSet v.cmp.ram a.val b } } :=
  if_neg (by rw [h]; decide)

theorem opLegacy_ramRead (a : Fin 131072) (h : v.legacyRuns = true) :
    opLegacy (.ramRead a) v = { v with busData := BitVec.ofNat 32 (spGet v.cmp.ram a.val).toNat } :=
  if_neg (by rw [h]; decide)

theorem opLegacy_unmapped {a : Word} (h : v.legacyRuns = true) (ha : legacyMapped a.toNat = false) :
    opLegacy (.other a) v = { v with cmp := { v.cmp with fault := some a } } :=
  (if_neg (by rw [h]; decide)).trans (if_neg (ne_true_of_eq_false ha))

theorem opUnemulated_flashStore {x : Word} (h : v.legacyRuns = true) (hx : x.toNat / 4096 = 0x40003) :
    opUnemulated x true v =
      (((v.setFld F.CMP_UNEMU_ADDR x.toNat).setFlag F.CMP_STAT_UNEMU true).bump F.CMP_TALLY_UNEMU).raise 245 x.toNat :=
  (if_neg (by rw [h]; decide)).trans (if_pos hx)

theorem opUnemulated_codeStore {x : Word} (h : v.legacyRuns = true) (hx : x.toNat < 0x80000) :
    opUnemulated x true v =
      (((v.setFld F.CMP_UNEMU_ADDR x.toNat).setFlag F.CMP_STAT_CODEWR true).bump F.CMP_TALLY_UNEMU).raise 246 x.toNat := by
  have hflash : ¬ x.toNat / 4096 = 0x40003 := by omega
  exact (if_neg (by rw [h]; decide)).trans ((if_neg hflash).trans (if_pos (by simp [hx])))

/-- The core and its view of valves, switches and CAN are reset (R472). -/
def legacyReset (v : State) : State :=
  let a := (List.range 16).foldl (fun w n => w.modOxCh n (fun x => { x with legacy := default, duty := 0 })) v
  let b := (List.range 24).foldl (fun w n => (w.modMulCh n (fun x => { x with diag := false })).mulCommand n false) a
  (List.range 4).foldl (fun w k => (w.canOffbus k).setReg (R.CAN_NBT k) (regReset (R.CAN_NBT k))) b

theorem opLegacyWatchdog_resets (h : v.legacyRuns = true) :
    opLegacyWatchdog v =
      let c := legacyReset v
      let n := c.cmp.resets + 1
      let d : State := { c with cmp := { c.cmp with resets := n } }
      (((d.setFlag F.CMP_STAT_WDRST true).bump F.CMP_TALLY_WDRST).raise 244 n).henMake sevError 244 n := by
  simp only [opLegacyWatchdog, h, Bool.not_true, Bool.false_eq_true, if_false, legacyReset]

end

/-- Settles O23: each access by its operation, and the watchdog's expiry. -/
theorem compatibility : Obligations.Compatibility := by
  refine ⟨fun s t a b h => ?write, fun s t a h => next_of_eq (opLegacy_ramRead a h),
    fun s t x h hx => next_of_eq (opUnemulated_flashStore h hx),
    fun s t x h hx => next_of_eq (opUnemulated_codeStore h hx),
    fun s t a h ha => next_of_eq (opLegacy_unmapped h ha),
    fun s t h => next_of_eq ((opLegacyWatchdog_resets h).trans (by simp only [legacyReset]))⟩
  case write =>
    exact ⟨_, next_of_eq (opLegacy_ramWrite a b h), spGet_spSet_self _ _ _, fun a' ha => spGet_spSet_ne _ _ _ _ ha, rfl, rfl⟩

end Sys2Proof
end

section
/-!
PROOFS. Fleet link: the statement about Ethernet ports, 802.1AS, members and fleet records
(21_fleet_link_and_identity.md).
-/

namespace Sys2Proof

open Machine

/-! ### Frames received and sent (R447, R484 to R486) -/

section
variable {v : State} {p sfd : Nat} {f : List Byte} {ok : Bool}

theorem ethUp_served (h : v.ethUp p = true) : v.ethServed = true := by
  simp only [State.ethUp, Bool.and_eq_true] at h
  exact h.1.1

/-- A port that is served is not in RECOVERY. -/
theorem ethServed_ne_recovery (h : v.ethServed = true) : v.mode ≠ .recovery := by
  intro hm
  simp [State.ethServed, hm] at h

theorem romFrame_passed (h : p ≠ 8 ∨ ok = false ∨ v.arpAnswer f = none) : v.romFrame p f ok = v := by
  rcases h with h | h | h
  · exact if_pos (.inl h)
  · exact if_pos (.inr (by rw [h]; rfl))
  · simp only [State.romFrame, h, ite_self]

theorem romFrame_answered {a : List Byte} (hp : p = 8) (hok : ok = true) (ha : v.arpAnswer f = some a) :
    v.romFrame p f ok = v.putSent 8 a := by
  simp only [State.romFrame, hp, hok, ha, ne_eq, not_true, false_or, Bool.not_true, Bool.false_eq_true, if_false]

theorem opEthReceived_recovery (h : v.mode = .recovery) : opEthReceived p f ok sfd v = v.romFrame p f ok := if_pos h

theorem opEthReceived_down (hm : v.mode ≠ .recovery) (h : v.ethUp p = false) : opEthReceived p f ok sfd v = v :=
  (if_neg hm).trans (if_pos (by rw [h]; rfl))

theorem opEthReceived_badFcs (h : v.ethUp p = true) :
    opEthReceived p f false sfd v = v.bump (F.FLT_ETH_CNT_FCSERR p) :=
  (if_neg (ethServed_ne_recovery (ethUp_served h))).trans ((if_neg (by rw [h]; decide)).trans (if_pos rfl))

/-- A good frame of the port is stored, unless the ring is full or the class past its threshold. -/
theorem opEthReceived_good (h : v.ethUp p = true) :
    opEthReceived p f true sfd v =
      if f.length < 60 ∨ 1518 < f.length ∨ ethConsumed f = true ∨ (!v.ethMine p f) = true then v
      else
        let cls := v.fld (F.FLT_ETH_CFG_CLASS p)
        let off := R.FLT_ETH_RX_BASE_LO p
        if v.ringFull off then v.bump (F.FLT_ETH_CNT_RXDROP p)
        else if v.pastThreshold cls 256 then (v.bump (F.FLT_ETH_CNT_RXDROP p)).raiseOnce 42 cls cls
        else v.ringStore ⟨off, 2048, 0, cls, some (F.FLT_ETH_CNT_RXDROP p), none, 0, true⟩
          (leBytes 16 (place f.length 0 11 + place (sfd * 5 / 16 * 16 / 5) 64 64) ++ f) :=
  (if_neg (ethServed_ne_recovery (ethUp_served h))).trans ((if_neg (by rw [h]; decide)).trans (if_neg (by decide)))

/-- A frame that the module passes: too short or long, consumed, or not the port's. -/
def ethPassed (v : State) (p : Nat) (f : List Byte) : Prop :=
  f.length < 60 ∨ 1518 < f.length ∨ ethConsumed f = true ∨ (!v.ethMine p f) = true

theorem not_ethPassed (hlo : 60 ≤ f.length) (hhi : f.length ≤ 1518) (hc : ethConsumed f = false)
    (hm : v.ethMine p f = true) : ¬ ethPassed v p f := by
  rintro (h | h | h | h)
  · exact Nat.not_lt.2 hlo h
  · exact Nat.not_lt.2 hhi h
  · rw [hc] at h; cases h
  · rw [hm] at h; cases h

/-- A frame to be sent goes unless its length is out of range or the link falls. -/
theorem opEthSend_next (fell : Bool) (h : v.ethUp p = true)
    (hne : v.fld (wptrOf (R.FLT_ETH_TX_BASE_LO p)) ≠ v.fld (rptrOf (R.FLT_ETH_TX_BASE_LO p))) :
    opEthSend p fell v =
      let off := R.FLT_ETH_TX_BASE_LO p
      let r := v.fld (rptrOf off)
      let a := (v.ring off).base + (r % 2 ^ (v.ring off).log2) * 2048
      let head := (v.readFlit a).toNat
      let n := bitsOf head 0 11
      let w := v.setFld (rptrOf off) (r + 1)
      if n < 60 ∨ 1518 < n ∨ fell = true then w.bump (F.FLT_ETH_CNT_TXERR p)
      else
        let z := if bitOf head 16 = true then w.setPair (F.FLT_ETH_TXTS_LO_TS p) (F.FLT_ETH_TXTS_HI_TS p) w.modNs else w
        z.putSent p (z.readBytes (a + 16) n) :=
  if_neg (by rw [h, beq_false_of_ne hne]; decide)

theorem opEthSend_nothing (fell : Bool)
    (h : v.ethUp p = false ∨ v.fld (wptrOf (R.FLT_ETH_TX_BASE_LO p)) = v.fld (rptrOf (R.FLT_ETH_TX_BASE_LO p))) :
    opEthSend p fell v = v :=
  if_pos (by rwa [Bool.or_eq_true, Bool.not_eq_true', beq_iff_eq])

end

/-! ### Links and 802.1AS (R487 to R489) -/

section
variable {v : State} {p : Nat}

theorem opEthLink_same {up : Bool} (speed : Nat) (h : v.ethServed = false ∨ v.flag (F.FLT_ETH_STAT_LINK p) = up) :
    opEthLink p up speed v = v :=
  if_pos (by rwa [Bool.or_eq_true, Bool.not_eq_true', beq_iff_eq])

theorem opEthLink_up (speed : Nat) (hs : v.ethServed = true) (hl : v.flag (F.FLT_ETH_STAT_LINK p) = false) :
    opEthLink p true speed v = ((v.setFlag (F.FLT_ETH_STAT_LINK p) true).setFld (F.FLT_ETH_STAT_SPEED p)
      (ethSpeed p speed)).raise 233 (2 + 256 * p) := by
  simp only [opEthLink, hs, hl, Bool.not_true, (by decide : (false == true) = false), Bool.or_false, Bool.false_and,
    Bool.false_eq_true, if_false, if_true]

theorem opEthLink_down (speed : Nat) (hs : v.ethServed = true) (hl : v.flag (F.FLT_ETH_STAT_LINK p) = true) :
    opEthLink p false speed v =
      let w := (v.setFlag (F.FLT_ETH_STAT_LINK p) false).setFld (F.FLT_ETH_STAT_SPEED p) 0
      State.raise (if w.fld F.FLT_PTP_STAT_SPORT = p then w.setFlag F.FLT_PTP_STAT_VALID false else w) 233
        (1 + 256 * p) := by
  simp only [opEthLink, hs, hl, Bool.not_true, Bool.not_false, (by decide : (true == false) = false), Bool.or_false,
    Bool.true_and, Bool.false_eq_true, if_false, beq_iff_eq]

theorem opPtpReceived_off {m : PtpMessage} (h : v.ethUp p = false ∨ v.flag F.FLT_PTP_CFG_EN = false) :
    opPtpReceived p m v = v :=
  if_pos (by rwa [Bool.or_eq_true, Bool.not_eq_true', Bool.not_eq_true'])

/-- What every 802.1AS message sets: grandmaster or not, slave port and class. -/
def ptpShown (v : State) (m : PtpMessage) : State :=
  ((v.setFlag F.FLT_PTP_STAT_GM (m.grand && v.flag F.FLT_PTP_CFG_GMCAP)).setFld F.FLT_PTP_STAT_SPORT
    m.port).setFld F.FLT_PTP_STAT_GMCLASS m.cls

theorem opPtpReceived_noSync {m : PtpMessage} (h : v.ethUp p = true) (hen : v.flag F.FLT_PTP_CFG_EN = true)
    (hs : m.sync = false ∨ (m.grand && v.flag F.FLT_PTP_CFG_GMCAP) = true) :
    opPtpReceived p m v = (ptpShown v m).setFlag F.FLT_PTP_STAT_VALID
      (!(m.grand && v.flag F.FLT_PTP_CFG_GMCAP) && m.capable && syncsGood (ptpShown v m).flt.syncs) := by
  have hno : (m.sync && !(m.grand && v.flag F.FLT_PTP_CFG_GMCAP)) = false := by
    rcases hs with h0 | h0 <;> simp only [h0, Bool.false_and, Bool.not_true, Bool.and_false]
  simp only [opPtpReceived, h, hen, hno, Bool.not_true, Bool.or_false, Bool.false_eq_true, if_false, ptpShown]

theorem opPtpReceived_sync {m : PtpMessage} (h : v.ethUp p = true) (hen : v.flag F.FLT_PTP_CFG_EN = true)
    (hs : m.sync = true) (hg : (m.grand && v.flag F.FLT_PTP_CFG_GMCAP) = false) :
    opPtpReceived p m v =
      let b := (ptpShown v m).setFld F.FLT_PTP_OFS_OFS (ofSigned 32 (clampInt (-2147483648) 2147483647 m.ofs))
      let l := ((b.modNs, m.intervalNs) :: b.flt.syncs).take 5
      State.setFlag { b with flt := { b.flt with syncs := l } } F.FLT_PTP_STAT_VALID (m.capable && syncsGood l) := by
  simp only [opPtpReceived, h, hen, hs, hg, Bool.not_true, Bool.or_false, Bool.false_eq_true, if_false, Bool.not_false,
    Bool.and_self, if_true, Bool.true_and, ptpShown]

/-- When the grandmaster's next Sync goes out on port p. -/
def syncGoes (v : State) (p : Nat) : Prop :=
  v.ethUp p = true ∧ v.flag F.FLT_PTP_CFG_EN = true ∧ v.flag F.FLT_PTP_STAT_GM = true ∧
    (spGet v.flt.syncSent p = 0 ∨ spGet v.flt.syncSent p - 1 + 125 * psPerMs * 2 ^ v.fld F.FLT_PTP_CFG_SYNC ≤ v.modTime)

theorem not_syncGoes_iff (v : State) (p : Nat) :
    ¬ syncGoes v p ↔ (!v.ethUp p || !v.flag F.FLT_PTP_CFG_EN || !v.flag F.FLT_PTP_STAT_GM
      || (spGet v.flt.syncSent p != 0 &&
        decide (v.modTime < spGet v.flt.syncSent p - 1 + 125 * psPerMs * 2 ^ v.fld F.FLT_PTP_CFG_SYNC))) = true := by
  simp only [syncGoes, Bool.or_eq_true, Bool.and_eq_true, Bool.not_eq_true', bne_iff_ne, decide_eq_true_iff, not_and_or,
    not_or, Bool.not_eq_true, Nat.not_le, ne_eq, or_assoc]

theorem opPtpSync_waits (h : ¬ syncGoes v p) : opPtpSync p v = v := if_pos ((not_syncGoes_iff v p).1 h)

theorem opPtpSync_sends (h : syncGoes v p) :
    opPtpSync p v =
      State.putSent { v with flt := { v.flt with syncSent := spSet v.flt.syncSent p (v.modTime + 1) } } p
        ([BitVec.ofNat 8 (v.fld F.FLT_PTP_CFG_PRIO1), BitVec.ofNat 8 v.clockClass]
          ++ beBytes 10 (((v.modNs : Int) + v.tbOfs + 19000000000) % ((2 ^ 80 : Nat) : Int)).toNat) :=
  if_neg (fun hno => (not_syncGoes_iff v p).2 hno h)

end

/-! ### Members and the machine digest (R491 to R493) -/

section
variable {v : State} {can : Bool} {port src : Nat} {b : List Byte}

/-- The path that a record came on carries messages. -/
def recordLive (v : State) (can : Bool) (port : Nat) : Bool := if can then v.canJoined port else v.ethUp port

theorem recordMember_none (h : b.length < 17 ∨ (b.getD 0 0).toNat ≠ 1 ∨ recordLive v can port = false ∨
    v.members.find? (v.memberIs can port src) = none) : v.recordMember can port src b = none := by
  rcases h with h | h | h | h
  · exact if_pos (by rw [decide_eq_true h, Bool.true_or])
  · exact if_pos (by rw [bne_iff_ne.2 h, Bool.or_true])
  · have hlive : (if can then v.canJoined port else v.ethUp port) = false := h
    simp only [State.recordMember, hlive, Bool.not_false, if_true, ite_self]
  · simp only [State.recordMember, h, ite_self]

theorem recordMember_live (hlen : 17 ≤ b.length) (hsub : (b.getD 0 0).toNat = 1) (hlive : recordLive v can port = true) :
    v.recordMember can port src b = v.members.find? (v.memberIs can port src) := by
  have hform : (decide (b.length < 17) || (b.getD 0 0).toNat != 1) = false := by
    rw [decide_eq_false (Nat.not_lt.2 hlen), hsub]; rfl
  exact (if_neg (ne_true_of_eq_false hform)).trans (if_neg (ne_true_of_eq_false (congrArg not hlive)))

theorem opUnitRecord_none (h : v.recordMember can port src b = none) : opUnitRecord can port src b v = v := by
  rw [opUnitRecord, h]

theorem opUnitRecord_updates {i : Nat} (h : v.recordMember can port src b = some i) :
    opUnitRecord can port src b v =
      let a := if v.flt.memHere.contains i = true ∧ spGet v.flt.memAt i + psPerS < v.modTime then v.loseMember i else v
      let w := (a.setFld (F.FLT_MEM_EPOCH_EPOCH i) (leNat ((b.drop 4).take 4))).setPair (F.FLT_MEM_DIG_LO_DIG i)
        (F.FLT_MEM_DIG_HI_DIG i) (leNat ((b.drop 8).take 8))
      let z : State := { w with flt := { w.flt with
        memAt := spSet w.flt.memAt i w.modTime
        memHere := if a.flt.memHere.contains i then w.flt.memHere else i :: w.flt.memHere
        memHeard := if a.flt.memHeard.contains i then w.flt.memHeard else i :: w.flt.memHeard
        memLocal := (if (b.getD 16 0).getLsbD 0 = true then [i] else []) ++ w.flt.memLocal.filter (fun k => k != i) } }
      if a.flt.memHere.contains i = false ∧ a.flt.memHeard.contains i = true then z.raise 232 (i + 256) else z := by
  simp only [opUnitRecord, h, Bool.and_eq_true, Bool.not_eq_true', decide_eq_true_eq]
  rfl

/-- When a member becomes missing. -/
def memberGone (v : State) (i : Nat) : Prop :=
  v.members.contains i = true ∧ v.flt.memHere.contains i = true ∧ spGet v.flt.memAt i + psPerS ≤ v.modTime ∧
    v.recordWaits i = false

theorem not_memberGone_iff (v : State) (i : Nat) :
    ¬ memberGone v i ↔ (!v.members.contains i || !v.flt.memHere.contains i
      || decide (v.modTime < spGet v.flt.memAt i + psPerS) || v.recordWaits i) = true := by
  simp only [memberGone, Bool.or_eq_true, Bool.not_eq_true', decide_eq_true_iff, not_and_or, Bool.not_eq_true,
    Bool.not_eq_false, Nat.not_le, or_assoc]

theorem opMemberMissing_stays {i : Nat} (h : ¬ memberGone v i) : opMemberMissing i v = v :=
  if_pos ((not_memberGone_iff v i).1 h)

theorem opMemberMissing_loses {i : Nat} (h : memberGone v i) : opMemberMissing i v = v.loseMember i :=
  if_neg (fun hno => (not_memberGone_iff v i).2 hno h)

theorem opMachineDigest_eq (v : State) :
    opMachineDigest v =
      let w := v.setPair F.FLT_MACH_DIG_LO_DIG F.FLT_MACH_DIG_HI_DIG v.machineDigest
      if v.flt.digestDue = true then { w with flt := { w.flt with digestDue := false, recordDue := true } } else v := by
  by_cases h : v.flt.digestDue = true
  · simp only [opMachineDigest, h, Bool.not_true, Bool.false_eq_true, if_false, if_true]
  · simp only [opMachineDigest, eq_false_of_ne_true h, Bool.not_false, Bool.false_eq_true, if_false, if_true]

theorem opMachineRecord_none (h : v.flt.recordDue = false) : opMachineRecord v = v := if_pos (by rw [h]; rfl)

theorem opMachineRecord_sends (h : v.flt.recordDue = true) :
    opMachineRecord v =
      let z := v.annPaths.foldl (fun z p => z.putSent p (z.annMessage p annGroup 0 v.machineRecord)) v
      { z with flt := { z.flt with recordDue := false, lastRecord := v.machineRecord } } := by
  simp only [opMachineRecord, h, Bool.not_true, Bool.false_eq_true, if_false, State.announce]

end

/-! ### Fleet records (R494) -/

section
variable {v : State}

/-- The end of a fleet period. -/
def fleetDue (v : State) : Prop :=
  v.ethServed = true ∧ v.flag F.FLT_FLEET_CFG_EN = true ∧ 0 < v.modTime ∧
    v.atWhole (v.fld F.FLT_FLEET_CFG_FLEET_S * psPerS) = true

theorem not_fleetDue_iff (v : State) :
    ¬ fleetDue v ↔ (!v.ethServed || !v.flag F.FLT_FLEET_CFG_EN || v.modTime == 0
      || !v.atWhole (v.fld F.FLT_FLEET_CFG_FLEET_S * psPerS)) = true := by
  simp only [fleetDue, Bool.or_eq_true, Bool.not_eq_true', beq_iff_eq, not_and_or, Bool.not_eq_true,
    Nat.not_lt, Nat.le_zero, or_assoc]

theorem opFleetRecord_waits (h : ¬ fleetDue v) : opFleetRecord v = v := if_pos ((not_fleetDue_iff v).1 h)

theorem opFleetRecord_makes (h : fleetDue v) :
    opFleetRecord v =
      let head := (v.flt.lastRecord ++ List.replicate 56 0).take 56 ++ leBytes 8 v.nv.fleetSeq
      State.ringPush { v with nv := { v.nv with fleetSeq := (v.nv.fleetSeq + 1) % 2 ^ 64 } } fleetRing
        (head ++ leBytes 64 (Config.identitySignature (ascii "FV7204FL" ++ head)).toNat) 3 :=
  if_neg (fun hno => (not_fleetDue_iff v).2 hno h)

end

/-- Settles O57: each command by its operation. -/
theorem fleetNetwork : Obligations.FleetNetwork := by
  refine ⟨fun s t sfd p f ok => ?received, fun s t p x => ⟨fun h => next_of_eq (if_pos h), fun h => next_of_eq (if_neg h)⟩,
    fun s t p fell => ⟨fun h => next_of_eq (opEthSend_nothing fell h), fun h hne hbad => ?dropped,
      fun h hne hlo hhi hf => ?sent⟩,
    fun s t p sp => ⟨fun hs hl => next_of_eq (opEthLink_up _ hs hl), fun hs hl => next_of_eq (opEthLink_down _ hs hl),
      fun up h => next_of_eq (opEthLink_same _ h)⟩,
    fun s t p m => ⟨fun h => next_of_eq (opPtpReceived_off h), fun h hen hs => next_of_eq (opPtpReceived_noSync h hen hs),
      fun h hen hs hg => next_of_eq (opPtpReceived_sync h hen hs hg)⟩,
    fun s t p => ⟨fun h => next_of_eq (opPtpSync_waits h), fun h => next_of_eq (opPtpSync_sends h)⟩,
    fun s t port src can b => ⟨fun h => next_of_eq (opUnitRecord_none (recordMember_none h)),
      fun i hlen hsub hlive hq => next_of_eq (opUnitRecord_updates ((recordMember_live hlen hsub hlive).trans hq))⟩,
    fun s t i => ⟨fun h => next_of_eq (opMemberMissing_loses h), fun h => next_of_eq (opMemberMissing_stays h)⟩,
    fun s t => ⟨next_of_eq (opMachineDigest_eq _), fun h => next_of_eq (opMachineRecord_sends h),
      fun h => next_of_eq (opMachineRecord_none h)⟩,
    fun s t => ⟨fun h => next_of_eq (opFleetRecord_waits h), fun h => next_of_eq (opFleetRecord_makes h)⟩⟩
  case received =>
    refine ⟨fun hm h => next_of_eq ((opEthReceived_recovery hm).trans (romFrame_passed h)),
      fun a hm hp hok ha => next_of_eq ((opEthReceived_recovery hm).trans (romFrame_answered hp hok ha)),
      fun hm h => next_of_eq (opEthReceived_down hm h), fun h hok => ?_, fun h hok hpass => ?_, fun htake hfull => ?_,
      fun htake hfull hpast => ?_, fun htake hfull hpast => ?_⟩
    · subst hok
      exact next_of_eq (opEthReceived_badFcs h)
    · subst hok
      exact next_of_eq ((opEthReceived_good h).trans (if_pos (by rwa [Bool.not_eq_true'])))
    all_goals
      obtain ⟨h, rfl, hlo, hhi, hc, hmine⟩ := htake
      have hgood := (opEthReceived_good (sfd := sfd) h).trans (if_neg (not_ethPassed hlo hhi hc hmine))
    · exact next_of_eq (hgood.trans (if_pos hfull))
    · exact next_of_eq (hgood.trans ((if_neg (ne_true_of_eq_false hfull)).trans (if_pos hpast)))
    · exact next_of_eq (hgood.trans ((if_neg (ne_true_of_eq_false hfull)).trans (if_neg (ne_true_of_eq_false hpast))))
  case dropped => exact next_of_eq ((opEthSend_next fell h hne).trans (if_pos hbad))
  case sent =>
    refine next_of_eq ((opEthSend_next fell h hne).trans (if_neg ?_))
    rintro (hlen | hlen | hfell)
    · exact Nat.not_lt.2 hlo hlen
    · exact Nat.not_lt.2 hhi hlen
    · exact ne_true_of_eq_false hf hfell

end Sys2Proof
end

section
/-!
PROOFS. Fleet identity: the statement about challenges, machine binding and service sessions
(21_fleet_link_and_identity.md).
-/

namespace Sys2Proof

open Machine

/-! ### Challenges (R491, R497) -/

section
variable {v : State} {p src : Nat} {b : List Byte}

/-- A challenge of SUBTYPE 3 on a path of the module's own messages. -/
def isChallenge (v : State) (p : Nat) (b : List Byte) : Prop :=
  36 ≤ b.length ∧ (b.getD 0 0).toNat = 3 ∧ v.annPaths.contains p = true

theorem not_isChallenge_iff (v : State) (p : Nat) (b : List Byte) :
    ¬ isChallenge v p b ↔
      (decide (b.length < 36) || (b.getD 0 0).toNat != 3 || !v.annPaths.contains p) = true := by
  simp only [isChallenge, Bool.or_eq_true, decide_eq_true_iff, bne_iff_ne, Bool.not_eq_true', not_and_or, Nat.not_le,
    Bool.not_eq_true, ne_eq, or_assoc]

theorem opChallenge_passed (h : ¬ isChallenge v p b) : opChallenge p src b v = v :=
  if_pos ((not_isChallenge_iff v p b).1 h)

/-- The instants of the last second at which a challenge was answered on a path. -/
def answeredLately (v : State) (p : Nat) : List Nat :=
  (spGet v.flt.answered p).filter (fun a => decide (v.modTime < a + psPerS))

theorem opChallenge_ignored (h : isChallenge v p b) (hl : 4 ≤ (answeredLately v p).length) :
    opChallenge p src b v = v.bump F.FLT_BIND_STAT_CHIGN :=
  (if_neg (fun hno => (not_isChallenge_iff v p b).2 hno h)).trans (if_pos hl)

theorem opChallenge_answered (h : isChallenge v p b) (hl : (answeredLately v p).length < 4) :
    opChallenge p src b v =
      let w := { v with flt := { v.flt with answered := spSet v.flt.answered p (v.modTime :: answeredLately v p) } }
      w.announce p src 3 (w.identityResponse ((b.drop 4).take 32)) :=
  (if_neg (fun hno => (not_isChallenge_iff v p b).2 hno h)).trans (if_neg (Nat.not_le.2 hl))

/-! ### The machine's binding (R498, R499, R501) -/

theorem opAnchorChallenge_waits (h : v.ethServed = false ∨ v.challengeDue = false) : opAnchorChallenge v = v :=
  if_pos (by rwa [Bool.or_eq_true, Bool.not_eq_true', Bool.not_eq_true'])

theorem opAnchorChallenge_sends (hs : v.ethServed = true) (hd : v.challengeDue = true) :
    opAnchorChallenge v =
      let x := Config.freeValue 256 v.freeCtr
      let w := { v with
        freeCtr := v.freeCtr + 1, flt := { v.flt with challenge := x.toNat, challengeAt := some v.modTime } }
      w.annPaths.foldl (fun z p => z.putSent p (z.annMessage p annGroup 4 ([3, 0, 0, 0] ++ leBytes 32 x.toNat))) w :=
  if_neg (by rw [hs, hd]; decide)

/-- A response that answers the newest challenge. -/
def answersChallenge (v : State) (b : List Byte) : Prop :=
  108 ≤ b.length ∧ (b.getD 0 0).toNat = 4 ∧ v.flt.challengeAt ≠ none ∧ leNat ((b.drop 4).take 32) = v.flt.challenge

theorem not_answersChallenge_iff (v : State) (b : List Byte) :
    ¬ answersChallenge v b ↔ (decide (b.length < 108) || (b.getD 0 0).toNat != 4 || v.flt.challengeAt.isNone
      || leNat ((b.drop 4).take 32) != v.flt.challenge) = true := by
  simp only [answersChallenge, Bool.or_eq_true, decide_eq_true_iff, bne_iff_ne, Option.isNone_iff_eq_none, not_and_or,
    Nat.not_le, not_not, ne_eq, or_assoc]

/-- The REBIND that a response to the challenge of instant `a` completes. -/
def rebindAnswered (v : State) (b : List Byte) (okNew : Bool) (a : Nat) : Option Rebind :=
  v.flt.rebinds.find? (fun r => okNew && r.id == leNat ((b.drop 36).take 8) && decide (r.at_ ≤ a)
    && decide (v.modTime ≤ r.at_ + 10 * psPerS))

variable {a : Nat} {okRec okNew : Bool}

theorem opAnchorResponse_passed (h : ¬ answersChallenge v b) : opAnchorResponse b okRec okNew v = v :=
  if_pos ((not_answersChallenge_iff v b).1 h)

/-- A response that completes a REBIND. -/
theorem opAnchorResponse_rebinds {r : Rebind} (h : answersChallenge v b) (ha : v.flt.challengeAt = some a)
    (hr : rebindAnswered v b okNew a = some r) : opAnchorResponse b okRec okNew v = v.bindTo r := by
  rw [rebindAnswered] at hr
  refine (if_neg (fun hno => (not_answersChallenge_iff v b).2 hno h)).trans ?_
  simp only [ha, Option.getD_some, hr]

theorem opAnchorResponse_unrecorded (h : answersChallenge v b) (hr : v.flt.rebinds = []) (hb : v.nv.binding = none) :
    opAnchorResponse b okRec okNew v = v := by
  refine (if_neg (fun hno => (not_answersChallenge_iff v b).2 hno h)).trans ?_
  simp only [hr, hb, List.find?_nil]

variable {m : BindRecord}

/-- With no REBIND waiting a response bears on the recorded binding while it is checked. -/
theorem opAnchorResponse_recorded (h : answersChallenge v b) (hr : v.flt.rebinds = []) (hb : v.nv.binding = some m) :
    opAnchorResponse b okRec okNew v =
      if ¬ (v.bstate = 1 ∨ v.bstate = 3 ∨ v.bstate = 4) then v
      else if okRec = true ∧ leNat ((b.drop 36).take 8) = m.machine then v.setFld F.FLT_BIND_STAT_BSTATE 2
      else if (okRec = true ∨ leNat ((b.drop 36).take 8) = m.machine) ∧ v.bstate ≠ 3 then v.bindFailure 3
      else v := by
  refine (if_neg (fun hno => (not_answersChallenge_iff v b).2 hno h)).trans ?_
  simp only [hr, hb, List.find?_nil, Bool.not_eq_true', Bool.or_eq_false_iff, Bool.and_eq_true, Bool.or_eq_true,
    beq_eq_false_iff_ne, beq_iff_eq,
    bne_iff_ne, not_or, ne_eq, and_assoc]

theorem opAnchorResponse_notChecking (h : answersChallenge v b) (hr : v.flt.rebinds = [])
    (hst : ¬ (v.bstate = 1 ∨ v.bstate = 3 ∨ v.bstate = 4)) :
    opAnchorResponse b okRec okNew v = v := by
  cases hb : v.nv.binding with
  | none => exact opAnchorResponse_unrecorded h hr hb
  | some m => exact (opAnchorResponse_recorded h hr hb).trans (if_pos hst)

theorem opBindingAbsent_fails (h : v.flt.readyAt = some a) (hst : v.bstate = 1) (ht : a + 10 * psPerS ≤ v.modTime) :
    opBindingAbsent v = v.bindFailure 4 := by
  simp only [opBindingAbsent, h, if_pos (And.intro hst ht)]

theorem opBindingAbsent_waits (h : v.flt.readyAt = some a) (hno : v.bstate ≠ 1 ∨ v.modTime < a + 10 * psPerS) :
    opBindingAbsent v = v := by
  have hnot : ¬ (v.bstate = 1 ∧ a + 10 * psPerS ≤ v.modTime) :=
    fun hd => hno.elim (fun h1 => h1 hd.1) (fun h2 => Nat.not_le.2 h2 hd.2)
  simp only [opBindingAbsent, h, if_neg hnot]

end

/-! ### Service sessions (R500) -/

section
variable {v : State}

/-- Words of the nonce written in turn. -/
def writeNonce (x : Nat → Nat) (l : List Nat) (z : State) : State :=
  l.foldl (fun z i => z.setFld (F.FLT_SES_NONCE_NONCE i) (x i)) z

theorem writeNonce_atFree (x : Nat → Nat) (l : List Nat) (n : Nat) :
    ∀ z, writeNonce x l (atFree z n) = atFree (writeNonce x l z) n := by
  induction l with
  | nil => exact fun z => rfl
  | cons i l ih => exact fun z => ih (z.setFld (F.FLT_SES_NONCE_NONCE i) (x i))

theorem writeNonce_concat (x : Nat → Nat) (n : Nat) (z : State) :
    writeNonce x (List.range (n + 1)) z =
      (writeNonce x (List.range n) z).setFld (F.FLT_SES_NONCE_NONCE n) (x n) := by
  rw [List.range_succ, writeNonce, List.foldl_append]; rfl

/-- Drawing the words of the nonce one after another takes the free values in turn. -/
theorem drawNonce_eq (v : State) (n : Nat) :
    (List.range n).foldl (fun s i => (s.drawFree 32).2.setFld (F.FLT_SES_NONCE_NONCE i) (s.drawFree 32).1.toNat) v =
      atFree (writeNonce (fun i => (Config.freeValue 32 (v.freeCtr + i)).toNat) (List.range n) v) (v.freeCtr + n) := by
  induction n with
  | zero => rfl
  | succ n ih =>
    rw [List.range_succ, List.foldl_append, ih, ← List.range_succ, writeNonce_concat]
    rfl

theorem opNonceDraw_eq (v : State) :
    opNonceDraw v =
      let w := writeNonce (fun i => (Config.freeValue 32 (v.freeCtr + i)).toNat) (List.range 8)
        { v with freeCtr := v.freeCtr + 8 }
      { w with flt := { w.flt with nonceFresh := true }, busData := w.reg (R.FLT_SES_NONCE 0) } := by
  have hdraw := (drawNonce_eq v 8).trans (writeNonce_atFree _ _ _ v).symm
  simp only [opNonceDraw, hdraw]
  rfl

theorem opSessionExpiry_ends (h : v.flag F.FLT_BIND_STAT_SESSION = true) (ht : v.flt.sessionEnd ≤ v.modTime) :
    opSessionExpiry v = v.closeSession := if_pos (by rw [h, decide_eq_true ht]; rfl)

theorem opSessionExpiry_stays (h : v.flag F.FLT_BIND_STAT_SESSION = false ∨ v.modTime < v.flt.sessionEnd) :
    opSessionExpiry v = v := by
  refine if_neg ?_
  rw [Bool.and_eq_true, decide_eq_true_eq]
  exact fun hd => h.elim (fun h0 => ne_true_of_eq_false h0 hd.1) (fun h0 => Nat.not_le.2 h0 hd.2)

end

/-! ### The identity's descriptors (R496, R500, R502) -/

section
variable {v : State} {o : Op}

/-- A service token that opens a session: signed, for the newest nonce and this module, valid for 1 s to 24 h. -/
def goodToken (v : State) (o : Op) (ok : Bool) : Prop :=
  ok = true ∧ v.flt.nonceFresh = true ∧
    (v.readBytes o.buf 128).take 32 = (List.range 8).flatMap (fun i => leBytes 4 (v.fld (F.FLT_SES_NONCE_NONCE i))) ∧
    leNat (((v.readBytes o.buf 128).drop 32).take 8) = v.moduleId ∧
    1 ≤ leNat (((v.readBytes o.buf 128).drop 44).take 4) ∧ leNat (((v.readBytes o.buf 128).drop 44).take 4) ≤ 86400

theorem not_goodToken_iff (v : State) (o : Op) (ok : Bool) :
    ¬ goodToken v o ok ↔ (!ok || !v.flt.nonceFresh
      || (v.readBytes o.buf 128).take 32 != (List.range 8).flatMap (fun i => leBytes 4 (v.fld (F.FLT_SES_NONCE_NONCE i)))
      || leNat (((v.readBytes o.buf 128).drop 32).take 8) != v.moduleId
      || decide (leNat (((v.readBytes o.buf 128).drop 44).take 4) < 1)
      || decide (86400 < leNat (((v.readBytes o.buf 128).drop 44).take 4))) = true := by
  simp only [goodToken, Bool.or_eq_true, Bool.not_eq_true', bne_iff_ne, decide_eq_true_iff, not_and_or, Bool.not_eq_true,
    Nat.not_le, ne_eq, or_assoc]

theorem opSessionOpen_otherContext (ecc ok : Bool) (h : o.ctx ≠ 0) :
    opSessionOpen ecc ok v o = v.finish o codeFaultAccess 1 0 := if_pos h

theorem opSessionOpen_ecc (ok : Bool) (h : o.ctx = 0) :
    opSessionOpen true ok v o = v.finish o codeFaultAccess 2 0 :=
  (if_neg (not_not_intro h)).trans (if_pos rfl)

theorem opSessionOpen_refused {ok : Bool} (h : o.ctx = 0) (hg : ¬ goodToken v o ok) :
    opSessionOpen false ok v o = v.finish o codeFaultAccess 1 0 :=
  (if_neg (not_not_intro h)).trans ((if_neg (by decide)).trans (if_pos ((not_goodToken_iff v o ok).1 hg)))

theorem opSessionOpen_opens {ok : Bool} (h : o.ctx = 0) (hg : goodToken v o ok) :
    opSessionOpen false ok v o =
      let tok := v.readBytes o.buf 128
      let rights := (tok.getD 40 0).toNat % 4
      let w := (v.setFlag F.FLT_BIND_STAT_SESSION true).setFld F.FLT_BIND_STAT_RIGHTS rights
      State.finish { w with flt := { w.flt with
        nonceFresh := false, sessionEnd := w.modTime + leNat ((tok.drop 44).take 4) * psPerS } } o codeDone 0 rights :=
  (if_neg (not_not_intro h)).trans ((if_neg (by decide)).trans
    (if_neg (fun hno => (not_goodToken_iff v o ok).2 hno hg)))

theorem opSessionClose_otherContext (h : o.ctx ≠ 0) : opSessionClose v o = v.finish o codeFaultAccess 1 0 := if_pos h

theorem opSessionClose_ends (h : o.ctx = 0) : opSessionClose v o = v.closeSession.finish o codeDone 0 0 :=
  if_neg (not_not_intro h)

/-- An open session with the right to rebind. -/
def mayRebind (v : State) : Prop :=
  v.flag F.FLT_BIND_STAT_SESSION = true ∧ v.modTime < v.flt.sessionEnd ∧ bitOf (v.fld F.FLT_BIND_STAT_RIGHTS) 1 = true

theorem not_mayRebind_iff (v : State) :
    ¬ mayRebind v ↔ (!v.sessionOpen || !bitOf (v.fld F.FLT_BIND_STAT_RIGHTS) 1) = true := by
  simp only [mayRebind, State.sessionOpen, Bool.or_eq_true, Bool.not_eq_true', Bool.and_eq_false_iff,
    decide_eq_false_iff_not, not_and_or, Bool.not_eq_true, or_assoc]

theorem opRebind_forbidden (ecc : Bool) (h : o.ctx ≠ 0 ∨ ¬ mayRebind v) :
    opRebind ecc v o = v.finish o codeFaultAccess 1 0 := by
  by_cases hc : o.ctx = 0
  · have hmay := (not_mayRebind_iff v).1 (h.resolve_left (not_not_intro hc))
    exact (if_neg (not_not_intro hc)).trans (if_pos hmay)
  · exact if_pos hc

/-- A REBIND by right goes by the mode and by the memory. -/
theorem opRebind_allowed (ecc : Bool) (hc : o.ctx = 0) (h : mayRebind v) :
    opRebind ecc v o =
      if v.mode ≠ .boot ∧ v.mode ≠ .service then v.finish o codeRefusedMode v.mode.code 0
      else if ecc then v.finish o codeFaultAccess 2 0
      else { v with flt := { v.flt with rebinds := v.flt.rebinds ++
        [⟨o.ctx, o.tag, leNat (v.readBytes o.buf 8), leNat (v.readBytes (o.buf + 8) 64), v.modTime⟩] } } :=
  (if_neg (not_not_intro hc)).trans (if_neg (fun hno => (not_mayRebind_iff v).2 hno h))

end

section
variable {v : State} {c tag : Nat} {r : Rebind}

theorem opRebindTimeout_waits (hr : v.flt.rebinds.find? (fun r => r.ctx == c && r.tag == tag) = some r)
    (ht : v.modTime < r.at_ + 10 * psPerS) : opRebindTimeout c tag v = v := by
  simp only [opRebindTimeout, hr, if_pos ht]

theorem opRebindTimeout_fails (hr : v.flt.rebinds.find? (fun r => r.ctx == c && r.tag == tag) = some r)
    (ht : r.at_ + 10 * psPerS ≤ v.modTime) :
    opRebindTimeout c tag v = State.finishWaiter { v with flt := { v.flt with
      rebinds := v.flt.rebinds.filter (fun x => x != r) } } (some (c, tag)) codeFaultAccess 3 0 := by
  simp only [opRebindTimeout, hr, if_neg (Nat.not_lt.2 ht)]

end

/-- Settles O58: challenges and the binding by their operations, then sessions and descriptors. -/
theorem fleetIdentity : Obligations.FleetIdentity := by
  refine ⟨fun s t src p b => ⟨fun h => next_of_eq (opChallenge_passed h), fun h hl => next_of_eq (opChallenge_ignored h hl),
      fun h hl => next_of_eq (opChallenge_answered h hl)⟩,
    fun s t => ⟨fun h => next_of_eq (opAnchorChallenge_waits h), fun hs hd => next_of_eq (opAnchorChallenge_sends hs hd)⟩,
    fun s t a b m okR okN => ?response,
    fun s t a h => ⟨fun hst ht => next_of_eq (opBindingAbsent_fails h hst ht),
      fun hno => next_of_eq (opBindingAbsent_waits h hno)⟩,
    fun s t => ⟨next_of_eq (opNonceDraw_eq _), fun h ht => next_of_eq (opSessionExpiry_ends h ht),
      fun h => next_of_eq (opSessionExpiry_stays h)⟩,
    fun s t c tag o h => ?sign, fun s t c tag o ok h => ?opened, fun s t c tag o h => ?closed,
    fun s t c tag o ecc h => ?rebind,
    fun s t c tag r hr => ⟨fun ht => next_of_eq (opRebindTimeout_waits hr ht),
      fun ht => next_of_eq (opRebindTimeout_fails hr ht)⟩⟩
  case response =>
    refine ⟨fun hnone => next_of_eq (opAnchorResponse_passed (fun h => h.2.2.1 hnone)), fun ha => ⟨fun hbad =>
      next_of_eq (opAnchorResponse_passed ?_), fun hlen hsub heq => ?_⟩⟩
    · rintro ⟨hlen, hsub, -, heq⟩
      rcases hbad with h | h | h
      · exact Nat.not_lt.2 hlen h
      · exact h hsub
      · exact h heq
    have h : answersChallenge (s.tick t) b := ⟨hlen, hsub, by rw [ha]; simp, heq⟩
    have hrec := fun hr hb => opAnchorResponse_recorded (okRec := okR) (okNew := okN) (m := m) h hr hb
    refine ⟨fun r hr => next_of_eq (opAnchorResponse_rebinds h ha hr), fun hr hb hst hok hid => ?_,
      fun hr hb hst hiff => ?_, fun hr hcase => ?_⟩
    · exact next_of_eq ((hrec hr hb).trans ((if_neg (not_not_intro hst)).trans (if_pos ⟨hok, hid⟩)))
    · have hchk : (s.tick t).bstate = 1 ∨ (s.tick t).bstate = 3 ∨ (s.tick t).bstate = 4 := by omega
      have h3 : (s.tick t).bstate ≠ 3 := by omega
      have hnot : ¬ (okR = true ∧ leNat ((b.drop 36).take 8) = m.machine) := fun hd => hiff.1 hd.1 hd.2
      have hone : okR = true ∨ leNat ((b.drop 36).take 8) = m.machine := or_iff_not_imp_right.2 hiff.2
      exact next_of_eq ((hrec hr hb).trans ((if_neg (not_not_intro hchk)).trans ((if_neg hnot).trans
        (if_pos ⟨hone, h3⟩))))
    · have hstays : ∀ hb : (s.tick t).nv.binding = some m,
          ¬ (okR = true ∧ leNat ((b.drop 36).take 8) = m.machine) →
          ¬ ((okR = true ∨ leNat ((b.drop 36).take 8) = m.machine) ∧ (s.tick t).bstate ≠ 3) →
          opAnchorResponse b okR okN (s.tick t) = s.tick t := fun hb hgood hfail => by
        rw [hrec hr hb, if_neg hgood, if_neg hfail, ite_self]
      rcases hcase with hb | hst | hst | ⟨hb, hok, hid⟩ | ⟨hb, hst, hiff⟩
      · exact next_of_eq (opAnchorResponse_unrecorded h hr hb)
      · exact next_of_eq (opAnchorResponse_notChecking h hr (by omega))
      · exact next_of_eq (opAnchorResponse_notChecking h hr (by omega))
      · exact next_of_eq (hstays hb (fun hd => hid hd.2) (fun hd =>
          hd.1.elim (ne_true_of_eq_false hok) hid))
      · exact next_of_eq (hstays hb (fun hd => hiff.1 hd.1 hd.2) (fun hd => hd.2 hst))
  case sign =>
    have hrun := fun ecc => next_of_eq (beginOp_startable h (opIdSign ecc))
    exact ⟨hrun true, hrun false⟩
  case opened =>
    have hrun := fun ecc => next_of_eq (beginOp_startable h (opSessionOpen ecc ok))
    exact ⟨fun hc ecc => (hrun ecc).trans (next_of_eq (opSessionOpen_otherContext ecc ok hc)),
      fun hc => (hrun true).trans (next_of_eq (opSessionOpen_ecc ok hc)),
      fun hc hg => (hrun false).trans (next_of_eq (opSessionOpen_refused hc hg)),
      fun hc hg => (hrun false).trans (next_of_eq (opSessionOpen_opens hc hg))⟩
  case closed =>
    have hrun := next_of_eq (beginOp_startable h opSessionClose)
    exact ⟨fun hc => hrun.trans (next_of_eq (opSessionClose_otherContext hc)),
      fun hc => hrun.trans (next_of_eq (opSessionClose_ends hc))⟩
  case rebind =>
    have hrun := next_of_eq (beginOp_startable h (opRebind ecc))
    refine ⟨fun hno => hrun.trans (next_of_eq (opRebind_forbidden ecc hno)), fun hc hmay hb hsv => ?_,
      fun hc hmay hm he => ?_, fun hc hmay hm he => ?_⟩
    · exact hrun.trans (next_of_eq ((opRebind_allowed ecc hc hmay).trans (if_pos ⟨hb, hsv⟩)))
    all_goals
      have hserved : ¬ ((begun (s.tick t) o).mode ≠ .boot ∧ (begun (s.tick t) o).mode ≠ .service) :=
        fun hd => hm.elim hd.1 hd.2
    · exact hrun.trans (next_of_eq ((opRebind_allowed ecc hc hmay).trans ((if_neg hserved).trans (if_pos he))))
    · exact hrun.trans (next_of_eq ((opRebind_allowed ecc hc hmay).trans ((if_neg hserved).trans
        (if_neg (ne_true_of_eq_false he)))))

end Sys2Proof
end

section
/-!
PROOFS. The panel: the statement about its power-on and power-off sequences (22_cluster_panel.md).
-/

namespace Sys2Proof

open Machine

section
variable {v : State}

/-- Only the last 10 ms of a power-off sequence end by themselves. -/
theorem dspSettle_of_ne_offLast (h : v.dsp.phase ≠ .offLast) : v.dspSettle = v := if_neg (fun hd => h hd.1)

theorem opDspOn_off (hrun : v.dspRuns = true) (hp : v.dsp.phase = .off) : opDspOn v = v.dspStart := by
  rw [opDspOn, dspSettle_of_ne_offLast (by rw [hp]; decide)]
  simp only [hrun, hp, Bool.not_true, Bool.false_eq_true, if_false, if_true]

theorem opDspOff_run (hrun : v.dspRuns = true) (hp : v.dsp.phase = .run) :
    opDspOff v = (v.setDsp { v.dsp with backlight := false, training := false }).dspEnter .offDelay := by
  rw [opDspOff, dspSettle_of_ne_offLast (by rw [hp]; decide)]
  exact if_neg (by rw [hrun, hp]; decide)

theorem opDspTraining_hpd (hrun : v.dspRuns = true) (hp : v.dsp.phase = .waitHpd) (ht : v.dsp.training = false)
    (hh : v.flag F.DSP_STAT_HPD = true) :
    opDspTraining v = (v.setDsp { v.dsp with training := true, trainAt := v.now }).dspEnter .training := by
  rw [opDspTraining, dspSettle_of_ne_offLast (by rw [hp]; decide)]
  exact (if_neg (by rw [hrun, ht]; decide)).trans ((if_pos hp).trans (if_pos (by rw [hh, Bool.true_or])))

theorem opDspTrainingEnd_succeeds (hp : v.dsp.phase = .training) (ht : v.dsp.training = true) :
    opDspTrainingEnd true v = ((v.setDsp { v.dsp with training := false, attempts := 0 }).setFlag
      F.DSP_STAT_TRAINED true).dspEnter .waitStart := by
  simp only [opDspTrainingEnd, hp, ht, Bool.not_true, Bool.false_eq_true, if_false, if_true]

/-- HPD falls while the panel is on. -/
theorem opDspHpd_falls (hrun : v.dspRuns = true) (hp : v.dsp.phase = .run) (hh : v.dsp.hpd = true) :
    opDspHpd false v = (((v.setDsp { v.dsp with hpd := false }).setFlag F.DSP_STAT_HPD false).setDsp
      { v.dsp with hpd := false, training := true, trainAt := v.now }).setFlag F.DSP_STAT_TRAINED false := by
  rw [opDspHpd, dspSettle_of_ne_offLast (by rw [hp]; decide)]
  refine (if_neg ?runs).trans ((if_pos ?falls).trans rfl)
  case runs =>
    rw [show (v.setDsp { v.dsp with hpd := false }).dspRuns = true from hrun]; decide
  case falls =>
    rw [hh]; exact beq_iff_eq.2 hp

/-- A vertical start a frame time after the one before goes by the phase. -/
theorem opDspVertical_due (late : List Nat) (hrun : v.dspRuns = true) (hp : v.dsp.phase ≠ .offLast)
    (ht : v.dsp.vertAt = 0 ∨ v.dsp.vertAt + v.framePs ≤ v.now + 1) :
    opDspVertical late v =
      let w := v.setDsp { v.dsp with vertAt := v.now + 1 }
      match v.dsp.phase with
      | .waitStart => w.dspEnter (.black (max 1 (v.fld F.DSP_SEQ_CLRFR) - 1))
      | .black 0 => (w.dspEnter .scan).dspScan late
      | .black (n + 1) => w.dspEnter (.black n)
      | .scan | .run => w.dspScan late
      | .offFrame => w.dspEnter .offBlack
      | .offBlack => (w.dspEnter .offLast).setFlag F.DSP_STAT_TRAINED false
      | _ => w := by
  have hframe : (v.dsp.vertAt != 0 && decide (v.now + 1 < v.dsp.vertAt + v.framePs)) = false := by
    simp only [Bool.and_eq_false_iff, bne_eq_false_iff_eq, decide_eq_false_iff_not, Nat.not_lt, ht]
  rw [opDspVertical, dspSettle_of_ne_offLast hp]
  exact if_neg (by rw [hrun, hframe]; decide)

theorem opDspBacklight_on (hrun : v.dspRuns = true) (hp : v.dsp.phase = .scan)
    (ht : v.dsp.since + v.fld F.DSP_SEQ_BLDLY * psPerMs ≤ v.now) :
    opDspBacklight v = (v.setDsp { v.dsp with backlight := true }).dspEnter .run :=
  (if_neg (by rw [hrun, decide_eq_false (Nat.not_lt.2 ht)]; decide)).trans (if_pos hp)

end

/-- Settles O26: each command by its operation, a vertical start by the phase. -/
theorem panel : Obligations.Panel := by
  intro s t v hrun hlast
  refine ⟨fun hp => next_of_eq (opDspOn_off hrun hp), fun hp => next_of_eq (opDspOff_run hrun hp),
    fun hp ht hh => next_of_eq (opDspTraining_hpd hrun hp ht hh),
    fun hp ht => next_of_eq (opDspTrainingEnd_succeeds hp ht), fun hp hh => next_of_eq (opDspHpd_falls hrun hp hh),
    fun ht late => ?vertical, fun hp ht => next_of_eq (opDspBacklight_on hrun hp ht)⟩
  case vertical =>
    have hdue := opDspVertical_due late hrun hlast ht
    refine ⟨fun hp => ?_, fun n hp => ?_, fun hp => ?_, fun hp => ?_, fun hp => ?_⟩
    all_goals
      rw [hp] at hdue
      exact next_of_eq hdue

end Sys2Proof
end
